-- ==== Sys2Proof/Word.lean ====
section
/-! DEFINITION. The word types of the DT-418 model: the values the manual adds, shifts, masks or sends as bits.
Everything the manual counts (amounts, coins, queue lengths, counters) is a plain Nat. -/

namespace Sys2Proof

/-- One byte of a frame, a record or a table entry (R192). -/
abbrev Byte := BitVec 8

/-- The free-running 32-bit millisecond count and every reading taken of it (00_scope "Time", R203). -/
abbrev Ms := BitVec 32

/-- A bay number, 0 to 7 (00_scope "Numbering"). -/
abbrev BayNo := Fin 8

/-- A tube number within one bay, 0 to 3 (00_scope "Numbering"). -/
abbrev TubeNo := Fin 4

end Sys2Proof
end

