-- ==== Sys2Proof/Syntax.lean ====
section
/-! DEFINITION. The commands the block takes: one constructor for each row of spec/opcode_table.json, with the
row's operands. A command whose content the part itself holds by then (a frame in the receive buffer, a section
of the last good reply) carries no operand: it takes the head of that buffer (R179, R196). -/

namespace Sys2Proof

/-- What the environment decides at a power-on reset (R205, R206, R208): what the stored check of the retained area then
reads, where the backup cell has not held it; how many seconds the calendar clock ran on meanwhile; how many bytes of a
journal write under way had been programmed when power failed (R170); the levels the samplers and coin line receivers
find; and after how many of its actions the reset input, asserted again, ends start-up, none where start-up runs to its
end. -/
structure StartUp where
  areaCheck       : Option (BitVec 32)
  secondsOff      : Nat
  tornBytes       : Nat
  serviceDoorOpen : Vector Bool 8
  boxDoorOpen     : Vector Bool 8
  boxPresent      : Vector Bool 8
  coinHigh        : Vector Bool 8
  supplyWarning   : Bool
  auditSwitch     : Bool
  cutAfter        : Option Nat
  deriving DecidableEq, Repr

/-- A command: one step of the part, whole and indivisible (spec/95_what_each_step_holds.md). -/
inductive Instr where
  -- Start-up (R208)
  | powerOnReset (env : StartUp)
  -- Depot link line (R177, R178)
  | frameReceived (bytes : List Byte)
  | characterWithoutStopBit
  | idleGapExpiry
  | frameGapExpiry
  -- Frames taken from the head of the receive buffer (R179, R180)
  | badKind
  | heartbeat
  | ack
  | authReply
  | tableOpen
  | tableData
  | tableClose
  | loadClear
  | bankSwitch
  -- Calendar time (R66, R203)
  | scheduledSwitchDue
  | denyAdd
  | denyRemove
  | setTime
  | clockSecond
  -- Queries (R181)
  | queryBay
  | queryTubes
  | queryBox
  | queryLoad
  | queryJournal
  | queryTear
  | queryLink
  | queryIdent
  -- Bay control and service frames (R21, R23, R75, R106, R164, R165, R187, R191)
  | bayControlInService
  | bayControlOutOfService
  | bayControlReset
  | coinOff
  | coinOn
  | tubeSet
  | hold
  | releaseHold
  | noticeMask
  | linkReset
  -- Depot link sending and supervision (R183, R189)
  | frameSent
  | supervisionExpiry
  -- Bay bus (R194 to R201)
  | pollStart
  | recoveryPollDue
  | replyReceived (bytes : List Byte)
  | replyWindowExpiry
  | replyGapExpiry
  | lineHeld
  | breakEnd
  | recoveryWaitEnd
  -- Sections of the last good reply (R196, R198)
  | select
  | confirm
  | cancel
  | reprint
  | cardCommandTaken
  | cardAnswerCard
  | cardAnswerNoCard
  | writeAnswerOk
  | writeAnswerRefused
  -- Card and context timers (R7, R109, R115, R128, R130)
  | cardCommandTimeout (bay : BayNo)
  | presentationLimitExpiry (bay : BayNo)
  | authWaitExpiry (bay : BayNo)
  | tearExpiry
  | contextTimeout (bay : BayNo)
  | evaluationEnd
  -- Coin lines (R69 to R74, R86)
  | coinLineChange (bay : BayNo) (high : Bool)
  | filteredFallingEdge (bay : BayNo)
  | filteredRisingEdge (bay : BayNo)
  | trainEnd (bay : BayNo)
  | lineStuck (bay : BayNo)
  | faultEnd (bay : BayNo)
  | escrowPulseEnd (bay : BayNo)
  -- Payout (R95, R96)
  | payoutSense (bay : BayNo) (tube : TubeNo)
  | driveTimeout (bay : BayNo)
  -- Cabinet lines (R206, R207)
  | serviceDoorChange (bay : BayNo) (isOpen : Bool)
  | boxDoorChange (bay : BayNo) (isOpen : Bool)
  | boxRemoved (bay : BayNo)
  | boxInserted (bay : BayNo)
  | supplyWarningChange (asserted : Bool)
  | auditSwitchChange (asserted : Bool)
  -- Journal engine (R156, R160, R162)
  | recordWriteEnd
  | eraseBegin
  | eraseEnd (success : Bool)
  -- Printing (R137, R142, R144)
  | printDelivered
  | printerStatus
  | noProgressLimit (bay : BayNo)
  -- A single depot link character (R178)
  | characterReceived (char : Byte)
  deriving DecidableEq, Repr

end Sys2Proof
end

