-- ==== Sys2Proof/Decode.lean ====
section
/-! DEFINITION. The command that a word spells by the table's bits: spec/opcode_table.json gives no row any bits, so no
word spells a command. The bytes of frames, replies and table entries are decoded where they are taken
(Machine/Operands.lean). -/

namespace Sys2Proof

/-- The command a word of nbits bits spells by the table's bits: none of the 84 rows has bits. -/
def decodeTableWord (_nbits _w : Nat) : Option Instr := none

end Sys2Proof
end

