-- ==== Sys2Proof/Config.lean ====
section
/-! DEFINITION. What the part fixes once and for all: the limits and durations the rules state as numbers, and,
as constants without a body, the values the manual leaves open. -/

namespace Sys2Proof.Config

open Sys2Proof

/-- Every amount, and every result after saturation, lies in 0 to this value (00_scope "Money"). -/
def maxAmount : Nat := 999999
/-- The value at which a counter stays (R81, R175, R176). -/
def counterMax : Nat := 65535
/-- The highest day number (00_scope "Time"). -/
def maxDay : Nat := 65535
/-- Escrow list places (R78). -/
def escrowPlaces : Nat := 16
/-- Append queue places (R155). -/
def appendPlaces : Nat := 16
/-- Pending tear table places (R121). -/
def tearPlaces : Nat := 16
/-- Receive buffer and reply queue places (R176). -/
def framePlaces : Nat := 4
/-- Message queue length at which notices are dropped (R184). -/
def noticeRoom : Nat := 8
/-- Start-up notice list places (R176, R185). -/
def noticeListPlaces : Nat := 24
/-- Print ring bytes (R140). -/
def ringBytes : Nat := 1024
/-- Ring content at or below which RING_FULL leaves the stall set (R140). -/
def ringResume : Nat := 256
/-- Largest print chunk (R142). -/
def chunkBytes : Nat := 64
/-- Steps of one layout (R50, R133). -/
def layoutSteps : Nat := 24
/-- Steps a fare evaluation visits at most (R34). -/
def chainSteps : Nat := 64
/-- Deny table capacity (R50). -/
def denyPlaces : Nat := 4096
/-- Bytes of one query page (R181). -/
def pageBytes : Nat := 237
/-- Blocks of the journal store (R150). -/
def journalBlocks : Nat := 32
/-- Units that hold records in one block, units 1 to 511 (R150). -/
def recordUnits : Nat := 511
/-- Bytes of one unit (R150). -/
def unitBytes : Nat := 16
/-- Hold list places (R164). -/
def holdPlaces : Nat := 8
/-- Erased count below which the OPEN gate refuses (R163). -/
def reserveBlocks : Nat := 2

/-- CARD_READ limit in milliseconds (R7). -/
def cardReadLimit : Nat := 30000
/-- PRICED limit in milliseconds (R7). -/
def pricedLimit : Nat := 60000
/-- TENDER limit in milliseconds (R7). -/
def tenderLimit : Nat := 90000
/-- TEAR_WAIT limit in milliseconds (R7). -/
def tearWaitLimit : Nat := 20000
/-- A card command's time from its first sending (R109). -/
def commandLimit : Nat := 500
/-- The presentation limit (R115). -/
def presentationLimit : Nat := 20000
/-- An authorisation wait (R130). -/
def authLimit : Nat := 3000
/-- A held-LOW coin line is stuck after this time (R73). -/
def stuckLimit : Nat := 400
/-- A faulted coin line is good again after this time HIGH (R74). -/
def faultEndLimit : Nat := 1000
/-- A drive without a sense is unanswered after this time (R96). -/
def driveLimit : Nat := 400
/-- The escrow return pulse (R86). -/
def returnPulse : Nat := 200
/-- The no-progress limit of a print job (R144). -/
def progressLimit : Nat := 10000
/-- A last-receipt record may be reprinted for this time (R148). -/
def reprintLimit : Nat := 60000
/-- A recovery poll falls due this long after the recovery start (R194). -/
def recoveryPeriod : Nat := 1000
/-- The reply window (R195). -/
def replyWindow : Nat := 5
/-- The break the master drives (R201). -/
def breakTime : Nat := 2
/-- The wait after a break (R201). -/
def breakWait : Nat := 10
/-- The quiet of the depot link receiver, in IDLE_WAIT and inside a frame (R178). -/
def lineQuiet : Nat := 2
/-- The shortest running time of an erase (R160). -/
def eraseMin : Nat := 80

/-- The two revision letters of the part (R182): the manual gives no letters. -/
opaque revisionLetter : Nat → Byte

/-- The characters of display line 1 (line = 0) or 2 (line = 1): the manual names the texts of R19 but states neither
their characters nor how name, amounts and text share the two lines. `face` is the state's number in the order of
R1, `overlay` is 0 for none, 1 for the please-wait text and 2 + a refusal code for a refusal's text, `flags` are the
evaluation flags the display shows in PRICED as the set of R192 (R41), and `parts` are the characters the rule names: the product name and the amounts in their natural form (R135). -/
opaque screenText (line face overlay : Nat) (flags : Option Nat) (parts : List (List Byte)) : List Byte

end Sys2Proof.Config
end

