-- ==== Sys2Proof/Machine/State.lean ====
section
/-! DEFINITION. The state of the DT-418: every piece of state the manual gives the part, block by block, as plain
data, and the state right after a power-on reset of a part as delivered. Fields the manual only implies are marked
MODEL in their comments and stand in the assumption log. -/

namespace Sys2Proof.Machine

open Sys2Proof

/-! ### Names the manual fixes -/

/-- Tariff banks (R24). -/
inductive Bank where | a | b
  deriving DecidableEq, Repr

/-- Context states, in the order of R1. -/
inductive CtxState where
  | idle | opening | cardRead | pricing | priced | tender | cardWrite | tearWait | commit | payout | print
  | refund | outOfService
  deriving DecidableEq, Repr

/-- How the customer pays (R1). -/
inductive Method where | coins | purse
  deriving DecidableEq, Repr

/-- Product kinds (R25). -/
inductive ProductKind where | passPrinted | passOnCard | topup
  deriving DecidableEq, Repr

/-- Percent rounding modes (R24, R38). -/
inductive PercentMode where | halfUp | down | up
  deriving DecidableEq, Repr

/-- Every status and refusal code of the status table of section 9.9 (R192). -/
inductive Code where
  | accepted | badKind | badRequest | badBay | bayAbsent | causeStanding | notServicing | noPage | badTable
  | loadErrorSet | countRange | bankActive | bankDraining | notStreaming | seqError | countError | crcError
  | validationError | notValid | versionMismatch | crossCheck | timeUnset | denyBusy | tableFull | notHoldable
  | holdFull | auditLocked
  | journalLow | supplyLow | noBank | noProduct | noPaper | cardBusy | outOfService | busy
  | methodRefused | offlineLimit | insufficient | cardDenied | tariffError | noSlot | cardTimeout | authDenied
  | authTimeout | wrongCard | overCeiling | seqMismatch | balance | cardLimit | noReceipt
  deriving DecidableEq, Repr

/-- Out-of-service causes as a set, one mark for each (R1, R20). -/
structure Causes where
  server        : Bool
  serviceDoor   : Bool
  boxAbsent     : Bool
  terminalLost  : Bool
  paper         : Bool
  coinLineFault : Bool
  jamAll        : Bool
  deriving DecidableEq, Repr

/-- The names of the causes (R20). -/
inductive Cause where
  | server | serviceDoor | boxAbsent | terminalLost | paper | coinLineFault | jamAll
  deriving DecidableEq, Repr

/-- Hold causes, in the order of R1. -/
inductive HoldCause where
  | none | waitPrice | waitCard | waitAuth | waitJournal | waitPayout | waitPrint
  deriving DecidableEq, Repr

/-- Evaluation flags as a set (R1). -/
structure EvalFlags where
  zero      : Bool
  clampLow  : Bool
  clampHigh : Bool
  rounded   : Bool
  capped    : Bool
  deriving DecidableEq, Repr

/-- Calendar time (00_scope "Time", R203). -/
structure Calendar where
  day    : Nat
  minute : Nat
  second : Nat
  deriving DecidableEq, Repr

/-- The pass a card slot holds (R28, R108). -/
structure PassSlot where
  product   : Nat
  validFrom : Nat
  validTo   : Nat
  deriving DecidableEq, Repr

/-- The values of one card read (R108). -/
structure CardValues where
  serial  : BitVec 32
  balance : Nat
  pseq    : BitVec 16
  slots   : Vector (Option PassSlot) 4
  deriving DecidableEq, Repr

/-- The pass to be written (R43). -/
structure PassPlan where
  slot      : Nat
  validFrom : Nat
  validTo   : Nat
  deriving DecidableEq, Repr

/-- Standings of an escrow coin (R77). -/
inductive Standing where | credited | stray | unvalued
  deriving DecidableEq, Repr

/-- One entry of the escrow list (R78). -/
structure Coin where
  kind     : Nat
  standing : Standing
  value    : Nat
  deriving DecidableEq, Repr

/-- State of the card work (R1). -/
inductive CardOutcome where | none | done | pending
  deriving DecidableEq, Repr

/-- Receipt result (R1). -/
inductive ReceiptOutcome where | none | printed | partly | failed | declined
  deriving DecidableEq, Repr

/-- MODEL: what the context waits for inside COMMIT, PAYOUT, PRINT and REFUND (R15 to R18), or that a bay reset
waits for places in the append queue (R23). -/
inductive Wait where | none | sale | adjust | payout | receipt | places
  deriving DecidableEq, Repr

/-- MODEL: what the display shows over the state's own text (R7, R19). -/
inductive Overlay where | none | pleaseWait | refusal (code : Code)
  deriving DecidableEq, Repr

/-- A bay's transaction context (R1). The last six fields are the model's own. -/
structure Ctx where
  state          : CtxState
  product        : Option Nat
  cls            : Option Nat
  origin         : Option Nat
  destination    : Option Nat
  quantity       : Nat
  cardIntended   : Bool
  topupAmount    : Option Nat
  bank           : Option Bank
  openTime       : Option Calendar
  price          : Option Nat
  priceMethod    : Option Method
  evalFlags      : EvalFlags
  passPlan       : Option PassPlan
  method         : Option Method
  receiptWanted  : Bool
  tendered       : Nat
  coins          : List Coin
  overflow       : Nat
  card           : Option CardValues
  cardOutcome    : CardOutcome
  writeRetried   : Bool
  authRef        : Option (BitVec 32)
  changeDue      : Option Nat
  changePaid     : Nat
  shortPay       : Nat
  txnSeq         : Option Nat
  receiptOutcome : ReceiptOutcome
  lostMark       : Bool
  causes         : Causes
  holdCause      : HoldCause
  lastChange     : Ms
  lastRefusal    : Option Code
  /-- MODEL: what the context waits for. -/
  wait           : Wait
  /-- MODEL: a bay reset is held in COMMIT (R23). -/
  resetHeld      : Bool
  /-- MODEL: the text shown over the state's own display (R19). -/
  overlay        : Overlay
  /-- MODEL: the card balance reported with DONE or APPLIED (R119, R123, R153). -/
  balanceAfter   : Option Nat
  /-- MODEL: the fresh balance the last write was issued on (R153). -/
  issuedBalance  : Option Nat
  /-- MODEL: the credited overflow value a REFUND owes (R18). -/
  refundOwed     : Nat
  deriving DecidableEq, Repr

/-! ### Cash Unit -/

/-- Where the coin line receiver stands in a train (R68). -/
inductive Capture where | idle | inPulse | inGap
  deriving DecidableEq, Repr

/-- A bay's coin line receiver (R68) with its glitch filter (R69). -/
structure CoinLine where
  /-- MODEL: the raw line level and the count at its last change, which the filter times (R69). -/
  rawHigh       : Bool
  rawSince      : Ms
  filteredHigh  : Bool
  capture       : Capture
  pulses        : Nat
  lastEdge      : Option Ms
  malformed     : Bool
  filterTime    : Option Nat
  endGap        : Option Nat
  fault         : Bool
  recoveryStart : Option Ms
  coinOff       : Bool
  /-- MODEL: the start of a LOW time measured outside a train (R73). -/
  stuckFrom     : Option Ms
  /-- MODEL: capture resumed with the line LOW; no falling edge is taken until it has gone HIGH (R75). -/
  waitHigh      : Bool
  deriving DecidableEq, Repr

/-- The five coin counters of a bay (R81). -/
structure CoinCounters where
  unvalued : Nat
  stray    : Nat
  overflow : Nat
  aborted  : Nat
  fault    : Nat
  deriving DecidableEq, Repr

/-- The escrow return driver (R86): PULSING while `pulse` holds the count at the pulse's start. -/
structure EscrowReturn where
  pulse   : Option Ms
  pending : Bool
  deriving DecidableEq, Repr

/-- Tube states, in the order of the TUBE_SET codes (R89, R192). -/
inductive TubeState where | ok | jammed | disabled
  deriving DecidableEq, Repr

/-- A tube record (R88); kind 0 is none. -/
structure Tube where
  kind      : Nat
  capacity  : Nat
  fullLevel : Nat
  lowLevel  : Nat
  count     : Nat
  state     : TubeState
  extra     : Nat
  deriving DecidableEq, Repr

/-- A BOX record's body (R102, R154): counts of kinds 0 to 8. -/
structure BoxRecord where
  period : BitVec 32
  counts : Vector Nat 9
  total  : Nat
  merged : Bool
  deriving DecidableEq, Repr

/-- A record of the pending closure slot with its requested mark (R103). -/
structure Closure where
  record    : BoxRecord
  requested : Bool
  deriving DecidableEq, Repr

/-- A bay's box record (R101). -/
structure Box where
  period  : BitVec 32
  present : Bool
  counts  : Vector Nat 9
  holds   : Vector Nat 9
  slot    : List Closure
  deriving DecidableEq, Repr

/-- Who asked for a payout (R94). -/
inductive Requester where | payout | refund
  deriving DecidableEq, Repr

/-- One entry of a change plan: a tube and the coins to take from it (R90). -/
structure PlanEntry where
  tube  : TubeNo
  coins : Nat
  deriving DecidableEq, Repr

/-- A bay's payout executor (R94): RUNNING while `running`. -/
structure Executor where
  running   : Bool
  requester : Requester
  amount    : Nat
  paid      : Nat
  plan      : List PlanEntry
  drive     : Option (TubeNo × Ms)
  deriving DecidableEq, Repr

/-! ### Card Unit -/

/-- Write operations (R108). -/
inductive WriteOp where | credit | update
  deriving DecidableEq, Repr

/-- The pass part of an UPDATE (R108, R120). -/
structure PassPart where
  slot      : Nat
  product   : Nat
  validFrom : Nat
  validTo   : Nat
  deriving DecidableEq, Repr

/-- Phases of a card exchange (R110). -/
inductive Phase where | idle | presenting | resolving | checking | authorising | held | writing
  deriving DecidableEq, Repr

/-- Purposes of a card exchange (R110). -/
inductive Purpose where | read | write | retrn
  deriving DecidableEq, Repr

/-- A write request (R110, R115). -/
structure WriteRequest where
  op     : WriteOp
  amount : Nat
  pass   : Option PassPart
  deriving DecidableEq, Repr

/-- A bay's card exchange record (R110). Its outstanding command stands in the bay's card slot, whose first sending
time it shares (R193, R198): `Terminal.cardSlot`. -/
structure Exchange where
  phase      : Phase
  purpose    : Option Purpose
  request    : Option WriteRequest
  limitStart : Option Ms
  fresh      : Option CardValues
  grant      : Option (BitVec 32)
  /-- MODEL: the serial whose tear entry the exchange resolves (R125, R126). -/
  resolving  : Option (BitVec 32)
  deriving DecidableEq, Repr

/-- A bay's authorisation wait (R129). -/
structure AuthWait where
  reference : BitVec 16
  sentAt    : Ms
  deriving DecidableEq, Repr

/-- A bay's re-application (R125): its entry, whether its write has been issued, and the read it stands on. -/
structure Reapplication where
  serial  : BitVec 32
  issued  : Bool
  pseq    : BitVec 16
  balance : Nat
  deriving DecidableEq, Repr

/-- Owner of a tear entry (R120). -/
inductive TearOwner where | openTxn | sale (sequence : Nat) | nobody
  deriving DecidableEq, Repr

/-- An entry of the pending tear table (R120). -/
structure Tear where
  serial        : BitVec 32
  bay           : BayNo
  op            : WriteOp
  amount        : Nat
  pass          : Option PassPart
  seqBefore     : BitVec 16
  balanceBefore : Nat
  created       : Calendar
  owner         : TearOwner
  closing       : Bool
  deriving DecidableEq, Repr

/-- The Card Unit's own state (R120, R129 to R131). -/
structure CardUnit where
  tears        : List Tear
  offlineTotal : Nat
  budget       : Nat
  lateReplies  : Nat
  nextRef      : BitVec 16
  deriving DecidableEq, Repr

/-! ### Receipt Unit -/

/-- Paper states (R137). -/
inductive Paper where | ok | low | out
  deriving DecidableEq, Repr

/-- A bay's printer status record (R137). -/
structure Printer where
  paper  : Paper
  headUp : Bool
  credit : Nat
  deriving DecidableEq, Repr

/-- The field snapshot of a job with its decimals and currency text (R134, R135). -/
structure Snapshot where
  productName : List Byte
  cls         : Nat
  zones       : Option Nat
  price       : Nat
  tendered    : Option Nat
  change      : Option Nat
  shortPay    : Option Nat
  sequence    : Nat
  date        : Nat
  minute      : Nat
  bay         : Nat
  validFrom   : Option Nat
  validTo     : Option Nat
  cardTail    : Option Nat
  balance     : Option Nat
  topup       : Option Nat
  authRef     : Option Nat
  pending     : Bool
  duplicate   : Bool
  decimals    : Nat
  currency    : List Byte
  deriving DecidableEq, Repr

/-- Job kinds (R139). -/
inductive JobKind where | sale | reprint
  deriving DecidableEq, Repr

/-- A print job as requested (R147, R148). `layoutVersion` and `textVersion` are the recorded versions a REPRINT
checks. -/
structure Job where
  kind          : JobKind
  bank          : Bank
  layout        : Nat
  snapshot      : Snapshot
  copies        : Nat
  voucher       : Bool
  lostMark      : Bool
  layoutVersion : Nat
  textVersion   : Nat
  deriving DecidableEq, Repr

/-- Sequencer states (R139). -/
inductive SeqState where | idle | expanding | draining
  deriving DecidableEq, Repr

/-- A bay's print sequencer (R139). Job kind, bank, layout, snapshot and copies are those of `job`. -/
structure Sequencer where
  state        : SeqState
  job          : Option Job
  copy         : Nat
  step         : Nat
  skip         : Nat
  voucher      : Bool
  /-- MODEL: the layout's copies are done and `step` counts voucher steps (R141). -/
  inVoucher    : Bool
  ringFull     : Bool
  paperOut     : Bool
  headUp       : Bool
  sent         : Nat
  lastProgress : Ms
  waiting      : Option Job
  lastReprint  : ReceiptOutcome
  deriving DecidableEq, Repr

/-- A bay's last-receipt record (R148). -/
structure LastReceipt where
  sequence      : Nat
  bank          : Bank
  layout        : Nat
  layoutVersion : Nat
  textVersion   : Nat
  snapshot      : Snapshot
  printedAt     : Ms
  deriving DecidableEq, Repr

/-! ### Bay Bus Master -/

/-- Terminal states (R193). -/
inductive TermState where | present | missing | lost | absent
  deriving DecidableEq, Repr

/-- Tones, in the order of their codes (R192, R200). -/
inductive Tone where | none | chirp | double | rept
  deriving DecidableEq, Repr

/-- The content of a bay's display as R19 and R41 give it for a state; its two lines of 20 characters are
`Screen.line` (Machine/Screen.lean). -/
structure Screen where
  face     : CtxState
  name     : Option (List Byte)
  amounts  : List Nat
  flags    : Option EvalFlags
  decimals : Nat
  currency : List Byte
  overlay  : Overlay
  deriving DecidableEq, Repr

/-- Commands to the card (R108). -/
inductive CardCommand where
  | read
  | write (op : WriteOp) (serial : BitVec 32) (amount : Nat) (expected : BitVec 16) (pass : Option PassPart)
  deriving DecidableEq, Repr

/-- MODEL: whose answer the outstanding command's will be: the bay's exchange, nobody's any more (a late READ of
R114), or the bay's re-application (R125). -/
inductive CommandOwner where | exchange | late | reapplication
  deriving DecidableEq, Repr

/-- The card slot (R193, R198). -/
structure CardSlot where
  command   : CardCommand
  mark      : Nat
  firstSent : Option Ms
  taken     : Bool
  owner     : CommandOwner
  deriving DecidableEq, Repr

/-- A bay's record in the Bay Bus Master (R193). -/
structure Terminal where
  state          : TermState
  misses         : Nat
  recoveryStart  : Option Ms
  screen         : Screen
  screenHold     : HoldCause
  displayPending : Bool
  tone           : Tone
  tonePending    : Bool
  cardSlot       : Option CardSlot
  nextCardMark   : Nat
  nextChunkMark  : Nat
  /-- MODEL: the poll on the line carries the present display, or tone: no newer one was handed over since (R196). -/
  displayOnLine  : Bool
  toneOnLine     : Bool
  deriving DecidableEq, Repr

/-! ### Cabinet line samplers of one bay -/

/-- A sampler: the accepted state and the last sample (R206). -/
structure Sampler where
  accepted : Bool
  last     : Bool
  deriving DecidableEq, Repr

/-- The three samplers of a bay (R206): door lines read true when open, the box line when present. -/
structure BayLines where
  serviceDoor : Sampler
  boxDoor     : Sampler
  boxPresent  : Sampler
  deriving DecidableEq, Repr

/-- Everything the part holds for one bay. -/
structure Bay where
  ctx         : Ctx
  coin        : CoinLine
  counters    : CoinCounters
  mask        : List Nat
  escrow      : EscrowReturn
  tubes       : Vector Tube 4
  box         : Box
  payout      : Executor
  card        : Exchange
  authWait    : Option AuthWait
  reserved    : Bool
  reapply     : Option Reapplication
  printer     : Printer
  seq         : Sequencer
  ring        : List Byte
  inFlight    : Nat
  /-- The mark of the chunk in flight (R199). -/
  chunkMark   : Option Nat
  lastReceipt : Option LastReceipt
  term        : Terminal
  lines       : BayLines
  deriving DecidableEq, Repr

/-! ### Tariff Unit -/

/-- One table of the table store: entries as received (R50, R56). -/
structure Table where
  version : Nat
  valid   : Bool
  count   : Nat
  entries : List (List Byte)
  check   : BitVec 32
  deriving DecidableEq, Repr

/-- The six tables of a bank with the percent rounding mode of its RULE table (R24). -/
structure BankTables where
  product  : Table
  zone     : Table
  calendar : Table
  rule     : Table
  layout   : Table
  text     : Table
  mode     : PercentMode
  /-- MODEL: the mode setting as TABLE_OPEN carried it, which the stored check covers; none when it carried none
  (R57). -/
  modeSent : Option PercentMode
  deriving DecidableEq, Repr

/-- The eight table names, in the order of their codes (R192). -/
inductive TableName where | product | zone | calendar | rule | layout | text | deny | site
  deriving DecidableEq, Repr

/-- Load machine states (R53). -/
inductive LoadState where | idle | stream | error
  deriving DecidableEq, Repr

/-- Load machine errors (R53). -/
inductive LoadError where | none | seq | count | crc | validation
  deriving DecidableEq, Repr

/-- The target of a stream (R53): the bank is present for a banked table. -/
structure Target where
  table : TableName
  bank  : Option Bank
  deriving DecidableEq, Repr

/-- The load machine (R53). -/
structure Load where
  state    : LoadState
  target   : Option Target
  version  : Option Nat
  count    : Option Nat
  mode     : Option PercentMode
  next     : Nat
  crc      : Option (BitVec 32)
  error    : LoadError
  failure  : Option (TableName × Nat)
  abandons : Nat
  deriving DecidableEq, Repr

/-- The six expected versions of a bank switch, in table order (R64). -/
structure Versions where
  product  : Nat
  zone     : Nat
  calendar : Nat
  rule     : Nat
  layout   : Nat
  text     : Nat
  deriving DecidableEq, Repr

/-- The scheduled switch (R66). -/
structure Scheduled where
  bank     : Bank
  versions : Versions
  day      : Nat
  minute   : Nat
  deriving DecidableEq, Repr

/-- The result of the last scheduled switch that fell due (R66). -/
inductive SwitchResult where | none | done | dropped (code : Code)
  deriving DecidableEq, Repr

/-- A pricing request (R28). -/
structure PriceRequest where
  bay         : BayNo
  bank        : Bank
  product     : Nat
  cls         : Nat
  quantity    : Nat
  origin      : Option Nat
  destination : Option Nat
  topupAmount : Option Nat
  openTime    : Calendar
  method      : Method
  slots       : Option (Vector (Option PassSlot) 4)
  withdrawn   : Bool
  deriving DecidableEq, Repr

/-- The Tariff Unit's state (R24, R46, R50, R53, R63, R66). -/
structure Tariff where
  bankA      : BankTables
  bankB      : BankTables
  deny       : Table
  denyShadow : Table
  denyEdits  : Nat
  site       : Table
  siteShadow : Table
  active     : Bank
  pinsA      : Nat
  pinsB      : Nat
  load       : Load
  scheduled  : Option Scheduled
  lastSwitch : SwitchResult
  queue      : List PriceRequest
  evaluating : Option PriceRequest
  deriving DecidableEq, Repr

/-! ### Journal Unit -/

/-- Header markers (R150). -/
inductive Marker where | active | full | erasing | bad
  deriving DecidableEq, Repr

/-- The sequences of a block header: erased, failing their check, or good (R150, R169). -/
inductive HeaderSeqs where
  | erased
  | broken
  | good (blockSeq baseSeq : Nat)
  deriving DecidableEq, Repr

/-- A block as the non-volatile store holds it: its header and its programmed units from unit 1 upward, each the
bytes programmed into it; a unit of fewer than 16 bytes was cut by a loss of supply (R150, R170). -/
structure Block where
  seqs   : HeaderSeqs
  marker : Option Marker
  units  : List (List Byte)
  deriving DecidableEq, Repr

/-- Block states (R151). -/
inductive BlockState where | erased | active | full | erasing | bad
  deriving DecidableEq, Repr

/-- A row of the block table (R151). The held mark is membership in the hold list (R164). -/
structure Row where
  state      : BlockState
  blockSeq   : Option Nat
  baseSeq    : Option Nat
  firstValid : Option Nat
  lastValid  : Option Nat
  nextFree   : Option Nat
  failures   : Nat
  deriving DecidableEq, Repr

/-- ADJUST reasons, in the order of their codes (R154, R192). -/
inductive AdjustReason where | shortPay | refundShort | receiptFailed | passNotIssued
  deriving DecidableEq, Repr

/-- TEAR resolutions, in the order of their codes (R127, R192). -/
inductive Resolution where | applied | reapplied | failed | conflict | expired
  deriving DecidableEq, Repr

/-- TEAR FAILED reasons (R127, R192). -/
inductive TearReason where | none | seqMismatch | balance | cardLimit | cancelled
  deriving DecidableEq, Repr

/-- A SALE record's body (R153). -/
structure SaleBody where
  product        : Nat
  cls            : Nat
  quantity       : Nat
  zones          : Nat
  bank           : Bank
  productVersion : Nat
  ruleVersion    : Nat
  price          : Nat
  evalFlags      : EvalFlags
  method         : Method
  tendered       : Nat
  coins          : List (Nat × Nat)
  overflow       : Nat
  changeDue      : Nat
  card           : Option (BitVec 32 × Nat × CardOutcome)
  pass           : Option PassPlan
  topup          : Option Nat
  authRef        : Option (BitVec 32)
  offline        : Bool
  deriving DecidableEq, Repr

/-- A record's kind and body (R153, R154). -/
inductive Body where
  | sale (body : SaleBody)
  | adjust (reason : AdjustReason) (amount : Nat) (reference : Option Nat)
  | tear (resolution : Resolution) (serial : BitVec 32) (op : WriteOp) (amount : Nat) (owner : Option Nat)
      (resolver : Option BayNo) (reason : TearReason)
  | box (record : BoxRecord)
  | table (bank : Bank) (versions : Versions) (time : Calendar)
  | link (online : Bool) (time : Calendar) (transitions : Nat)
  deriving DecidableEq, Repr

/-- Who takes an append's completion (R159): `reset` marks an ADJUST a bay reset placed, whose completion reaches no
context, and `nobody` a request whose requester has left it (R3, R174). -/
inductive AppendBy where
  | ctx (bay : BayNo)
  | reset (bay : BayNo)
  | tear (serial : BitVec 32)
  | box (bay : BayNo)
  | tariff
  | port
  | nobody
  deriving DecidableEq, Repr

/-- An append request (R155). -/
structure Append where
  body : Body
  bay  : Option BayNo
  requester : AppendBy
  deriving DecidableEq, Repr

/-- The write in progress (R156): the record's bytes and sequence. -/
structure Writing where
  bytes    : List Byte
  sequence : Nat
  deriving DecidableEq, Repr

/-- The erase under way (R160, R161): its block, the running time spent, and since when it runs unless suspended. -/
structure Erase where
  block     : Nat
  suspended : Bool
  spent     : Nat
  since     : Ms
  deriving DecidableEq, Repr

/-- The Journal Unit's state (R150, R151, R155, R164, R166, R175). The forward mark stands beside the record place
it moves with: `Link.forward`. The erased count is `Journal.erasedCount`. -/
structure Journal where
  store        : Vector Block 32
  holdList     : List Nat
  rows         : Vector Row 32
  last         : Nat
  nextBlockSeq : Nat
  full         : Bool
  queue        : List Append
  waitList     : List Append
  writing      : Option Writing
  erase        : Option Erase
  acked        : Nat
  torn         : Nat
  ackClamp     : Nat
  eraseFail    : Nat
  badBlock     : Nat
  deriving DecidableEq, Repr

/-! ### Depot Link Port -/

/-- A downstream frame: kind, tag and body (R192). -/
structure Frame where
  kind : Byte
  tag  : BitVec 16
  body : List Byte
  deriving DecidableEq, Repr

/-- MODEL: what follows once a REPLY has been sent whole (R177, R191). -/
inductive AfterReply where | nothing | changeRate (rate : Nat) | linkReset
  deriving DecidableEq, Repr

/-- A REPLY frame (R180, R192). -/
structure Reply where
  tag    : BitVec 16
  status : Code
  data   : List Byte
  after  : AfterReply
  deriving DecidableEq, Repr

/-- JOURNAL_LOW details (R158, R162, R163, R192). -/
inductive LowDetail where | low | cleared | full | badBlock
  deriving DecidableEq, Repr

/-- Notices, in the order of the notice table of section 9.5, with their details. -/
inductive Notice where
  | door (bay : BayNo) (boxDoor isOpen : Bool)
  | box (bay : BayNo) (inserted : Bool) (period : BitVec 32)
  | jam (bay : BayNo) (tube : TubeNo)
  | tubeLow (bay : BayNo) (tube : TubeNo) (count : Nat)
  | paper (bay : BayNo) (paper : Paper)
  | terminal (bay : BayNo) (state : TermState)
  | coinFault (bay : BayNo) (cleared : Bool)
  | unvalued (bay : BayNo) (pulses : Nat) (malformed : Bool)
  | tear (bay : BayNo) (serial : BitVec 32) (event : Option Resolution)
  | lateAuth (reference : BitVec 16) (denied : Bool)
  | journalLow (detail : LowDetail) (number : Nat)
  | retainedLost
  | timeUnset
  deriving DecidableEq, Repr

/-- A frame of the message queue (R184). -/
inductive Message where
  | authReq (reference : BitVec 16) (bay : BayNo) (serial : BitVec 32) (amount balance : Nat)
  | notice (n : Notice)
  deriving DecidableEq, Repr

/-- The REC frame of the record place (R184). -/
structure RecFrame where
  sequence : Nat
  bytes    : List Byte
  deriving DecidableEq, Repr

/-- The transmit sources (R183). -/
inductive Source where | reply | message | record
  deriving DecidableEq, Repr

/-- MODEL: the frame on the upstream line: its source, and whether that source still holds it (R183, R191). -/
structure Sending where
  source : Source
  held   : Bool
  deriving DecidableEq, Repr

/-- Receiver states (R178). -/
inductive RxState where | idleWait | hunt | inFrame
  deriving DecidableEq, Repr

/-- States of the start-up notice list (R176, R186). -/
inductive ListState where | isOpen | draining | closed
  deriving DecidableEq, Repr

/-- MODEL: why the receiver ignores the line: the REPLY of a link reset is placed, or its steps run and wait for a bay
reset (R191), or start-up has not come to its step 6 (R208). -/
inductive ResetStage where | none | replyPlaced | running | startUp
  deriving DecidableEq, Repr

/-- The seven port counters (R176). -/
structure PortCounters where
  badLength   : Nat
  badCrc      : Nat
  truncated   : Nat
  overrun     : Nat
  formatError : Nat
  samePhase   : Nat
  dropped     : Nat
  deriving DecidableEq, Repr

/-- The Depot Link Port's state (R176), with the Journal Unit's forward mark (R166). -/
structure Link where
  online      : Bool
  lastPhase   : Option Bool
  timer       : Option (Ms × Nat)
  noticeMask  : BitVec 13
  rate        : Nat
  rx          : RxState
  /-- MODEL: the characters of the frame being received, and the count at the last character (R178). -/
  rxBytes     : List Byte
  rxLast      : Ms
  rxBuffer    : List Frame
  replies     : List Reply
  messages    : List Message
  record      : Option RecFrame
  turn        : Source
  noticeList  : List Notice
  listState   : ListState
  transitions : Nat
  counters    : PortCounters
  sending     : Option Sending
  resetStage  : ResetStage
  forward     : Nat
  deriving DecidableEq, Repr

/-! ### The bay bus as a whole -/

/-- A poll as built (R195). -/
structure Poll where
  bay     : BayNo
  display : Option (Screen × HoldCause)
  tone    : Option Tone
  card    : Option (Nat × CardCommand)
  chunk   : Option (Nat × List Byte)
  deriving DecidableEq, Repr

/-- The exchange on the line (R194): its poll, the count when it was built, and whether it is a recovery poll. -/
structure BusExchange where
  poll     : Poll
  recovery : Bool
  builtAt  : Ms
  deriving DecidableEq, Repr

/-- Selection carried by a SELECT key event (R192). -/
structure Selection where
  product      : Nat
  cls          : Nat
  quantity     : Nat
  cardIntended : Bool
  zones        : Option (Nat × Nat)
  topup        : Option Nat
  deriving DecidableEq, Repr

/-- Key events (R192). -/
inductive KeyEvent where
  | select (s : Selection)
  | confirm (method : Method) (receiptWanted : Bool)
  | cancel
  | reprint
  deriving DecidableEq, Repr

/-- Reasons a card refuses a write (R108). -/
inductive CardRefusal where | seqMismatch | balance | cardLimit
  deriving DecidableEq, Repr

/-- Card answers (R108). -/
inductive CardAnswer where
  | card (v : CardValues)
  | noCard
  | ok (balance : Nat) (pseq : BitVec 16)
  | refused (reason : CardRefusal)
  deriving DecidableEq, Repr

/-- The sections of a reply, each waiting for the command that hands it on (R196). `delivered` remembers the mark of
the chunk its poll carried. -/
inductive ReplySection where
  | delivered (mark : Nat) (carried : Option Nat)
  | status (paper : Paper) (headUp : Bool) (credit : Nat)
  | taken (mark : Nat)
  | answer (mark : Nat) (a : CardAnswer)
  | key (k : KeyEvent)
  deriving DecidableEq, Repr

/-- Line recovery (R201): none, the break since a count, or the wait since a count. -/
inductive Recovery where | none | breaking (since : Ms) | waiting (since : Ms)
  deriving DecidableEq, Repr

/-- The bay bus (R193, R194, R201). -/
structure Bus where
  running     : Bool
  /-- MODEL: the bay number from which the rotation looks for its next bay (R194). -/
  next        : Nat
  exchange    : Option BusExchange
  /-- MODEL: the bay and the sections of the last good reply that are still to be handed on, in order (R196). -/
  inboxBay    : BayNo
  inbox       : List ReplySection
  recovery    : Recovery
  badReplies  : Nat
  recoveries  : Nat
  /-- MODEL: the key event of the exchange on the line is discarded (R191). -/
  dropKey     : Bool
  deriving DecidableEq, Repr

/-! ### Time and Cabinet Monitor -/

/-- The clocks, the clock validity and the two shared samplers (R203, R206). -/
structure Time where
  ms       : Ms
  calendar : Calendar
  isSet    : Bool
  supply   : Sampler
  audit    : Sampler
  deriving DecidableEq, Repr

/-- The whole part, and the commands that wait, first in, first out. -/
structure State where
  /-- Start-up has ended (R208): no while the reset input is asserted. -/
  up      : Bool
  /-- The CRC-32 check stored beside the items of the retained area (R205). -/
  check   : BitVec 32
  bays    : Vector Bay 8
  tariff  : Tariff
  card    : CardUnit
  journal : Journal
  link    : Link
  bus     : Bus
  time    : Time
  pending : List Instr
  deriving DecidableEq, Repr

/-- Faults: the manual gives the part no stop of its own, so there is none. -/
inductive Fault where
  deriving DecidableEq, Repr

/-- Refusals. -/
inductive Refusal where
  /-- Raised by exec's arm of a command whose meaning has not been written (safe: no claim about it can be
  proved). No arm raises it. -/
  | notModelled (mnemonic : String)
  deriving DecidableEq, Repr

/-! ### The state right after reset -/

/-- No cause stands. -/
def Causes.empty : Causes := ⟨false, false, false, false, false, false, false⟩

/-- No flag is set. -/
def EvalFlags.empty : EvalFlags := ⟨false, false, false, false, false⟩

/-- A context built afresh in IDLE (R2). DESIGN CHOICE: quantity 1, last_change 0 (notes/assumptions/4.md). -/
def Ctx.reset : Ctx where
  state := .idle
  product := none
  cls := none
  origin := none
  destination := none
  quantity := 1
  cardIntended := false
  topupAmount := none
  bank := none
  openTime := none
  price := none
  priceMethod := none
  evalFlags := .empty
  passPlan := none
  method := none
  receiptWanted := false
  tendered := 0
  coins := []
  overflow := 0
  card := none
  cardOutcome := .none
  writeRetried := false
  authRef := none
  changeDue := none
  changePaid := 0
  shortPay := 0
  txnSeq := none
  receiptOutcome := .none
  lostMark := false
  causes := .empty
  holdCause := .none
  lastChange := 0
  lastRefusal := none
  wait := .none
  resetHeld := false
  overlay := .none
  balanceAfter := none
  issuedBalance := none
  refundOwed := 0

/-- A receiver on a HIGH line (R68). -/
def CoinLine.reset : CoinLine where
  rawHigh := true
  rawSince := 0
  filteredHigh := true
  capture := .idle
  pulses := 0
  lastEdge := none
  malformed := false
  filterTime := none
  endGap := none
  fault := false
  recoveryStart := none
  coinOff := false
  stuckFrom := none
  waitHigh := false

/-- Coin counters after a power-on or link reset (R81). -/
def CoinCounters.reset : CoinCounters := ⟨0, 0, 0, 0, 0⟩

/-- A tube with the default settings of R51 after a retained loss (R88). -/
def Tube.reset : Tube := ⟨0, 100, 90, 10, 0, .ok, 0⟩

/-- A box record after a retained loss with the box in place (R101). -/
def Box.reset : Box := ⟨0, true, Vector.replicate 9 0, Vector.replicate 9 0, []⟩

/-- An executor that is IDLE (R94). -/
def Executor.reset : Executor := ⟨false, .payout, 0, 0, [], none⟩

/-- An exchange that is IDLE (R110). -/
def Exchange.reset : Exchange := ⟨.idle, none, none, none, none, none, none⟩

/-- A printer not yet heard from (R137). -/
def Printer.reset : Printer := ⟨.ok, false, 0⟩

/-- A sequencer that is IDLE (R139). DESIGN CHOICE for the fields of no running job (notes/assumptions/4.md). -/
def Sequencer.reset : Sequencer where
  state := .idle
  job := none
  copy := 1
  step := 0
  skip := 0
  voucher := false
  inVoucher := false
  ringFull := false
  paperOut := false
  headUp := false
  sent := 0
  lastProgress := 0
  waiting := none
  lastReprint := .none

/-- The selection prompt of a bay in IDLE, with the default decimals and currency text (R19, R51). -/
def Screen.reset : Screen := ⟨.idle, none, [], none, 2, [], .none⟩

/-- A terminal record after a power-on or link reset (R193). -/
def Terminal.reset : Terminal where
  state := .missing
  misses := 0
  recoveryStart := none
  screen := .reset
  screenHold := .none
  displayPending := true
  tone := .none
  tonePending := false
  cardSlot := none
  nextCardMark := 1
  nextChunkMark := 1
  displayOnLine := false
  toneOnLine := false

/-- Closed doors and a box in place. DESIGN CHOICE: the lines' levels at the first reset (notes/assumptions/3.md). -/
def BayLines.reset : BayLines := ⟨⟨false, false⟩, ⟨false, false⟩, ⟨true, true⟩⟩

/-- A bay right after start-up: its escrow is being returned (R208 step 4). -/
def Bay.reset : Bay where
  ctx := .reset
  coin := .reset
  counters := .reset
  mask := []
  escrow := ⟨some 0, false⟩
  tubes := Vector.replicate 4 .reset
  box := .reset
  payout := .reset
  card := .reset
  authWait := none
  reserved := false
  reapply := none
  printer := .reset
  seq := .reset
  ring := []
  inFlight := 0
  chunkMark := none
  lastReceipt := none
  term := .reset
  lines := .reset

/-- An invalid table of version 0 without entries (R50). -/
def Table.empty : Table := ⟨0, false, 0, [], 0⟩

/-- A valid table of version 0 without entries, its check the CRC-32 of nothing, which is 0 (R50, R192). -/
def Table.emptyValid : Table := ⟨0, true, 0, [], 0⟩

/-- A bank as delivered (R50). -/
def BankTables.empty : BankTables := ⟨.empty, .empty, .empty, .empty, .empty, .empty, .halfUp, none⟩

/-- The load machine after either reset (R53). -/
def Load.reset : Load := ⟨.idle, none, none, none, none, 0, none, .none, none, 0⟩

/-- The Tariff Unit of a part as delivered (R50, R53, R63, R66, R49). -/
def Tariff.reset : Tariff where
  bankA := .empty
  bankB := .empty
  deny := .emptyValid
  denyShadow := .empty
  denyEdits := 0
  site := .emptyValid
  siteShadow := .empty
  active := .a
  pinsA := 0
  pinsB := 0
  load := .reset
  scheduled := none
  lastSwitch := .none
  queue := []
  evaluating := none

/-- The Card Unit after a retained loss (R120, R129, R130), with the default offline budget in force (R131). -/
def CardUnit.reset : CardUnit := ⟨[], 0, 20000, 0, 0⟩

/-- An erased block (R150). -/
def Block.erased : Block := ⟨.erased, none, []⟩

/-- The row of an ERASED block (R151). -/
def Row.erased : Row := ⟨.erased, none, none, none, none, none, 0⟩

/-- The journal of a part as delivered after its start-up scan has activated block 0 (R150, R171). -/
def Journal.reset : Journal where
  store := (Vector.replicate 32 Block.erased).set 0 ⟨.good 1 1, some .active, []⟩
  holdList := []
  rows := (Vector.replicate 32 Row.erased).set 0 ⟨.active, some 1, some 1, none, none, some 1, 0⟩
  last := 0
  nextBlockSeq := 2
  full := false
  queue := []
  waitList := []
  writing := none
  erase := none
  acked := 0
  torn := 0
  ackClamp := 0
  eraseFail := 0
  badBlock := 0

/-- The port after a power-on reset (R176), with the two notices of a retained loss on its list (R205). -/
def Link.reset : Link where
  online := false
  lastPhase := none
  timer := none
  noticeMask := BitVec.allOnes 13
  rate := 115200
  rx := .idleWait
  rxBytes := []
  rxLast := 0
  rxBuffer := []
  replies := []
  messages := []
  record := none
  turn := .reply
  noticeList := [.retainedLost, .timeUnset]
  listState := .isOpen
  transitions := 0
  counters := ⟨0, 0, 0, 0, 0, 0, 0⟩
  sending := none
  resetStage := .none
  forward := 0

/-- The bus with its rotation begun at the lowest bay (R194, R208). -/
def Bus.reset : Bus where
  running := true
  next := 0
  exchange := none
  inboxBay := 0
  inbox := []
  recovery := .none
  badReplies := 0
  recoveries := 0
  dropKey := false

/-- The clocks after a retained loss (R203, R205); supply warning and audit switch not asserted. DESIGN CHOICE: the
lines' levels at the first reset (notes/assumptions/3.md). -/
def Time.reset : Time := ⟨0, ⟨0, 0, 0⟩, false, ⟨false, false⟩, ⟨false, false⟩⟩

/-- The machine right after the first power-on reset of a part as delivered, its retained area read as lost
(DESIGN CHOICE, notes/assumptions/3.md): start-up has run its seven steps (R208). -/
def State.reset : State where
  bays := Vector.replicate 8 .reset
  tariff := .reset
  card := .reset
  journal := .reset
  link := .reset
  bus := .reset
  time := .reset
  pending := []
  up := true
  check := 0xe7efbdb0#32

end Sys2Proof.Machine
end

