-- ==== Sys2Proof/Machine/Ops.lean ====
section
/-! DEFINITION. The named operations every block shares: reading and writing one bay, elapsed time, saturating
counters and amounts, and the calendar clock. -/

namespace Sys2Proof.Machine

open Sys2Proof

/-- What a command answers. -/
abbrev Out := Host.Outcome State Fault Refusal

/-- A counter grows by 1 and stays at 65,535 (R81, R100, R175, R176). -/
def satInc (n : Nat) : Nat := min (n + 1) Config.counterMax

/-- An amount after saturation at 999,999 (00_scope "Money", R37, R102). -/
def satAmount (n : Nat) : Nat := min n Config.maxAmount

/-- Elapsed time is the difference of two readings modulo 2 to the 32nd power (00_scope "Time"). -/
def elapsed (now start : Ms) : Nat := (now - start).toNat

/-- The present millisecond count. -/
def State.now (s : State) : Ms := s.time.ms

/-- A limit of `limit` ms running from `start` has passed. -/
def State.passed (s : State) (start : Ms) (limit : Nat) : Bool := decide (limit ≤ elapsed s.now start)

/-- What the part holds for bay b. -/
def State.bay (s : State) (b : BayNo) : Bay := s.bays[b]

/-- Bay b changes under f; every other bay keeps its value. -/
def State.modBay (s : State) (b : BayNo) (f : Bay → Bay) : State :=
  { s with bays := s.bays.set b (f s.bays[b]) }

/-- Bay b's context. -/
def State.ctx (s : State) (b : BayNo) : Ctx := (s.bay b).ctx

/-- Bay b's context changes under f. -/
def State.modCtx (s : State) (b : BayNo) (f : Ctx → Ctx) : State :=
  s.modBay b fun y => { y with ctx := f y.ctx }

/-- The eight bays in ascending order. -/
def allBays : List BayNo := [0, 1, 2, 3, 4, 5, 6, 7]

/-- The four tubes in ascending order. -/
def allTubes : List TubeNo := [0, 1, 2, 3]

/-- f done for every bay, in ascending bay number. -/
def forBays (f : BayNo → State → State) (s : State) : State := allBays.foldl (fun t b => f b t) s

/-- A bay number carried in one byte: none outside 0 to 7. -/
def bayOf (n : Nat) : Option BayNo := if h : n < 8 then some ⟨n, h⟩ else none

/-- A tube number carried in one byte: none outside 0 to 3. -/
def tubeOf (n : Nat) : Option TubeNo := if h : n < 4 then some ⟨n, h⟩ else none

/-- The link state as the other units read it. -/
def State.online (s : State) : Bool := s.link.online

/-- The supply warning is asserted while its accepted state is (R207). -/
def State.supplyLow (s : State) : Bool := s.time.supply.accepted

/-- The tables of a bank. -/
def Tariff.bank (t : Tariff) : Bank → BankTables
  | .a => t.bankA
  | .b => t.bankB

/-- The tables of one bank change under f. -/
def Tariff.modBank (t : Tariff) (k : Bank) (f : BankTables → BankTables) : Tariff :=
  match k with
  | .a => { t with bankA := f t.bankA }
  | .b => { t with bankB := f t.bankB }

/-- The pin count of a bank (R63). -/
def Tariff.pins (t : Tariff) : Bank → Nat
  | .a => t.pinsA
  | .b => t.pinsB

/-- A context pins bank k (R5, R63). -/
def Tariff.pin (t : Tariff) : Bank → Tariff
  | .a => { t with pinsA := t.pinsA + 1 }
  | .b => { t with pinsB := t.pinsB + 1 }

/-- A close unpins bank k (R63). -/
def Tariff.unpin (t : Tariff) : Bank → Tariff
  | .a => { t with pinsA := t.pinsA - 1 }
  | .b => { t with pinsB := t.pinsB - 1 }

/-- The other bank. -/
def Bank.other : Bank → Bank
  | .a => .b
  | .b => .a

/-- The entries of the live site table (R51). -/
def State.site (s : State) : List (List Byte) := s.tariff.site.entries

/-- The calendar clock advances by one second and stops at its highest value (R203). -/
def Calendar.tick (c : Calendar) : Calendar :=
  if c.second < 59 then { c with second := c.second + 1 }
  else if c.minute < 1439 then { c with minute := c.minute + 1, second := 0 }
  else if c.day < Config.maxDay then ⟨c.day + 1, 0, 0⟩
  else c

/-- The calendar clock after n seconds. -/
def Calendar.ticks : Nat → Calendar → Calendar
  | 0, c => c
  | n + 1, c => Calendar.ticks n c.tick

/-- A calendar time in seconds since the site epoch, for comparing two of them. -/
def Calendar.seconds (c : Calendar) : Nat := (c.day * 1440 + c.minute) * 60 + c.second

/-- The first element at which f answers, with its index. -/
def firstIndex {α : Type} (f : Nat → α → Bool) : Nat → List α → Option Nat
  | _, [] => none
  | i, x :: xs => if f i x then some i else firstIndex f (i + 1) xs

end Sys2Proof.Machine
end

