-- ==== Sys2Proof/Machine/Flags.lean ====
section
/-! DEFINITION. Sets of flags and the numbers the manual gives to enumerated values: causes, evaluation flags, the
status codes of section 9.9, and the encodings "numbered from 0 in the order their field lists them" (R192). -/

namespace Sys2Proof.Machine

open Sys2Proof

/-- A truth value as the one byte 0 or 1 (R192). -/
def bit (b : Bool) : Nat := if b then 1 else 0

/-- A set as a number: bit i for the i-th value of the field's list (R192). -/
def setBits : List Bool → Nat
  | [] => 0
  | b :: bs => bit b + 2 * setBits bs

/-- Whether a cause stands in the set. -/
def Causes.has (c : Causes) : Cause → Bool
  | .server => c.server
  | .serviceDoor => c.serviceDoor
  | .boxAbsent => c.boxAbsent
  | .terminalLost => c.terminalLost
  | .paper => c.paper
  | .coinLineFault => c.coinLineFault
  | .jamAll => c.jamAll

/-- A cause joins or leaves the set (R20). -/
def Causes.put (c : Causes) (k : Cause) (v : Bool) : Causes :=
  match k with
  | .server => { c with server := v }
  | .serviceDoor => { c with serviceDoor := v }
  | .boxAbsent => { c with boxAbsent := v }
  | .terminalLost => { c with terminalLost := v }
  | .paper => { c with paper := v }
  | .coinLineFault => { c with coinLineFault := v }
  | .jamAll => { c with jamAll := v }

/-- The set is empty. -/
def Causes.isEmpty (c : Causes) : Bool :=
  !(c.server || c.serviceDoor || c.boxAbsent || c.terminalLost || c.paper || c.coinLineFault || c.jamAll)

/-- The set holds no cause other than SERVER (R21). -/
def Causes.onlyServer (c : Causes) : Bool := (c.put .server false).isEmpty

/-- The set as a number, in the order of R1. -/
def Causes.toNat (c : Causes) : Nat :=
  setBits [c.server, c.serviceDoor, c.boxAbsent, c.terminalLost, c.paper, c.coinLineFault, c.jamAll]

/-- The flags as a number: ZERO bit 0, CLAMP_LOW 1, CLAMP_HIGH 2, ROUNDED 3, CAPPED 4 (R192). -/
def EvalFlags.toNat (f : EvalFlags) : Nat := setBits [f.zero, f.clampLow, f.clampHigh, f.rounded, f.capped]

/-- The numbers of the context states, in the order of R1. -/
def CtxState.toNat : CtxState → Nat
  | .idle => 0 | .opening => 1 | .cardRead => 2 | .pricing => 3 | .priced => 4 | .tender => 5 | .cardWrite => 6
  | .tearWait => 7 | .commit => 8 | .payout => 9 | .print => 10 | .refund => 11 | .outOfService => 12

/-- A transaction is open outside IDLE and OUT_OF_SERVICE (R5). -/
def CtxState.isOpen : CtxState → Bool
  | .idle => false
  | .outOfService => false
  | _ => true

/-- The early states, which a line event cancels (R22). -/
def CtxState.isEarly : CtxState → Bool
  | .opening | .cardRead | .pricing | .priced | .tender => true
  | _ => false

/-- The status codes of section 9.9. -/
def Code.toNat : Code → Nat
  | .accepted => 0 | .badKind => 1 | .badRequest => 2 | .badBay => 3 | .bayAbsent => 4 | .causeStanding => 5
  | .notServicing => 6 | .noPage => 7 | .badTable => 8 | .loadErrorSet => 9 | .countRange => 10
  | .bankActive => 11 | .bankDraining => 12 | .notStreaming => 13 | .seqError => 14 | .countError => 15
  | .crcError => 16 | .validationError => 17 | .notValid => 18 | .versionMismatch => 19 | .crossCheck => 20
  | .timeUnset => 21 | .denyBusy => 22 | .tableFull => 23 | .notHoldable => 24 | .holdFull => 25
  | .auditLocked => 26 | .journalLow => 32 | .supplyLow => 33 | .noBank => 34 | .noProduct => 35 | .noPaper => 36
  | .cardBusy => 37 | .outOfService => 38 | .busy => 39 | .methodRefused => 40 | .offlineLimit => 41
  | .insufficient => 42 | .cardDenied => 43 | .tariffError => 44 | .noSlot => 45 | .cardTimeout => 46
  | .authDenied => 47 | .authTimeout => 48 | .wrongCard => 49 | .overCeiling => 50 | .seqMismatch => 51
  | .balance => 52 | .cardLimit => 53 | .noReceipt => 54

def Bank.toNat : Bank → Nat
  | .a => 0 | .b => 1

def Method.toNat : Method → Nat
  | .coins => 0 | .purse => 1

def HoldCause.toNat : HoldCause → Nat
  | .none => 0 | .waitPrice => 1 | .waitCard => 2 | .waitAuth => 3 | .waitJournal => 4 | .waitPayout => 5
  | .waitPrint => 6

def Standing.toNat : Standing → Nat
  | .credited => 0 | .stray => 1 | .unvalued => 2

def CardOutcome.toNat : CardOutcome → Nat
  | .none => 0 | .done => 1 | .pending => 2

def ReceiptOutcome.toNat : ReceiptOutcome → Nat
  | .none => 0 | .printed => 1 | .partly => 2 | .failed => 3 | .declined => 4

def Capture.toNat : Capture → Nat
  | .idle => 0 | .inPulse => 1 | .inGap => 2

def TubeState.toNat : TubeState → Nat
  | .ok => 0 | .jammed => 1 | .disabled => 2

def WriteOp.toNat : WriteOp → Nat
  | .credit => 0 | .update => 1

def Phase.toNat : Phase → Nat
  | .idle => 0 | .presenting => 1 | .resolving => 2 | .checking => 3 | .authorising => 4 | .held => 5
  | .writing => 6

def Purpose.toNat : Purpose → Nat
  | .read => 0 | .write => 1 | .retrn => 2

def Paper.toNat : Paper → Nat
  | .ok => 0 | .low => 1 | .out => 2

def SeqState.toNat : SeqState → Nat
  | .idle => 0 | .expanding => 1 | .draining => 2

def JobKind.toNat : JobKind → Nat
  | .sale => 0 | .reprint => 1

def TermState.toNat : TermState → Nat
  | .present => 0 | .missing => 1 | .lost => 2 | .absent => 3

def Tone.toNat : Tone → Nat
  | .none => 0 | .chirp => 1 | .double => 2 | .rept => 3

def TableName.toNat : TableName → Nat
  | .product => 0 | .zone => 1 | .calendar => 2 | .rule => 3 | .layout => 4 | .text => 5 | .deny => 6 | .site => 7

def LoadState.toNat : LoadState → Nat
  | .idle => 0 | .stream => 1 | .error => 2

def LoadError.toNat : LoadError → Nat
  | .none => 0 | .seq => 1 | .count => 2 | .crc => 3 | .validation => 4

def PercentMode.toNat : PercentMode → Nat
  | .halfUp => 0 | .down => 1 | .up => 2

def BlockState.toNat : BlockState → Nat
  | .erased => 0 | .active => 1 | .full => 2 | .erasing => 3 | .bad => 4

def AdjustReason.toNat : AdjustReason → Nat
  | .shortPay => 0 | .refundShort => 1 | .receiptFailed => 2 | .passNotIssued => 3

def Resolution.toNat : Resolution → Nat
  | .applied => 0 | .reapplied => 1 | .failed => 2 | .conflict => 3 | .expired => 4

def TearReason.toNat : TearReason → Nat
  | .none => 0 | .seqMismatch => 1 | .balance => 2 | .cardLimit => 3 | .cancelled => 4

def LowDetail.toNat : LowDetail → Nat
  | .low => 0 | .cleared => 1 | .full => 2 | .badBlock => 3

def ListState.toNat : ListState → Nat
  | .isOpen => 0 | .draining => 1 | .closed => 2

/-- The table a code names (R192): none outside 0 to 7. -/
def TableName.ofCode : Nat → Option TableName
  | 0 => some .product | 1 => some .zone | 2 => some .calendar | 3 => some .rule | 4 => some .layout
  | 5 => some .text | 6 => some .deny | 7 => some .site
  | _ => none

/-- The bank a code names (R192): none outside 0 and 1. -/
def Bank.ofCode : Nat → Option Bank
  | 0 => some .a | 1 => some .b
  | _ => none

/-- A table outside the banks (R50). -/
def TableName.single : TableName → Bool
  | .deny | .site => true
  | _ => false

/-- Table capacities (R50). -/
def TableName.capacity : TableName → Nat
  | .product => 64 | .zone => 32 | .calendar => 40 | .rule => 256 | .layout => 384 | .text => 128
  | .deny => 4096 | .site => 128

/-- The code of a card's refusal (R119). -/
def CardRefusal.code : CardRefusal → Code
  | .seqMismatch => .seqMismatch | .balance => .balance | .cardLimit => .cardLimit

/-- The TEAR reason of a card's refusal (R126). -/
def CardRefusal.reason : CardRefusal → TearReason
  | .seqMismatch => .seqMismatch | .balance => .balance | .cardLimit => .cardLimit

end Sys2Proof.Machine
end

