-- ==== Sys2Proof/Machine/Operands.lean ====
section
/-! DEFINITION. What arrives as bytes and what is sent as bytes: byte order, the two checks (R192), table entries as
carried, site settings, frame bodies, and the sections of a bay bus reply. -/

namespace Sys2Proof.Machine

open Sys2Proof

/-! ### Byte order and checks (R192) -/

/-- A number as n bytes, most significant byte first. -/
def beBytes : Nat → Nat → List Byte
  | 0, _ => []
  | n + 1, v => BitVec.ofNat 8 (v / 256 ^ n) :: beBytes n v

/-- The number that bytes spell, most significant byte first. -/
def beNat (bs : List Byte) : Nat := bs.foldl (fun a b => a * 256 + b.toNat) 0

/-- One bit of the CRC-16 register: x^16 + x^12 + x^5 + 1, most significant bit first. -/
def crc16Bit (r : BitVec 16) : BitVec 16 := if r.msb then (r <<< 1) ^^^ 0x1021#16 else r <<< 1

/-- One byte of the CRC-16, its bits taken most significant first. -/
def crc16Byte (r : BitVec 16) (b : Byte) : BitVec 16 :=
  let r := r ^^^ (b.setWidth 16 <<< 8)
  crc16Bit (crc16Bit (crc16Bit (crc16Bit (crc16Bit (crc16Bit (crc16Bit (crc16Bit r)))))))

/-- CRC-16 of section 9.9: the register starts at FFFF and is not inverted. -/
def crc16 (bs : List Byte) : BitVec 16 := bs.foldl crc16Byte 0xFFFF#16

/-- One bit of the CRC-32 register, polynomial 04C11DB7: the data bit enters at the top. -/
def crc32Bit (r : BitVec 32) (d : Bool) : BitVec 32 :=
  if (r.msb ^^ d) then (r <<< 1) ^^^ 0x04C11DB7#32 else r <<< 1

/-- One byte of the CRC-32, its bits taken least significant first. -/
def crc32Byte (r : BitVec 32) (b : Byte) : BitVec 32 :=
  [0, 1, 2, 3, 4, 5, 6, 7].foldl (fun r i => crc32Bit r (b.getLsbD i)) r

/-- The CRC-32 register as it starts. -/
def crc32Start : BitVec 32 := 0xFFFFFFFF#32

/-- The CRC-32 register after more bytes: the running CRC of a stream (R53). -/
def crc32Run (r : BitVec 32) (bs : List Byte) : BitVec 32 := bs.foldl crc32Byte r

/-- The CRC-32 a register stands for: the result is bit-reversed and then inverted. -/
def crc32End (r : BitVec 32) : BitVec 32 := ~~~ r.reverse

/-- CRC-32 of section 9.9. -/
def crc32 (bs : List Byte) : BitVec 32 := crc32End (crc32Run crc32Start bs)

/-- The first n bytes and the rest, when there are that many. -/
def takeBytes (n : Nat) (bs : List Byte) : Option (List Byte × List Byte) :=
  if n ≤ bs.length then some (bs.take n, bs.drop n) else none

/-- The number in bytes i to i + n - 1. -/
def field (bs : List Byte) (i n : Nat) : Nat := beNat ((bs.drop i).take n)

/-- A two's complement number of n bytes (R192: signed amounts and basis points). -/
def signedField (bs : List Byte) (i n : Nat) : Int :=
  let v := field bs i n
  if v < 256 ^ n / 2 then (v : Int) else (v : Int) - (256 ^ n : Nat)

/-! ### Site settings (R51, R192) -/

/-- The value bytes of the entry that names a setting, if one does. -/
def siteValue (es : List (List Byte)) (code sel : Nat) : Option (List Byte) :=
  es.findSome? fun e => if field e 0 1 = code ∧ field e 1 1 = sel then some (e.drop 2) else none

/-- A setting whose value is a number of n bytes, or its default. -/
def siteNat (es : List (List Byte)) (code sel n dflt : Nat) : Nat :=
  match siteValue es code sel with
  | some v => field v 0 n
  | none => dflt

def siteDecimals (es : List (List Byte)) : Nat := siteNat es 0 0 1 2

def siteCurrency (es : List (List Byte)) : List Byte :=
  match siteValue es 1 0 with
  | some v => (v.drop 1).take (field v 0 1)
  | none => []

/-- Coin kind k: its value and pulse count; none when unconfigured, which an entry of value 0 says. DESIGN CHOICE:
the manual gives no byte value for "unconfigured" (notes/assumptions/9.md). -/
def siteKind (es : List (List Byte)) (k : Nat) : Option (Nat × Nat) :=
  match siteValue es 2 k with
  | some v => if field v 0 3 = 0 then none else some (field v 0 3, field v 3 1)
  | none => none

/-- The value of a coin kind, 0 for kind 0 and for a kind not configured (R102). -/
def kindValue (es : List (List Byte)) (k : Nat) : Nat :=
  match siteKind es k with
  | some (v, _) => v
  | none => 0

/-- Tube settings: kind (0 none), capacity, full level, low level. -/
def siteTube (es : List (List Byte)) (b : BayNo) (t : TubeNo) : Nat × Nat × Nat × Nat :=
  match siteValue es 3 (b.val * 4 + t.val) with
  | some v => (field v 0 1, field v 1 1, field v 2 1, field v 3 1)
  | none => (0, 100, 90, 10)

def siteFilter (es : List (List Byte)) : Nat := siteNat es 4 0 1 4
def siteEndGap (es : List (List Byte)) : Nat := siteNat es 5 0 1 100
def siteOverpay (es : List (List Byte)) : Nat := siteNat es 6 0 3 500
def siteCeiling (es : List (List Byte)) : Nat := siteNat es 7 0 3 50000
def siteThreshold (es : List (List Byte)) : Nat := siteNat es 8 0 3 2000
def siteBudget (es : List (List Byte)) : Nat := siteNat es 9 0 3 20000
def siteTearWindow (es : List (List Byte)) : Nat := siteNat es 10 0 1 15
def siteSupervision (es : List (List Byte)) : Nat := siteNat es 11 0 1 5
def siteRate (es : List (List Byte)) : Nat := siteNat es 12 0 3 115200

/-- The site table marks bay b ABSENT. -/
def siteAbsent (es : List (List Byte)) (b : BayNo) : Bool := (siteNat es 13 0 1 0).testBit b.val

/-- The site table marks bay b passes only. -/
def sitePassesOnly (es : List (List Byte)) (b : BayNo) : Bool := (siteNat es 14 0 1 0).testBit b.val

/-! ### Table entries as carried (R25, R31, R133, R192) -/

/-- A PRODUCT entry. Validity 0 is END_OF_DAY. -/
structure Product where
  code       : Nat
  kind       : ProductKind
  name       : Nat
  classes    : Nat
  methods    : Nat
  chainStart : Nat
  validity   : Nat
  usesZones  : Bool
  layout     : Nat
  topMin     : Nat
  topMax     : Nat
  topStep    : Nat
  deriving DecidableEq, Repr

/-- The product kind a code names. -/
def ProductKind.ofCode : Nat → Option ProductKind
  | 0 => some .passPrinted | 1 => some .passOnCard | 2 => some .topup
  | _ => none

/-- A PRODUCT entry (R25, R192). DESIGN CHOICE: a uses_zones byte other than 0 and 1 reads as no (notes/assumptions/9.md). -/
def decodeProduct (e : List Byte) : Option Product :=
  match ProductKind.ofCode (field e 1 1) with
  | some k => some
      { code := field e 0 1, kind := k, name := field e 2 1, classes := field e 3 1, methods := field e 4 1,
        chainStart := field e 5 1, validity := field e 6 2, usesZones := decide (field e 8 1 = 1),
        layout := field e 9 1, topMin := field e 10 3, topMax := field e 13 3, topStep := field e 16 3 }
  | none => none

/-- The product of a code in a bank's PRODUCT table (R25). -/
def BankTables.findProduct (t : BankTables) (code : Nat) : Option Product :=
  t.product.entries.findSome? fun e => if field e 0 1 = code then decodeProduct e else none

/-- A class is among a product's allowed classes (R25). -/
def Product.allowsClass (p : Product) (c : Nat) : Bool := decide (c < 4) && p.classes.testBit c

/-- A method is among a product's allowed methods; for a TOPUP product they are COINS alone (R25). -/
def Product.allowsMethod (p : Product) (m : Method) : Bool :=
  match p.kind with
  | .topup => decide (m = .coins)
  | _ => p.methods.testBit m.toNat

/-- Request fields a TEST names (R28, R31). -/
inductive TestField where | cls | zones | band | dayType | qty | method | holds | amount
  deriving DecidableEq, Repr

/-- Comparisons of a TEST (R35). -/
inductive Comparison where | eq | ne | ge | le
  deriving DecidableEq, Repr

/-- Modes of a ROUND (R39). -/
inductive RoundMode where | up | down | nearest
  deriving DecidableEq, Repr

/-- A rule entry (R31). -/
inductive RuleEntry where
  | base (a : Nat)
  | perZone (a : Nat)
  | add (a : Int)
  | percent (p : Int)
  | round (u : Nat) (mode : RoundMode)
  | cap (a : Nat)
  | floor (a : Nat)
  | test (f : TestField) (c : Comparison) (value skip : Nat)
  | goto (target : Nat)
  | finish
  deriving DecidableEq, Repr

def TestField.ofCode : Nat → Option TestField
  | 0 => some .cls | 1 => some .zones | 2 => some .band | 3 => some .dayType | 4 => some .qty
  | 5 => some .method | 6 => some .holds | 7 => some .amount
  | _ => none

def Comparison.ofCode : Nat → Option Comparison
  | 0 => some .eq | 1 => some .ne | 2 => some .ge | 3 => some .le
  | _ => none

def RoundMode.ofCode : Nat → Option RoundMode
  | 0 => some .up | 1 => some .down | 2 => some .nearest
  | _ => none

/-- A RULE entry as carried; none for an unknown kind, field, comparison or mode. -/
def decodeRule (e : List Byte) : Option RuleEntry :=
  match field e 0 1 with
  | 0 => some (.base (field e 1 3))
  | 1 => some (.perZone (field e 1 3))
  | 2 => some (.add (signedField e 1 3))
  | 3 => some (.percent (signedField e 1 2))
  | 4 => (RoundMode.ofCode (field e 3 1)).map (.round (field e 1 2))
  | 5 => some (.cap (field e 1 3))
  | 6 => some (.floor (field e 1 3))
  | 7 => match TestField.ofCode (field e 1 1), Comparison.ofCode (field e 2 1) with
    | some f, some c => some (.test f c (field e 3 3) (field e 6 1))
    | _, _ => none
  | 8 => some (.goto (field e 1 1))
  | 9 => some .finish
  | _ => none

/-- A receipt step (R133). -/
inductive Step where
  | text (index : Nat)
  | field (f width : Nat) (right : Bool)
  | newline
  | feed (n : Nat)
  | cut
  | ifset (f skip : Nat)
  | stop
  deriving DecidableEq, Repr

/-- A LAYOUT entry as carried; none for an unknown kind or alignment. -/
def decodeStep (e : List Byte) : Option Step :=
  match Machine.field e 0 1 with
  | 0 => some (.text (Machine.field e 1 1))
  | 1 => if Machine.field e 3 1 ≤ 1 then
      some (.field (Machine.field e 1 1) (Machine.field e 2 1) (decide (Machine.field e 3 1 = 1))) else none
  | 2 => some .newline
  | 3 => some (.feed (Machine.field e 1 1))
  | 4 => some .cut
  | 5 => some (.ifset (Machine.field e 1 1) (Machine.field e 2 1))
  | 6 => some .stop
  | _ => none

/-- Step i of layout l (R50): an undecodable or missing entry reads as a STOP, which no validated layout needs. -/
def BankTables.step (t : BankTables) (l i : Nat) : Step :=
  match t.layout.entries[l * Config.layoutSteps + i]? with
  | some e => (decodeStep e).getD .stop
  | none => .stop

/-- The literal of a text index (R50): empty where the table holds none. -/
def BankTables.literal (t : BankTables) (i : Nat) : List Byte :=
  match t.text.entries[i]? with
  | some e => (e.drop 1).take (field e 0 1)
  | none => []

/-- The ring of a zone (R26). -/
def BankTables.ring (t : BankTables) (z : Nat) : Nat :=
  match t.zone.entries[z]? with
  | some e => field e 0 1
  | none => 0

/-- The table of a bank by name. -/
def BankTables.table (t : BankTables) : TableName → Table
  | .zone => t.zone
  | .calendar => t.calendar
  | .rule => t.rule
  | .layout => t.layout
  | .text => t.text
  | _ => t.product

/-- The named table of a bank changes under f. -/
def BankTables.modTable (t : BankTables) (n : TableName) (f : Table → Table) : BankTables :=
  match n with
  | .zone => { t with zone := f t.zone }
  | .calendar => { t with calendar := f t.calendar }
  | .rule => { t with rule := f t.rule }
  | .layout => { t with layout := f t.layout }
  | .text => { t with text := f t.text }
  | _ => { t with product := f t.product }

/-- The six banked table names, in table order (R50). -/
def bankedTables : List TableName := [.product, .zone, .calendar, .rule, .layout, .text]

/-- Every table of the bank is valid (R4, R64). -/
def BankTables.allValid (t : BankTables) : Bool := bankedTables.all fun n => (t.table n).valid

/-- The six versions of a bank, in table order. -/
def BankTables.versions (t : BankTables) : Versions :=
  ⟨t.product.version, t.zone.version, t.calendar.version, t.rule.version, t.layout.version, t.text.version⟩

/-- The mode setting as TABLE_OPEN carries it (R57, R192): nothing when none. -/
def modeBytes : Option PercentMode → List Byte
  | none => []
  | some m => beBytes 1 (m.toNat + 1)

/-- The percent rounding mode a TABLE_OPEN mode byte names; a byte outside 1 to 3 names none. DESIGN CHOICE for a
byte above 3 (notes/assumptions/9.md). -/
def modeOf : Nat → Option PercentMode
  | 1 => some .halfUp | 2 => some .down | 3 => some .up
  | _ => none

/-- The bytes of one entry of a table (R192); a TEXT entry is as long as its first byte says. -/
def entryWidth (n : TableName) (bs : List Byte) : Nat :=
  match n with
  | .product => 19
  | .zone => 1
  | .calendar => 2
  | .rule => 7
  | .layout => 4
  | .text => 1 + field bs 0 1
  | .deny => 4
  | .site => 8

/-- The entries of a TABLE_DATA body: whole entries only, none when bytes are left over (R192). The fuel is at least
the number of entries. -/
def splitEntries (n : TableName) : Nat → List Byte → Option (List (List Byte))
  | _, [] => some []
  | 0, _ => none
  | fuel + 1, bs =>
    match takeBytes (entryWidth n bs) bs with
    | some (e, rest) => (splitEntries n fuel rest).map (e :: ·)
    | none => none

/-! ### Frames down the depot link (R178, R192) -/

/-- The start byte. -/
def startByte : Byte := 0xA5#8

/-- Kind codes of the downstream frames. -/
def kHeartbeat : Nat := 0x01
def kAck : Nat := 0x02
def kAuthReply : Nat := 0x03
def kTableOpen : Nat := 0x10
def kTableData : Nat := 0x11
def kTableClose : Nat := 0x12
def kLoadClear : Nat := 0x13
def kBankSwitch : Nat := 0x14
def kDenyAdd : Nat := 0x15
def kDenyRemove : Nat := 0x16
def kSetTime : Nat := 0x20
def kQuery : Nat := 0x21
def kBayControl : Nat := 0x22
def kTubeSet : Nat := 0x23
def kHold : Nat := 0x24
def kReleaseHold : Nat := 0x25
def kNoticeMask : Nat := 0x26
def kLinkReset : Nat := 0x27

/-- The kind codes that name a downstream kind. -/
def downKinds : List Nat :=
  [kHeartbeat, kAck, kAuthReply, kTableOpen, kTableData, kTableClose, kLoadClear, kBankSwitch, kDenyAdd,
   kDenyRemove, kSetTime, kQuery, kBayControl, kTubeSet, kHold, kReleaseHold, kNoticeMask, kLinkReset]

/-- The number of bytes of a whole frame with the given bytes so far, once its length byte has arrived. -/
def frameLength (bs : List Byte) : Nat := field bs 1 1 + 7

/-- The check of a whole frame covers its bytes from the length byte to the last body byte. -/
def frameGood (bs : List Byte) : Bool :=
  decide (crc16 ((bs.drop 1).take (bs.length - 3)) = BitVec.ofNat 16 (field bs (bs.length - 2) 2))

/-- The frame that whole bytes spell. -/
def frameOf (bs : List Byte) : Frame :=
  ⟨BitVec.ofNat 8 (field bs 2 1), BitVec.ofNat 16 (field bs 3 2), (bs.drop 5).take (bs.length - 7)⟩

/-- The bytes of a depot link frame. -/
def frameBytes (kind : Nat) (tag : Nat) (body : List Byte) : List Byte :=
  let covered := beBytes 1 body.length ++ beBytes 1 kind ++ beBytes 2 tag ++ body
  startByte :: covered ++ beBytes 2 (crc16 covered).toNat

/-! ### Replies on the bay bus (R192, R196) -/

/-- A reply as judged: its address, and its sections with the key event last. -/
structure BusReply where
  address   : Nat
  delivered : Option Nat
  status    : Option (Paper × Bool × Nat)
  taken     : Option Nat
  answer    : Option (Nat × CardAnswer)
  key       : Option KeyEvent
  deriving DecidableEq, Repr

def Paper.ofCode : Nat → Option Paper
  | 0 => some .ok | 1 => some .low | 2 => some .out
  | _ => none

def CardRefusal.ofCode : Nat → Option CardRefusal
  | 0 => some .seqMismatch | 1 => some .balance | 2 => some .cardLimit
  | _ => none

/-- A key event section and the bytes behind it. DESIGN CHOICE: bits 3 to 7 of the flags of a SELECT are ignored
(notes/assumptions/9.md). -/
def parseKey (bs : List Byte) : Option (KeyEvent × List Byte) :=
  match bs with
  | [] => none
  | c :: r =>
    match c.toNat with
    | 0 => (takeBytes 9 r).map fun (v, r) =>
        let flags := field v 3 1
        (.select
          { product := field v 0 1, cls := field v 1 1, quantity := field v 2 1, cardIntended := flags.testBit 0,
            zones := if flags.testBit 1 then some (field v 4 1, field v 5 1) else none,
            topup := if flags.testBit 2 then some (field v 6 3) else none }, r)
    | 1 => match takeBytes 2 r with
        | some (v, r) =>
          match field v 0 1, field v 1 1 with
          | 0, 0 => some (.confirm .coins false, r)
          | 0, 1 => some (.confirm .coins true, r)
          | 1, 0 => some (.confirm .purse false, r)
          | 1, 1 => some (.confirm .purse true, r)
          | _, _ => none
        | none => none
    | 2 => some (.cancel, r)
    | 3 => some (.reprint, r)
    | _ => none

/-- One pass slot of a CARD answer: product 0 marks it empty. -/
def parseSlot (bs : List Byte) : Option PassSlot :=
  if field bs 0 1 = 0 then none else some ⟨field bs 0 1, field bs 1 2, field bs 3 2⟩

/-- A card answer section and the bytes behind it. DESIGN CHOICE: a balance above the 999,999 of R108 makes no reply bad
and is taken as it stands (notes/assumptions/58.md). -/
def parseAnswer (bs : List Byte) : Option ((Nat × CardAnswer) × List Byte) :=
  match takeBytes 2 bs with
  | some (h, r) =>
    let mark := field h 0 1
    match field h 1 1 with
    | 0 => (takeBytes 29 r).map fun (v, r) =>
        ((mark, .card
          { serial := BitVec.ofNat 32 (field v 0 4), balance := field v 4 3, pseq := BitVec.ofNat 16 (field v 7 2),
            slots := #v[parseSlot (v.drop 9), parseSlot (v.drop 14), parseSlot (v.drop 19), parseSlot (v.drop 24)] }),
          r)
    | 1 => some ((mark, .noCard), r)
    | 2 => (takeBytes 5 r).map fun (v, r) => ((mark, .ok (field v 0 3) (BitVec.ofNat 16 (field v 3 2))), r)
    | 3 => match takeBytes 1 r with
        | some (v, r) => (CardRefusal.ofCode (field v 0 1)).map fun c => ((mark, .refused c), r)
        | none => none
    | _ => none
  | none => none

/-- A printer status section and the bytes behind it. -/
def parseStatus (bs : List Byte) : Option ((Paper × Bool × Nat) × List Byte) :=
  match takeBytes 3 bs with
  | some (v, r) =>
    match Paper.ofCode (field v 0 1) with
    | some p => if field v 1 1 ≤ 1 then some ((p, decide (field v 1 1 = 1), field v 2 1), r) else none
    | none => none
  | none => none

/-- A one-byte mark section. -/
def parseMark (bs : List Byte) : Option (Nat × List Byte) :=
  (takeBytes 1 bs).map fun (v, r) => (field v 0 1, r)

/-- A section that the mask names, or its absence. -/
def parseIf {α : Type} (present : Bool) (p : List Byte → Option (α × List Byte)) (bs : List Byte) :
    Option (Option α × List Byte) :=
  if present then (p bs).map fun (a, r) => (some a, r) else some (none, bs)

/-- The reply that bytes spell: frame kind REPLY, a matching CRC-16 and sections of the lengths and codes of the
layout, with nothing left over; none otherwise (R196). -/
def parseReply (bs : List Byte) : Option BusReply :=
  if bs.length < 5 then none
  else
    let covered := bs.take (bs.length - 2)
    let mask := field bs 2 1
    if crc16 covered ≠ BitVec.ofNat 16 (field bs (bs.length - 2) 2) then none
    else if field bs 1 1 ≠ 2 ∨ 32 ≤ mask then none
    else do
      let (key, r) ← parseIf (mask.testBit 0) parseKey (covered.drop 3)
      let (taken, r) ← parseIf (mask.testBit 1) parseMark r
      let (answer, r) ← parseIf (mask.testBit 2) parseAnswer r
      let (status, r) ← parseIf (mask.testBit 3) parseStatus r
      let (delivered, r) ← parseIf (mask.testBit 4) parseMark r
      if r = [] then some ⟨field bs 0 1, delivered, status, taken, answer, key⟩ else none

end Sys2Proof.Machine
end

