-- ==== Sys2Proof/Machine/Layouts.lean ====
section
/-! DEFINITION. The byte layouts the part sends: journal records (R152 to R154), upstream frames and notices
(section 9.5, R192), and bay bus polls (R195). -/

namespace Sys2Proof.Machine

open Sys2Proof

/-- A calendar time in five bytes; the unset mark adds 128 to the second byte (R192). -/
def calendarBytes (c : Calendar) (isSet : Bool) : List Byte :=
  beBytes 2 c.day ++ beBytes 2 c.minute ++ beBytes 1 (c.second + 128 * bit (!isSet))

/-- An absent bay is 255 (R192). -/
def bayByte : Option BayNo → Nat
  | some b => b.val
  | none => 255

/-! ### Journal records -/

/-- The kind codes of records (R192). -/
def Body.kindCode : Body → Nat
  | .sale _ => 0 | .adjust .. => 1 | .tear .. => 2 | .box _ => 3 | .table .. => 4 | .link .. => 5

/-- The kind counts a BOX record carries: each kind above 0, in ascending kind order (R102). -/
def BoxRecord.pairs (r : BoxRecord) : List (Nat × Nat) :=
  ((List.range 9).map fun k => (k, r.counts.toList.getD k 0)).filter fun p => 0 < p.2

/-- The length of a record in units (R152). -/
def Body.units : Body → Nat
  | .sale s => 3 + bit (decide (3 < s.coins.length)) + bit s.card.isSome
      + bit (s.pass.isSome || s.topup.isSome || s.authRef.isSome)
  | .box r => if r.pairs.length ≤ 3 then 2 else if r.pairs.length ≤ 8 then 3 else 4
  | _ => 2

/-- The body bytes of a SALE (R153, R192). -/
def SaleBody.bytes (s : SaleBody) : List Byte :=
  beBytes 1 s.product ++ beBytes 1 s.cls ++ beBytes 1 s.quantity ++ beBytes 1 s.zones ++ beBytes 1 s.bank.toNat
  ++ beBytes 2 s.productVersion ++ beBytes 2 s.ruleVersion ++ beBytes 3 s.price ++ beBytes 1 s.evalFlags.toNat
  ++ beBytes 1 s.method.toNat ++ beBytes 3 s.tendered ++ beBytes 1 s.overflow ++ beBytes 3 s.changeDue
  ++ beBytes 1 (setBits [s.offline, s.card.isSome, s.pass.isSome, s.topup.isSome, s.authRef.isSome])
  ++ beBytes 1 s.coins.length ++ s.coins.flatMap (fun (k, n) => beBytes 1 k ++ beBytes 1 n)
  ++ (match s.card with
      | some (serial, balance, outcome) =>
        beBytes 4 serial.toNat ++ beBytes 3 balance ++ beBytes 1 outcome.toNat
      | none => [])
  ++ (match s.pass with
      | some p => beBytes 1 p.slot ++ beBytes 2 p.validFrom ++ beBytes 2 p.validTo
      | none => [])
  ++ (match s.topup with
      | some a => beBytes 3 a
      | none => [])
  ++ (match s.authRef with
      | some r => beBytes 4 r.toNat
      | none => [])

/-- The six versions, in table order. -/
def Versions.bytes (v : Versions) : List Byte :=
  beBytes 2 v.product ++ beBytes 2 v.zone ++ beBytes 2 v.calendar ++ beBytes 2 v.rule ++ beBytes 2 v.layout
  ++ beBytes 2 v.text

/-- The body bytes of a record (R153, R154, R192). -/
def Body.bytes : Body → List Byte
  | .sale s => s.bytes
  | .adjust reason amount reference => beBytes 1 reason.toNat ++ beBytes 3 amount ++ beBytes 4 (reference.getD 0)
  | .tear resolution serial op amount owner resolver reason =>
    beBytes 1 resolution.toNat ++ beBytes 4 serial.toNat ++ beBytes 1 op.toNat ++ beBytes 3 amount
    ++ beBytes 4 (owner.getD 0) ++ beBytes 1 (bayByte resolver) ++ beBytes 1 reason.toNat
  | .box r =>
    beBytes 4 r.period.toNat ++ beBytes 3 r.total ++ beBytes 1 (bit r.merged) ++ beBytes 1 r.pairs.length
    ++ r.pairs.flatMap (fun (k, n) => beBytes 1 k ++ beBytes 2 n)
  | .table bank versions time => beBytes 1 bank.toNat ++ versions.bytes ++ calendarBytes time true
  | .link online time transitions => beBytes 1 (bit online) ++ calendarBytes time true ++ beBytes 2 transitions

/-- A record as stored (R152, R192): header, body, zeros up to the CRC-16, which takes the last two bytes. -/
def recordBytes (sequence : Nat) (bay : Option BayNo) (body : Body) (time : Calendar) (isSet : Bool) : List Byte :=
  let front := beBytes 4 sequence ++ beBytes 1 body.kindCode ++ beBytes 1 (bayByte bay) ++ beBytes 1 body.units
    ++ calendarBytes time isSet ++ body.bytes
  let covered := front ++ List.replicate (body.units * Config.unitBytes - 2 - front.length) 0#8
  covered ++ beBytes 2 (crc16 covered).toNat

/-- Bytes cut into units of 16; the last unit holds what remains. The fuel is at least the number of units. -/
def cutUnits : Nat → List Byte → List (List Byte)
  | _, [] => []
  | 0, _ => []
  | fuel + 1, bs => bs.take Config.unitBytes :: cutUnits fuel (bs.drop Config.unitBytes)

/-- What the scan and the forwarding find at a record start (R152, R170): the record that units spell, with its
sequence and length, when it is whole and its CRC-16 matches. -/
def recordAt (units : List (List Byte)) : Option (Nat × Nat × List Byte) :=
  match units with
  | [] => none
  | u :: _ =>
    let len := field u 6 1
    if len < 2 ∨ 8 < len ∨ units.length < len then none
    else
      let bs := (units.take len).flatten
      if bs.length ≠ len * Config.unitBytes then none
      else if crc16 (bs.take (bs.length - 2)) = BitVec.ofNat 16 (field bs (bs.length - 2) 2) then
        some (field bs 0 4, len, bs)
      else none

/-- The valid records of a block's programmed units in order, and whether a torn record ends them (R170). The fuel is
at least the number of records. -/
def blockRecords : Nat → List (List Byte) → List (Nat × List Byte) × Bool
  | _, [] => ([], false)
  | 0, _ => ([], true)
  | fuel + 1, units =>
    match recordAt units with
    | some (q, len, bs) =>
      let (rs, torn) := blockRecords fuel (units.drop len)
      ((q, bs) :: rs, torn)
    | none => ([], true)

/-! ### Frames up the depot link -/

/-- Notice kind codes, in the order of the notice table of section 9.5. -/
def Notice.code : Notice → Nat
  | .door .. => 0 | .box .. => 1 | .jam .. => 2 | .tubeLow .. => 3 | .paper .. => 4 | .terminal .. => 5
  | .coinFault .. => 6 | .unvalued .. => 7 | .tear .. => 8 | .lateAuth .. => 9 | .journalLow .. => 10
  | .retainedLost => 11 | .timeUnset => 12

/-- The bay a notice names, or none. -/
def Notice.bay : Notice → Option BayNo
  | .door b _ _ => some b
  | .box b _ _ => some b
  | .jam b _ => some b
  | .tubeLow b _ _ => some b
  | .paper b _ => some b
  | .terminal b _ => some b
  | .coinFault b _ => some b
  | .unvalued b _ _ => some b
  | .tear b _ _ => some b
  | .lateAuth _ _ => none
  | .journalLow _ _ => none
  | .retainedLost => none
  | .timeUnset => none

/-- The detail bytes of a notice. DEDUCED for the details section 9.9 does not lay out field by field: each value in
the encoding of R192, in the order the notice table names them (notes/assumptions/10.md). -/
def Notice.detail : Notice → List Byte
  | .door _ boxDoor isOpen => beBytes 1 (bit boxDoor) ++ beBytes 1 (bit isOpen)
  | .box _ inserted period => beBytes 1 (bit inserted) ++ beBytes 4 period.toNat
  | .jam _ t => beBytes 1 t.val
  | .tubeLow _ t n => beBytes 1 t.val ++ beBytes 1 n
  | .paper _ p => beBytes 1 p.toNat
  | .terminal _ t => beBytes 1 t.toNat
  | .coinFault _ cleared => beBytes 1 (bit cleared)
  | .unvalued _ n m => beBytes 1 n ++ beBytes 1 (bit m)
  | .tear _ serial event =>
    beBytes 4 serial.toNat ++ beBytes 1 (match event with
      | none => 0
      | some r => r.toNat + 1)
  | .lateAuth r d => beBytes 2 r.toNat ++ beBytes 1 (bit d)
  | .journalLow d n => beBytes 1 d.toNat ++ beBytes 1 n
  | .retainedLost => []
  | .timeUnset => []

/-- The bytes of a frame of the message queue; AUTH_REQ and NOTICE carry tag 0 (R184). -/
def Message.bytes : Message → List Byte
  | .authReq reference bay serial amount balance =>
    frameBytes 0x83 0 (beBytes 2 reference.toNat ++ beBytes 1 bay.val ++ beBytes 4 serial.toNat ++ beBytes 3 amount
      ++ beBytes 3 balance)
  | .notice n => frameBytes 0x84 0 (beBytes 1 n.code ++ beBytes 1 (bayByte n.bay) ++ n.detail)

/-- The bytes of a REPLY frame: status, then reply data (R180). -/
def Reply.bytes (r : Reply) : List Byte := frameBytes 0x81 r.tag.toNat (beBytes 1 r.status.toNat ++ r.data)

/-- The bytes of a REC frame, tagged with the low 16 bits of its sequence (R184). -/
def RecFrame.frame (r : RecFrame) : List Byte := frameBytes 0x82 (r.sequence % 65536) r.bytes

/-- The bytes on the upstream line while a frame is being sent from a source that still holds it (R183). -/
def Link.lineBytes (l : Link) : Option (List Byte) :=
  match l.sending with
  | some ⟨.reply, true⟩ => l.replies.head?.map Reply.bytes
  | some ⟨.message, true⟩ => l.messages.head?.map Message.bytes
  | some ⟨.record, true⟩ => l.record.map RecFrame.frame
  | _ => none

/-! ### Amounts and numbers as characters (R135) -/

/-- Decimal digits of a number without leading zeros; the fuel bounds their number. PRESUMED: digits and every other
character the part writes have their ASCII codes (notes/assumptions/48.md). -/
def digitsAux : Nat → Nat → List Byte → List Byte
  | 0, _, acc => acc
  | fuel + 1, n, acc =>
    let acc := BitVec.ofNat 8 (48 + n % 10) :: acc
    if n < 10 then acc else digitsAux fuel (n / 10) acc

/-- Decimal digits of a number with no leading zeros; 0 is written 0. -/
def digits (n : Nat) : List Byte := digitsAux 20 n []

/-- Exactly k decimal digits, leading zeros kept. -/
def fixedDigits (k n : Nat) : List Byte :=
  let d := digits (n % 10 ^ k)
  List.replicate (k - d.length) 48#8 ++ d

/-- The natural form of an amount (R135). PRESUMED: the space and the full stop in ASCII (notes/assumptions/48.md). -/
def amountForm (decimals : Nat) (currency : List Byte) (n : Nat) : List Byte :=
  (if currency = [] then [] else currency ++ [32#8])
  ++ (if decimals = 0 then digits n
      else digits (n / 10 ^ decimals) ++ [46#8] ++ fixedDigits decimals n)

/-! ### Bay bus polls -/

/-- A text on a line of 20 characters: cut to its leftmost 20, or padded on the right with spaces (R200). PRESUMED: the
space in ASCII (notes/assumptions/48.md). -/
def fit20 (text : List Byte) : List Byte := (List.range 20).map fun i => text.getD i 32#8

/-- What stands over the state's own display, as a number for `Config.screenText`. -/
def Overlay.number : Overlay → Nat
  | .none => 0
  | .pleaseWait => 1
  | .refusal c => 2 + c.toNat

/-- Line 1 (n = 0) or 2 (n = 1) of a display (R19, R41, R200). -/
def Screen.line (s : Screen) (n : Nat) : List Byte :=
  fit20 (Config.screenText n s.face.toNat s.overlay.number (s.flags.map EvalFlags.toNat)
    ((s.name.getD []) :: s.amounts.map (amountForm s.decimals s.currency)))

/-- The card command section of a poll (R192). DESIGN CHOICE: an UPDATE without a pass part sends 0 behind its slot byte 255
(notes/assumptions/51.md). -/
def CardCommand.bytes : CardCommand → List Byte
  | .read => beBytes 1 0
  | .write .credit serial amount expected _ =>
    beBytes 1 1 ++ beBytes 4 serial.toNat ++ beBytes 3 amount ++ beBytes 2 expected.toNat
  | .write .update serial amount expected pass =>
    beBytes 1 2 ++ beBytes 4 serial.toNat ++ beBytes 3 amount ++ beBytes 2 expected.toNat
    ++ (match pass with
        | some p => beBytes 1 p.slot ++ beBytes 1 p.product ++ beBytes 2 p.validFrom ++ beBytes 2 p.validTo
        | none => beBytes 1 255 ++ beBytes 1 0 ++ beBytes 2 0 ++ beBytes 2 0)

/-- The bytes of a poll (R192, R195). -/
def Poll.bytes (p : Poll) : List Byte :=
  let covered := beBytes 1 p.bay.val ++ beBytes 1 1
    ++ beBytes 1 (setBits [p.display.isSome, p.tone.isSome, p.display.isSome, p.card.isSome, p.chunk.isSome])
    ++ (match p.display with
        | some (s, _) => s.line 0 ++ s.line 1
        | none => [])
    ++ (match p.tone with
        | some t => beBytes 1 t.toNat
        | none => [])
    ++ (match p.display with
        | some (_, h) => beBytes 1 h.toNat
        | none => [])
    ++ (match p.card with
        | some (m, c) => beBytes 1 m ++ c.bytes
        | none => [])
    ++ (match p.chunk with
        | some (m, bs) => beBytes 1 m ++ beBytes 1 bs.length ++ bs
        | none => [])
  covered ++ beBytes 2 (crc16 covered).toNat

end Sys2Proof.Machine
end

