-- ==== Sys2Proof/Machine/Retained.lean ====
section
/-! DEFINITION. The retained area (R205): its items, the encoding its check is taken over, and the rewriting of the check
with each change. -/

namespace Sys2Proof.Machine

open Sys2Proof

/-! ### Encodings of section 9.9 (R192) -/

def num1 (n : Nat) : List Byte := beBytes 1 n
def num2 (n : Nat) : List Byte := beBytes 2 n
def num4 (n : Nat) : List Byte := beBytes 4 n
def amount3 (n : Nat) : List Byte := beBytes 3 n
def yesNo (b : Bool) : List Byte := beBytes 1 (bit b)
def text1 (t : List Byte) : List Byte := beBytes 1 t.length ++ t

/-- An optional field in query data. -/
def optField {α : Type} (f : α → List Byte) (o : Option α) : List Byte :=
  match o with
  | some a => 1#8 :: f a
  | none => [0#8]

/-- A list in query data. -/
def listField {α : Type} (f : α → List Byte) (l : List α) : List Byte := num2 l.length ++ l.flatMap f

/-- A tube record. -/
def Tube.bytes (t : Tube) : List Byte :=
  num1 t.kind ++ num1 t.capacity ++ num1 t.fullLevel ++ num1 t.lowLevel ++ num1 t.count ++ num1 t.state.toNat
  ++ num2 t.extra

/-- A box record with its pending closure slot. DESIGN CHOICE: a closure is written as the body of its BOX record, its
requested mark behind it (notes/assumptions/10.md). -/
def Box.bytes (x : Box) : List Byte :=
  num4 x.period.toNat ++ yesNo (!x.present) ++ x.counts.toList.flatMap num2 ++ x.holds.toList.flatMap num2
  ++ listField (fun (c : Closure) => (Body.box c.record).bytes ++ yesNo c.requested) x.slot

/-- The owner of a tear entry, with its SALE sequence or 0. -/
def TearOwner.bytes : TearOwner → List Byte
  | .openTxn => num1 0 ++ num4 0
  | .sale q => num1 1 ++ num4 q
  | .nobody => num1 2 ++ num4 0

/-- A tear entry with all its fields. -/
def Tear.bytes (t : Tear) : List Byte :=
  num4 t.serial.toNat ++ num1 t.bay.val ++ num1 t.op.toNat ++ amount3 t.amount
  ++ optField (fun (p : PassPart) => num1 p.slot ++ num1 p.product ++ num2 p.validFrom ++ num2 p.validTo) t.pass
  ++ num2 t.seqBefore.toNat ++ amount3 t.balanceBefore ++ calendarBytes t.created true ++ t.owner.bytes
  ++ yesNo t.closing

/-! ### The area and its check (R205) -/

/-- The items of the retained area, in the order of R205; the pending closure slots stand in the box records. -/
structure Retained where
  tubes        : Vector (Vector Tube 4) 8
  boxes        : Vector Box 8
  tears        : List Tear
  offlineTotal : Nat
  acked        : Nat
  isSet        : Bool
  deriving DecidableEq, Repr

/-- The items as they stand. -/
def State.retained (s : State) : Retained :=
  ⟨s.bays.map Bay.tubes, s.bays.map Bay.box, s.card.tears, s.card.offlineTotal, s.journal.acked, s.time.isSet⟩

/-- The bytes the check is taken over. DESIGN CHOICE: each item in its encoding of R192, in the order of R205
(notes/assumptions/5.md). -/
def Retained.bytes (r : Retained) : List Byte :=
  r.tubes.toList.flatMap (fun v => v.toList.flatMap Tube.bytes) ++ r.boxes.toList.flatMap Box.bytes
  ++ listField Tear.bytes r.tears ++ amount3 r.offlineTotal ++ num4 r.acked ++ yesNo r.isSet

/-- The one CRC-32 check over all the items. -/
def Retained.crc (r : Retained) : BitVec 32 := crc32 r.bytes

/-- The stored check agrees with the items. -/
def State.areaGood (s : State) : Prop := s.check = s.retained.crc

/-- The check is written over the items as they stand (R205). -/
def State.seal (s : State) : State := { s with check := s.retained.crc }

/-- What a step from s to t leaves: a change to an item has rewritten the check with it, in one step (R205). -/
def State.reseal (s t : State) : State :=
  { t with check := if t.retained = s.retained then s.check else t.retained.crc }

/-- The answer of a command that may change an item of the retained area. -/
def done (s t : State) : Out := .next (s.reseal t)

/-- Before start-up has ended no line is sampled, no pulse is taken, and no unit acts (R206, R208). -/
def State.whenUp (s t : State) : State := if s.up then t else s

end Sys2Proof.Machine
end

