-- ==== Sys2Proof/Machine/LinkOps.lean ====
section
/-! DEFINITION. The Depot Link Port's shared operations: the transmitter (R183), replies (R180), notices (R185, R186),
the message queue (R184), the record place (R166, R184) and the port's part in a link transition (R189, R190). -/

namespace Sys2Proof.Machine

open Sys2Proof

/-- The port's state changes under f. -/
def State.modLink (s : State) (f : Link → Link) : State := { s with link := f s.link }

/-- The port's counters change under f. -/
def Link.modCounters (l : Link) (f : PortCounters → PortCounters) : Link := { l with counters := f l.counters }

/-- The order REPLY, MESSAGE, RECORD, REPLY (R183). -/
def Source.after : Source → Source
  | .reply => .message
  | .message => .record
  | .record => .reply

/-- A source holds a frame (R183). -/
def Link.holds (l : Link) : Source → Bool
  | .reply => !l.replies.isEmpty
  | .message => !l.messages.isEmpty
  | .record => l.record.isSome

/-- The first source that holds a frame, looked for from the transmit turn on (R183). -/
def Link.pick (l : Link) : Option Source :=
  [l.turn, l.turn.after, l.turn.after.after].find? l.holds

/-- The transmitter begins a frame when the line is idle and a source holds one (R183). The forward mark takes a
record's sequence when its frame is begun (R166). -/
def Link.kick (l : Link) : Link :=
  match l.sending, l.pick with
  | none, some src =>
    { l with
      sending := some ⟨src, true⟩
      turn := src.after
      forward := match src, l.record with
        | .record, some r => r.sequence
        | _, _ => l.forward }
  | _, _ => l

/-- A REPLY is placed at the tail of the reply queue (R179). -/
def Link.reply (l : Link) (tag : BitVec 16) (status : Code) (data : List Byte) (after : AfterReply) : Link :=
  Link.kick { l with replies := l.replies ++ [⟨tag, status, data, after⟩] }

/-- A kind is in the notice mask (R187). -/
def Link.inMask (l : Link) (n : Notice) : Bool := l.noticeMask.getLsbD n.code

/-- Start-up notices leave the list while the message queue holds fewer than 8 frames (R186). -/
def drainInto (keep : Notice → Bool) : List Notice → List Message → List Notice × List Message
  | [], ms => ([], ms)
  | n :: ns, ms =>
    if ms.length < Config.noticeRoom then
      drainInto keep ns (if keep n then ms ++ [.notice n] else ms)
    else (n :: ns, ms)

/-- The start-up notice list drains and, when empty, becomes CLOSED (R186). -/
def Link.drain (l : Link) : Link :=
  match l.listState with
  | .draining =>
    let r := drainInto l.inMask l.noticeList l.messages
    { l with noticeList := r.1, messages := r.2, listState := if r.1 = [] then .closed else .draining }
  | _ => l

/-- The notices dropped counter grows by n (R184, R186). -/
def Link.dropNotices (l : Link) (n : Nat) : Link :=
  l.modCounters fun c => { c with dropped := min (c.dropped + n) Config.counterMax }

/-- A notice joins the start-up notice list, or is dropped and counted when the list holds 24 (R185). -/
def Link.listNotice (l : Link) (n : Notice) : Link :=
  if l.noticeList.length < Config.noticeListPlaces then { l with noticeList := l.noticeList ++ [n] }
  else l.dropNotices 1

/-- A notice handed to the port (R185). -/
def Link.notify (l : Link) (n : Notice) : Link :=
  match l.online, l.listState with
  | false, .isOpen => l.listNotice n
  | true, .draining => ((l.listNotice n).drain).kick
  | true, .closed =>
    if l.inMask n then
      if l.messages.length < Config.noticeRoom then Link.kick { l with messages := l.messages ++ [.notice n] }
      else l.dropNotices 1
    else l
  | _, _ => l

/-- A notice handed to the port by any block (R185). -/
def notify (n : Notice) (s : State) : State := s.modLink (·.notify n)

/-- A notice, if there is one. -/
def notify? (n : Option Notice) (s : State) : State :=
  match n with
  | some n => notify n s
  | none => s

/-- An AUTH_REQ joins the message queue at the tail (R184). -/
def Link.authReq (l : Link) (reference : BitVec 16) (bay : BayNo) (serial : BitVec 32) (amount balance : Nat) : Link :=
  Link.kick { l with messages := l.messages ++ [.authReq reference bay serial amount balance] }

/-- A message is the AUTH_REQ of a reference. -/
def Message.isAuth (reference : BitVec 16) : Message → Bool
  | .authReq r _ _ _ _ => r == reference
  | .notice _ => false

/-- The AUTH_REQ of an ended wait is removed from the queue unless its frame has begun (R184). -/
def Link.dropAuth (l : Link) (reference : BitVec 16) : Link :=
  match l.sending, l.messages with
  | some ⟨.message, true⟩, m :: ms =>
    Link.kick (Link.drain { l with messages := m :: ms.filter fun m => !m.isAuth reference })
  | _, ms => Link.kick (Link.drain { l with messages := ms.filter fun m => !m.isAuth reference })

/-- The valid records of the blocks that hold readable ones (R166). -/
def Journal.records (j : Journal) : List (Nat × List Byte) :=
  (j.rows.toList.zip j.store.toList).flatMap fun (r, b) =>
    match r.state with
    | .active | .full => (blockRecords (Config.recordUnits + 1) b.units).1
    | _ => []

/-- Of two candidates the one of lower sequence. -/
def lowerRecord (f : Nat) (best : Option (Nat × List Byte)) (r : Nat × List Byte) : Option (Nat × List Byte) :=
  if r.1 ≤ f then best
  else match best with
    | some q => if r.1 < q.1 then some r else best
    | none => some r

/-- The valid record with the lowest sequence above the forward mark (R166). -/
def Journal.nextRecord (j : Journal) (f : Nat) : Option (Nat × List Byte) :=
  if f < j.last then j.records.foldl (lowerRecord f) none else none

/-- While ONLINE and the place is empty, the next record to forward fills the record place (R166, R184). -/
def forwardNext (s : State) : State :=
  match s.link.online, s.link.record with
  | true, none =>
    match s.journal.nextRecord s.link.forward with
    | some (q, bs) => s.modLink fun l => Link.kick { l with record := some ⟨q, bs⟩ }
    | none => s
  | _, _ => s

/-- A transition is counted (R176, R189, R190). -/
def Link.countTransition (l : Link) : Link := { l with transitions := satInc l.transitions }

/-- The port's part of becoming OFFLINE (R184, R186, R189): the timer stops, unsent messages and the unsent record
are discarded, and a DRAINING list is dropped and CLOSED. -/
def Link.offline (l : Link) : Link :=
  let keepMessage := l.sending = some ⟨.message, true⟩
  let keepRecord := l.sending = some ⟨.record, true⟩
  let l := match l.listState with
    | .draining => { (l.dropNotices l.noticeList.length) with noticeList := [], listState := .closed }
    | _ => l
  { l with
    online := false
    timer := none
    messages := if keepMessage then l.messages.take 1 else []
    record := if keepRecord then l.record else none }

/-- The port's part of becoming ONLINE (R168, R186, R190). DESIGN CHOICE: the start-up list drains, and an idle transmitter
begins a NOTICE of it, before the record place is filled (notes/assumptions/44.md). -/
def Link.goOnline (l : Link) (now : Ms) (limit acked : Nat) : Link :=
  let l := { l with online := true, timer := some (now, limit), forward := acked }
  let l := match l.listState with
    | .isOpen => Link.drain { l with listState := .draining }
    | _ => l
  l.kick

/-- The supervision limit in milliseconds (R51, R189). -/
def State.supervisionLimit (s : State) : Nat := siteSupervision s.site * 1000

end Sys2Proof.Machine
end

