-- ==== Sys2Proof/Machine/JournalOps.lean ====
section
/-! DEFINITION. The Journal Unit's shared operations: the append queue (R155), the program and erase engine (R156 to
R162), the reserve (R163) and the start-up scan (R169 to R172). -/

namespace Sys2Proof.Machine

open Sys2Proof

/-- The Journal Unit's state changes under f. -/
def State.modJournal (s : State) (f : Journal → Journal) : State := { s with journal := f s.journal }

/-- Row i of the block table; an ERASED row outside 0 to 31. -/
def Journal.row (j : Journal) (i : Nat) : Row := j.rows.toList.getD i .erased

/-- Block i of the store; an erased block outside 0 to 31. -/
def Journal.block (j : Journal) (i : Nat) : Block := j.store.toList.getD i .erased

/-- The store's canonical form: a programmed unit holds 1 to 16 bytes, fewer than 16 where a loss of supply cut it (R150,
R170); a unit not listed is erased. -/
def Journal.wf (j : Journal) : Bool :=
  j.store.toList.all fun b => b.units.all fun u => decide (1 ≤ u.length) && decide (u.length ≤ Config.unitBytes)

/-- Row i changes under f. -/
def Journal.modRow (j : Journal) (i : Nat) (f : Row → Row) : Journal :=
  if h : i < 32 then { j with rows := j.rows.set i (f j.rows[i]) } else j

/-- Block i of the store changes under f. -/
def Journal.modBlock (j : Journal) (i : Nat) (f : Block → Block) : Journal :=
  if h : i < 32 then { j with store := j.store.set i (f j.store[i]) } else j

/-- The number of blocks in state ERASED (R151). -/
def Journal.erasedCount (j : Journal) : Nat := (j.rows.toList.filter fun r => r.state = .erased).length

/-- The lowest-numbered block in a state. -/
def Journal.lowest (j : Journal) (st : BlockState) : Option Nat :=
  firstIndex (fun _ r => decide (r.state = st)) 0 j.rows.toList

/-- A block is on the hold list (R164). -/
def Journal.held (j : Journal) (i : Nat) : Bool := j.holdList.contains i

/-- The notice of a change of the erased count (R163). -/
def reserveNotice (before after : Nat) (full : Bool) : Option Notice :=
  if before = Config.reserveBlocks ∧ after + 1 = before then some (.journalLow .low after)
  else if before + 1 = Config.reserveBlocks ∧ after = Config.reserveBlocks ∧ full = false then
    some (.journalLow .cleared after)
  else none

/-! ### The append queue (R155) -/

/-- A LINK request. -/
def Append.isLink (r : Append) : Bool :=
  match r.body with
  | .link .. => true
  | _ => false

/-- A TABLE request. -/
def Append.isTable (r : Append) : Bool :=
  match r.body with
  | .table .. => true
  | _ => false

/-- A SALE or ADJUST request, which a link reset keeps (R174). -/
def Append.isKept (r : Append) : Bool :=
  match r.body with
  | .sale _ => true
  | .adjust .. => true
  | _ => false

/-- A LINK request on the wait list takes a later transition: its state and time, and its count grows by 1 (R155). -/
def Append.mergeLink (online : Bool) (time : Calendar) (r : Append) : Append :=
  match r.body with
  | .link _ _ n => { r with body := .link online time (satInc n) }
  | _ => r

/-- A TABLE request on the wait list takes a later switch (R67). -/
def Append.mergeTable (body : Body) (r : Append) : Append :=
  if r.isTable then { r with body := body } else r

/-- A request arrives: it joins the queue at once while that holds fewer than 16, and the wait list otherwise; a
LINK or TABLE request that finds one of its kind waiting is merged into it (R67, R155). -/
def Journal.request (j : Journal) (r : Append) : Journal :=
  match r.body with
  | .link online time _ =>
    if j.waitList.any Append.isLink then { j with waitList := j.waitList.map (Append.mergeLink online time) }
    else if j.queue.length < Config.appendPlaces then { j with queue := j.queue ++ [r] }
    else { j with waitList := j.waitList ++ [r] }
  | .table .. =>
    if j.waitList.any Append.isTable then { j with waitList := j.waitList.map (Append.mergeTable r.body) }
    else if j.queue.length < Config.appendPlaces then { j with queue := j.queue ++ [r] }
    else { j with waitList := j.waitList ++ [r] }
  | _ =>
    if j.queue.length < Config.appendPlaces then { j with queue := j.queue ++ [r] }
    else { j with waitList := j.waitList ++ [r] }

/-! ### The engine (R156 to R161) -/

/-- The record fits the ACTIVE block: the units from the next free unit to unit 511 number at least its length
(R156). -/
def Journal.fits (j : Journal) (r : Append) : Bool :=
  match j.lowest .active with
  | some i => match (j.row i).nextFree with
    | some n => decide (r.body.units + n ≤ Config.recordUnits + 1)
    | none => false
  | none => false

/-- The ACTIVE block's life ends: its marker and its row become FULL (R157). -/
def Journal.closeActive (j : Journal) : Journal :=
  match j.lowest .active with
  | some i =>
    (j.modBlock i fun b => { b with marker := some .full }).modRow i
      fun r => { r with state := .full, nextFree := none }
  | none => j

/-- The lowest-numbered ERASED block is activated, if there is one (R157). -/
def Journal.activate (j : Journal) : Option Journal :=
  match j.lowest .erased with
  | some i =>
    let j' := (j.modBlock i fun _ => ⟨.good j.nextBlockSeq (j.last + 1), some .active, []⟩).modRow i
      fun _ => ⟨.active, some j.nextBlockSeq, some (j.last + 1), none, none, some 1, 0⟩
    some { j' with nextBlockSeq := j.nextBlockSeq + 1 }
  | none => none

/-- The write of a record that fits is begun: its sequence is last plus 1 and its header time the calendar time
(R156). -/
def Journal.beginWrite (j : Journal) (r : Append) (time : Calendar) (isSet : Bool) : Journal :=
  { j with writing := some ⟨recordBytes (j.last + 1) r.bay r.body time isSet, j.last + 1⟩ }

/-- An erase may run: the supply warning is not asserted, and the queue is empty or waits on the full condition
(R160, R161, R173). -/
def Journal.mayErase (j : Journal) (supplyLow : Bool) : Bool := !supplyLow && (j.queue.isEmpty || j.full)

/-- The erase under way is suspended, or resumes, as the queue and the supply warning now allow (R161, R173). -/
def Journal.settleErase (j : Journal) (now : Ms) (supplyLow : Bool) : Journal :=
  match j.erase with
  | some e =>
    if j.mayErase supplyLow then
      if e.suspended then { j with erase := some { e with suspended := false, since := now } } else j
    else if e.suspended then j
    else { j with erase := some { e with suspended := true, spent := e.spent + elapsed now e.since } }
  | none => j

/-- The erase under way takes account of the queue and the supply warning. -/
def settleErase (s : State) : State := s.modJournal (·.settleErase s.now s.supplyLow)

/-- When no write is in progress and the queue is not empty, the engine takes the head unless the journal is full:
it writes it, moves to a fresh block first when it does not fit, or finds the journal full (R156 to R158). -/
def engineTake (s : State) : State :=
  let j := s.journal
  match j.writing, j.queue with
  | none, r :: _ =>
    if j.full then s
    else if j.fits r then
      { s with journal := j.beginWrite r s.time.calendar s.time.isSet }
    else match j.closeActive.activate with
      | some j' =>
        notify? (reserveNotice j.erasedCount j'.erasedCount j.full)
          { s with journal := j'.beginWrite r s.time.calendar s.time.isSet }
      | none => notify (.journalLow .full 0) { s with journal := { j with full := true } }
  | _, _ => s

/-- The engine takes what it can, and the erase under way yields or resumes (R156, R161). -/
def journalKick (s : State) : State := settleErase (engineTake s)

/-- An append is requested (R155); the engine takes it at once when it is idle. -/
def append (r : Append) (s : State) : State := journalKick (s.modJournal (·.request r))

/-- A request arriving now is placed at once (R155). -/
def State.appendRoom (s : State) : Bool := decide (s.journal.queue.length < Config.appendPlaces)

/-- A LINK record of a transition is requested (R189, R190, R191). -/
def appendLink (online : Bool) (s : State) : State :=
  append ⟨.link online s.time.calendar 1, none, .port⟩ s

/-! ### The end of a write (R156) -/

/-- The CRC is programmed: the units join the ACTIVE block, the record is valid, and last takes its sequence. -/
def Journal.program (j : Journal) (w : Writing) : Journal :=
  let units := cutUnits 9 w.bytes
  match j.lowest .active with
  | some i =>
    let j := (j.modBlock i fun b => { b with units := b.units ++ units }).modRow i fun r =>
      { r with
        firstValid := some (r.firstValid.getD w.sequence)
        lastValid := some w.sequence
        nextFree := r.nextFree.map (· + units.length) }
    { j with last := w.sequence, writing := none }
  | none => { j with last := w.sequence, writing := none }

/-- The head leaves the queue and the head of the wait list, if any, is placed (R155, R156). -/
def Journal.shift (j : Journal) : Journal :=
  match j.waitList with
  | w :: ws => { j with queue := j.queue.drop 1 ++ [w], waitList := ws }
  | [] => { j with queue := j.queue.drop 1 }

/-! ### Erase (R160 to R162) -/

/-- Every valid record of the block is acknowledged (R160). -/
def Row.releasable (r : Row) (acked : Nat) : Bool :=
  match r.lastValid with
  | some q => decide (q ≤ acked)
  | none => true

/-- Block i is FULL, releasable and not held (R160). -/
def Journal.erasable (j : Journal) (i : Nat) : Bool :=
  decide ((j.row i).state = .full) && (j.row i).releasable j.acked && !j.held i

/-- Of two erasable blocks the one with the lower block sequence (R160). -/
def Journal.lowerSeq (j : Journal) (best : Option Nat) (i : Nat) : Option Nat :=
  if j.erasable i then
    match best with
    | some k => if (j.row i).blockSeq.getD 0 < (j.row k).blockSeq.getD 0 then some i else best
    | none => some i
  else best

/-- The block the engine erases next: an interrupted erase in block-number order, else the erasable block with the
lowest block sequence (R160). -/
def Journal.nextErase (j : Journal) : Option Nat :=
  match j.lowest .erasing with
  | some i => some i
  | none => (List.range Config.journalBlocks).foldl j.lowerSeq none

/-- An erase can begin now (R160). -/
def Journal.canErase (j : Journal) (supplyLow : Bool) : Bool :=
  j.erase.isNone && j.writing.isNone && j.mayErase supplyLow

/-- The erase of block i begins (R160). DESIGN CHOICE: its row keeps the other values it had (notes/assumptions/63.md). -/
def Journal.beginErase (j : Journal) (i : Nat) (now : Ms) : Journal :=
  let j := (j.modBlock i fun b => { b with marker := some .erasing }).modRow i
    fun r => { r with state := .erasing, failures := 0 }
  { j with erase := some ⟨i, false, 0, now⟩ }

/-- The running time of an erase so far (R160, R161). -/
def Erase.ran (e : Erase) (now : Ms) : Nat := if e.suspended then e.spent else e.spent + elapsed now e.since

/-- The block is in the erased pattern and its row ERASED (R160). -/
def Journal.eraseDone (j : Journal) (i : Nat) : Journal :=
  let j := (j.modBlock i fun _ => .erased).modRow i fun _ => .erased
  { j with erase := none, holdList := j.holdList.filter fun k => decide (k ≠ i) }

/-- A failed attempt: begun again at once after the first, BAD after the second (R162). DESIGN CHOICE: the row of the BAD
block keeps the block and base sequence and the first and last valid it had (notes/assumptions/63.md). -/
def Journal.eraseFailed (j : Journal) (e : Erase) (now : Ms) : Journal :=
  let j := { j with eraseFail := satInc j.eraseFail }
  if (j.row e.block).failures = 0 then
    let j := j.modRow e.block fun r => { r with failures := 1 }
    { j with erase := some ⟨e.block, false, 0, now⟩ }
  else
    let j := (j.modBlock e.block fun b => { b with marker := some .bad }).modRow e.block
      fun r => { r with state := .bad, failures := 0 }
    { j with erase := none, badBlock := satInc j.badBlock }

/-- A full journal after an erase has succeeded (R158): the new ERASED block is activated when no block is ACTIVE,
the waiting head is taken, and the end of the condition is noticed with the erased count then standing. -/
def leaveFull (s : State) : State :=
  if s.journal.full then
    let j := { s.journal with full := false }
    let j := match j.lowest .active with
      | some _ => j
      | none => j.activate.getD j
    let s := journalKick { s with journal := j }
    let n := s.journal.erasedCount
    notify (.journalLow (if Config.reserveBlocks ≤ n then .cleared else .low) n) s
  else s

/-! ### The start-up scan (R169 to R172) -/

/-- How the scan takes a block by its header (R162, R169). DESIGN CHOICE: a header with a good check whose marker is still
erased, of which R169's table has no row, is a torn activation and taken as ERASING (notes/assumptions/60.md). -/
def Block.classify (b : Block) : BlockState :=
  match b.marker, b.seqs with
  | some .bad, _ => .bad
  | none, .erased => if b.units = [] then .erased else .erasing
  | some .active, .good _ _ => .active
  | some .full, .good _ _ => .full
  | _, _ => .erasing

/-- The block sequence of a header whose check is good. -/
def Block.blockSeq (b : Block) : Option Nat :=
  match b.seqs with
  | .good s _ => some s
  | _ => none

/-- The base sequence of a header whose check is good. -/
def Block.baseSeq (b : Block) : Option Nat :=
  match b.seqs with
  | .good _ s => some s
  | _ => none

/-- The row of a block and whether it holds a torn record (R169, R170). DESIGN CHOICE: a BAD block's records are not read,
so its row has no first and last valid (notes/assumptions/63.md). -/
def Block.scan (b : Block) : Row × Bool :=
  match b.classify with
  | .erased => (.erased, false)
  | .active =>
    let (rs, torn) := blockRecords (Config.recordUnits + 1) b.units
    (⟨if torn then .full else .active, b.blockSeq, b.baseSeq, rs.head?.map (·.1), rs.getLast?.map (·.1),
      if torn then none else some (b.units.length + 1), 0⟩, torn)
  | .full =>
    let (rs, torn) := blockRecords (Config.recordUnits + 1) b.units
    (⟨.full, b.blockSeq, b.baseSeq, rs.head?.map (·.1), rs.getLast?.map (·.1), none, 0⟩, torn)
  | st => (⟨st, b.blockSeq, b.baseSeq, none, none, none, 0⟩, false)

/-- The highest number of a list of options, 0 when there is none. -/
def highest (l : List (Option Nat)) : Nat := l.foldl (fun a o => max a (o.getD 0)) 0

/-- Of two blocks the one with the higher block sequence. -/
def laterBlock (best b : Block) : Block := if best.blockSeq.getD 0 < b.blockSeq.getD 0 then b else best

/-- The block whose base sequence last may take: the ACTIVE block found, or the one of highest block sequence (R171). -/
def lastBlock (bs : List Block) : Option Block :=
  match bs.find? fun b => b.classify = .active with
  | some b => some b
  | none =>
    match bs.filter fun b => b.blockSeq.isSome with
    | [] => none
    | b :: rest => some (rest.foldl laterBlock b)

/-- last after the scan (R171). -/
def scanLast (bs : List Block) : Nat :=
  let top := highest (bs.map fun b => b.scan.1.lastValid)
  match lastBlock bs with
  | some b => if b.scan.1.lastValid.isNone then max top (b.baseSeq.getD 1 - 1) else top
  | none => top

/-- The lowest sequence of the valid records found (R172). -/
def lowestValid (rows : List Row) : Option Nat :=
  rows.foldl (fun a r => match a, r.firstValid with
    | some x, some y => some (min x y)
    | none, y => y
    | x, none => x) none

/-- A block taken as ACTIVE that holds a torn record has its marker programmed FULL (R170). -/
def Block.markTorn (b : Block) : Block := if b.classify = .active ∧ b.scan.2 then { b with marker := some .full } else b

/-- The FULL markers the scan programs (R170). -/
def Journal.markTorn (j : Journal) : Journal := { j with store := j.store.map Block.markTorn }

/-- The scan's rebuilding of the block table and the journal-wide fields (R169 to R171), and the acknowledged mark
(R172): `retained` is the retained value when the check was good. -/
def Journal.scan (j : Journal) (retained : Option Nat) : Journal :=
  let blocks := j.store.toList
  let last := scanLast blocks
  let rows := j.store.map fun b => b.scan.1
  let nextSeq := highest (blocks.map Block.blockSeq) + 1
  let torn := (blocks.filter fun b => b.scan.2).length
  let acked := match retained with
    | some a => min a last
    | none => match lowestValid rows.toList with
      | some q => q - 1
      | none => last
  let j : Journal :=
    { j with
      rows := rows, last := last, nextBlockSeq := nextSeq, full := false, queue := [],
      waitList := [], writing := none, erase := none, acked := acked, torn := torn, ackClamp := 0, eraseFail := 0,
      badBlock := (rows.toList.filter fun r => r.state = .bad).length }
  let j := match j.lowest .active with
    | some _ => j
    | none => match j.activate with
      | some j' => j'
      | none => { j with full := true }
  { j with holdList := j.holdList.filter fun i => decide ((j.row i).state ≠ .erased) }

/-- What a loss of supply leaves of a write under way: the first n bytes programmed, in whole and partial units
(R170). -/
def Journal.tear (j : Journal) (n : Nat) : Journal :=
  match j.writing, j.lowest .active with
  | some w, some i => j.modBlock i fun b => { b with units := b.units ++ cutUnits 9 (w.bytes.take n) }
  | _, _ => j

end Sys2Proof.Machine
end

