-- ==== Sys2Proof/Machine/Screen.lean ====
section
/-! DEFINITION. What a bay's terminal is shown: the hold cause and display of each state (R19), tones, and the hand-over
to the Bay Bus Master (R200). -/

namespace Sys2Proof.Machine

open Sys2Proof

/-- The product entry of a context's product in its pinned bank. -/
def State.product (s : State) (b : BayNo) : Option Product :=
  match (s.ctx b).bank, (s.ctx b).product with
  | some k, some p => (s.tariff.bank k).findProduct p
  | _, _ => none

/-- The name of a context's product (R25). -/
def State.productName (s : State) (b : BayNo) : List Byte :=
  match (s.ctx b).bank, s.product b with
  | some k, some p => (s.tariff.bank k).literal p.name
  | _, _ => []

/-- The hold cause of each state (R19). -/
def holdOf (c : Ctx) (phase : Phase) : HoldCause :=
  if c.wait = .places then .waitJournal
  else match c.state with
    | .cardRead | .tearWait => .waitCard
    | .pricing => .waitPrice
    | .cardWrite => if phase = .authorising then .waitAuth else .waitCard
    | .commit => .waitJournal
    | .payout => if c.wait = .adjust then .waitJournal else .waitPayout
    | .print => if c.wait = .adjust then .waitJournal else .waitPrint
    | .refund => match c.wait with
      | .adjust => .waitJournal
      | .payout => .waitPayout
      | _ => .none
    | _ => .none

/-- The amounts a state's display shows (R19). DESIGN CHOICE: the change amount of PAYOUT is change_due
(notes/assumptions/49.md). -/
def shownAmounts (c : Ctx) : List Nat :=
  match c.state with
  | .priced => [c.price.getD 0]
  | .tender => [c.price.getD 0, c.tendered, c.price.getD 0 - c.tendered]
  | .payout => [c.changeDue.getD 0]
  | .print => if c.shortPay = 0 then [] else [c.shortPay]
  | _ => []

/-- The evaluation flags a state's display shows: those of the price, in PRICED (R41). -/
def shownFlags (c : Ctx) : Option EvalFlags :=
  match c.state with
  | .priced => some c.evalFlags
  | _ => none

/-- The display of a bay's context as it stands (R19, R41). -/
def State.screenOf (s : State) (b : BayNo) : Screen :=
  let c := s.ctx b
  { face := c.state
    name := match c.state with
      | .opening | .pricing | .priced => some (s.productName b)
      | _ => none
    amounts := shownAmounts c
    flags := shownFlags c
    decimals := siteDecimals s.site
    currency := siteCurrency s.site
    overlay := c.overlay }

/-- A display and hold cause are handed over: each change replaces the bay's display and makes it pending (R200). -/
def Terminal.show (t : Terminal) (sc : Screen) (h : HoldCause) : Terminal :=
  if t.screen = sc ∧ t.screenHold = h then t
  else { t with screen := sc, screenHold := h, displayPending := true, displayOnLine := false }

/-- A tone handed over replaces the bay's tone (R200). -/
def Terminal.sound (t : Terminal) (x : Tone) : Terminal :=
  { t with tone := x, tonePending := true, toneOnLine := false }

/-- The hold cause of bay b is recomputed, and its display handed over (R19). -/
def refresh (b : BayNo) (s : State) : State :=
  let h := holdOf (s.ctx b) (s.bay b).card.phase
  let s := s.modCtx b fun c => { c with holdCause := h }
  let sc := s.screenOf b
  s.modBay b fun y => { y with term := y.term.show sc h }

/-- A tone is handed over at bay b. -/
def sound (x : Tone) (b : BayNo) (s : State) : State := s.modBay b fun y => { y with term := y.term.sound x }

/-- A refusal is given to bay b: last_refusal, the refusal's text over the display, and the DOUBLE tone (R19, R200). -/
def refuse (code : Code) (b : BayNo) (s : State) : State :=
  refresh b (sound .double b
    (s.modCtx b fun c => { c with lastRefusal := some code, overlay := .refusal code }))

/-- A key event at the bay takes a refusal's text off the display (R19). -/
def clearOverlay (b : BayNo) (s : State) : State :=
  refresh b (s.modCtx b fun c => { c with overlay := .none })

end Sys2Proof.Machine
end

