-- ==== Sys2Proof/Machine/CashOps.lean ====
section
/-! DEFINITION. The Cash Unit's shared operations: change plans (R90, R91), the acceptance mask (R82 to R84), tube
counts (R88, R89), escrow return (R86), commit routing (R92, R93), the cash box (R101 to R105) and the payout
executor (R94 to R98). -/

namespace Sys2Proof.Machine

open Sys2Proof

/-! ### The change plan (R90, R91) -/

/-- An eligible tube: its number, its kind's value and its count. -/
structure Offer where
  tube  : TubeNo
  value : Nat
  count : Nat
  deriving DecidableEq, Repr

/-- Plan order: the largest value first, a lower tube number first among equals (R90). -/
def insertOffer (o : Offer) : List Offer → List Offer
  | [] => [o]
  | x :: xs => if x.value < o.value then o :: x :: xs else x :: insertOffer o xs

/-- The eligible tubes: in state OK, of a configured kind, with count above 0 (R90). -/
def eligible (site : List (List Byte)) (tubes : Vector Tube 4) : List Offer :=
  allTubes.foldl (fun os t =>
    let u := tubes[t]
    match siteKind site u.kind with
    | some (v, _) => if u.state = .ok ∧ 0 < u.count ∧ u.kind ≠ 0 then insertOffer ⟨t, v, u.count⟩ os else os
    | none => os) []

/-- What the greedy run takes from a tube with r remaining (R91). -/
def Offer.take (o : Offer) (r : Nat) : Nat := min o.count (r / o.value)

/-- The greedy run over offers in plan order: the takes, and what remains (R91 stage 1). -/
def greedy : List Offer → Nat → List Nat × Nat
  | [], r => ([], r)
  | o :: os, r =>
    let k := o.take r
    let (ks, left) := greedy os (r - k * o.value)
    (k :: ks, left)

/-- The trials at one tube: d runs from 1 up to its greedy take k (R91 stage 2). -/
def trials (o : Offer) (os : List Offer) (r k : Nat) : Option (List Nat) :=
  (List.range k).findSome? fun d0 =>
    let take := k - (d0 + 1)
    let (ks, left) := greedy os (r - take * o.value)
    if left = 0 then some (take :: ks) else none

/-- The backtrack: tube after tube in plan order, those before keeping their greedy takes (R91 stage 2). -/
def backtrack : List Offer → Nat → Option (List Nat)
  | [], _ => none
  | o :: os, r =>
    let k := o.take r
    match trials o os r k with
    | some ks => some ks
    | none => (backtrack os (r - k * o.value)).map (k :: ·)

/-- The takes as plan entries, without the tubes that take no coins (R91). -/
def planOf : List Offer → List Nat → List PlanEntry
  | o :: os, k :: ks => if k = 0 then planOf os ks else ⟨o.tube, k⟩ :: planOf os ks
  | _, _ => []

/-- The change plan for an amount over eligible tubes (R91). -/
def planFor (os : List Offer) (amount : Nat) : Option (List PlanEntry) :=
  let (ks, left) := greedy os amount
  if left = 0 then some (planOf os ks) else (backtrack os amount).map (planOf os)

/-- The change plan of bay b for an amount, over its tubes as they stand (R90). -/
def State.changePlan (s : State) (b : BayNo) (amount : Nat) : Option (List PlanEntry) :=
  planFor (eligible s.site (s.bay b).tubes) amount

/-! ### The acceptance mask (R82 to R84) -/

/-- A configured kind is enabled at tendered t and price p (R83). -/
def State.enables (s : State) (b : BayNo) (t p k : Nat) : Bool :=
  match siteKind s.site k with
  | some (v, _) =>
    decide (t + v ≤ Config.maxAmount)
    && (decide (t + v ≤ p)
        || (decide (t + v - p ≤ siteOverpay s.site) && (s.changePlan b (t + v - p)).isSome))
  | none => false

/-- The mask is empty whatever the kinds (R82). -/
def State.maskShut (s : State) (b : BayNo) : Bool :=
  let y := s.bay b
  decide (y.ctx.state ≠ .tender) || decide (y.ctx.wait = .places) || s.supplyLow || !y.box.present
  || y.ctx.causes.coinLineFault || decide (Config.escrowPlaces ≤ y.ctx.coins.length) || y.coin.coinOff

/-- The acceptance mask of bay b (R82, R83). -/
def State.maskOf (s : State) (b : BayNo) : List Nat :=
  if s.maskShut b then []
  else [1, 2, 3, 4, 5, 6, 7, 8].filter (s.enables b (s.ctx b).tendered ((s.ctx b).price.getD 0))

/-- The mask is recomputed and driven (R84). -/
def recomputeMask (b : BayNo) (s : State) : State :=
  let m := s.maskOf b
  s.modBay b fun y => { y with mask := m }

/-! ### Tubes (R88, R89) -/

/-- Tube t of bay b. -/
def State.tube (s : State) (b : BayNo) (t : TubeNo) : Tube := (s.bay b).tubes[t]

/-- Tube t of bay b changes under f. -/
def State.modTube (s : State) (b : BayNo) (t : TubeNo) (f : Tube → Tube) : State :=
  s.modBay b fun y => { y with tubes := y.tubes.set t (f y.tubes[t]) }

/-- The TUBE_LOW notice of a fall from above the low level to it or below (R89). -/
def lowNotice (b : BayNo) (t : TubeNo) (u u' : Tube) : Option Notice :=
  if u.lowLevel < u.count ∧ u'.count ≤ u'.lowLevel then some (.tubeLow b t u'.count) else none

/-- A tube's count or state changes: TUBE_LOW is tested and the mask recomputed (R89). -/
def changeTube (b : BayNo) (t : TubeNo) (f : Tube → Tube) (s : State) : State :=
  let u := s.tube b t
  recomputeMask b (notify? (lowNotice b t u (f u)) (s.modTube b t f))

/-- All four tubes of the bay are JAMMED (R89). -/
def Bay.allJammed (y : Bay) : Bool := allTubes.all fun t => decide (y.tubes[t].state = .jammed)

/-! ### Escrow return (R86) -/

/-- A pulse begins: the escrow list is emptied at its start. -/
def startPulse (b : BayNo) (s : State) : State :=
  s.modBay b fun y =>
    { y with escrow := ⟨some s.now, false⟩, ctx := { y.ctx with coins := [] } }

/-- A return is requested (R86, R87). -/
def requestReturn (b : BayNo) (s : State) : State :=
  match (s.bay b).escrow.pulse with
  | none => startPulse b s
  | some _ => s.modBay b fun y => { y with escrow := { y.escrow with pending := true } }

/-! ### The cash box (R101 to R105) -/

/-- A count of one kind grows by 1, staying at 65,535. -/
def bump (v : Vector Nat 9) (k : Nat) : Vector Nat 9 := if h : k < 9 then v.set k (satInc v[k]) else v

/-- Counts added kind by kind, each staying at 65,535 (R103, R104). -/
def addCounts (v w : Vector Nat 9) : Vector Nat 9 := Vector.zipWith (fun a b => min (a + b) Config.counterMax) v w

/-- A coin goes to the box, or to the hold counts while the box is absent (R79, R105). -/
def Box.put (x : Box) (k : Nat) : Box :=
  if x.present then { x with counts := bump x.counts k } else { x with holds := bump x.holds k }

/-- The lowest-numbered tube of kind k, not DISABLED, with count below a level (R92, R93). -/
def fillTube (tubes : Vector Tube 4) (k : Nat) (level : Tube → Nat) : Option TubeNo :=
  allTubes.find? fun t =>
    decide (tubes[t].kind = k) && decide (tubes[t].state ≠ .disabled) && decide (tubes[t].count < level tubes[t])

/-- A coin joins tube t. -/
def Bay.fill (y : Bay) (t : TubeNo) : Bay :=
  { y with tubes := y.tubes.set t { y.tubes[t] with count := y.tubes[t].count + 1 } }

/-- One escrow entry is routed (R92 with the box present, R93 with it absent). -/
def Bay.route (y : Bay) (c : Coin) : Bay :=
  if y.box.present then
    match c.standing with
    | .credited => match fillTube y.tubes c.kind Tube.fullLevel with
      | some t => y.fill t
      | none => { y with box := y.box.put c.kind }
    | _ => { y with box := y.box.put c.kind }
  else
    match c.standing with
    | .unvalued => { y with box := y.box.put c.kind }
    | _ => match fillTube y.tubes c.kind Tube.fullLevel with
      | some t => y.fill t
      | none => match fillTube y.tubes c.kind Tube.capacity with
        | some t => y.fill t
        | none => { y with box := y.box.put c.kind }

/-- Commit routing: the whole escrow list in list order, which it leaves empty (R92, R93). -/
def routeEscrow (b : BayNo) (s : State) : State :=
  recomputeMask b (s.modBay b fun y =>
    let y' := y.ctx.coins.foldl Bay.route y
    { y' with ctx := { y'.ctx with coins := [] } })

/-- The total value of kind counts at the live site values, saturating (R102). -/
def totalValue (site : List (List Byte)) (counts : Vector Nat 9) : Nat :=
  satAmount (([1, 2, 3, 4, 5, 6, 7, 8].map fun k => counts.toList.getD k 0 * kindValue site k).sum)

/-- A later closure is merged into an unrequested record (R103). -/
def BoxRecord.merge (r new : BoxRecord) : BoxRecord :=
  ⟨new.period, addCounts r.counts new.counts, satAmount (r.total + new.total), true⟩

/-- A closure joins the pending closure slot (R103). -/
def addClosure (slot : List Closure) (new : BoxRecord) : List Closure :=
  match slot with
  | [] => [⟨new, false⟩]
  | [c] => if c.requested then [c, ⟨new, false⟩] else [⟨c.record.merge new, false⟩]
  | c :: d :: rest => c :: { d with record := d.record.merge new } :: rest

/-- An append request is bay b's BOX head. -/
def Append.isBoxOf (b : BayNo) (r : Append) : Bool := r.requester == .box b

/-- The body of bay b's waiting BOX request follows its unrequested head (R103). -/
def Journal.syncBox (j : Journal) (b : BayNo) (r : BoxRecord) : Journal :=
  { j with waitList := j.waitList.map fun a => if a.isBoxOf b then { a with body := .box r } else a }

/-- The Cash Unit asks the Journal Unit to append the head of bay b's slot, unless it is requested or already waits
for a place; requested becomes yes when the queue takes it (R103). -/
def askBox (b : BayNo) (s : State) : State :=
  match (s.bay b).box.slot with
  | c :: rest =>
    if c.requested then s
    else if s.journal.waitList.any (Append.isBoxOf b) then s.modJournal (·.syncBox b c.record)
    else
      let placed := s.appendRoom
      append ⟨.box c.record, some b, .box b⟩
        (s.modBay b fun y => { y with box := { y.box with slot := { c with requested := placed } :: rest } })
  | [] => s

/-- The box period closes (R102 steps 1 to 3). -/
def closePeriod (b : BayNo) (s : State) : State :=
  let site := s.site
  s.modBay b fun y =>
    let x := y.box
    let r : BoxRecord := ⟨x.period, x.counts, totalValue site x.counts, false⟩
    { y with box :=
      { x with slot := addClosure x.slot r, period := x.period + 1, counts := Vector.replicate 9 0,
               present := false } }

/-- The box is removed (R102): the period closes, its number is noticed, and the record is asked for. -/
def removeBox (b : BayNo) (s : State) : State :=
  let period := (s.bay b).box.period
  askBox b (notify (.box b false period) (closePeriod b s))

/-- The box is inserted (R104): the hold counts enter the box record. -/
def insertBox (b : BayNo) (s : State) : State :=
  let s := s.modBay b fun y =>
    { y with box :=
      { y.box with counts := addCounts y.box.counts y.box.holds, holds := Vector.replicate 9 0, present := true } }
  notify (.box b true (s.bay b).box.period) s

/-! ### The payout executor (R94 to R98) -/

/-- Bay b's executor changes under f. -/
def State.modPayout (s : State) (b : BayNo) (f : Executor → Executor) : State :=
  s.modBay b fun y => { y with payout := f y.payout }

/-- The executor returns to IDLE; its plan and current drive are cleared (R97, R99). -/
def stopPayout (b : BayNo) (s : State) : State :=
  s.modPayout b fun x => { x with running := false, plan := [], drive := none }

/-- The first coin of a plan is driven, or the payout ends with no plan for what remains (R95, R98). The mark says
whether it has ended. -/
def planPayout (b : BayNo) (s : State) : State × Bool :=
  let x := (s.bay b).payout
  match s.changePlan b (x.amount - x.paid) with
  | some (e :: es) => (s.modPayout b fun x => { x with plan := e :: es, drive := some (e.tube, s.now) }, false)
  | _ => (stopPayout b s, true)

/-- The next drive begins with the plan's first entry, after its check (R95); a failed check replans (R98).
DESIGN CHOICE: so does a plan used up below the amount (notes/assumptions/41.md). -/
def nextDrive (b : BayNo) (s : State) : State × Bool :=
  match (s.bay b).payout.plan with
  | e :: _ =>
    if (s.tube b e.tube).state = .ok ∧ 0 < (s.tube b e.tube).count then
      (s.modPayout b fun x => { x with drive := some (e.tube, s.now) }, false)
    else planPayout b s
  | [] => planPayout b s

/-- A payout is asked for (R94). -/
def startPayout (b : BayNo) (r : Requester) (amount : Nat) (s : State) : State × Bool :=
  planPayout b (s.modPayout b fun _ => ⟨true, r, amount, 0, [], none⟩)

/-- A coin leaves the first entry of a plan (R95). -/
def usePlan : List PlanEntry → List PlanEntry
  | e :: es => if e.coins ≤ 1 then es else { e with coins := e.coins - 1 } :: es
  | [] => []

end Sys2Proof.Machine
end

