-- ==== Sys2Proof/Machine/Fare.lean ====
section
/-! DEFINITION. The fare evaluator: derived request fields (R28 to R30), the run of a chain (R31 to R36), its arithmetic
(R37 to R42), pass plans (R43 to R45), and the pricing queue (R46, R48). -/

namespace Sys2Proof.Machine

open Sys2Proof

/-! ### Derived fields (R28 to R30) -/

/-- The eight request fields a TEST reads (R28). -/
structure Derived where
  cls     : Nat
  zones   : Nat
  band    : Nat
  dayType : Nat
  qty     : Nat
  method  : Nat
  holds   : Nat
  amount  : Nat
  deriving DecidableEq, Repr

/-- The absolute difference of two numbers. -/
def absDiff (a b : Nat) : Nat := (a - b) + (b - a)

/-- ZONES (R28). -/
def BankTables.zonesOf (t : BankTables) (usesZones : Bool) (origin destination : Option Nat) : Nat :=
  if usesZones then absDiff (t.ring (origin.getD 0)) (t.ring (destination.getD 0)) + 1 else 1

/-- BAND: the band whose start is the last at or before a minute (R27, R28). -/
def BankTables.bandOf (t : BankTables) (minute : Nat) : Nat :=
  ((t.calendar.entries.take 8).filter fun e => decide (field e 0 2 ≤ minute)).length - 1

/-- DAYTYPE (R29). -/
def BankTables.dayTypeOf (t : BankTables) (day : Nat) : Nat :=
  if (t.calendar.entries.drop 8).any fun e => decide (field e 0 2 = day) then 2
  else if day % 7 ≤ 4 then 0 else if day % 7 = 5 then 1 else 2

/-- A slot holds the product and is valid to today or later (R30, R43). -/
def renewable (product today : Nat) (o : Option PassSlot) : Bool :=
  match o with
  | some p => decide (p.product = product) && decide (today ≤ p.validTo)
  | none => false

/-- HOLDS (R30). -/
def PriceRequest.holds (r : PriceRequest) : Nat :=
  match r.slots with
  | some v => bit (v.toList.any (renewable r.product r.openTime.day))
  | none => 0

/-- The derived fields of a request (R28). -/
def BankTables.derive (t : BankTables) (p : Product) (r : PriceRequest) : Derived :=
  { cls := r.cls
    zones := t.zonesOf p.usesZones r.origin r.destination
    band := t.bandOf r.openTime.minute
    dayType := t.dayTypeOf r.openTime.day
    qty := r.quantity
    method := r.method.toNat
    holds := r.holds
    amount := if p.kind = .topup then r.topupAmount.getD 0 else 0 }

/-- The field a TEST names. -/
def Derived.get (d : Derived) : TestField → Nat
  | .cls => d.cls
  | .zones => d.zones
  | .band => d.band
  | .dayType => d.dayType
  | .qty => d.qty
  | .method => d.method
  | .holds => d.holds
  | .amount => d.amount

/-- The comparison of a TEST (R35). -/
def Comparison.holds (c : Comparison) (x v : Nat) : Bool :=
  match c with
  | .eq => decide (x = v)
  | .ne => decide (x ≠ v)
  | .ge => decide (v ≤ x)
  | .le => decide (x ≤ v)

/-! ### Arithmetic (R37 to R40) -/

/-- The running fare and the flag set (R32). -/
structure Fare where
  f     : Nat
  flags : EvalFlags
  deriving DecidableEq, Repr

/-- F takes an exact result after saturation (R37). -/
def Fare.take (fare : Fare) (x : Int) : Fare :=
  if x < 0 then ⟨0, { fare.flags with clampLow := true }⟩
  else if (Config.maxAmount : Int) < x then ⟨Config.maxAmount, { fare.flags with clampHigh := true }⟩
  else ⟨x.toNat, fare.flags⟩

/-- ROUNDED is added when it applies. -/
def Fare.mark (fare : Fare) (rounded : Bool) : Fare :=
  if rounded then { fare with flags := { fare.flags with rounded := true } } else fare

/-- The quotient of a product in ten-thousandths under a percent rounding mode (R38). -/
def percentOf (mode : PercentMode) (x : Nat) : Nat :=
  match mode with
  | .halfUp => (x + 5000) / 10000
  | .down => x / 10000
  | .up => x / 10000 + bit (decide (x % 10000 ≠ 0))

/-- The rounded value of F at unit u (R39). -/
def roundTo (mode : RoundMode) (u f : Nat) : Nat :=
  match mode with
  | .down => f / u * u
  | .up => if f % u = 0 then f / u * u else (f / u + 1) * u
  | .nearest => if u ≤ 2 * (f % u) then (f / u + 1) * u else f / u * u

/-- An arithmetic entry, CAP or FLOOR acts on F (R37 to R40); the other entries leave it. -/
def RuleEntry.act (e : RuleEntry) (mode : PercentMode) (d : Derived) (fare : Fare) : Fare :=
  match e with
  | .base a => fare.take a
  | .perZone a => fare.take (fare.f + a * d.zones : Nat)
  | .add a => fare.take (fare.f + a)
  | .percent p =>
    let x := fare.f * (10000 + p).toNat
    (fare.mark (decide (x % 10000 ≠ 0))).take (percentOf mode x)
  | .round u m =>
    let x := roundTo m u fare.f
    (fare.mark (decide (x ≠ fare.f))).take x
  | .cap a => if a < fare.f then ⟨a, { fare.flags with capped := true }⟩ else fare
  | .floor a => if fare.f < a then { fare with f := a } else fare
  | _ => fare

/-! ### The run of a chain (R33 to R36) -/

/-- The chain from an index on, with the entries still to be skipped and the steps still allowed: none is
RULE_RUNAWAY (R34 to R36). -/
def runChain (rules : List (List Byte)) (mode : PercentMode) (d : Derived) :
    (steps idx skip : Nat) → Fare → Option Fare
  | 0, _, _, _ => none
  | steps + 1, idx, skip, fare =>
    match rules[idx]? with
    | none => none
    | some raw =>
      match skip with
      | k + 1 => runChain rules mode d steps (idx + 1) k fare
      | 0 =>
        match decodeRule raw with
        | none => none
        | some .finish => some fare
        | some (.goto t) => runChain rules mode d steps t 0 fare
        | some (.test f c v n) =>
          runChain rules mode d steps (idx + 1) (if c.holds (d.get f) v then 0 else n) fare
        | some e => runChain rules mode d steps (idx + 1) 0 (e.act mode d fare)

/-- The final price and its flags (R41). -/
def finalPrice (kind : ProductKind) (qty : Nat) (fare : Fare) : Nat × EvalFlags :=
  let fare := if kind = .topup then fare else fare.take (fare.f * qty : Nat)
  (fare.f, { fare.flags with zero := decide (fare.f = 0) })

/-! ### Pass plans (R43 to R45) -/

/-- A day number saturates at 65,535 (R44, R45). -/
def satDay (n : Nat) : Nat := min n Config.maxDay

/-- The validity in days, END_OF_DAY counting as 1 (R44). -/
def Product.days (p : Product) : Nat := if p.validity = 0 then 1 else p.validity

/-- Of two renewable slots the one with the later valid_to, the lower number on equal valid_to (R43). -/
def laterSlot (v : Vector (Option PassSlot) 4) (product today : Nat) (best : Option (Nat × PassSlot)) (i : Nat) :
    Option (Nat × PassSlot) :=
  match v.toList.getD i none with
  | some p =>
    if p.product = product ∧ today ≤ p.validTo then
      match best with
      | some (_, q) => if q.validTo < p.validTo then some (i, p) else best
      | none => some (i, p)
    else best
  | none => best

/-- The slot and valid_from of a pass plan, in the order of R43; none is NO_SLOT. -/
def chooseSlot (v : Vector (Option PassSlot) 4) (product today : Nat) : Option (Nat × Nat) :=
  match [0, 1, 2, 3].foldl (laterSlot v product today) none with
  | some (i, p) => some (i, p.validTo + 1)
  | none =>
    match [0, 1, 2, 3].find? fun i => (v.toList.getD i none).isNone with
    | some i => some (i, today)
    | none =>
      match [0, 1, 2, 3].find? fun i => match v.toList.getD i none with
        | some p => decide (p.validTo < today)
        | none => false with
      | some i => some (i, today)
      | none => none

/-- The pass plan of a card pass (R43, R44). -/
def passPlanOf (p : Product) (r : PriceRequest) : Option PassPlan :=
  match chooseSlot (r.slots.getD (Vector.replicate 4 none)) r.product r.openTime.day with
  | some (i, start) => some ⟨i, satDay start, satDay (start + p.days * r.quantity - 1)⟩
  | none => none

/-- The validity period of a printed pass (R45). -/
def printedPeriod (p : Product) (today : Nat) : Nat × Nat := (satDay today, satDay (today + p.days - 1))

/-! ### Results (R47) -/

/-- The result of an evaluation (R47). -/
inductive PriceResult where
  | price (amount : Nat) (flags : EvalFlags) (plan : Option PassPlan)
  | runaway
  | noSlot
  deriving DecidableEq, Repr

/-- The evaluation of a request against its bank's tables (R33, R41, R43, R47). -/
def BankTables.evaluate (t : BankTables) (r : PriceRequest) : PriceResult :=
  match t.findProduct r.product with
  | none => .runaway
  | some p =>
    let d := t.derive p r
    match runChain t.rule.entries t.mode d Config.chainSteps p.chainStart 0 ⟨d.amount, .empty⟩ with
    | none => .runaway
    | some fare =>
      let (amount, flags) := finalPrice p.kind r.quantity fare
      if p.kind = .passOnCard then
        match passPlanOf p r with
        | some plan => .price amount flags (some plan)
        | none => .noSlot
      else .price amount flags none

/-! ### The pricing queue (R46, R48) -/

/-- The idle evaluator takes the head of the queue (R46). -/
def Tariff.evalStart (t : Tariff) : Tariff :=
  match t.evaluating, t.queue with
  | none, r :: rs => { t with evaluating := some r, queue := rs }
  | _, _ => t

/-- A request joins the queue at the tail (R46). -/
def Tariff.place (t : Tariff) (r : PriceRequest) : Tariff := Tariff.evalStart { t with queue := t.queue ++ [r] }

/-- Bay b's request is withdrawn: removed from the queue, or marked when the evaluator holds it (R48). -/
def Tariff.withdraw (t : Tariff) (b : BayNo) : Tariff :=
  { t with
    queue := t.queue.filter fun r => decide (r.bay ≠ b)
    evaluating := t.evaluating.map fun r => if r.bay = b then { r with withdrawn := true } else r }

/-- The METHOD value of a request: the confirmed method, or before a CONFIRM the intended one (R8). -/
def State.methodOf (s : State) (b : BayNo) : Method :=
  match (s.ctx b).method with
  | some m => m
  | none =>
    match s.product b with
    | some p => if (s.ctx b).card.isSome ∧ p.allowsMethod .purse then .purse else .coins
    | none => .coins

/-- The request the context builds from its values at this moment (R28). -/
def State.priceRequest (s : State) (b : BayNo) : PriceRequest :=
  let c := s.ctx b
  { bay := b
    bank := c.bank.getD .a
    product := c.product.getD 0
    cls := c.cls.getD 0
    quantity := c.quantity
    origin := c.origin
    destination := c.destination
    topupAmount := c.topupAmount
    openTime := c.openTime.getD ⟨0, 0, 0⟩
    method := s.methodOf b
    slots := c.card.map CardValues.slots
    withdrawn := false }

/-- The context of bay b places a pricing request (R6, R9, R11). -/
def placeRequest (b : BayNo) (s : State) : State := { s with tariff := s.tariff.place (s.priceRequest b) }

end Sys2Proof.Machine
end

