-- ==== Sys2Proof/Machine/ReceiptOps.lean ====
section
/-! DEFINITION. The Receipt Unit's shared operations: fields and their forms (R134 to R136), the expansion of a layout
into the ring (R133, R140, R141), chunks (R142), and the start and end of jobs (R139, R143 to R148). -/

namespace Sys2Proof.Machine

open Sys2Proof

/-! ### Fields (R134 to R136) -/

/-- The fixed word of a class (R134). PRESUMED: in ASCII, as the words below (notes/assumptions/48.md). -/
def classWord : Nat → List Byte
  | 0 => [65#8, 68#8, 85#8, 76#8, 84#8]
  | 1 => [67#8, 72#8, 73#8, 76#8, 68#8]
  | 2 => [82#8, 69#8, 68#8, 85#8, 67#8, 69#8, 68#8]
  | _ => [83#8, 84#8, 65#8, 70#8, 70#8]

/-- The fixed word PENDING (R134). -/
def pendingWord : List Byte := [80#8, 69#8, 78#8, 68#8, 73#8, 78#8, 71#8]

/-- The fixed word DUPLICATE (R134). -/
def duplicateWord : List Byte := [68#8, 85#8, 80#8, 76#8, 73#8, 67#8, 65#8, 84#8, 69#8]

/-- The natural form of an amount in a snapshot (R135). -/
def Snapshot.amount (f : Snapshot) (n : Nat) : List Byte := amountForm f.decimals f.currency n

/-- The natural form of field n, numbered 0 to 18 in the order of R134; none when the field is absent.
PRESUMED: the colon of TIME in ASCII (notes/assumptions/48.md). -/
def Snapshot.form (f : Snapshot) : Nat → Option (List Byte)
  | 0 => some f.productName
  | 1 => some (classWord f.cls)
  | 2 => f.zones.map digits
  | 3 => some (f.amount f.price)
  | 4 => f.tendered.map f.amount
  | 5 => f.change.map f.amount
  | 6 => f.shortPay.map f.amount
  | 7 => some (digits f.sequence)
  | 8 => some (digits f.date)
  | 9 => some (fixedDigits 2 (f.minute / 60) ++ [58#8] ++ fixedDigits 2 (f.minute % 60))
  | 10 => some (digits f.bay)
  | 11 => f.validFrom.map digits
  | 12 => f.validTo.map digits
  | 13 => f.cardTail.map (fixedDigits 4)
  | 14 => f.balance.map f.amount
  | 15 => f.topup.map f.amount
  | 16 => f.authRef.map digits
  | 17 => if f.pending then some pendingWord else none
  | 18 => if f.duplicate then some duplicateWord else none
  | _ => none

/-- A FIELD step's expansion (R136). PRESUMED: the space in ASCII (notes/assumptions/48.md). -/
def fieldBytes (form : Option (List Byte)) (width : Nat) (right : Bool) : List Byte :=
  match form with
  | none => List.replicate width 32#8
  | some t =>
    if width = 0 then t
    else
      let t := t.take width
      let pad := List.replicate (width - t.length) 32#8
      if right then pad ++ t else t ++ pad

/-- The line end command and the cut command (R192). -/
def lineEnd : List Byte := [0x0A#8]
def cutCommand : List Byte := [0x1E#8, 0x43#8]

/-- The printer bytes a step expands into (R133). -/
def Step.bytes (t : BankTables) (f : Snapshot) : Step → List Byte
  | .text i => t.literal i
  | .field n w right => fieldBytes (f.form n) w right
  | .newline => lineEnd
  | .feed n => (List.replicate n lineEnd).flatten
  | .cut => cutCommand
  | .ifset _ _ => []
  | .stop => []

/-- The fixed texts of the voucher slip (R141). -/
def changeOwed : List Byte := [67#8, 72#8, 65#8, 78#8, 71#8, 69#8, 32#8, 79#8, 87#8, 69#8, 68#8, 32#8]
def seqText : List Byte := [83#8, 69#8, 81#8, 32#8]
def bayText : List Byte := [32#8, 66#8, 65#8, 89#8, 32#8]

/-- Step i of the voucher slip (R141). -/
def voucherStep (f : Snapshot) : Nat → Option (List Byte)
  | 0 => some changeOwed
  | 1 => some (fieldBytes (f.form 6) 0 false)
  | 2 => some lineEnd
  | 3 => some seqText
  | 4 => some (fieldBytes (f.form 7) 0 false)
  | 5 => some bayText
  | 6 => some (fieldBytes (f.form 10) 0 false)
  | 7 => some lineEnd
  | 8 => some (lineEnd ++ lineEnd ++ lineEnd)
  | 9 => some cutCommand
  | _ => none

/-! ### Expansion (R133, R140, R141) -/

/-- Bytes join the ring's tail together, and the step they come from is done. -/
def Bay.push (y : Bay) (bs : List Byte) : Bay :=
  { y with ring := y.ring ++ bs, seq := { y.seq with step := y.seq.step + 1 } }

/-- The ring has room for a step's whole expansion (R140). -/
def Bay.ringRoom (y : Bay) (n : Nat) : Bool := decide (n + y.ring.length ≤ Config.ringBytes)

/-- A step that does not fit is not begun: RING_FULL joins the stall set (R140). -/
def Bay.stallFull (y : Bay) : Bay := { y with seq := { y.seq with ringFull := true } }

/-- A copy ends: the next copy, the voucher slip, or DRAINING (R141). DESIGN CHOICE: step stays in DRAINING as the last
copy or the voucher slip left it (notes/assumptions/59.md). -/
def Bay.endCopy (y : Bay) (j : Job) : Bay :=
  if y.seq.copy < j.copies then
    { y with seq := { y.seq with copy := y.seq.copy + 1, step := 0, skip := 0 } }
  else if y.seq.voucher then
    { y with seq := { y.seq with inVoucher := true, step := 0, skip := 0 } }
  else { y with seq := { y.seq with state := .draining } }

/-- The sequencer expands step after step while they fit (R140, R141). The fuel is above the steps of four copies
and the voucher slip. -/
def expandRun (t : BankTables) : Nat → Bay → Bay
  | 0, y => y
  | fuel + 1, y =>
    match y.seq.state, y.seq.job with
    | .expanding, some j =>
      if y.seq.ringFull then y
      else if y.seq.inVoucher then
        match voucherStep j.snapshot y.seq.step with
        | some bs => if y.ringRoom bs.length then expandRun t fuel (y.push bs) else y.stallFull
        | none => { y with seq := { y.seq with state := .draining, voucher := false, inVoucher := false } }
      else if Config.layoutSteps ≤ y.seq.step then expandRun t fuel (y.endCopy j)
      else if 0 < y.seq.skip then
        expandRun t fuel { y with seq := { y.seq with step := y.seq.step + 1, skip := y.seq.skip - 1 } }
      else
        match t.step j.layout y.seq.step with
        | .stop => expandRun t fuel (y.endCopy j)
        | .ifset f n =>
          expandRun t fuel
            { y with seq :=
              { y.seq with step := y.seq.step + 1, skip := if (j.snapshot.form f).isSome then 0 else n } }
        | st =>
          let bs := st.bytes t j.snapshot
          if y.ringRoom bs.length then expandRun t fuel (y.push bs) else y.stallFull
    | _, _ => y

/-- Steps one run of the sequencer can take. -/
def expandFuel : Nat := 200

/-- FAILED when nothing has been delivered, PARTIAL otherwise (R144, R146, R148). -/
def Sequencer.cutOutcome (q : Sequencer) : ReceiptOutcome := if q.sent = 0 then .failed else .partly

/-- A REPRINT's tables are no longer valid at the recorded versions (R148). -/
def Job.stale (j : Job) (t : BankTables) : Bool :=
  decide (j.kind = .reprint)
  && !(t.layout.valid && decide (t.layout.version = j.layoutVersion)
       && t.text.valid && decide (t.text.version = j.textVersion))

/-- The running job goes on expanding, and its outcome if it ends: PRINTED when it drains with an empty ring (R145),
or cut when a REPRINT's tables have changed before its next step (R148). -/
def runJob (b : BayNo) (s : State) : State × Option ReceiptOutcome :=
  let y := s.bay b
  match y.seq.job with
  | none => (s, none)
  | some j =>
    let t := s.tariff.bank j.bank
    if y.seq.state = .expanding ∧ y.seq.ringFull = false ∧ j.stale t then (s, some y.seq.cutOutcome)
    else
      let y' := expandRun t expandFuel y
      let s := s.modBay b fun _ => y'
      (s, if y'.seq.state = .draining ∧ y'.ring = [] then some .printed else none)

/-- The sequencer takes a job (R139), with the stalls of paper OUT and head UP (R143). -/
def Bay.takeJob (y : Bay) (j : Job) (now : Ms) : Bay :=
  { y with seq :=
    { y.seq with
      state := .expanding, job := some j, copy := 1, step := 0, skip := 0, voucher := j.voucher, inVoucher := false,
      ringFull := false, paperOut := decide (y.printer.paper = .out), headUp := y.printer.headUp, sent := 0,
      lastProgress := now } }

/-- A SALE job takes the live decimals and currency text at its start (R135); a REPRINT keeps those recorded. -/
def Job.stamp (j : Job) (site : List (List Byte)) : Job :=
  match j.kind with
  | .sale => { j with snapshot := { j.snapshot with decimals := siteDecimals site, currency := siteCurrency site } }
  | .reprint => j

/-- A job starts (R139); a SALE job with the lost mark, or any job at a LOST terminal, ends FAILED at once (R146). -/
def startJob (b : BayNo) (j : Job) (s : State) : State × Option ReceiptOutcome :=
  let now := s.now
  let j := j.stamp s.site
  let s := s.modBay b fun y => y.takeJob j now
  if j.lostMark ∨ (s.bay b).term.state = .lost then (s, some .failed) else runJob b s

/-- The ring is emptied and the sequencer IDLE (R139, R140). DESIGN CHOICE: copy, step, sent and last progress keep the
values of the job that ended (notes/assumptions/42.md). -/
def Bay.clearJob (y : Bay) : Bay :=
  { y with
    ring := [], inFlight := 0, chunkMark := none,
    seq := { y.seq with state := .idle, job := none, voucher := false, inVoucher := false, ringFull := false,
                        paperOut := false, headUp := false, skip := 0 } }

/-- The last-receipt record of a SALE job that ended PRINTED (R148). -/
def Job.receipt (j : Job) (t : BankTables) (now : Ms) : LastReceipt :=
  ⟨j.snapshot.sequence, j.bank, j.layout, t.layout.version, t.text.version, j.snapshot, now⟩

/-- A SALE job has ended: the record is formed when it ended PRINTED (R148). -/
def keepReceipt (b : BayNo) (j : Job) (o : ReceiptOutcome) (s : State) : State :=
  if o = .printed then
    let r := j.receipt (s.tariff.bank j.bank) s.now
    s.modBay b fun y => { y with lastReceipt := some r }
  else s

/-- A job ends with an outcome (R139): a SALE's is answered for the context; after a REPRINT a waiting SALE starts,
and its outcome is answered if it ends at once. -/
def finishJob (b : BayNo) (o : ReceiptOutcome) (s : State) : State × Option ReceiptOutcome :=
  match (s.bay b).seq.job with
  | none => (s, none)
  | some j =>
    let s := s.modBay b Bay.clearJob
    match j.kind with
    | .sale => (keepReceipt b j o s, some o)
    | .reprint =>
      let waiting := (s.bay b).seq.waiting
      let s := s.modBay b fun y => { y with seq := { y.seq with lastReprint := o, waiting := none } }
      match waiting with
      | none => (s, none)
      | some w =>
        match startJob b w s with
        | (s, some o') => (keepReceipt b ((s.bay b).seq.job.getD w) o' (s.modBay b Bay.clearJob), some o')
        | (s, none) => (s, none)

/-- The running job goes on, and ends when it must. -/
def driveJob (b : BayNo) (s : State) : State × Option ReceiptOutcome :=
  match runJob b s with
  | (s, some o) => finishJob b o s
  | (s, none) => (s, none)

/-- A SALE job is asked for (R147): it starts at an IDLE sequencer, and waits behind a REPRINT. -/
def requestJob (b : BayNo) (j : Job) (s : State) : State × Option ReceiptOutcome :=
  if (s.bay b).seq.state = .idle then
    match startJob b j s with
    | (s, some o) => finishJob b o s
    | (s, none) => (s, none)
  else (s.modBay b fun y => { y with seq := { y.seq with waiting := some j } }, none)

/-- A bay reset aborts the SALE job: a running one is stopped where it stands, a waiting one is removed (R147). -/
def abortJob (b : BayNo) (s : State) : State :=
  s.modBay b fun y =>
    let y := { y with seq := { y.seq with waiting := none } }
    match y.seq.job with
    | some j => if j.kind = .sale then y.clearJob else y
    | none => y

/-- A running job is cut short: no progress, or the terminal lost (R144, R146). -/
def cutJob (b : BayNo) (s : State) : State × Option ReceiptOutcome :=
  finishJob b (s.bay b).seq.cutOutcome s

/-! ### Chunks (R142, R199) -/

/-- The mark after a mark, wrapping from 255 to 1 (R198, R199). -/
def nextMark (m : Nat) : Nat := if m < 255 then m + 1 else 1

/-- The bytes of a new chunk (R142). -/
def Bay.newChunk (y : Bay) : Nat :=
  if y.seq.paperOut || y.seq.headUp then 0 else min y.printer.credit (min Config.chunkBytes y.ring.length)

/-- The chunk offered to a poll: one in flight again with its mark, else a new one (R142, R199). -/
def Bay.offer (y : Bay) : Bay × Option (Nat × List Byte) :=
  if 0 < y.inFlight then (y, some (y.chunkMark.getD 0, y.ring.take y.inFlight))
  else if 0 < y.newChunk then
    let m := y.term.nextChunkMark
    ({ y with inFlight := y.newChunk, chunkMark := some m,
              term := { y.term with nextChunkMark := nextMark m } }, some (m, y.ring.take y.newChunk))
  else (y, none)

/-- A chunk reported delivered leaves the ring (R142), and the credit falls by its bytes (R137). RING_FULL leaves the
stall set at content 256 or below (R140). -/
def Bay.deliver (y : Bay) (now : Ms) : Bay :=
  let ring := y.ring.drop y.inFlight
  { y with
    ring := ring, inFlight := 0, chunkMark := none,
    printer := { y.printer with credit := y.printer.credit - y.inFlight },
    seq := { y.seq with sent := y.seq.sent + y.inFlight, lastProgress := now,
                        ringFull := y.seq.ringFull && decide (Config.ringResume < ring.length) } }

/-! ### What a sale's receipt is made of (R134, R141, R147) -/

/-- The balance the SALE's card part and the receipt show (R134, R153). -/
def Ctx.cardBalance (c : Ctx) : Nat :=
  match c.cardOutcome with
  | .done => c.balanceAfter.getD 0
  | .pending => c.issuedBalance.getD 0
  | .none => match c.card with
    | some v => v.balance
    | none => 0

/-- The validity days a receipt shows (R45, R134). -/
def periodOf (p : Product) (c : Ctx) : Option (Nat × Nat) :=
  match p.kind with
  | .passPrinted => some (printedPeriod p (c.openTime.getD ⟨0, 0, 0⟩).day)
  | .passOnCard => c.passPlan.map fun q => (q.validFrom, q.validTo)
  | .topup => none

/-- The field snapshot of a context (R134, R135). -/
def State.snapshot (s : State) (b : BayNo) (p : Product) : Snapshot :=
  let c := s.ctx b
  let time := c.openTime.getD ⟨0, 0, 0⟩
  let period := periodOf p c
  { productName := s.productName b
    cls := c.cls.getD 0
    zones := if p.usesZones then some ((s.tariff.bank (c.bank.getD .a)).zonesOf true c.origin c.destination) else none
    price := c.price.getD 0
    tendered := if c.method = some .coins then some c.tendered else none
    change := if 0 < c.changeDue.getD 0 then some c.changePaid else none
    shortPay := if 0 < c.shortPay then some c.shortPay else none
    sequence := c.txnSeq.getD 0
    date := time.day
    minute := time.minute
    bay := b.val
    validFrom := period.map (·.1)
    validTo := period.map (·.2)
    cardTail := c.card.map fun v => v.serial.toNat % 10000
    balance := if c.cardOutcome = .done then some c.cardBalance else none
    topup := if p.kind = .topup then c.topupAmount else none
    authRef := c.authRef.map BitVec.toNat
    pending := decide (c.cardOutcome = .pending)
    duplicate := false
    decimals := siteDecimals s.site
    currency := siteCurrency s.site }

/-- The SALE job of a context (R141, R147). -/
def State.saleJob (s : State) (b : BayNo) (p : Product) : Job :=
  let c := s.ctx b
  { kind := .sale
    bank := c.bank.getD .a
    layout := p.layout
    snapshot := s.snapshot b p
    copies := if p.kind = .passPrinted then c.quantity else 1
    voucher := decide (0 < c.shortPay)
    lostMark := c.lostMark
    layoutVersion := (s.tariff.bank (c.bank.getD .a)).layout.version
    textVersion := (s.tariff.bank (c.bank.getD .a)).text.version }

end Sys2Proof.Machine
end

