-- ==== Sys2Proof/Machine/CardOps.lean ====
section
/-! DEFINITION. The Card Unit's shared operations: the exchange record and the card slot (R109, R110, R198), the
pending tear table (R120 to R122, R127), deny lookups (R113), offline limits (R131) and the issue of a write (R117). -/

namespace Sys2Proof.Machine

open Sys2Proof

/-- The Card Unit's own state changes under f. -/
def State.modCard (s : State) (f : CardUnit → CardUnit) : State := { s with card := f s.card }

/-- Bay b's exchange record changes under f. -/
def State.modExch (s : State) (b : BayNo) (f : Exchange → Exchange) : State :=
  s.modBay b fun y => { y with card := f y.card }

/-- Bay b's terminal record changes under f. -/
def State.modTerm (s : State) (b : BayNo) (f : Terminal → Terminal) : State :=
  s.modBay b fun y => { y with term := f y.term }

/-- Bay b's card exchange record. -/
def State.exch (s : State) (b : BayNo) : Exchange := (s.bay b).card

/-- Bay b's card slot. -/
def State.slot (s : State) (b : BayNo) : Option CardSlot := (s.bay b).term.cardSlot

/-! ### The card slot (R198) -/

/-- A command is handed over: it takes the next card mark and fills the slot, not taken and not yet sent. -/
def Terminal.hand (t : Terminal) (cmd : CardCommand) (owner : CommandOwner) : Terminal :=
  { t with cardSlot := some ⟨cmd, t.nextCardMark, none, false, owner⟩, nextCardMark := nextMark t.nextCardMark }

/-- The Card Unit hands the Bay Bus Master a command for bay b (R198). -/
def handCommand (cmd : CardCommand) (owner : CommandOwner) (b : BayNo) (s : State) : State :=
  s.modTerm b fun t => t.hand cmd owner

/-- The card slot becomes empty (R198). -/
def emptySlot (b : BayNo) (s : State) : State := s.modTerm b fun t => { t with cardSlot := none }

/-- In PRESENTING a READ is kept outstanding: one is handed over when the bay has no command (R109, R111). -/
def presentRead (b : BayNo) (s : State) : State :=
  match (s.exch b).phase, s.slot b with
  | .presenting, none => handCommand .read .exchange b s
  | _, _ => s

/-! ### Starting and ending an exchange (R110, R115) -/

/-- An exchange starts in PRESENTING with its purpose and, for WRITE, its request and limit start. -/
def startExchange (p : Purpose) (req : Option WriteRequest) (b : BayNo) (s : State) : State :=
  let start := if p = .write then some s.now else none
  presentRead b (s.modExch b fun _ => ⟨.presenting, some p, req, start, none, none, none⟩)

/-- What becomes of the card slot when the bay's exchange ends: a READ already sent is left to be taken as a late
read, any other command of the exchange is withdrawn, and a re-application's write stays (R110, R114, R125). -/
def CardSlot.leave (c : CardSlot) : Option CardSlot :=
  match c.owner, c.command, c.firstSent with
  | .exchange, .read, some _ => some { c with owner := .late }
  | .exchange, _, _ => none
  | _, _, _ => some c

/-- A re-application whose write has not been issued is dropped at the end of the reading exchange (R125). -/
def Reapplication.leave (r : Reapplication) : Option Reapplication := if r.issued then some r else none

/-- The bay's authorisation wait, if any, ends or is abandoned, and its unsent AUTH_REQ leaves the message queue
(R130, R184). -/
def endAuth (b : BayNo) (s : State) : State :=
  match (s.bay b).authWait with
  | some w => (s.modBay b fun y => { y with authWait := none }).modLink (·.dropAuth w.reference)
  | none => s

/-- A bay reset withdraws the bay's card command, a READ of an ended exchange included; an issued re-application write is
left to finish (R125, R198). -/
def CardSlot.withdraw (c : CardSlot) : Option CardSlot := if c.owner = .reapplication then some c else none

/-- The bay's card command is withdrawn (R198). -/
def withdrawCommand (b : BayNo) (s : State) : State :=
  s.modTerm b fun t => { t with cardSlot := t.cardSlot.bind CardSlot.withdraw }

/-- The bay's exchange ends: its record returns to IDLE (R110). -/
def endExchange (b : BayNo) (s : State) : State :=
  endAuth b
    (s.modBay b fun y =>
      { y with
        card := .reset
        reapply := y.reapply.bind Reapplication.leave
        term := { y.term with cardSlot := y.term.cardSlot.bind CardSlot.leave } })

/-! ### The pending tear table (R120 to R122) -/

/-- Judgements of a card against an entry (R122). -/
inductive Judgement where | applied | notApplied | conflict
  deriving DecidableEq, Repr

/-- The balance an operation leaves, 0 standing in for a result below 0 only beside `opFits`. -/
def balanceAfterOp (op : WriteOp) (balance amount : Nat) : Int :=
  match op with
  | .credit => (balance : Int) + amount
  | .update => (balance : Int) - amount

/-- The named slot of the card holds the pass part (R122). -/
def PassPart.heldBy (p : PassPart) (v : CardValues) : Bool :=
  decide (v.slots.toList.getD p.slot none = some ⟨p.product, p.validFrom, p.validTo⟩)

/-- The judgement of R122. -/
def Tear.judge (t : Tear) (v : CardValues) : Judgement :=
  if v.pseq = t.seqBefore + 1 ∧ (v.balance : Int) = balanceAfterOp t.op t.balanceBefore t.amount
      ∧ (t.pass.all fun p => p.heldBy v) = true then .applied
  else if v.pseq = t.seqBefore ∧ v.balance = t.balanceBefore then .notApplied
  else .conflict

/-- The entry of a serial, if there is one (R120). -/
def State.tearOf (s : State) (serial : BitVec 32) : Option Tear := s.card.tears.find? fun t => t.serial == serial

/-- The entry is the own entry of bay b's open transaction (R120). -/
def Tear.isOwn (t : Tear) (b : BayNo) : Bool := decide (t.owner = .openTxn) && decide (t.bay = b)

/-- Bay b's open transaction has an entry of its own that is not closing: the write to come is the retry (R123). -/
def State.retrying (s : State) (b : BayNo) : Bool := s.card.tears.any fun t => t.isOwn b && !t.closing

/-- The entries of a serial change under f. -/
def State.modTear (s : State) (serial : BitVec 32) (f : Tear → Tear) : State :=
  s.modCard fun c => { c with tears := c.tears.map fun t => if t.serial = serial then f t else t }

/-- The entry of a serial leaves the table. -/
def removeTear (serial : BitVec 32) (s : State) : State :=
  s.modCard fun c => { c with tears := c.tears.filter fun t => decide (t.serial ≠ serial) }

/-- The own entry of bay b's transaction, not closing, leaves the table with no record (R119, R123). -/
def dropOwnEntry (b : BayNo) (s : State) : State :=
  s.modCard fun c => { c with tears := c.tears.filter fun t => !(t.isOwn b && !t.closing) }

/-- The owner OPEN of bay b's entries becomes another (R120). -/
def changeOwner (b : BayNo) (o : TearOwner) (s : State) : State :=
  s.modCard fun c => { c with tears := c.tears.map fun t => if t.isOwn b then { t with owner := o } else t }

/-- The SALE sequence of an owner, absent for OPEN and NONE (R127). -/
def TearOwner.sequence : TearOwner → Option Nat
  | .sale q => some q
  | _ => none

/-- An entry is closed: its TEAR record is requested and its closing mark becomes yes (R127). -/
def closeTear (t : Tear) (resolution : Resolution) (resolver : Option BayNo) (reason : TearReason) (s : State) :
    State :=
  append ⟨.tear resolution t.serial t.op t.amount t.owner.sequence resolver reason, some t.bay, .tear t.serial⟩
    (s.modTear t.serial fun t => { t with closing := true })

/-- Bay b has an issued and unanswered write to the card of a serial (R119). -/
def State.writingTo (s : State) (b : BayNo) (serial : BitVec 32) : Bool :=
  match (s.exch b).phase, (s.exch b).fresh with
  | .writing, some v => v.serial == serial
  | _, _ => false

/-- A tear is formed from bay b's issued write, the bay's reservation becoming the entry, or its retry's own entry is
refreshed (R119, R120, R121, R123). A serial never has two entries: a write barred by R121 is not issued, and where the
serial has an entry none is added. -/
def formTear (b : BayNo) (s : State) : State :=
  match (s.exch b).request, (s.exch b).fresh with
  | some r, some v =>
    if s.retrying b then
      s.modCard fun c =>
        { c with tears := c.tears.map fun t =>
            if t.isOwn b && !t.closing then { t with seqBefore := v.pseq, balanceBefore := v.balance } else t }
    else if (s.tearOf v.serial).isSome ∨ (s.bay b).reserved = false then s.modBay b fun y => { y with reserved := false }
    else
      notify (.tear b v.serial none)
        ((s.modBay b fun y => { y with reserved := false }).modCard fun c =>
          { c with tears := c.tears ++
              [⟨v.serial, b, r.op, r.amount, r.pass, v.pseq, v.balance, s.time.calendar, .openTxn, false⟩] })
  | _, _ => s

/-- The number of reservations (R121). -/
def State.reservations (s : State) : Nat := (s.bays.toList.filter fun y => y.reserved).length

/-- The pending tear table has a free entry (R4, R121). -/
def State.tearFree (s : State) : Bool := decide (s.card.tears.length + s.reservations < Config.tearPlaces)

/-! ### Deny lookups and offline limits (R113, R131) -/

/-- The deny lookup: yes for every serial while the live table is invalid (R52, R113). -/
def State.denied (s : State) (serial : BitVec 32) : Bool :=
  !s.tariff.deny.valid || s.tariff.deny.entries.any fun e => decide (beNat e = serial.toNat)

/-- The offline limits for a top-up (R131). -/
def State.offlineFits (s : State) (amount : Nat) : Bool :=
  decide (amount ≤ siteThreshold s.site) && decide (s.card.offlineTotal + amount ≤ s.card.budget)

/-! ### The issue of a write (R117 steps 2 to 4) -/

/-- The write command of a request on a read (R108, R117). -/
def WriteRequest.command (r : WriteRequest) (v : CardValues) : CardCommand := .write r.op v.serial r.amount v.pseq r.pass

/-- The write is issued: the phase becomes WRITING, in which the presentation limit does not run (R115, R117 step 4).
limit start stays, as purpose WRITE does (R110). -/
def issueWrite (b : BayNo) (s : State) : State :=
  match (s.exch b).request, (s.exch b).fresh with
  | some r, some v =>
    handCommand (r.command v) .exchange b
      ((s.modExch b fun x => { x with phase := .writing }).modCtx b fun c =>
        { c with issuedBalance := some v.balance })
  | _, _ => s

/-- The entry's own write is issued at the reading bay on the values just read (R126 step 3). -/
def issueReapplication (t : Tear) (v : CardValues) (b : BayNo) (s : State) : State :=
  handCommand (.write t.op t.serial t.amount v.pseq t.pass) .reapplication b
    (s.modBay b fun y => { y with reapply := some ⟨t.serial, true, v.pseq, v.balance⟩ })

/-- The reading exchange waits for an entry in RESOLVING (R125). -/
def resolve (serial : BitVec 32) (b : BayNo) (s : State) : State :=
  s.modExch b fun x => { x with phase := .resolving, resolving := some serial }

/-- The exchange returns to PRESENTING and reads the card again; a re-application not issued is dropped (R118, R126). -/
def presentAgain (b : BayNo) (s : State) : State :=
  presentRead b (s.modBay b fun y =>
    { y with
      card := { y.card with phase := .presenting, resolving := none }
      reapply := y.reapply.bind Reapplication.leave })

/-- Bay b's exchange goes back to PRESENTING when it waits for the entry of a serial (R126). -/
def resumeAt (serial : BitVec 32) (b : BayNo) (s : State) : State :=
  if (s.exch b).phase = .resolving ∧ (s.exch b).resolving = some serial then presentAgain b s else s

/-- Every exchange that waited for an entry goes back to PRESENTING once it has left the table (R126). -/
def resume (serial : BitVec 32) (s : State) : State := forBays (resumeAt serial) s

/-- A TEAR record's completion: the entry leaves the table, the notice follows, and readers go on (R127). -/
def tearDone (serial : BitVec 32) (resolution : Resolution) (s : State) : State :=
  match s.tearOf serial with
  | some t =>
    if t.closing then resume serial (notify (.tear t.bay serial (some resolution)) (removeTear serial s)) else s
  | none => s

/-- A re-application's write has an unknown outcome: its entry stays with the values of the read it stood on, and the
reading exchange reads the card again at once (R126). DESIGN CHOICE: where the entry is closing meanwhile, its values
stand, and it leaves the table before the card is read again (notes/assumptions/56.md). -/
def reapplyUnknown (b : BayNo) (s : State) : State :=
  match (s.bay b).reapply with
  | some r =>
    let s := s.modBay b fun y => { y with reapply := none }
    match s.tearOf r.serial with
    | some t =>
      if t.closing then s
      else resumeAt r.serial b
        (s.modTear r.serial fun t => { t with seqBefore := r.pseq, balanceBefore := r.balance })
    | none => resumeAt r.serial b s
  | none => s

/-- A re-application's write is answered: its entry is closed (R126). DESIGN CHOICE: where the entry is closing
already, or has left the table, the answer is ignored, and the card is read again once the entry is gone
(notes/assumptions/56.md). -/
def reapplyAnswered (resolution : Resolution) (reason : TearReason) (b : BayNo) (s : State) : State :=
  match (s.bay b).reapply with
  | some r =>
    let s := s.modBay b fun y => { y with reapply := none }
    match s.tearOf r.serial with
    | some t => if t.closing then s else closeTear t resolution (some b) reason s
    | none => resumeAt r.serial b s
  | none => s

end Sys2Proof.Machine
end

