-- ==== Sys2Proof/Machine/Engine.lean ====
section
/-! DEFINITION. The Bay Transaction Engine: state entries, opening and close (R2, R5, R6), refusals and cancels (R7, R18),
commit, payout and receipt (R12, R15 to R17), and the causes set (R20 to R22). -/

namespace Sys2Proof.Machine

open Sys2Proof

/-! ### State entries -/

/-- The tone of a state entry: NONE on leaving TEAR_WAIT, REPEAT on entering it (R200). -/
def entryTone (was st : CtxState) (b : BayNo) (s : State) : State :=
  if st = .tearWait then sound .rept b s
  else if was = .tearWait then sound .none b s
  else s

/-- Bay b's context enters a state: last_change takes the millisecond count, a text over the display goes, the mask
and the display follow (R1, R19, R84). -/
def enter (st : CtxState) (b : BayNo) (s : State) : State :=
  let was := (s.ctx b).state
  let now := s.now
  refresh b (recomputeMask b (entryTone was st b
    (s.modCtx b fun c => { c with state := st, lastChange := now, overlay := .none, wait := .none })))

/-- The context as entry to IDLE, or to OUT_OF_SERVICE from a transaction, clears it (R2). -/
def Ctx.clear (c : Ctx) (st : CtxState) (now : Ms) : Ctx :=
  { Ctx.reset with
    state := st
    quantity := c.quantity
    evalFlags := c.evalFlags
    causes := c.causes
    lastRefusal := c.lastRefusal
    lastChange := now }

/-- The state a closing transaction leads to: IDLE with an empty causes set at a bay not marked ABSENT, and
OUT_OF_SERVICE otherwise (R17, R21). -/
def State.restState (s : State) (b : BayNo) : CtxState :=
  if (s.ctx b).causes.isEmpty && !siteAbsent s.site b then .idle else .outOfService

/-- The context comes to rest in IDLE or OUT_OF_SERVICE, cleared (R2). -/
def rest (st : CtxState) (b : BayNo) (s : State) : State :=
  let was := (s.ctx b).state
  let now := s.now
  refresh b (recomputeMask b (entryTone was st b (s.modCtx b fun c => c.clear st now)))

/-- A bay becomes ABSENT: the terminal leaves the rotation (R202). -/
def makeAbsent (b : BayNo) (s : State) : State :=
  notify (.terminal b .absent)
    (s.modTerm b fun t => { t with state := .absent, misses := 0, recoveryStart := none })

/-- At a close, a bay that the site has marked ABSENT meanwhile becomes ABSENT (R202). -/
def settleAbsent (b : BayNo) (s : State) : State :=
  if siteAbsent s.site b ∧ (s.bay b).term.state ≠ .absent then makeAbsent b s else s

/-- The bank of bay b's context is unpinned (R63). -/
def unpinBank (b : BayNo) (s : State) : State :=
  match (s.ctx b).bank with
  | some k => { s with tariff := s.tariff.unpin k }
  | none => s

/-- The CHIRP of a close from PRINT, however PRINT is left (1.2, R17, R200). -/
def chirpFrom (was : CtxState) (b : BayNo) (s : State) : State := if was = .print then sound .chirp b s else s

/-- The transaction closes: a return is requested for a non-empty escrow list, the bank is unpinned, the reservation
is released, and the context comes to rest; a close from PRINT sounds CHIRP (1.2, R17, R80, R121, R200). -/
def closeTxn (b : BayNo) (s : State) : State :=
  let was := (s.ctx b).state
  let s := if (s.ctx b).coins = [] then s else requestReturn b s
  let s := (unpinBank b s).modBay b fun y => { y with reserved := false }
  chirpFrom was b (settleAbsent b (rest (s.restState b) b s))

/-! ### ADJUST requests (R154) -/

/-- What an ADJUST of a reason refers to: no SALE for REFUND_SHORT (R154). -/
def adjustRef (c : Ctx) : AdjustReason → Option Nat
  | .refundShort => none
  | _ => c.txnSeq

/-- An ADJUST record is requested for bay b (R154). -/
def appendAdjust (reason : AdjustReason) (amount : Nat) (by_ : AppendBy) (b : BayNo) (s : State) : State :=
  append ⟨.adjust reason amount (adjustRef (s.ctx b) reason), some b, by_⟩ s

/-- The context waits for something within its state, and its hold cause follows (R19). -/
def await (w : Wait) (b : BayNo) (s : State) : State := refresh b (s.modCtx b fun c => { c with wait := w })

/-- The context requests an ADJUST and waits for it (R16 to R18). -/
def adjustAndWait (reason : AdjustReason) (amount : Nat) (b : BayNo) (s : State) : State :=
  await .adjust b (appendAdjust reason amount (.ctx b) b s)

/-! ### Refund and cancel (R7, R18) -/

/-- The credited value of the overflow coins (R18). -/
def Ctx.overflowValue (c : Ctx) : Nat := c.tendered - (c.coins.map Coin.value).sum

/-- A REFUND's payout has ended with `paid` (R18, R97). -/
def refundEnded (paid : Nat) (b : BayNo) (s : State) : State :=
  let short := (s.ctx b).refundOwed - paid
  if 0 < short then adjustAndWait .refundShort short b s else closeTxn b s

/-- On entry to REFUND: the escrow is returned, and the credited overflow value is paid from the tubes (R18). -/
def enterRefund (b : BayNo) (s : State) : State :=
  let c := s.ctx b
  let s := if c.state = .pricing then { s with tariff := s.tariff.withdraw b } else s
  let s := dropOwnEntry b (endExchange b s)
  let s := requestReturn b (enter .refund b s)
  let owed := c.overflowValue
  if 0 < owed then
    let s := await .payout b (s.modCtx b fun c => { c with refundOwed := owed })
    match startPayout b .refund owed s with
    | (s, true) => refundEnded (s.bay b).payout.paid b s
    | (s, false) => s
  else closeTxn b s

/-- A refusal that ends the transaction: the cancel, with the refusal given over the display it leads to (R7, R19). -/
def cancelWith (code : Code) (b : BayNo) (s : State) : State := refuse code b (enterRefund b s)

/-! ### Receipt (R17, R147) -/

/-- The product of bay b's context is a printed pass. -/
def State.isPrintedPass (s : State) (b : BayNo) : Bool :=
  match s.product b with
  | some p => decide (p.kind = .passPrinted)
  | none => false

/-- SERVER joins the causes of an open transaction (R17, R20). -/
def joinServer (b : BayNo) (s : State) : State :=
  s.modCtx b fun c => { c with causes := c.causes.put .server true }

/-- The ADJUST a receipt not printed whole calls for, and the SERVER cause of an unissued pass (R17). -/
def receiptAdjust (by_ : AppendBy) (b : BayNo) (s : State) : State :=
  if s.isPrintedPass b then
    joinServer b (appendAdjust .passNotIssued ((s.ctx b).price.getD 0) by_ b s)
  else appendAdjust .receiptFailed 0 by_ b s

/-- The context takes its receipt outcome in PRINT (R17); elsewhere it is discarded (R3). -/
def receiptTaken (o : ReceiptOutcome) (b : BayNo) (s : State) : State :=
  if (s.ctx b).state = .print ∧ (s.ctx b).wait = .receipt then
    let s := s.modCtx b fun c => { c with receiptOutcome := o }
    match o with
    | .partly | .failed => await .adjust b (receiptAdjust (.ctx b) b s)
    | _ => closeTxn b s
  else s

/-- A job's outcome, if one has come of the step. -/
def receiptTaken? (b : BayNo) (r : State × Option ReceiptOutcome) : State :=
  match r with
  | (s, some o) => receiptTaken o b s
  | (s, none) => s

/-- Entry to PRINT: the last-receipt record is cleared, and the receipt is declined or asked for (R17, R147). DESIGN
CHOICE: lost_mark, handed on here, stays yes until the close (R146, notes/assumptions/43.md). -/
def enterPrint (b : BayNo) (s : State) : State :=
  let s := (enter .print b s).modBay b fun y => { y with lastReceipt := none }
  let c := s.ctx b
  if c.receiptWanted = false ∧ c.shortPay = 0 then
    closeTxn b (s.modCtx b fun c => { c with receiptOutcome := .declined })
  else
    match s.product b with
    | some p => receiptTaken? b (requestJob b (s.saleJob b p) (await .receipt b s))
    | none => receiptTaken .failed b (await .receipt b s)

/-! ### Payout and commit (R15, R16) -/

/-- The payout of change has ended: short_pay is set, and recorded when above 0 (R16, R97). -/
def changeEnded (b : BayNo) (s : State) : State :=
  let s := s.modCtx b fun c => { c with shortPay := c.changeDue.getD 0 - c.changePaid }
  let short := (s.ctx b).shortPay
  if 0 < short then adjustAndWait .shortPay short b s else enterPrint b s

/-- A payout's end is reported to the context that asked for it (R97); elsewhere it is discarded (R3). -/
def payoutEnded (b : BayNo) (s : State) : State :=
  let x := (s.bay b).payout
  let c := s.ctx b
  match x.requester, c.state, c.wait with
  | .payout, .payout, .payout => changeEnded b s
  | .refund, .refund, .payout => refundEnded x.paid b s
  | _, _, _ => s

/-- What a step of the executor leads to. -/
def payoutStep (b : BayNo) (r : State × Bool) : State :=
  match r with
  | (s, true) => payoutEnded b s
  | (s, false) => s

/-- Entry to PAYOUT (R15, R16). -/
def enterPayout (b : BayNo) (s : State) : State :=
  let s := await .payout b (enter .payout b s)
  payoutStep b (startPayout b .payout ((s.ctx b).changeDue.getD 0) s)

/-- The coin list of a SALE: a pair for each kind present in the escrow list, in ascending kind order (R153). -/
def coinPairs (coins : List Coin) : List (Nat × Nat) :=
  ((List.range 9).map fun k => (k, (coins.filter fun c => c.kind = k).length)).filter fun p => 0 < p.2

/-- The body of the SALE record, built on entry to COMMIT (R15, R153). -/
def State.saleBody (s : State) (b : BayNo) (coins : List Coin) : SaleBody :=
  let c := s.ctx b
  let bank := c.bank.getD .a
  let t := s.tariff.bank bank
  let uses := match s.product b with
    | some p => p.usesZones
    | none => false
  let kind := (s.product b).map Product.kind
  { product := c.product.getD 0
    cls := c.cls.getD 0
    quantity := c.quantity
    zones := t.zonesOf uses c.origin c.destination
    bank := bank
    productVersion := t.product.version
    ruleVersion := t.rule.version
    price := c.price.getD 0
    evalFlags := c.evalFlags
    method := c.method.getD .coins
    tendered := c.tendered
    coins := coinPairs coins
    overflow := c.overflow
    changeDue := c.changeDue.getD 0
    card := c.card.map fun v => (v.serial, c.cardBalance, c.cardOutcome)
    pass := if kind = some .passOnCard then c.passPlan else none
    topup := if kind = some .topup then c.topupAmount else none
    authRef := c.authRef
    offline := !s.online }

/-- change_due (R15). -/
def Ctx.due (c : Ctx) : Nat :=
  match c.method with
  | some .coins => c.tendered - c.price.getD 0
  | _ => 0

/-- Entry to COMMIT: the escrow is routed, change_due fixed, and the SALE requested (R15). -/
def enterCommit (b : BayNo) (s : State) : State :=
  let coins := (s.ctx b).coins
  let s := routeEscrow b (enter .commit b (endExchange b s))
  let s := await .sale b
    (s.modCtx b fun c => { c with changeDue := some c.due, changePaid := 0, shortPay := 0 })
  append ⟨.sale (s.saleBody b coins), some b, .ctx b⟩ s

/-! ### Card states (R6, R14) -/

/-- Entry to CARD_READ (R6, R110). -/
def enterCardRead (b : BayNo) (s : State) : State := startExchange .read none b (enter .cardRead b s)

/-- The write request of a context's product (R14). -/
def State.writeRequest (s : State) (b : BayNo) : WriteRequest :=
  let c := s.ctx b
  let debit := if c.method = some .purse then c.price.getD 0 else 0
  match (s.product b).map Product.kind with
  | some .topup => ⟨.credit, c.topupAmount.getD 0, none⟩
  | some .passOnCard =>
    ⟨.update, debit, c.passPlan.map fun p => ⟨p.slot, c.product.getD 0, p.validFrom, p.validTo⟩⟩
  | _ => ⟨.update, debit, none⟩

/-- Entry to CARD_WRITE: a write exchange starts with its limit (R14, R115). -/
def enterCardWrite (b : BayNo) (s : State) : State :=
  startExchange .write (some (s.writeRequest b)) b (enter .cardWrite b s)

/-- Entry to TEAR_WAIT (R14, R110). -/
def enterTearWait (b : BayNo) (s : State) : State := startExchange .retrn none b (enter .tearWait b s)

/-- An issued write of bay b has an unknown outcome: the tear is entered and the context goes to TEAR_WAIT (R14,
R119). -/
def writeUnknown (b : BayNo) (s : State) : State := refresh b (enterTearWait b (endExchange b (formTear b s)))

/-! ### Pricing and confirmation (R6, R10 to R12) -/

/-- Entry to PRICING with a request placed (R6, R9, R11). -/
def enterPricing (b : BayNo) (s : State) : State := placeRequest b (enter .pricing b s)

/-- The product's card work follows payment: PASS_ON_CARD and TOPUP (R12, R13). -/
def State.writesCard (s : State) (b : BayNo) : Bool :=
  match (s.product b).map Product.kind with
  | some .passOnCard => true
  | some .topup => true
  | _ => false

/-- A confirmed transaction whose price_method equals its method leaves PRICED (R12). -/
def leavePriced (b : BayNo) (s : State) : State :=
  let c := s.ctx b
  let balance := match c.card with
    | some v => v.balance
    | none => 0
  let price := c.price.getD 0
  if c.method = some .purse ∧ balance < price then
    refuse .insufficient b (s.modCtx b fun c => { c with method := none })
  else if price = 0 then
    if s.writesCard b then enterCardWrite b s else enterCommit b s
  else if c.method = some .purse then enterCardWrite b s
  else enter .tender b s

/-! ### The SALE's completion (R15, R23) -/

/-- txn_seq is taken, and the owner of a pending tear entry takes it (R15, R120). -/
def takeSequence (q : Nat) (b : BayNo) (s : State) : State :=
  let s := s.modCtx b fun c => { c with txnSeq := some q }
  if (s.ctx b).cardOutcome = .pending then changeOwner b (.sale q) s else s

/-! ### Bay reset (R23) -/

/-- An ADJUST of a bay reset still waits for a place. -/
def Journal.waitsFor (j : Journal) (b : BayNo) : Bool := j.waitList.any fun r => r.requester == .reset b

/-- The bay's card command is withdrawn, and once the records of the bay reset are placed the transaction is closed (R23,
R198). -/
def finishReset (b : BayNo) (s : State) : State :=
  let s := withdrawCommand b s
  if s.journal.waitsFor b then recomputeMask b (await .places b s) else closeTxn b s

/-- Requests the context had made are left without their requester (R3). -/
def Journal.orphan (j : Journal) (b : BayNo) : Journal :=
  let f := fun (r : Append) => if r.requester = .ctx b then { r with requester := .nobody } else r
  { j with queue := j.queue.map f, waitList := j.waitList.map f }

/-- The ADJUST of an amount above 0 that a bay reset appends. -/
def resetAdjust (reason : AdjustReason) (amount : Nat) (b : BayNo) (s : State) : State :=
  if 0 < amount then appendAdjust reason amount (.reset b) b s else s

/-- A bay reset fails the receipt: FAILED, and the ADJUST of R17 (R23). -/
def resetReceipt (b : BayNo) (s : State) : State :=
  receiptAdjust (.reset b) b (s.modCtx b fun c => { c with receiptOutcome := .failed })

/-- A bay reset before COMMIT: everything is given back, an issued write stays as a tear without an owner, and the
credited overflow value is recorded (R23). -/
def resetEarly (b : BayNo) (s : State) : State :=
  let owed := (s.ctx b).overflowValue
  let s := if (s.ctx b).state = .pricing then { s with tariff := s.tariff.withdraw b } else s
  let s := if (s.exch b).phase = .writing then formTear b s else s
  let s := requestReturn b (endExchange b (changeOwner b .nobody s))
  finishReset b (resetAdjust .refundShort owed b s)

/-- A bay reset in PAYOUT, or released from COMMIT: short_pay is fixed and recorded unless it has been, and the receipt
fails (R23). -/
def resetPayout (b : BayNo) (s : State) : State :=
  let c := s.ctx b
  let s := stopPayout b (s.modJournal (·.orphan b))
  let s := if c.wait = .adjust then s
    else
      let short := c.changeDue.getD 0 - c.changePaid
      resetAdjust .shortPay short b (s.modCtx b fun c => { c with shortPay := short })
  finishReset b (resetReceipt b s)

/-- A bay reset in PRINT: the receipt is aborted and fails, unless its outcome has been taken (R23, R147). -/
def resetPrint (b : BayNo) (s : State) : State :=
  let c := s.ctx b
  let s := s.modJournal (·.orphan b)
  if c.wait = .adjust then finishReset b s else finishReset b (resetReceipt b (abortJob b s))

/-- A bay reset in REFUND: the payout stops and its unpaid part is recorded, unless it has ended (R23). -/
def resetRefund (b : BayNo) (s : State) : State :=
  let c := s.ctx b
  let unpaid := c.refundOwed - (s.bay b).payout.paid
  let s := stopPayout b (s.modJournal (·.orphan b))
  finishReset b (if c.wait = .payout then resetAdjust .refundShort unpaid b s else s)

/-- A bay reset, in the state it finds (R23); one that waits already is joined. -/
def bayReset (b : BayNo) (s : State) : State :=
  if (s.ctx b).wait = .places then s
  else match (s.ctx b).state with
    | .idle | .outOfService => requestReturn b s
    | .opening | .cardRead | .pricing | .priced | .tender | .cardWrite | .tearWait => resetEarly b s
    | .commit => s.modCtx b fun c => { c with resetHeld := true }
    | .payout => resetPayout b s
    | .print => resetPrint b s
    | .refund => resetRefund b s

/-- The SALE has completed: a held bay reset is carried out, or the transaction goes on to PAYOUT or PRINT (R15,
R23). -/
def saleDone (q : Nat) (b : BayNo) (s : State) : State :=
  if (s.ctx b).state = .commit ∧ (s.ctx b).wait = .sale then
    let s := takeSequence q b s
    if (s.ctx b).resetHeld then
      resetPayout b (s.modCtx b fun c => { c with resetHeld := false })
    else if 0 < (s.ctx b).changeDue.getD 0 then enterPayout b s
    else enterPrint b s
  else s

/-- An ADJUST the context waits for has completed (R16 to R18). -/
def adjustDone (b : BayNo) (s : State) : State :=
  match (s.ctx b).state, (s.ctx b).wait with
  | .payout, .adjust => enterPrint b s
  | .print, .adjust => closeTxn b s
  | .refund, .adjust => closeTxn b s
  | _, _ => s

/-! ### Causes (R20 to R22) -/

/-- The context is in an open state and takes events: no bay reset waits in it (R23). -/
def Ctx.takes (c : Ctx) : Bool := decide (c.wait ≠ .places)

/-- What TERMINAL_LOST does to a transaction (R22). -/
def lostReaction (b : BayNo) (s : State) : State :=
  let c := s.ctx b
  if c.takes then
    match c.state with
    | .opening | .cardRead | .pricing | .priced | .tender => enterRefund b s
    | .cardWrite => if (s.exch b).phase = .writing then writeUnknown b s else cancelWith .cardTimeout b s
    | .commit | .payout => s.modCtx b fun c => { c with lostMark := true }
    | _ => s
  else s

/-- What a joining cause does to the context (R20, R22). -/
def causeReaction (k : Cause) (b : BayNo) (s : State) : State :=
  let c := s.ctx b
  match c.state, k with
  | .idle, _ => enter .outOfService b s
  | .outOfService, _ => s
  | _, .boxAbsent => if c.takes && c.state.isEarly then enterRefund b s else s
  | _, .terminalLost => lostReaction b s
  | _, _ => s

/-- A cause joins the set of bay b (R20), and acts on the context (R22); one that stands already changes nothing. -/
def joinCause (k : Cause) (b : BayNo) (s : State) : State :=
  if (s.ctx b).causes.has k then s
  else
    recomputeMask b (causeReaction k b
      (recomputeMask b (s.modCtx b fun c => { c with causes := c.causes.put k true })))

/-- A cause leaves the set; the state stays (R20). -/
def leaveCause (k : Cause) (b : BayNo) (s : State) : State :=
  recomputeMask b (s.modCtx b fun c => { c with causes := c.causes.put k false })

/-- The JAM_ALL test after a change of a tube's state (R20, R89). -/
def testJamAll (b : BayNo) (s : State) : State :=
  if (s.bay b).allJammed then joinCause .jamAll b s else leaveCause .jamAll b s

end Sys2Proof.Machine
end

