-- ==== Sys2Proof/Machine/CardWork.lean ====
section
/-! DEFINITION. What the Card Unit does with a card's values and answers: tear judgement and re-application (R122 to
R126), good reads and fresh reads (R112, R116), authorisation (R129, R130) and the issue of a write (R117, R118). -/

namespace Sys2Proof.Machine

open Sys2Proof

/-! ### Reading for CARD_READ (R112) -/

/-- A read for purpose READ: a denied serial cancels, any other is the good read (R9, R112). -/
def goodRead (v : CardValues) (b : BayNo) (s : State) : State :=
  if s.denied v.serial then cancelWith .cardDenied b s
  else enterPricing b (endExchange b (s.modCtx b fun c => { c with card := some v }))

/-! ### The card write (R116 to R118, R129) -/

/-- The request of bay b's exchange is a CREDIT. -/
def WriteRequest.isCredit (r : WriteRequest) : Bool := decide (r.op = .credit)

/-- The offline test of the issue applies: a CREDIT with the link OFFLINE that is no retry (R117, R123). -/
def State.offlineTested (s : State) (b : BayNo) (r : WriteRequest) : Bool :=
  r.isCredit && !s.online && !s.retrying b

/-- No write may be issued to the card of bay b's fresh read: it has an entry that is not the one bay b retries, or a
write to it is outstanding at another bay, which may yet leave one (R121). -/
def State.writeBarred (s : State) (b : BayNo) : Bool :=
  match (s.exch b).fresh with
  | some v =>
    s.card.tears.any (fun t => t.serial == v.serial && !(t.isOwn b && !t.closing))
    || allBays.any fun c => decide (c ≠ b) && s.writingTo c v.serial
  | none => false

/-- The exchange goes on at step 2 of R117: HELD under the supply warning; else the offline test and the issue. DESIGN
CHOICE: a write that R121 bars is not issued, and the card is read again (notes/assumptions/45.md). -/
def goWrite (b : BayNo) (s : State) : State :=
  match (s.exch b).request with
  | none => s
  | some r =>
    if s.supplyLow then s.modExch b fun x => { x with phase := .held }
    else if s.writeBarred b then presentAgain b s
    else if s.offlineTested b r then
      if s.offlineFits r.amount then
        issueWrite b (s.modCard fun c => { c with offlineTotal := c.offlineTotal + r.amount })
      else cancelWith .offlineLimit b s
    else issueWrite b s

/-- An AUTH_REQ is handed over, and the exchange waits in AUTHORISING (R129). -/
def requestAuth (r : WriteRequest) (v : CardValues) (b : BayNo) (s : State) : State :=
  let ref := s.card.nextRef
  let now := s.now
  let s := s.modCard fun c => { c with nextRef := c.nextRef + 1 }
  let s := s.modBay b fun y => { y with authWait := some ⟨ref, now⟩, card := { y.card with phase := .authorising } }
  refresh b (s.modLink (·.authReq ref b v.serial r.amount v.balance))

/-- A fresh read that has passed R116 goes on: authorisation first where it is needed (R117 step 1, R129). -/
def afterFresh (r : WriteRequest) (v : CardValues) (b : BayNo) (s : State) : State :=
  let s := s.modExch b fun x => { x with phase := .checking }
  if r.isCredit && decide (siteThreshold s.site < r.amount) && !s.retrying b && (s.exch b).grant.isNone then
    if s.online then requestAuth r v b s else cancelWith .authTimeout b s
  else goWrite b s

/-- The check of R116 that fails first, after the serial's: none when all pass. -/
def State.freshFailure (s : State) (b : BayNo) (r : WriteRequest) (v : CardValues) : Option Code :=
  let left := balanceAfterOp r.op v.balance r.amount
  if s.denied v.serial then some .cardDenied
  else if r.op = .update ∧ v.balance < r.amount then some .insufficient
  else if left < 0 ∨ (siteCeiling s.site : Int) < left then some .overCeiling
  else if s.offlineTested b r ∧ s.offlineFits r.amount = false then some .offlineLimit
  else none

/-- The card's serial is that of the context's card record (R116 check 1). -/
def Ctx.cardIs (c : Ctx) (serial : BitVec 32) : Bool :=
  match c.card with
  | some v => v.serial == serial
  | none => false

/-- The fresh read of a write exchange (R116). -/
def freshRead (v : CardValues) (b : BayNo) (s : State) : State :=
  let s := s.modExch b fun x => { x with fresh := some v }
  match (s.exch b).request with
  | none => presentRead b s
  | some r =>
    if (s.ctx b).cardIs v.serial then
      match s.freshFailure b r v with
      | some code => cancelWith code b s
      | none => afterFresh r v b s
    else presentRead b (refuse .wrongCard b s)

/-! ### Settling a tear (R122 to R126) -/

/-- The owning context settles its own tear in TEAR_WAIT (R14, R123). DESIGN CHOICE: a CONFLICT requests its TEAR record
before the SALE (notes/assumptions/57.md). -/
def settleOwn (t : Tear) (v : CardValues) (b : BayNo) (s : State) : State :=
  match t.judge v with
  | .applied =>
    enterCommit b ((removeTear t.serial s).modCtx b fun c =>
      { c with cardOutcome := .done, balanceAfter := some v.balance })
  | .notApplied =>
    if (s.ctx b).writeRetried then enterRefund b s
    else enterCardWrite b (s.modCtx b fun c => { c with writeRetried := true })
  | .conflict =>
    enterCommit b ((closeTear t .conflict (some b) .none s).modCtx b fun c => { c with cardOutcome := .pending })

/-- The re-application of an entry on the values just read (R126). -/
def reapplyEntry (t : Tear) (v : CardValues) (b : BayNo) (s : State) : State :=
  let left := balanceAfterOp t.op v.balance t.amount
  let s := resolve t.serial b s
  if s.supplyLow then s.modBay b fun y => { y with reapply := some ⟨t.serial, false, v.pseq, v.balance⟩ }
  else if left < 0 then closeTear t .failed (some b) .balance s
  else if (siteCeiling s.site : Int) < left then closeTear t .failed (some b) .cardLimit s
  else issueReapplication t v b s

/-- An entry without an open transaction is resolved by a reading exchange (R124). -/
def resolveEntry (t : Tear) (v : CardValues) (b : BayNo) (s : State) : State :=
  match t.judge v with
  | .applied => closeTear t .applied (some b) .none (resolve t.serial b s)
  | .conflict => closeTear t .conflict (some b) .none (resolve t.serial b s)
  | .notApplied =>
    match t.owner with
    | .sale _ => reapplyEntry t v b s
    | _ => closeTear t .failed (some b) .cancelled (resolve t.serial b s)

/-- A CARD answer without an entry goes to the purpose of the exchange (R111 step 2). -/
def purposeRead (v : CardValues) (b : BayNo) (s : State) : State :=
  match (s.exch b).purpose with
  | some .read => goodRead v b s
  | some .write => freshRead v b s
  | _ => presentRead b s

/-- A CARD answer with an entry (R122). -/
def entryRead (t : Tear) (v : CardValues) (b : BayNo) (s : State) : State :=
  if t.closing then presentRead b s
  else match t.owner with
    | .openTxn =>
      if t.bay = b then
        match (s.exch b).purpose with
        | some .retrn => settleOwn t v b s
        | some .write => freshRead v b s
        | _ => presentRead b s
      else presentRead b s
    | _ => resolveEntry t v b s

/-- A CARD answer in PRESENTING (R111). -/
def readTaken (v : CardValues) (b : BayNo) (s : State) : State :=
  match s.tearOf v.serial with
  | some t => entryRead t v b s
  | none => purposeRead v b s

/-- A CARD answer to a READ whose exchange has ended (R114). -/
def lateRead (v : CardValues) (b : BayNo) (s : State) : State :=
  match s.tearOf v.serial with
  | none => s
  | some t =>
    if t.closing ∨ t.owner = .openTxn then s
    else match t.judge v with
      | .applied => closeTear t .applied (some b) .none s
      | .conflict => closeTear t .conflict (some b) .none s
      | .notApplied => s

/-! ### Answers to writes (R119) -/

/-- The exchange's write was answered OK (R14, R119). -/
def writeDone (balance : Nat) (b : BayNo) (s : State) : State :=
  enterCommit b ((dropOwnEntry b s).modCtx b fun c =>
    { c with cardOutcome := .done, balanceAfter := some balance })

/-- The exchange's write was refused by the card (R14, R119); the cancel takes the own entry of a retry away. -/
def writeRefused (r : CardRefusal) (b : BayNo) (s : State) : State := cancelWith r.code b s

/-! ### Authorisation (R130) -/

/-- A wait ends without a grant: the context cancels (R130). -/
def authFailed (code : Code) (b : BayNo) (s : State) : State := cancelWith code b (endAuth b s)

/-- A wait ends with a grant: the exchange goes on at step 2 of R117 (R130). -/
def authGranted (ref : BitVec 32) (b : BayNo) (s : State) : State :=
  let s := (endAuth b s).modExch b fun x => { x with grant := some ref, phase := .checking }
  goWrite b (refresh b (s.modCtx b fun c => { c with authRef := some ref }))

/-- The bay whose wait carries a reference (R130). -/
def State.waitOf (s : State) (ref : BitVec 16) : Option BayNo :=
  allBays.find? fun b => match (s.bay b).authWait with
    | some w => w.reference == ref
    | none => false

/-! ### The supply warning clears (R118, R126) -/

/-- A held exchange, or a re-application that waited on the warning, reads the card afresh (R118, R126). -/
def unhold (b : BayNo) (s : State) : State :=
  match (s.exch b).phase, (s.bay b).reapply with
  | .held, _ => presentAgain b s
  | .resolving, some r =>
    if r.issued then s else presentAgain b s
  | _, _ => s

/-! ### Link transitions (R131, R189, R190) -/

/-- Every authorisation wait ends as the link becomes OFFLINE (R130, R189). -/
def endWaits (s : State) : State :=
  forBays (fun b s => if (s.bay b).authWait.isSome then authFailed .authTimeout b s else s) s

/-- The link becomes OFFLINE (R189): one transition. -/
def linkOffline (s : State) : State :=
  let s := endWaits (s.modLink (·.offline))
  let budget := siteBudget s.site
  (appendLink false (s.modCard fun c => { c with budget := budget })).modLink (·.countTransition)

/-- The link becomes ONLINE (R190), with the order of notes/assumptions/44.md among its effects. -/
def linkOnline (s : State) : State :=
  let s := s.modLink fun l => l.goOnline s.now s.supervisionLimit s.journal.acked
  let s := forwardNext (s.modCard fun c => { c with offlineTotal := 0 })
  (appendLink true s).modLink (·.countTransition)

end Sys2Proof.Machine
end

