-- ==== Sys2Proof/Machine/ResetOps.lean ====
section
/-! DEFINITION. Start-up (R208) and the link reset (R191): what is lost, what is kept, and how the contexts and the other
volatile records are rebuilt (R2). -/

namespace Sys2Proof.Machine

open Sys2Proof

/-! ### What both resets rebuild in a bay -/

/-- A receiver after a power-on or link reset: the filtered level is the raw level, and a LOW line is in fault (R68). -/
def CoinLine.rebuild (c : CoinLine) : CoinLine :=
  { CoinLine.reset with
    rawHigh := c.rawHigh, rawSince := c.rawSince, filteredHigh := c.rawHigh, fault := !c.rawHigh }

/-- The causes standing at the end of a reset (R2). -/
def Bay.standingCauses (y : Bay) : Causes :=
  { Causes.empty with
    serviceDoor := y.lines.serviceDoor.accepted
    boxAbsent := !y.lines.boxPresent.accepted
    coinLineFault := y.coin.fault
    jamAll := y.allJammed }

/-- A bay rebuilt by a power-on or link reset (R2, R193, R208): its lines, tubes and box record are kept, its escrow is
being returned, and its context is in IDLE, or in OUT_OF_SERVICE with a standing cause or the ABSENT mark. -/
def Bay.rebuild (y : Bay) (site : List (List Byte)) (b : BayNo) (now : Ms) : Bay :=
  let y := { y with coin := y.coin.rebuild }
  let causes := y.standingCauses
  let absent := siteAbsent site b
  let st := if causes.isEmpty && !absent then CtxState.idle else CtxState.outOfService
  { Bay.reset with
    ctx := { Ctx.reset with state := st, causes := causes, lastChange := now }
    coin := y.coin
    escrow := ⟨some now, false⟩
    tubes := y.tubes
    box := y.box
    term :=
      { Terminal.reset with
        state := if absent then .absent else .missing
        screen := ⟨st, none, [], none, siteDecimals site, siteCurrency site, .none⟩ }
    lines := y.lines }

/-- Every bay is rebuilt. -/
def rebuildBays (s : State) : State :=
  forBays (fun b s => let now := s.now; let site := s.site; s.modBay b fun y => y.rebuild site b now) s

/-- The load machine and the volatile part of the Tariff Unit after either reset (R49, R53, R59, R63, R66). -/
def Tariff.restart (t : Tariff) : Tariff :=
  { t with
    denyShadow := .empty, siteShadow := .empty, pinsA := 0, pinsB := 0, load := .reset, scheduled := none,
    lastSwitch := .none, queue := [], evaluating := none }

/-- A tear entry after either reset: its closing mark is cleared, and an owner OPEN becomes NONE (R120, R127, R132). -/
def Tear.restart (t : Tear) : Tear :=
  { t with closing := false, owner := if t.owner = .openTxn then .nobody else t.owner }

/-- The Card Unit after either reset, its retained items kept (R129 to R132). -/
def CardUnit.restart (c : CardUnit) (site : List (List Byte)) : CardUnit :=
  { c with
    tears := c.tears.map Tear.restart, budget := max (siteBudget site) c.offlineTotal, lateReplies := 0, nextRef := 0 }

/-- Requested marks are cleared by either reset (R103). -/
def Box.restart (x : Box) : Box := { x with slot := x.slot.map fun c => { c with requested := false } }

/-- The requested marks of every bay are cleared. -/
def clearRequested (s : State) : State :=
  forBays (fun b s => s.modBay b fun y => { y with box := y.box.restart }) s

/-- The head of every pending closure slot is asked for (R103). DESIGN CHOICE: in ascending bay number
(notes/assumptions/47.md). -/
def askBoxes (s : State) : State := forBays askBox s

/-! ### Power-on (R205 to R208) -/

/-- The retained area lost: its items of one bay are cleared (R205). -/
def Bay.lose (y : Bay) : Bay :=
  { y with tubes := y.tubes.map fun t => { t with count := 0, state := .ok, extra := 0 }, box := .reset }

/-- A sampler at start-up: the level two consecutive samples agree on (R206). -/
def Sampler.start (level : Bool) : Sampler := ⟨level, level⟩

/-- The samplers and the coin line of a bay take their levels (R68, R206). -/
def Bay.sample (y : Bay) (env : StartUp) (b : BayNo) : Bay :=
  { y with
    lines := ⟨.start env.serviceDoorOpen[b], .start env.boxDoorOpen[b], .start env.boxPresent[b]⟩
    coin := { y.coin with rawHigh := env.coinHigh[b], rawSince := 0 } }

/-- The box state takes the box line's reading (R101, R205). -/
def Bay.boxFromLine (y : Bay) : Bay := { y with box := { y.box with present := y.lines.boxPresent.accepted } }

/-- The tubes of a bay take their site fields and keep their counts (R51, R88). DESIGN CHOICE: so do they where the empty
site table of R52 leaves them without a kind (notes/assumptions/50.md). -/
def Bay.takeSite (y : Bay) (site : List (List Byte)) (b : BayNo) : Bay :=
  { y with
    tubes := Vector.ofFn fun t =>
      let p := siteTube site b t
      { y.tubes[t] with kind := p.1, capacity := p.2.1, fullLevel := p.2.2.1, lowLevel := p.2.2.2 } }

/-- The stored contents of a table match its check (R52). -/
def Table.good (t : Table) (front : List Byte) : Bool := decide (crc32 (front ++ t.entries.flatten) = t.check)

/-- A banked table that fails its check becomes invalid and keeps its version (R52). -/
def Table.verify (t : Table) (front : List Byte) : Table := if t.valid ∧ t.good front = false then { t with valid := false } else t

/-- The check of a bank's tables (R52). -/
def BankTables.verify (k : BankTables) : BankTables :=
  { k with
    product := k.product.verify [], zone := k.zone.verify [], calendar := k.calendar.verify [],
    rule := k.rule.verify (modeBytes k.modeSent), layout := k.layout.verify [], text := k.text.verify [] }

/-- The table store check (R52). -/
def Tariff.verify (t : Tariff) : Tariff :=
  { t with
    bankA := t.bankA.verify
    bankB := t.bankB.verify
    deny := t.deny.verify []
    denyEdits := if t.deny.valid ∧ t.deny.good [] = false then 0 else t.denyEdits
    site := if t.site.valid ∧ t.site.good [] = false then .emptyValid else t.site }

/-- The box reconciliation of a bay with a good retained check (R104). -/
def reconcileBox (b : BayNo) (s : State) : State :=
  let y := s.bay b
  match y.box.present, y.lines.boxPresent.accepted with
  | true, false =>
    let period := y.box.period
    notify (.box b false period) (closePeriod b s)
  | false, true => insertBox b s
  | _, _ => s

/-- The clocks and the shared samplers as start-up begins (R203, R206): the calendar has run on from the backup cell. -/
def Time.start (t : Time) (env : StartUp) : Time :=
  { ms := 0
    calendar := Calendar.ticks env.secondsOff t.calendar
    isSet := t.isSet
    supply := .start env.supplyWarning
    audit := .start env.auditSwitch }

/-- The clock after a retained loss: UNSET at day 0, 00:00:00 (R203, R205). -/
def Time.lose (t : Time) : Time := { t with calendar := ⟨0, 0, 0⟩, isSet := false }

/-- The retained check agrees as start-up begins (R205): the check read from the area, which a failing cell may have
changed, against the items. -/
def areaHeld (env : StartUp) (s : State) : Bool := decide (env.areaCheck.getD s.check = s.retained.crc)

/-- What the loss of supply leaves of the Journal Unit: a write under way torn, no request waiting, and an erase under way
interrupted (R170, R174, R208). -/
def Journal.losePower (j : Journal) (tornBytes : Nat) : Journal :=
  { j.tear tornBytes with queue := [], waitList := [], writing := none, erase := none }

/-- What is lost before start-up begins (R208): the port, the requests of the journal, and the count. -/
def losePower (env : StartUp) (s : State) : State :=
  { s with
    time := s.time.start env
    journal := s.journal.losePower env.tornBytes
    link := { Link.reset with noticeList := [] } }

/-- The retained area is lost: every item is cleared, and RETAINED_LOST follows (R205). -/
def loseArea (s : State) : State :=
  notify .retainedLost
    (forBays (fun b s => s.modBay b Bay.lose)
      { s with
        card := { s.card with tears := [], offlineTotal := 0 }
        journal := { s.journal with acked := 0 }
        time := s.time.lose })

/-- Step 1: what the retained check leads to, with its notices (R205). -/
def startRetained (held : Bool) (s : State) : State :=
  let s := if held then s else loseArea s
  if s.time.isSet then s else notify .timeUnset s

/-- Step 2, the FULL markers of the ACTIVE blocks that hold a torn record (R170, R208). -/
def startMarkers (s : State) : State := s.modJournal Journal.markTorn

/-- Step 2, the table and the marks of the scan, and its activation (R169 to R172), with the notices of the reserve (R157,
R163) and of a full journal (R158). -/
def startJournal (held : Bool) (s : State) : State :=
  let before := (s.journal.store.toList.filter fun b => b.classify = .erased).length
  let j := s.journal.scan (if held then some s.journal.acked else none)
  let s := { s with journal := j, link := { s.link with forward := j.acked } }
  let s := notify? (reserveNotice before j.erasedCount j.full) s
  if j.full then notify (.journalLow .full 0) s else s

/-- Step 3: the table store check, the rate in force, the site fields of the tubes, the samplers, and the state of a lost
box record (R52, R88, R101, R177, R206). -/
def startStore (env : StartUp) (held : Bool) (s : State) : State :=
  let s := { s with tariff := s.tariff.restart.verify }
  let s := s.modLink fun l => { l with rate := siteRate s.site }
  let site := s.site
  let s := forBays (fun b s => s.modBay b fun y => (y.takeSite site b).sample env b) s
  if held then clearRequested s else forBays (fun b s => s.modBay b Bay.boxFromLine) s

/-- Step 3, the reconciliation of one bay's box (R104). -/
def startBox (held : Bool) (b : BayNo) (s : State) : State := if held then reconcileBox b s else s

/-- Steps 4 to 7: escrow returns, contexts, the Card Unit, the rotation, and the BOX records asked for again (R103,
R194, R208). -/
def startBays (s : State) : State :=
  let s := rebuildBays s
  askBoxes { s with card := s.card.restart s.site, bus := .reset }

/-- What start-up writes to the retained area and the journal store before the bays are built, in its order (R208). A
power-on reset that cuts it finds a front part of it done. -/
def startWrites (env : StartUp) (held : Bool) : List (State → State) :=
  [startRetained held, startMarkers, startJournal held, startStore env held] ++ allBays.map (startBox held)

/-- A bay while the reset input is asserted: its acceptance mask is empty, its drives and its escrow return are released,
and only its lines and the items of the retained area are kept (R208). -/
def Bay.dark (y : Bay) : Bay :=
  { Bay.reset with
    ctx := { Ctx.reset with state := .outOfService }
    coin := y.coin.rebuild
    escrow := ⟨none, false⟩
    tubes := y.tubes
    box := y.box
    lines := y.lines }

/-- The part while the reset input is asserted: neither port is driven, no character is taken, the rate is that of a reset
(R177), and what is volatile is lost (R208). DESIGN CHOICE: what the volatile fields hold meanwhile (notes/assumptions/14.md). -/
def goDark (s : State) : State :=
  let s := forBays (fun b s => s.modBay b Bay.dark) s
  { s with
    up := false
    tariff := s.tariff.restart
    card := { s.card with lateReplies := 0, nextRef := 0 }
    link := { Link.reset with noticeList := [], resetStage := .startUp }
    bus := { Bus.reset with running := false } }

/-- A power-on reset and its start-up (R208): the input is released and the seven steps run to their end, or a second
power-on reset cuts them after some of their writes. The check is good over what has been written, and as the area holds
it where nothing has. -/
def powerOn (env : StartUp) (s : State) : State :=
  let held := areaHeld env s
  let s := losePower env s
  match env.cutAfter with
  | none => { (startBays ((startWrites env held).foldl (fun s f => f s) s)).seal with up := true }
  | some 0 => goDark { s with check := env.areaCheck.getD s.check }
  | some n => (goDark (((startWrites env held).take n).foldl (fun s f => f s) s)).seal

/-! ### Link reset (R174, R191) -/

/-- A request whose completion reaches nobody. -/
def Append.orphan (r : Append) : Append := { r with requester := .nobody }

/-- The requests a link reset keeps: SALE and ADJUST, and the request being written (R156, R174). -/
def Journal.keptRequests (j : Journal) : List Append :=
  match j.writing, j.queue with
  | some _, r :: rs => r :: (rs ++ j.waitList).filter Append.isKept
  | _, rs => (rs ++ j.waitList).filter Append.isKept

/-- The append queue and the counters of the Journal Unit at a link reset (R174). -/
def Journal.linkReset (j : Journal) : Journal :=
  let kept := j.keptRequests.map Append.orphan
  { j with
    queue := kept.take Config.appendPlaces, waitList := kept.drop Config.appendPlaces,
    torn := 0, ackClamp := 0, eraseFail := 0 }

/-- The port at a link reset (R176, R191 step 4): a frame being sent is sent whole, and the forward mark stands. -/
def Link.restart (l : Link) (rate : Nat) (now : Ms) : Link :=
  { Link.reset with
    noticeList := [], rate := rate, rxLast := now, forward := l.forward,
    sending := l.sending.map fun x => { x with held := false } }

/-- The bus at the end of a link reset (R191 step 5): an exchange still on the line goes on, its key event dropped. -/
def Bus.restart (x : Bus) : Bus :=
  { Bus.reset with exchange := x.exchange, dropKey := x.exchange.isSome, recovery := x.recovery }

/-- A section is no key event (R191). -/
def ReplySection.notKey : ReplySection → Bool
  | .key _ => false
  | _ => true

/-- From the reset on, no further poll is sent and no key event is taken (R191). -/
def Bus.halt (x : Bus) : Bus :=
  { x with running := false, dropKey := x.exchange.isSome, inbox := x.inbox.filter ReplySection.notKey }

/-- Every bay reset of the link reset has placed its records (R191). -/
def State.resetsPlaced (s : State) : Bool :=
  s.bays.toList.all fun y => !y.ctx.resetHeld && decide (y.ctx.wait ≠ .places)

/-- Steps 2 to 5 of a link reset (R191). DESIGN CHOICE: whether the link was ONLINE, and the time of the reset, are read at
step 2 (notes/assumptions/64.md). -/
def linkResetFinish (s : State) : State :=
  let wasOnline := s.online
  let s := settleErase (s.modJournal (·.linkReset))
  let s := if wasOnline then appendLink false s else s
  let s := rebuildBays { s with tariff := s.tariff.restart, card := s.card.restart s.site }
  let s := s.modLink fun l => l.restart (siteRate s.site) s.now
  askBoxes (journalKick (clearRequested { s with bus := s.bus.restart }))

/-- A link reset that waits for a bay reset goes on when all have placed their records (R191). -/
def linkResetContinue (s : State) : State :=
  if s.link.resetStage = .running ∧ s.resetsPlaced then linkResetFinish s else s

/-- The LINK_RESET reply has been sent whole: the bay resets are applied, and the reset goes on (R191 step 1). -/
def linkResetRun (s : State) : State :=
  let s := { s with link := { s.link with resetStage := .running }, bus := s.bus.halt }
  linkResetContinue
    (forBays (fun b s => if (s.ctx b).state.isOpen then bayReset b s else s) s)

end Sys2Proof.Machine
end

