-- ==== Sys2Proof/Machine/FrameOps.lean ====
section
/-! DEFINITION. Taking a frame from the head of the receive buffer (R179), the checks before its owner sees it, and its
REPLY (R180). -/

namespace Sys2Proof.Machine

open Sys2Proof

/-- What the owner's rule gives an answered frame: the state it leaves, and the REPLY's status and data (R180). -/
structure Answer where
  state  : State
  status : Code
  data   : List Byte
  after  : AfterReply

/-- ACCEPTED without data. -/
def accept (s : State) : Answer := ⟨s, .accepted, [], .nothing⟩

/-- A refusal: the frame changes nothing. -/
def refusal (code : Code) (s : State) : Answer := ⟨s, code, [], .nothing⟩

/-- A refused frame, when there is a code to refuse it with; else what its owner does. -/
def refuseOr (code : Option Code) (act : State → Answer) (s : State) : Answer :=
  match code with
  | some c => refusal c s
  | none => act s

/-- The first of the checks that fails, in order. -/
def firstFailure : List (Bool × Code) → Option Code
  | [] => none
  | (ok, c) :: rest => if ok then firstFailure rest else some c

/-- A body of the length its kind has goes to its owner; any other is answered BAD_REQUEST (R180). -/
def ofLength (n : Nat) (act : List Byte → State → Answer) (f : Frame) (s : State) : Answer :=
  if f.body.length = n then act f.body s else refusal .badRequest s

/-- The head of the buffer leaves it. -/
def dropHead (s : State) : State := s.modLink fun l => { l with rxBuffer := l.rxBuffer.drop 1 }

/-- A frame without an answer is taken from the head, when the head is such a frame (R179). -/
def takeFrame (isKind : Frame → Bool) (act : Frame → State → State) (s : State) : State :=
  match s.link.rxBuffer with
  | f :: _ => if isKind f then act f (dropHead s) else s
  | [] => s

/-- The REPLY to a frame is placed (R179, R180). -/
def answer (f : Frame) (a : Answer) : State := a.state.modLink (·.reply f.tag a.status a.data a.after)

/-- An answered frame is taken from the head, when the head is such a frame and the reply queue has a free place; its
REPLY is placed once its owner's rule has acted (R179). DESIGN CHOICE: the frame has left the receive buffer when its
owner's rule acts (notes/assumptions/62.md). -/
def answerFrame (isKind : Frame → Bool) (act : Frame → State → Answer) (s : State) : State :=
  match s.link.rxBuffer with
  | f :: _ =>
    if isKind f && decide (s.link.replies.length < Config.framePlaces) then answer f (act f (dropHead s)) else s
  | [] => s

/-- The frame's kind code is k. -/
def Frame.is (k : Nat) (f : Frame) : Bool := f.kind.toNat == k

/-- A malformed HEARTBEAT, ACK or AUTH_REPLY is dropped and counted (R180). -/
def formatError (s : State) : State :=
  s.modLink (·.modCounters fun c => { c with formatError := satInc c.formatError })

end Sys2Proof.Machine
end

