-- ==== Sys2Proof/Machine/LinkLine.lean ====
section
/-! DEFINITION. The depot link's line and its own frames: receiving (R177, R178), sending (R183), supervision (R188 to
R190), acknowledgement (R167), authorisation replies (R130), the notice mask (R187) and LINK_RESET (R191). -/

namespace Sys2Proof.Machine

open Sys2Proof

/-! ### Receiving (R177 to R179) -/

/-- A good frame is offered to the receive buffer (R179). -/
def Link.offer (l : Link) (f : Frame) : Link :=
  if l.rxBuffer.length < Config.framePlaces then { l with rxBuffer := l.rxBuffer ++ [f] }
  else l.modCounters fun c => { c with overrun := satInc c.overrun }

/-- The receiver enters IDLE_WAIT, and what it held of a frame is dropped. -/
def Link.idleWait (l : Link) (now : Ms) : Link := { l with rx := .idleWait, rxBytes := [], rxLast := now }

/-- A frame being received is dropped and counted truncated, if there is one (R177). -/
def Link.truncate (l : Link) : Link :=
  match l.rx with
  | .inFrame => l.modCounters fun c => { c with truncated := satInc c.truncated }
  | _ => l

/-- A character inside a frame (R178). -/
def Link.inFrame (l : Link) (now : Ms) (bs : List Byte) : Link :=
  if bs.length = 2 ∧ 240 < field bs 1 1 then
    (l.modCounters fun c => { c with badLength := satInc c.badLength }).idleWait now
  else if 2 ≤ bs.length ∧ bs.length = frameLength bs then
    if frameGood bs then { l.offer (frameOf bs) with rx := .hunt, rxBytes := [], rxLast := now }
    else (l.modCounters fun c => { c with badCrc := satInc c.badCrc }).idleWait now
  else { l with rxBytes := bs, rxLast := now }

/-- A character arrives at the receiver (R178); a link reset under way ignores it (R191). -/
def Link.receive (l : Link) (now : Ms) (c : Byte) : Link :=
  if l.resetStage = .none then
    match l.rx with
    | .idleWait => { l with rxLast := now }
    | .hunt =>
      if c = startByte then { l with rx := .inFrame, rxBytes := [c], rxLast := now } else l.idleWait now
    | .inFrame => l.inFrame now (l.rxBytes ++ [c])
  else l

/-- FRAME_RECEIVED: the characters of a frame, one behind the other (R178). -/
def execFrameReceived (bytes : List Byte) (s : State) : Out :=
  let now := s.now
  .next (s.modLink fun l => bytes.foldl (fun l c => l.receive now c) l)

/-- CHARACTER_RECEIVED: a single character (R178). -/
def execCharacterReceived (char : Byte) (s : State) : Out :=
  let now := s.now
  .next (s.modLink fun l => l.receive now char)

/-- CHARACTER_WITHOUT_STOP_BIT (R177). -/
def execCharacterWithoutStopBit (s : State) : Out :=
  let now := s.now
  .next (s.modLink fun l => if l.resetStage = .none then (l.truncate).idleWait now else l)

/-- IDLE_GAP_EXPIRY: 2 ms without a character in IDLE_WAIT (R178). -/
def execIdleGapExpiry (s : State) : Out :=
  .next (if s.link.rx = .idleWait ∧ s.link.resetStage = .none ∧ s.passed s.link.rxLast Config.lineQuiet then
    s.modLink fun l => { l with rx := .hunt }
  else s)

/-- FRAME_GAP_EXPIRY: 2 ms without a character inside a frame (R178). -/
def execFrameGapExpiry (s : State) : Out :=
  .next (if s.link.rx = .inFrame ∧ s.link.resetStage = .none ∧ s.passed s.link.rxLast Config.lineQuiet then
    s.modLink fun l => { l.truncate with rx := .hunt, rxBytes := [] }
  else s)

/-! ### Sending (R183) -/

/-- The frame sent leaves its source, if that still holds it (R183). -/
def Link.sent (l : Link) : Link :=
  match l.sending with
  | some ⟨.reply, true⟩ => { l with sending := none, replies := l.replies.drop 1 }
  | some ⟨.message, true⟩ => Link.drain { l with sending := none, messages := l.messages.drop 1 }
  | some ⟨.record, true⟩ => { l with sending := none, record := none }
  | _ => { l with sending := none }

/-- What follows the REPLY just sent (R177, R191). -/
def Link.afterSent (l : Link) : AfterReply :=
  match l.sending, l.replies with
  | some ⟨.reply, true⟩, r :: _ => r.after
  | _, _ => .nothing

/-- A new depot link rate takes effect (R177). -/
def Link.changeRate (l : Link) (rate : Nat) (now : Ms) : Link := { (l.truncate).idleWait now with rate := rate }

/-- What a REPLY sent whole leads to. -/
def afterReply (a : AfterReply) (s : State) : State :=
  match a with
  | .nothing => s
  | .changeRate rate =>
    let now := s.now
    s.modLink (·.changeRate rate now)
  | .linkReset => linkResetRun s

/-- FRAME_SENT: the frame leaves its source, and the next source is served (R183). -/
def execFrameSent (s : State) : Out :=
  done s (match s.link.sending with
  | some _ => (forwardNext (afterReply s.link.afterSent (s.modLink Link.sent))).modLink Link.kick
  | none => s)

/-! ### Supervision (R188 to R190) -/

/-- SUPERVISION_EXPIRY: the limit has passed since the last start or restart (R189). -/
def execSupervisionExpiry (s : State) : Out :=
  done s (match s.link.timer with
  | some (start, limit) => if s.passed start limit then linkOffline s else s
  | none => s)

/-- A heartbeat of a phase (R188). -/
def heartbeat (phase : Bool) (s : State) : State :=
  if s.link.lastPhase = some phase then
    s.modLink (·.modCounters fun c => { c with samePhase := satInc c.samePhase })
  else
    let s := s.modLink fun l => { l with lastPhase := some phase }
    if s.online then
      let now := s.now
      let limit := s.supervisionLimit
      s.modLink fun l => { l with timer := some (now, limit) }
    else linkOnline s

/-- HEARTBEAT (R180, R188). -/
def execHeartbeat (s : State) : Out :=
  done s (takeFrame (Frame.is kHeartbeat) (fun f s =>
    match f.body with
    | [p] => if p.toNat ≤ 1 then heartbeat (p.toNat == 1) s else formatError s
    | _ => formatError s) s)

/-! ### ACK and AUTH_REPLY -/

/-- An acknowledgement of sequence q (R167). -/
def Journal.ack (j : Journal) (forward q : Nat) : Journal :=
  if q ≤ j.acked then j
  else if q ≤ forward then { j with acked := q }
  else { j with acked := forward, ackClamp := satInc j.ackClamp }

/-- ACK (R167, R180). -/
def execAck (s : State) : Out :=
  done s (takeFrame (Frame.is kAck) (fun f s =>
    if f.body.length = 4 then s.modJournal (·.ack s.link.forward (beNat f.body)) else formatError s) s)

/-- A reply to an authorisation request (R130). -/
def authReply (ref : BitVec 16) (denied : Bool) (authRef : BitVec 32) (s : State) : State :=
  match s.waitOf ref with
  | some b => if denied then authFailed .authDenied b s else authGranted authRef b s
  | none => notify (.lateAuth ref denied) (s.modCard fun c => { c with lateReplies := satInc c.lateReplies })

/-- AUTH_REPLY (R130, R180). -/
def execAuthReply (s : State) : Out :=
  done s (takeFrame (Frame.is kAuthReply) (fun f s =>
    if f.body.length = 7 ∧ field f.body 2 1 ≤ 1 then
      authReply (BitVec.ofNat 16 (field f.body 0 2)) (field f.body 2 1 == 1) (BitVec.ofNat 32 (field f.body 3 4)) s
    else formatError s) s)

/-! ### BAD_KIND, NOTICE_MASK and LINK_RESET -/

/-- BAD_KIND: a kind code that names no downstream kind (R180). -/
def execBadKind (s : State) : Out :=
  .next (answerFrame (fun f => !downKinds.contains f.kind.toNat) (fun _ s => refusal .badKind s) s)

/-- NOTICE_MASK: the set becomes the notice mask (R187). -/
def execNoticeMask (s : State) : Out :=
  .next (answerFrame (Frame.is kNoticeMask) (ofLength 2 fun body s =>
    accept (s.modLink fun l => { l with noticeMask := BitVec.ofNat 13 (beNat body) })) s)

/-- LINK_RESET: the frames behind it are discarded, and the receiver ignores the line until the reset has ended
(R191). -/
def execLinkReset (s : State) : Out :=
  .next (answerFrame (Frame.is kLinkReset) (ofLength 0 fun _ s =>
    ⟨s.modLink fun l => { l with rxBuffer := [], resetStage := .replyPlaced }, .accepted, [], .linkReset⟩) s)

end Sys2Proof.Machine
end

