-- ==== Sys2Proof/Machine/TableChecks.lean ====
section
/-! DEFINITION. The validation of tables at TABLE_CLOSE (R60, R61), the tube check of a site replacement (R58, R61) and
the cross-check of a bank switch (R65). -/

namespace Sys2Proof.Machine

open Sys2Proof

/-- A failure place: the table and the index of the first entry that failed (R60). -/
abbrev Place := TableName × Nat

/-- The first index whose entry fails a check that sees the entries before it. -/
def firstBad (ok : List (List Byte) → Nat → List Byte → Bool) (es : List (List Byte)) : Option Nat :=
  firstIndex (fun i e => !ok (es.take i) i e) 0 es

/-- A value equal to an earlier entry's, at a place of the entry. DESIGN CHOICE: of two entries that clash it is thus the
later that fails (notes/assumptions/46.md). -/
def seenBefore (before : List (List Byte)) (i n v : Nat) : Bool := before.any fun e => decide (field e i n = v)

/-- The last of the entries before has a value below v, or there is none. -/
def ascends (before : List (List Byte)) (n v : Nat) : Bool :=
  match before.getLast? with
  | some e => decide (field e 0 n < v)
  | none => true

/-! ### Banked tables (R60) -/

/-- A PRODUCT entry (R60). DESIGN CHOICE: of two entries with one code the later fails (notes/assumptions/46.md). -/
def productOk (before : List (List Byte)) (_ : Nat) (e : List Byte) : Bool :=
  let code := field e 0 1
  let kind := field e 1 1
  let topMin := field e 10 3
  let topMax := field e 13 3
  let step := field e 16 3
  decide (1 ≤ code) && decide (code ≤ 64) && !seenBefore before 0 1 code && decide (kind ≤ 2)
  && decide (field e 2 1 < 128) && decide (field e 9 1 < 16)
  && decide (field e 3 1 % 16 ≠ 0) && decide (field e 4 1 % 4 ≠ 0)
  && (if kind = 2 then
        decide (topMin ≤ topMax) && decide (topMax ≤ Config.maxAmount) && decide (1 ≤ step)
        && decide (topMin % step = 0) && decide (topMax % step = 0)
      else decide (field e 6 2 ≤ 366))

/-- A ZONE entry. -/
def zoneOk (_ : List (List Byte)) (_ : Nat) (e : List Byte) : Bool := decide (field e 0 1 ≤ 15)

/-- A CALENDAR entry: a band start, or from index 8 a holiday day. -/
def calendarOk (before : List (List Byte)) (i : Nat) (e : List Byte) : Bool :=
  let v := field e 0 2
  if i < 8 then decide (v ≤ 1439) && (if i = 0 then decide (v = 0) else ascends before 2 v)
  else decide (i = 8) || ascends before 2 v

/-- The units of ROUND (R31). -/
def roundUnits : List Nat := [1, 2, 5, 10, 20, 50, 100, 500]

/-- The operands of a rule entry lie in their ranges (R31); `count` is the table's entry count. -/
def RuleEntry.inRange (count i : Nat) : RuleEntry → Bool
  | .base a => decide (a ≤ Config.maxAmount)
  | .perZone a => decide (a ≤ Config.maxAmount)
  | .add a => decide (-(Config.maxAmount : Int) ≤ a) && decide (a ≤ Config.maxAmount)
  | .percent p => decide (-10000 ≤ p) && decide (p ≤ 10000)
  | .round u _ => roundUnits.contains u
  | .cap a => decide (a ≤ Config.maxAmount)
  | .floor a => decide (a ≤ Config.maxAmount)
  | .test _ _ v n => decide (v ≤ Config.maxAmount) && decide (1 ≤ n) && decide (n ≤ 7) && decide (i + n < count)
  | .goto t => decide (i < t) && decide (t < count)
  | .finish => true

/-- A RULE entry (R60). DESIGN CHOICE: its unused bytes are ignored (notes/assumptions/9.md). -/
def ruleOk (count : Nat) (_ : List (List Byte)) (i : Nat) (e : List Byte) : Bool :=
  match decodeRule e with
  | some r => r.inRange count i
  | none => false

/-- The operands of a receipt step lie in their ranges, a skip within its own layout (R60, R133). -/
def Step.inRange (i : Nat) : Step → Bool
  | .text t => decide (t < 128)
  | .field f w _ => decide (f ≤ 18) && decide (w ≤ 40)
  | .feed n => decide (1 ≤ n) && decide (n ≤ 15)
  | .ifset f n =>
    decide (f ≤ 18) && decide (1 ≤ n) && decide (n ≤ 7) && decide (i % Config.layoutSteps + n < Config.layoutSteps)
  | _ => true

/-- A LAYOUT entry (R60); the last step of a layout also carries the check that the layout holds a STOP. DESIGN CHOICE: its
unused bytes are ignored (notes/assumptions/9.md). -/
def layoutOk (before : List (List Byte)) (i : Nat) (e : List Byte) : Bool :=
  (match decodeStep e with
   | some st => st.inRange i
   | none => false)
  && (decide (i % Config.layoutSteps + 1 ≠ Config.layoutSteps)
      || (e :: before.drop (i - i % Config.layoutSteps)).any fun x => decide (decodeStep x = some .stop))

/-- A TEXT entry. -/
def textOk (_ : List (List Byte)) (_ : Nat) (e : List Byte) : Bool := decide (field e 0 1 ≤ 40)

/-- The place of a wrong entry count. DESIGN CHOICE: the count itself, or the table's highest allowed count when it is
above that (notes/assumptions/9.md). -/
def countFailure (n : TableName) (count : Nat) : Option Nat :=
  match n with
  | .zone => if count = 32 then none else some (min count 32)
  | .calendar => if 8 ≤ count then none else some count
  | .layout => if count % Config.layoutSteps = 0 then none else some count
  | _ => none

/-- The entry check of a banked table. -/
def entryOk (n : TableName) (count : Nat) : List (List Byte) → Nat → List Byte → Bool :=
  match n with
  | .product => productOk
  | .zone => zoneOk
  | .calendar => calendarOk
  | .rule => ruleOk count
  | .layout => layoutOk
  | _ => textOk

/-- The index of the first product whose chain start does not lie below the RULE count (R60). -/
def chainFailure (products : List (List Byte)) (ruleCount : Nat) : Option Nat :=
  firstIndex (fun _ e => decide (ruleCount ≤ field e 5 1)) 0 products

/-- The validation of a banked table (R60). DESIGN CHOICE: an entry that fails gives the failure place before a wrong count
does, and the chain starts of PRODUCT are tested once every RULE entry is good (notes/assumptions/61.md). -/
def BankTables.validate (t : BankTables) (n : TableName) (es : List (List Byte)) : Option Place :=
  match firstBad (entryOk n es.length) es, countFailure n es.length with
  | some i, _ => some (n, i)
  | none, some i => some (n, i)
  | none, none =>
    if n = .rule ∧ t.product.valid then (chainFailure t.product.entries es.length).map (TableName.product, ·)
    else none

/-! ### DENY and SITE (R61) -/

/-- A DENY entry. -/
def denyOk (before : List (List Byte)) (_ : Nat) (e : List Byte) : Bool := ascends before 4 (field e 0 4)

/-- An amount setting lies within 0 to 999,999. -/
def amountOk (v : List Byte) : Bool := decide (field v 0 3 ≤ Config.maxAmount)

/-- A number setting of one byte lies within a range. -/
def within (v : List Byte) (lo hi : Nat) : Bool := decide (lo ≤ field v 0 1) && decide (field v 0 1 ≤ hi)

/-- A coin kind setting: unconfigured, or a value and a pulse count no other entry's configured kind has (R51, R61). DESIGN
CHOICE: of two kinds with one pulse count the later fails (notes/assumptions/46.md). -/
def kindOk (before : List (List Byte)) (sel : Nat) (v : List Byte) : Bool :=
  decide (1 ≤ sel) && decide (sel ≤ 8)
  && (decide (field v 0 3 = 0)
      || (amountOk v && decide (1 ≤ field v 3 1) && decide (field v 3 1 ≤ 8)
          && !before.any fun e => decide (field e 0 1 = 2 ∧ field e 2 3 ≠ 0 ∧ field e 5 1 = field v 3 1)))

/-- A tube setting: its kind none, or 1 to 8 and configured in the same table, its levels in order (R51, R61). -/
def tubeOk (all : List (List Byte)) (sel : Nat) (v : List Byte) : Bool :=
  let kind := field v 0 1
  decide (sel < 32) && (decide (kind = 0) || (decide (kind ≤ 8) && (siteKind all kind).isSome))
  && decide (1 ≤ field v 1 1) && decide (field v 1 1 ≤ 250) && decide (field v 2 1 ≤ field v 1 1)
  && decide (field v 3 1 ≤ field v 2 1)

/-- A sampling rate setting (R51, R192). -/
def samplingOk (sel : Nat) (v : List Byte) : Bool :=
  (decide (sel < 32 ∧ sel % 4 ≤ 2) || decide (sel = 32) || decide (sel = 33)) && within v 0 1

/-- A SITE entry's setting is known and its value in range (R51, R61, R192). DESIGN CHOICE: its unused bytes are ignored
(notes/assumptions/9.md). -/
def settingOk (all before : List (List Byte)) (code sel : Nat) (v : List Byte) : Bool :=
  match code with
  | 2 => kindOk before sel v
  | 3 => tubeOk all sel v
  | 15 => samplingOk sel v
  | _ =>
    decide (sel = 0) && (match code with
      | 0 => within v 0 3
      | 1 => within v 0 4
      | 4 => within v 1 15
      | 5 => within v 40 250
      | 6 => amountOk v
      | 7 => amountOk v
      | 8 => amountOk v
      | 9 => amountOk v
      | 10 => within v 1 60
      | 11 => within v 1 30
      | 12 => decide (38400 ≤ field v 0 3) && decide (field v 0 3 ≤ 921600)
      | 13 => true
      | 14 => true
      | _ => false)

/-- A SITE entry: named once, known, in range (R61). DESIGN CHOICE: of two entries that name one setting the later fails
(notes/assumptions/46.md). -/
def siteOk (all before : List (List Byte)) (_ : Nat) (e : List Byte) : Bool :=
  !seenBefore before 0 2 (field e 0 2) && settingOk all before (field e 0 1) (field e 1 1) (e.drop 2)

/-- The 32 tubes of the part, as bay and tube numbers. -/
def everyTube : List (BayNo × TubeNo) := allBays.flatMap fun b => allTubes.map fun t => (b, t)

/-- The tube settings of a new site table do not fit the tube's coins (R61). -/
def tubeClash (new : List (List Byte)) (s : State) (p : BayNo × TubeNo) : Bool :=
  let u := s.tube p.1 p.2
  let set := siteTube new p.1 p.2
  decide (0 < u.count) && (decide (set.1 ≠ u.kind) || decide (set.2.1 < u.count))

/-- The index of the entry that names a tube, or the entry count when none does (R61). -/
def tubePlace (es : List (List Byte)) (p : BayNo × TubeNo) : Nat :=
  (firstIndex (fun _ e => decide (field e 0 1 = 3 ∧ field e 1 1 = p.1.val * 4 + p.2.val)) 0 es).getD es.length

/-- The tube check of a site replacement (R58, R61): of the failing tubes, the place of the first entry that names one
(R53), or the entry count where no entry names any. -/
def tubeFailure (new : List (List Byte)) (s : State) : Option Nat :=
  ((everyTube.filter (tubeClash new s)).map (tubePlace new)).min?

/-- The validation of a finished stream (R57 check 3, R60, R61). -/
def State.validate (s : State) (g : Target) : Option Place :=
  match g.table, g.bank with
  | .deny, _ => (firstBad denyOk s.tariff.denyShadow.entries).map (TableName.deny, ·)
  | .site, _ =>
    let es := s.tariff.siteShadow.entries
    match firstBad (siteOk es) es with
    | some i => some (.site, i)
    | none => (tubeFailure es s).map (TableName.site, ·)
  | n, some k => (s.tariff.bank k).validate n ((s.tariff.bank k).table n).entries
  | n, none => some (n, 0)

/-! ### The cross-check of a bank switch (R65) -/

/-- A product's references are sound. -/
def BankTables.productSound (t : BankTables) (e : List Byte) : Bool :=
  decide (field e 5 1 < t.rule.entries.length) && decide (field e 2 1 < t.text.entries.length)
  && decide (field e 9 1 < t.layout.entries.length / Config.layoutSteps)

/-- A step's text is there. -/
def BankTables.stepSound (t : BankTables) (e : List Byte) : Bool :=
  match decodeStep e with
  | some (.text i) => decide (i < t.text.entries.length)
  | _ => true

/-- The cross-check of R65. -/
def BankTables.crossCheck (t : BankTables) : Bool :=
  t.product.entries.all t.productSound && t.layout.entries.all t.stepSound

end Sys2Proof.Machine
end

