-- ==== Sys2Proof/Machine/Tables.lean ====
section
/-! DEFINITION. Table loading and bank changeover: TABLE_OPEN, TABLE_DATA, TABLE_CLOSE, LOAD_CLEAR (R53 to R58), deny
edits (R62), BANK_SWITCH and the scheduled switch (R64 to R67), and the end of an evaluation (R10, R47). -/

namespace Sys2Proof.Machine

open Sys2Proof

/-- The Tariff Unit's state changes under f. -/
def State.modTariff (s : State) (f : Tariff → Tariff) : State := { s with tariff := f s.tariff }

/-- The load machine changes under f. -/
def State.modLoad (s : State) (f : Load → Load) : State := s.modTariff fun t => { t with load := f t.load }

/-! ### The target of a stream -/

/-- The table a stream fills changes under f: a bank's table, or a load shadow (R50). -/
def Tariff.modTarget (t : Tariff) (g : Target) (f : Table → Table) : Tariff :=
  match g.table, g.bank with
  | .deny, _ => { t with denyShadow := f t.denyShadow }
  | .site, _ => { t with siteShadow := f t.siteShadow }
  | n, some k => t.modBank k fun u => u.modTable n f
  | _, none => t

/-- A target as a stream that does not close well leaves it: a banked table invalid, a shadow cleared (R55, R57). -/
def Tariff.spoil (t : Tariff) (g : Target) : Tariff :=
  match g.table with
  | .deny => { t with denyShadow := .empty }
  | .site => { t with siteShadow := .empty }
  | _ => t.modTarget g fun u => { u with valid := false }

/-- The fields of the load machine on return to LOAD_IDLE (R53). -/
def Load.toIdle (l : Load) : Load :=
  { l with state := .idle, target := none, version := none, count := none, mode := none, crc := none,
           error := .none, failure := none }

/-- An open stream is abandoned (R55). -/
def Tariff.abandon (t : Tariff) : Tariff :=
  match t.load.state, t.load.target with
  | .stream, some g => { t.spoil g with load := { t.load.toIdle with abandons := satInc t.load.abandons } }
  | _, _ => t

/-- The load machine enters LOAD_ERROR (R56, R57). -/
def loadError (e : LoadError) (place : Option Place) (s : State) : State :=
  let s := match s.tariff.load.target with
    | some g => s.modTariff (·.spoil g)
    | none => s
  s.modLoad fun l => { l with state := .error, error := e, failure := place }

/-! ### TABLE_OPEN (R54) -/

/-- The target a TABLE_OPEN names: none for an unknown table or bank. -/
def targetOf (table bank : Nat) : Option Target :=
  match TableName.ofCode table with
  | some n => if n.single then some ⟨n, none⟩ else (Bank.ofCode bank).map fun k => ⟨n, some k⟩
  | none => none

/-- The checks of R54 from order 2 on. -/
def Tariff.openFailure (t : Tariff) (g : Target) (count : Nat) : Option Code :=
  firstFailure
    [(decide (t.load.state ≠ .error), .loadErrorSet), (decide (count ≤ g.table.capacity), .countRange),
     (decide (g.bank ≠ some t.active), .bankActive),
     (match g.bank with
      | some k => decide (t.pins k = 0)
      | none => true, .bankDraining)]

/-- A stream begins (R54). -/
def Tariff.openStream (t : Tariff) (g : Target) (version count : Nat) (mode : Option PercentMode) : Tariff :=
  let sent := if g.table = .rule then mode else none
  let t := match g.table, g.bank with
    | .deny, _ => { t with denyShadow := .empty }
    | .site, _ => { t with siteShadow := .empty }
    | .rule, some k => t.modBank k fun u =>
      { u with rule := { u.rule with valid := false, entries := [] }, modeSent := sent }
    | _, _ => t.modTarget g fun u => { u with valid := false, entries := [] }
  { t with load :=
    { t.load with
      state := .stream, target := some g, version := some version, count := some count,
      mode := if g.table = .rule then some (sent.getD .halfUp) else none,
      next := 0, crc := some (crc32Run crc32Start (modeBytes sent)), error := .none, failure := none } }

/-- TABLE_OPEN (R54, R55). -/
def execTableOpen (s : State) : Out :=
  .next (answerFrame (Frame.is kTableOpen) (ofLength 7 fun body s =>
    match targetOf (field body 0 1) (field body 1 1) with
    | none => refusal .badTable s
    | some g =>
      refuseOr (s.tariff.openFailure g (field body 4 2)) (fun s =>
        accept (s.modTariff fun t =>
          t.abandon.openStream g (field body 2 2) (field body 4 2) (modeOf (field body 6 1)))) s) s)

/-! ### TABLE_DATA (R56) -/

/-- Entries join the target, the running CRC and the next index (R56). -/
def Tariff.store (t : Tariff) (g : Target) (es : List (List Byte)) : Tariff :=
  let t := t.modTarget g fun u => { u with entries := u.entries ++ es }
  { t with load := { t.load with
      next := t.load.next + es.length, crc := t.load.crc.map fun r => crc32Run r es.flatten } }

/-- A TABLE_DATA in STREAM (R56). A body that is not of whole entries is not of its kind's length (R180, R192). -/
def streamData (g : Target) (start : Nat) (bytes : List Byte) (s : State) : Answer :=
  match splitEntries g.table bytes.length bytes with
  | none => refusal .badRequest s
  | some es =>
    if es = [] ∨ 16 < es.length then refusal .badRequest s
    else if start ≠ s.tariff.load.next then refusal .seqError (loadError .seq none s)
    else if s.tariff.load.count.getD 0 < start + es.length then refusal .countError (loadError .count none s)
    else accept (s.modTariff fun t => t.store g es)

/-- TABLE_DATA (R56). DESIGN CHOICE: whether a body is of whole entries is asked in STREAM alone, so that LOAD_IDLE and
LOAD_ERROR give their codes to any body of three bytes or more (notes/assumptions/55.md). -/
def execTableData (s : State) : Out :=
  .next (answerFrame (Frame.is kTableData) (fun f s =>
    if f.body.length < 3 then refusal .badRequest s
    else match s.tariff.load.state, s.tariff.load.target with
      | .stream, some g => streamData g (field f.body 0 2) (f.body.drop 2) s
      | .error, _ => refusal .loadErrorSet s
      | _, _ => refusal .notStreaming s) s)

/-! ### Site replacement (R51, R58, R202) -/

/-- What a replacement does to one bay's ABSENT mark (R21, R202). -/
def absentChange (was is : Bool) (b : BayNo) (s : State) : State :=
  match was, is with
  | false, true =>
    match (s.ctx b).state with
    | .idle => makeAbsent b (enter .outOfService b s)
    | .outOfService => makeAbsent b s
    | _ => s
  | true, false =>
    notify (.terminal b .missing)
      ((joinCause .server b s).modTerm b fun t =>
        { t with state := .missing, misses := 0, recoveryStart := none, displayPending := true,
                 displayOnLine := false })
  | _, _ => s

/-- What a replacement does to one bay's passes-only mark (R51). -/
def passesOnlyChange (was is : Bool) (b : BayNo) (s : State) : State :=
  match was, is with
  | false, true => if (s.bay b).printer.paper = .out then joinCause .paper b s else s
  | true, false => leaveCause .paper b s
  | _, _ => s

/-- The settings that act at the replacement itself act on one bay (R51). -/
def siteChange (old new : List (List Byte)) (b : BayNo) (s : State) : State :=
  let s := s.modBay b fun y => y.takeSite new b
  let s := absentChange (siteAbsent old b) (siteAbsent new b) b s
  recomputeMask b (passesOnlyChange (sitePassesOnly old b) (sitePassesOnly new b) b s)

/-- The live site table is replaced whole (R51, R58). -/
def replaceSite (t : Table) (s : State) : State :=
  let old := s.site
  forBays (siteChange old t.entries) (s.modTariff fun u => { u with site := t, siteShadow := .empty })

/-! ### TABLE_CLOSE (R57, R58) -/

/-- The table a stream has filled, as its completion makes it (R58). -/
def Load.finish (l : Load) (es : List (List Byte)) (check : BitVec 32) : Table :=
  ⟨l.version.getD 0, true, l.count.getD 0, es, check⟩

/-- A stream that has passed its checks completes (R58). -/
def completeStream (g : Target) (check : BitVec 32) (s : State) : State :=
  let l := s.tariff.load
  let s := s.modLoad Load.toIdle
  match g.table, g.bank with
  | .deny, _ => s.modTariff fun t =>
    { t with deny := l.finish t.denyShadow.entries check, denyShadow := .empty, denyEdits := 0 }
  | .site, _ => replaceSite (l.finish s.tariff.siteShadow.entries check) s
  | .rule, some k => s.modTariff fun t => t.modBank k fun u =>
    { u with rule := l.finish u.rule.entries check, mode := l.mode.getD .halfUp }
  | _, _ => s.modTariff fun t => t.modTarget g fun u => l.finish u.entries check

/-- The reply data of a failure place (R192). -/
def placeBytes (p : Place) : List Byte := beBytes 1 p.1.toNat ++ beBytes 2 p.2

/-- A TABLE_CLOSE in STREAM (R57). -/
def closeStream (g : Target) (check : BitVec 32) (s : State) : Answer :=
  let l := s.tariff.load
  if l.next ≠ l.count.getD 0 then refusal .countError (loadError .count none s)
  else if (l.crc.map crc32End) ≠ some check then refusal .crcError (loadError .crc none s)
  else match s.validate g with
    | some p => ⟨loadError .validation (some p) s, .validationError, placeBytes p, .nothing⟩
    | none =>
      let s' := completeStream g check s
      ⟨s', .accepted, [], if siteRate s'.site = siteRate s.site then .nothing else .changeRate (siteRate s'.site)⟩

/-- TABLE_CLOSE (R57). -/
def execTableClose (s : State) : Out :=
  done s (answerFrame (Frame.is kTableClose) (ofLength 4 fun body s =>
    match s.tariff.load.state, s.tariff.load.target with
    | .stream, some g => closeStream g (BitVec.ofNat 32 (beNat body)) s
    | .error, _ => refusal .loadErrorSet s
    | _, _ => refusal .notStreaming s) s)

/-- LOAD_CLEAR (R55). -/
def execLoadClear (s : State) : Out :=
  .next (answerFrame (Frame.is kLoadClear) (ofLength 0 fun _ s =>
    accept (match s.tariff.load.state with
      | .stream => s.modTariff Tariff.abandon
      | .error => s.modLoad Load.toIdle
      | .idle => s)) s)

/-! ### Deny edits (R62) -/

/-- The live deny list takes new entries: its stored check follows, its version stays, its edit count grows (R62). -/
def Tariff.editDeny (t : Tariff) (es : List (List Byte)) : Tariff :=
  { t with
    deny := { t.deny with entries := es, count := es.length, check := crc32 es.flatten }
    denyEdits := satInc t.denyEdits }

/-- A serial is in a deny list. -/
def listed (es : List (List Byte)) (serial : Nat) : Bool := es.any fun e => decide (beNat e = serial)

/-- A serial enters a list in its ascending place (R62). -/
def insertSerial (serial : Nat) (es : List (List Byte)) : List (List Byte) :=
  (es.filter fun e => decide (beNat e < serial)) ++ [beBytes 4 serial]
  ++ es.filter fun e => decide (serial < beNat e)

/-- The first two checks of a deny edit (R62). -/
def Tariff.denyFailure (t : Tariff) : Option Code :=
  firstFailure
    [(!(decide (t.load.state = .stream) && decide (t.load.target = some ⟨.deny, none⟩)), .denyBusy),
     (t.deny.valid, .notValid)]

/-- DENY_ADD (R62). -/
def execDenyAdd (s : State) : Out :=
  .next (answerFrame (Frame.is kDenyAdd) (ofLength 4 fun body s =>
    refuseOr s.tariff.denyFailure (fun s =>
      let es := s.tariff.deny.entries
      if listed es (beNat body) then accept s
      else if Config.denyPlaces ≤ es.length then refusal .tableFull s
      else accept (s.modTariff (·.editDeny (insertSerial (beNat body) es)))) s) s)

/-- DENY_REMOVE (R62). -/
def execDenyRemove (s : State) : Out :=
  .next (answerFrame (Frame.is kDenyRemove) (ofLength 4 fun body s =>
    refuseOr s.tariff.denyFailure (fun s =>
      let es := s.tariff.deny.entries
      if listed es (beNat body) then
        accept (s.modTariff (·.editDeny (es.filter fun e => decide (beNat e ≠ beNat body))))
      else accept s) s) s)

/-! ### Bank switch (R64 to R67) -/

/-- The checks of R64, orders 1 to 4. -/
def Tariff.switchFailure (t : Tariff) (k : Bank) (v : Versions) : Option Code :=
  firstFailure
    [((t.bank k).allValid, .notValid), (decide ((t.bank k).versions = v), .versionMismatch),
     (decide (k ≠ t.active), .bankActive), ((t.bank k).crossCheck, .crossCheck)]

/-- A switch is performed in one step, and its TABLE record requested (R67). -/
def performSwitch (k : Bank) (s : State) : State :=
  append ⟨.table k (s.tariff.bank k).versions s.time.calendar, none, .tariff⟩
    (s.modTariff fun t => { t with active := k })

/-- An effective time is at or before the calendar time (R64, R66). DEDUCED: days are compared first and then minutes, a
minute above 1439 as it stands (notes/assumptions/31.md). -/
def reached (day minute : Nat) (c : Calendar) : Bool :=
  decide (day < c.day) || (decide (day = c.day) && decide (minute ≤ c.minute))

/-- The scheduled switch falls due when the calendar time reaches its effective time (R66). -/
def switchDue (s : State) : State :=
  match s.tariff.scheduled with
  | some w =>
    if reached w.day w.minute s.time.calendar then
      let failure := s.tariff.switchFailure w.bank w.versions
      let s := s.modTariff fun t => { t with scheduled := none }
      match failure with
      | some c => s.modTariff fun t => { t with lastSwitch := .dropped c }
      | none => performSwitch w.bank (s.modTariff fun t => { t with lastSwitch := .done })
    else s
  | none => s

/-- The six versions a BANK_SWITCH carries. -/
def versionsOf (body : List Byte) : Versions :=
  ⟨field body 1 2, field body 3 2, field body 5 2, field body 7 2, field body 9 2, field body 11 2⟩

/-- A BANK_SWITCH to bank k, at once or at a calendar time (R64). -/
def bankSwitch (k : Bank) (v : Versions) (time : Option (Nat × Nat)) (s : State) : Answer :=
  match s.tariff.switchFailure k v, time with
  | some c, _ => refusal c s
  | none, none => accept (performSwitch k (s.modTariff fun t => { t with scheduled := none }))
  | none, some (day, minute) =>
    if s.time.isSet then
      if reached day minute s.time.calendar then
        accept (performSwitch k (s.modTariff fun t => { t with scheduled := none }))
      else accept (s.modTariff fun t => { t with scheduled := some ⟨k, v, day, minute⟩ })
    else refusal .timeUnset s

/-- BANK_SWITCH (R64). DESIGN CHOICE: a bank or timing byte outside its two values is answered BAD_REQUEST
(notes/assumptions/9.md). -/
def execBankSwitch (s : State) : Out :=
  .next (answerFrame (Frame.is kBankSwitch) (ofLength 18 fun body s =>
    match Bank.ofCode (field body 0 1), field body 13 1 with
    | some k, 0 => bankSwitch k (versionsOf body) none s
    | some k, 1 => bankSwitch k (versionsOf body) (some (field body 14 2, field body 16 2)) s
    | _, _ => refusal .badRequest s) s)

/-- SCHEDULED_SWITCH_DUE (R66). -/
def execScheduledSwitchDue (s : State) : Out := .next (switchDue s)

/-! ### The end of an evaluation (R10, R47, R48) -/

/-- A price is stored, and the context enters PRICED; a result after a CONFIRM is carried through (R10, R12). -/
def priced (r : PriceRequest) (amount : Nat) (flags : EvalFlags) (plan : Option PassPlan) (s : State) : State :=
  let b := r.bay
  let s := enter .priced b (s.modCtx b fun c =>
    { c with price := some amount, priceMethod := some r.method, evalFlags := flags, passPlan := plan })
  if (s.ctx b).method.isSome then leavePriced b s else s

/-- The context takes the result of its request (R10); one it has withdrawn is discarded (R48). -/
def priceTaken (r : PriceRequest) (s : State) : State :=
  if r.withdrawn = false ∧ (s.ctx r.bay).state = .pricing ∧ (s.ctx r.bay).takes then
    match (s.tariff.bank r.bank).evaluate r with
    | .price amount flags plan => priced r amount flags plan s
    | .runaway => cancelWith .tariffError r.bay s
    | .noSlot => cancelWith .noSlot r.bay s
  else s

/-- EVALUATION_END: the result is delivered, and the idle evaluator takes the next head (R46, R47). -/
def execEvaluationEnd (s : State) : Out :=
  done s (match s.tariff.evaluating with
  | some r => (priceTaken r (s.modTariff fun t => { t with evaluating := none })).modTariff Tariff.evalStart
  | none => s)

end Sys2Proof.Machine
end

