-- ==== Sys2Proof/Machine/Clock.lean ====
section
/-! DEFINITION. Calendar time and tear expiry: SET_TIME (R204), the clock's second (R203) and TEAR_EXPIRY (R128). -/

namespace Sys2Proof.Machine

open Sys2Proof

/-- SET_TIME with a time inside the clock's range (R204); a scheduled switch it reaches is performed (R66). -/
def setTime (c : Calendar) (s : State) : State :=
  switchDue { s with time := { s.time with calendar := c, isSet := true } }

/-- SET_TIME (R204). -/
def execSetTime (s : State) : Out :=
  done s (answerFrame (Frame.is kSetTime) (ofLength 5 fun body s =>
    if field body 2 2 ≤ 1439 ∧ field body 4 1 ≤ 59 then
      accept (setTime ⟨field body 0 2, field body 2 2, field body 4 1⟩ s)
    else refusal .badRequest s) s)

/-- CLOCK_SECOND: the calendar clock advances by a second (R203). -/
def execClockSecond (s : State) : Out :=
  .next { s with time := { s.time with calendar := s.time.calendar.tick } }

/-- A re-application of a serial has begun and is not yet answered, lapsed or dropped (R128). -/
def State.reapplying (s : State) (serial : BitVec 32) : Bool :=
  s.bays.toList.any fun y => match y.reapply with
    | some r => r.serial == serial
    | none => false

/-- An entry has expired (R128). -/
def State.expired (s : State) (t : Tear) : Bool :=
  s.time.isSet && decide (t.owner ≠ .openTxn) && !t.closing && !s.reapplying t.serial
  && decide (t.created.seconds + siteTearWindow s.site * 60 ≤ s.time.calendar.seconds)

/-- TEAR_EXPIRY: the oldest entry that has expired is closed with TEAR EXPIRED (R127, R128). -/
def execTearExpiry (s : State) : Out :=
  done s (s.whenUp (match s.card.tears.find? s.expired with
  | some t => closeTear t .expired none .none s
  | none => s))

end Sys2Proof.Machine
end

