-- ==== Sys2Proof/Machine/Query.lean ====
section
/-! DEFINITION. The eight queries (R81, R107, R110, R132, R149, R175, R181, R182, R193): each target's items in its rule's
order, encoded as R192 gives, cut into pages. DEDUCED where section 9.9 leaves a choice of encoding
(notes/assumptions/10.md). -/

namespace Sys2Proof.Machine

open Sys2Proof

/-! ### Encodings (R192) -/

/-- The four pass slots of a card. -/
def slotBytes (p : PassSlot) : List Byte := num1 p.product ++ num2 p.validFrom ++ num2 p.validTo

/-- A card record, or the fresh values of an exchange. DESIGN CHOICE: each pass slot is an optional field, one byte 0 when
empty (notes/assumptions/10.md). -/
def cardBytes (v : CardValues) : List Byte :=
  num4 v.serial.toNat ++ amount3 v.balance ++ num2 v.pseq.toNat ++ v.slots.toList.flatMap (optField slotBytes)

/-! ### BAY -/

/-- The context fields in the order of R1. DESIGN CHOICE: an absent txn_seq is an absent optional field
(notes/assumptions/10.md). -/
def Ctx.bytes (c : Ctx) : List Byte :=
  num1 c.state.toNat ++ optField num1 c.product ++ optField num1 c.cls ++ optField num1 c.origin
  ++ optField num1 c.destination ++ num1 c.quantity ++ yesNo c.cardIntended ++ optField amount3 c.topupAmount
  ++ optField (fun k => num1 (Bank.toNat k)) c.bank ++ optField (fun t => calendarBytes t true) c.openTime
  ++ optField amount3 c.price ++ optField (fun m => num1 (Method.toNat m)) c.priceMethod ++ num1 c.evalFlags.toNat
  ++ optField (fun (p : PassPlan) => num1 p.slot ++ num2 p.validFrom ++ num2 p.validTo) c.passPlan
  ++ optField (fun m => num1 (Method.toNat m)) c.method ++ yesNo c.receiptWanted ++ amount3 c.tendered
  ++ listField (fun (x : Coin) => num1 x.kind ++ num1 x.standing.toNat) c.coins ++ num1 c.overflow
  ++ optField cardBytes c.card ++ num1 c.cardOutcome.toNat ++ yesNo c.writeRetried
  ++ optField (fun (r : BitVec 32) => num4 r.toNat) c.authRef ++ optField amount3 c.changeDue
  ++ amount3 c.changePaid ++ amount3 c.shortPay ++ optField num4 c.txnSeq ++ num1 c.receiptOutcome.toNat
  ++ yesNo c.lostMark ++ num1 c.causes.toNat ++ num1 c.holdCause.toNat ++ num4 c.lastChange.toNat
  ++ num1 (match c.lastRefusal with
    | some k => k.toNat
    | none => 255)

/-- The Cash Unit's items of R81. -/
def Bay.cashBytes (y : Bay) : List Byte :=
  num2 y.counters.unvalued ++ num2 y.counters.stray ++ num2 y.counters.overflow ++ num2 y.counters.aborted
  ++ num2 y.counters.fault ++ num1 y.coin.capture.toNat ++ yesNo y.coin.fault ++ yesNo y.coin.coinOff
  ++ num1 (setBits ([1, 2, 3, 4, 5, 6, 7, 8].map y.mask.contains))

/-- The card exchange and the authorisation wait (R110, R132). -/
def Bay.cardWorkBytes (y : Bay) : List Byte :=
  num1 y.card.phase.toNat ++ optField (fun p => num1 (Purpose.toNat p)) y.card.purpose
  ++ optField cardBytes y.card.fresh
  ++ optField (fun (w : AuthWait) => num2 w.reference.toNat ++ num4 w.sentAt.toNat) y.authWait

/-- The receipt part of R149. DESIGN CHOICE: the layout of an IDLE sequencer is an optional field (notes/assumptions/10.md). -/
def Bay.receiptBytes (y : Bay) : List Byte :=
  num1 y.printer.paper.toNat ++ yesNo y.printer.headUp ++ num1 y.printer.credit
  ++ num1 y.seq.state.toNat ++ optField (fun (j : Job) => num1 j.kind.toNat) y.seq.job
  ++ optField (fun (j : Job) => num1 j.layout) y.seq.job ++ num1 y.seq.copy
  ++ num1 (match y.seq.job with
    | some j => j.copies
    | none => 1)
  ++ num1 y.seq.step ++ yesNo y.seq.voucher ++ num1 (setBits [y.seq.ringFull, y.seq.paperOut, y.seq.headUp])
  ++ num2 y.seq.sent ++ num4 y.seq.lastProgress.toNat ++ num2 y.ring.length ++ num1 y.inFlight
  ++ yesNo y.seq.waiting.isSome ++ num1 y.seq.lastReprint.toNat
  ++ optField (fun (r : LastReceipt) => num4 r.sequence) y.lastReceipt

/-- The terminal's items (R193). -/
def Terminal.bytes (t : Terminal) : List Byte :=
  num1 t.state.toNat ++ num1 t.misses ++ text1 (t.screen.line 0) ++ text1 (t.screen.line 1)
  ++ num1 t.screenHold.toNat ++ yesNo t.displayPending ++ num1 t.tone.toNat ++ yesNo t.tonePending
  ++ optField (fun (c : CardSlot) =>
      c.command.bytes ++ num1 c.mark ++ optField (fun (m : Ms) => num4 m.toNat) c.firstSent ++ yesNo c.taken) t.cardSlot

/-- The query data of QUERY BAY. -/
def State.bayData (s : State) (b : BayNo) : List Byte :=
  let y := s.bay b
  y.ctx.bytes ++ y.cashBytes ++ y.cardWorkBytes ++ y.receiptBytes ++ y.term.bytes ++ num2 s.bus.badReplies
  ++ num2 s.bus.recoveries

/-! ### TUBES and BOX (R107) -/

/-- The executor's state, and its amount, paid and plan when RUNNING. -/
def Executor.bytes (x : Executor) : List Byte :=
  yesNo x.running
  ++ (if x.running then
        amount3 x.amount ++ amount3 x.paid
        ++ listField (fun (e : PlanEntry) => num1 e.tube.val ++ num1 e.coins) x.plan
      else [])

/-- The query data of QUERY TUBES. -/
def State.tubesData (s : State) (b : BayNo) : List Byte :=
  (s.bay b).tubes.toList.flatMap Tube.bytes ++ (s.bay b).payout.bytes

/-- The query data of QUERY BOX. -/
def State.boxData (s : State) (b : BayNo) : List Byte := (s.bay b).box.bytes

/-! ### LOAD (R53) -/

/-- A stream's target. -/
def Target.bytes (g : Target) : List Byte := num1 g.table.toNat ++ optField (fun k => num1 (Bank.toNat k)) g.bank

/-- The load machine's fields. -/
def Load.bytes (l : Load) : List Byte :=
  num1 l.state.toNat ++ optField Target.bytes l.target ++ optField num2 l.version ++ optField num2 l.count
  ++ optField (fun m => num1 (PercentMode.toNat m)) l.mode ++ num2 l.next
  ++ optField (fun (r : BitVec 32) => num4 (crc32End r).toNat) l.crc ++ num1 l.error.toNat
  ++ optField (fun (p : TableName × Nat) => num1 p.1.toNat ++ num2 p.2) l.failure ++ num2 l.abandons

/-- The version, valid flag and entry count of a table. -/
def Table.bytes (t : Table) : List Byte := num2 t.version ++ yesNo t.valid ++ num2 t.count

/-- The result of the last scheduled switch (R66). DESIGN CHOICE: NONE is numbered 0, before DONE and DROPPED
(notes/assumptions/10.md). -/
def SwitchResult.bytes : SwitchResult → List Byte
  | .none => num1 0
  | .done => num1 1
  | .dropped c => num1 2 ++ num1 c.toNat

/-- The query data of QUERY LOAD. -/
def State.loadData (s : State) : List Byte :=
  let t := s.tariff
  t.load.bytes
  ++ bankedTables.flatMap (fun n => (t.bankA.table n).bytes) ++ bankedTables.flatMap (fun n => (t.bankB.table n).bytes)
  ++ t.deny.bytes ++ t.site.bytes ++ num2 t.denyEdits ++ num1 t.active.toNat ++ num1 t.pinsA ++ num1 t.pinsB
  ++ optField (fun (w : Scheduled) => num1 w.bank.toNat ++ w.versions.bytes ++ num2 w.day ++ num2 w.minute) t.scheduled
  ++ t.lastSwitch.bytes

/-! ### JOURNAL (R175) and TEAR (R132) -/

/-- A block's row with its held mark (R175). DESIGN CHOICE: a block sequence, base, first or last sequence a row lacks is an
optional field (notes/assumptions/10.md). -/
def Journal.rowBytes (j : Journal) (i : Nat) : List Byte :=
  let r := j.row i
  num1 r.state.toNat ++ optField num4 r.blockSeq ++ optField num4 r.baseSeq ++ optField num4 r.firstValid
  ++ optField num4 r.lastValid ++ optField num2 r.nextFree ++ yesNo (j.held i)

/-- The query data of QUERY JOURNAL (R175). DESIGN CHOICE: the wait list's length takes 2 bytes (notes/assumptions/10.md). -/
def State.journalData (s : State) : List Byte :=
  let j := s.journal
  (List.range Config.journalBlocks).flatMap j.rowBytes ++ listField num1 j.holdList ++ num4 j.last
  ++ num4 s.link.forward ++ num4 j.acked ++ num1 j.erasedCount ++ yesNo j.full ++ num1 j.queue.length
  ++ num2 j.waitList.length
  ++ optField (fun (e : Erase) => num1 e.block ++ yesNo e.suspended ++ num1 (j.row e.block).failures) j.erase
  ++ num2 j.torn ++ num2 j.ackClamp ++ num2 j.eraseFail ++ num2 j.badBlock

/-- The query data of QUERY TEAR. -/
def State.tearData (s : State) : List Byte :=
  listField Tear.bytes s.card.tears ++ num1 s.reservations ++ amount3 s.card.offlineTotal ++ amount3 s.card.budget
  ++ num2 s.card.lateReplies ++ num2 s.card.nextRef.toNat

/-! ### LINK and IDENT (R182) -/

/-- The supervision limit in force, 0 when the timer is stopped. -/
def Link.limit (l : Link) : Nat :=
  match l.timer with
  | some (_, n) => n
  | none => 0

/-- The milliseconds left on the timer, 0 when it is stopped. -/
def Link.left (l : Link) (now : Ms) : Nat :=
  match l.timer with
  | some (start, n) => n - elapsed now start
  | none => 0

/-- The query data of QUERY LINK (R182). DESIGN CHOICE: the supervision limit in force is sent in milliseconds, in 4 bytes
(notes/assumptions/10.md); the QUERY itself is not among the frames counted (notes/assumptions/62.md). -/
def State.linkData (s : State) : List Byte :=
  let l := s.link
  let c := l.counters
  yesNo (!l.online)
  ++ num1 (match l.lastPhase with
    | some p => bit p
    | none => 2)
  ++ num4 l.limit ++ num4 (l.left s.now) ++ amount3 l.rate ++ num2 l.noticeMask.toNat ++ num1 l.rxBuffer.length
  ++ num1 l.replies.length ++ num1 l.messages.length ++ yesNo l.record.isSome ++ num1 l.listState.toNat
  ++ num1 l.noticeList.length ++ num2 l.transitions ++ num2 c.badLength ++ num2 c.badCrc ++ num2 c.truncated
  ++ num2 c.overrun ++ num2 c.formatError ++ num2 c.samePhase ++ num2 c.dropped

/-- The query data of QUERY IDENT. -/
def identData : List Byte :=
  num2 0x4B50 ++ num2 0x0418
  ++ (bankedTables ++ [TableName.deny, TableName.site]).flatMap (fun n => num2 n.capacity)
  ++ num1 Config.journalBlocks ++ num1 Config.tearPlaces ++ num1 8
  ++ [Config.revisionLetter 0, Config.revisionLetter 1]

/-! ### Pages and the commands (R181) -/

/-- The number of pages of query data: data of 0 bytes makes one empty page. -/
def pageCount (data : List Byte) : Nat := max 1 ((data.length + (Config.pageBytes - 1)) / Config.pageBytes)

/-- A page of query data, or NO_PAGE. -/
def page (n : Nat) (data : List Byte) (s : State) : Answer :=
  if pageCount data ≤ n then refusal .noPage s
  else
    ⟨s, .accepted,
      num1 n ++ num1 (pageCount data) ++ (data.drop (n * Config.pageBytes)).take Config.pageBytes, .nothing⟩

/-- A QUERY of a target; one malformed, or of a target outside the list, is taken by any of the queries. -/
def Frame.queries (target : Nat) (f : Frame) : Bool :=
  f.is kQuery
  && (decide (f.body.length ≠ 3) || decide (field f.body 0 1 = target) || decide (7 < field f.body 0 1))

/-- A QUERY whose target names a bay by its selector (R180, R181). -/
def bayQuery (data : State → BayNo → List Byte) (f : Frame) (s : State) : Answer :=
  if f.body.length = 3 ∧ field f.body 0 1 ≤ 7 then
    match bayOf (field f.body 1 1) with
    | some b => page (field f.body 2 1) (data s b) s
    | none => refusal .badBay s
  else refusal .badRequest s

/-- A QUERY whose selector is not read (R180, R181). -/
def unitQuery (data : State → List Byte) (f : Frame) (s : State) : Answer :=
  if f.body.length = 3 ∧ field f.body 0 1 ≤ 7 then page (field f.body 2 1) (data s) s
  else refusal .badRequest s

/-- QUERY BAY. -/
def execQueryBay (s : State) : Out := .next (answerFrame (Frame.queries 0) (bayQuery State.bayData) s)

/-- QUERY TUBES. -/
def execQueryTubes (s : State) : Out := .next (answerFrame (Frame.queries 1) (bayQuery State.tubesData) s)

/-- QUERY BOX. -/
def execQueryBox (s : State) : Out := .next (answerFrame (Frame.queries 2) (bayQuery State.boxData) s)

/-- QUERY LOAD. -/
def execQueryLoad (s : State) : Out := .next (answerFrame (Frame.queries 3) (unitQuery State.loadData) s)

/-- QUERY JOURNAL. -/
def execQueryJournal (s : State) : Out := .next (answerFrame (Frame.queries 4) (unitQuery State.journalData) s)

/-- QUERY TEAR. -/
def execQueryTear (s : State) : Out := .next (answerFrame (Frame.queries 5) (unitQuery State.tearData) s)

/-- QUERY LINK. -/
def execQueryLink (s : State) : Out := .next (answerFrame (Frame.queries 6) (unitQuery State.linkData) s)

/-- QUERY IDENT. -/
def execQueryIdent (s : State) : Out := .next (answerFrame (Frame.queries 7) (unitQuery fun _ => identData) s)

end Sys2Proof.Machine
end

