-- ==== Sys2Proof/Machine/BayControl.lean ====
section
/-! DEFINITION. The service frames: BAY_CONTROL (R21, R23, R75), TUBE_SET (R106), HOLD and RELEASE_HOLD (R164, R165). -/

namespace Sys2Proof.Machine

open Sys2Proof

/-! ### BAY_CONTROL -/

/-- A BAY_CONTROL of an action; one malformed, or of an action outside the list, is taken by any of the five. -/
def Frame.controls (action : Nat) (f : Frame) : Bool :=
  f.is kBayControl
  && (decide (f.body.length ≠ 2) || decide (field f.body 1 1 = action) || decide (4 < field f.body 1 1))

/-- A BAY_CONTROL frame: BAD_REQUEST, BAD_BAY and BAY_ABSENT come before the rows of its action (R21, R180). -/
def bayControl (act : BayNo → State → Answer) (f : Frame) (s : State) : Answer :=
  if f.body.length = 2 ∧ field f.body 1 1 ≤ 4 then
    match bayOf (field f.body 0 1) with
    | some b => if siteAbsent s.site b then refusal .bayAbsent s else act b s
    | none => refusal .badBay s
  else refusal .badRequest s

/-- IN_SERVICE: SERVER leaves the set, and a context in OUT_OF_SERVICE enters IDLE (R21). -/
def inService (b : BayNo) (s : State) : Answer :=
  if (s.ctx b).causes.onlyServer then
    let s := s.modCtx b fun c => { c with causes := c.causes.put .server false }
    accept (if (s.ctx b).state = .outOfService then rest .idle b s else s)
  else refusal .causeStanding s

/-- BAY_CONTROL IN_SERVICE (R21). -/
def execBayControlInService (s : State) : Out := done s (answerFrame (Frame.controls 0) (bayControl inService) s)

/-- BAY_CONTROL OUT_OF_SERVICE (R21). -/
def execBayControlOutOfService (s : State) : Out :=
  done s (answerFrame (Frame.controls 1) (bayControl fun b s => accept (joinCause .server b s)) s)

/-- BAY_CONTROL RESET (R23). -/
def execBayControlReset (s : State) : Out :=
  done s (answerFrame (Frame.controls 2) (bayControl fun b s => accept (bayReset b s)) s)

/-- A train in progress is discarded: the capture state is IDLE and its fields absent (R72, R73, R75).
DESIGN CHOICE: the pulse count is then 0 and the malformed mark no (notes/assumptions/40.md). -/
def CoinLine.discard (c : CoinLine) : CoinLine :=
  { c with capture := .idle, pulses := 0, lastEdge := none, malformed := false, filterTime := none, endGap := none }

/-- coin_off becomes yes (R75); a LOW line is timed from here (R73). -/
def CoinLine.off (c : CoinLine) (now : Ms) : CoinLine :=
  { c.discard with coinOff := true, waitHigh := false, stuckFrom := if c.filteredHigh then none else some now }

/-- coin_off becomes no (R75): with the line LOW no falling edge is taken until it has gone HIGH, and the line is timed
from here (R73). -/
def CoinLine.on (c : CoinLine) (now : Ms) : CoinLine :=
  { c with coinOff := false, waitHigh := !c.filteredHigh, stuckFrom := if c.filteredHigh then none else some now }

/-- COIN_OFF at a bay (R75). -/
def coinOff (b : BayNo) (s : State) : State :=
  let now := s.now
  if (s.bay b).coin.coinOff then s
  else
    recomputeMask b (s.modBay b fun y =>
      { y with
        coin := y.coin.off now
        counters := if y.coin.capture = .idle then y.counters
          else { y.counters with aborted := satInc y.counters.aborted } })

/-- COIN_ON at a bay (R75). -/
def coinOn (b : BayNo) (s : State) : State :=
  let now := s.now
  if (s.bay b).coin.coinOff then recomputeMask b (s.modBay b fun y => { y with coin := y.coin.on now }) else s

/-- BAY_CONTROL COIN_OFF (R75). -/
def execCoinOff (s : State) : Out :=
  done s (answerFrame (Frame.controls 3) (bayControl fun b s => accept (coinOff b s)) s)

/-- BAY_CONTROL COIN_ON (R75). -/
def execCoinOn (s : State) : Out :=
  done s (answerFrame (Frame.controls 4) (bayControl fun b s => accept (coinOn b s)) s)

/-! ### TUBE_SET (R106) -/

/-- The tube states a TUBE_SET may carry: OK and DISABLED (R106). -/
def setStateOf : Nat → Option TubeState
  | 0 => some .ok | 2 => some .disabled
  | _ => none

/-- The count a TUBE_SET stores (R106). -/
def Tube.setCount (t : Tube) (n : Nat) : Nat := if t.kind = 0 then 0 else min n t.capacity

/-- An accepted TUBE_SET (R106). -/
def tubeSet (b : BayNo) (t : TubeNo) (n : Nat) (st : TubeState) (s : State) : Answer :=
  let stored := (s.tube b t).setCount n
  ⟨testJamAll b (changeTube b t (fun u => { u with count := stored, state := st }) s), .accepted, beBytes 1 stored,
    .nothing⟩

/-- The bay may be serviced: its context is in OUT_OF_SERVICE and its service door is open (R106). -/
def State.servicing (s : State) (b : BayNo) : Bool :=
  decide ((s.ctx b).state = .outOfService) && (s.bay b).lines.serviceDoor.accepted

/-- TUBE_SET (R106). -/
def execTubeSet (s : State) : Out :=
  done s (answerFrame (Frame.is kTubeSet) (ofLength 4 fun body s =>
    match bayOf (field body 0 1), tubeOf (field body 1 1), setStateOf (field body 3 1) with
    | none, _, _ => refusal .badBay s
    | some b, some t, some st =>
      if s.servicing b then tubeSet b t (field body 2 1) st s else refusal .notServicing s
    | _, _, _ => refusal .badRequest s) s)

/-! ### HOLD and RELEASE_HOLD (R164, R165) -/

/-- The block numbers a HOLD or RELEASE_HOLD carries: 1 to 8 of them, each 0 to 31 (R164 check 1, R165 check 1). -/
def blocksOf (body : List Byte) : Option (List Nat) :=
  let n := field body 0 1
  let bs := (body.drop 1).map BitVec.toNat
  if body.length = n + 1 ∧ 1 ≤ n ∧ n ≤ 8 ∧ (bs.all fun i => decide (i < Config.journalBlocks)) = true then some bs
  else none

/-- A block may be held: it is ACTIVE or FULL, or already held (R164 check 2). -/
def Journal.holdable (j : Journal) (i : Nat) : Bool :=
  decide ((j.row i).state = .active) || decide ((j.row i).state = .full) || j.held i

/-- The hold list with blocks added, no number twice (R164). -/
def withHolds (held blocks : List Nat) : List Nat :=
  blocks.foldl (fun l i => if l.contains i then l else l ++ [i]) held

/-- HOLD (R164). -/
def execHold (s : State) : Out :=
  .next (answerFrame (Frame.is kHold) (fun f s =>
    match blocksOf f.body with
    | none => refusal .badRequest s
    | some bs =>
      if bs.all s.journal.holdable then
        let l := withHolds s.journal.holdList bs
        if l.length ≤ Config.holdPlaces then accept (s.modJournal fun j => { j with holdList := l })
        else refusal .holdFull s
      else refusal .notHoldable s) s)

/-- RELEASE_HOLD (R165). -/
def execReleaseHold (s : State) : Out :=
  .next (answerFrame (Frame.is kReleaseHold) (fun f s =>
    match blocksOf f.body with
    | none => refusal .badRequest s
    | some bs =>
      if s.time.audit.accepted then
        accept (s.modJournal fun j => { j with holdList := j.holdList.filter fun i => !bs.contains i })
      else refusal .auditLocked s) s)

end Sys2Proof.Machine
end

