-- ==== Sys2Proof/Machine/BayBus.lean ====
section
/-! DEFINITION. The bay bus (R194 to R201): polls, replies and misses, terminal states, and line recovery. -/

namespace Sys2Proof.Machine

open Sys2Proof

/-- The bus changes under f. -/
def State.modBus (s : State) (f : Bus → Bus) : State := { s with bus := f s.bus }

/-! ### The rotation (R194) -/

/-- A bay has its place in the rotation: its terminal is PRESENT or MISSING. -/
def State.inRotation (s : State) (b : BayNo) : Bool :=
  match (s.bay b).term.state with
  | .present | .missing => true
  | _ => false

/-- The bay the rotation polls next: the first from `next` on, or the lowest when there is none (R194). -/
def State.nextBay (s : State) : Option BayNo :=
  match allBays.find? fun b => s.inRotation b && decide (s.bus.next ≤ b.val) with
  | some b => some b
  | none => allBays.find? s.inRotation

/-- A LOST bay's recovery poll has fallen due (R194). -/
def State.recoveryDue (s : State) (b : BayNo) : Bool :=
  match (s.bay b).term.state, (s.bay b).term.recoveryStart with
  | .lost, some m => s.passed m Config.recoveryPeriod
  | _, _ => false

/-- The lowest bay whose recovery poll has fallen due. -/
def State.dueBay (s : State) : Option BayNo := allBays.find? s.recoveryDue

/-- An exchange can begin: the rotation runs, no exchange is on the line, the last reply has been handed on, and no line
recovery is under way (R194, R201). -/
def State.busReady (s : State) : Bool :=
  s.bus.running && s.bus.exchange.isNone && s.bus.inbox.isEmpty && decide (s.bus.recovery = .none)

/-! ### Polls (R195) -/

/-- The display and hold cause a poll carries. -/
def Terminal.display? (t : Terminal) : Option (Screen × HoldCause) :=
  if t.displayPending then some (t.screen, t.screenHold) else none

/-- The tone a poll carries. -/
def Terminal.tone? (t : Terminal) : Option Tone := if t.tonePending then some t.tone else none

/-- The card command a rotation poll carries (R198). -/
def Terminal.command? (t : Terminal) : Option (Nat × CardCommand) :=
  match t.cardSlot with
  | some c => if c.taken then none else some (c.mark, c.command)
  | none => none

/-- What the terminal record remembers of a poll: which items are on the line, and the first sending of the command. -/
def Terminal.polled (t : Terminal) (carriesCommand : Bool) (now : Ms) : Terminal :=
  { t with
    displayOnLine := t.displayPending
    toneOnLine := t.tonePending
    cardSlot := if carriesCommand then t.cardSlot.map fun c =>
        if c.taken then c else { c with firstSent := some (c.firstSent.getD now) }
      else t.cardSlot }

/-- A rotation poll of bay b is built and sent (R195, R198, R199). -/
def rotationPoll (b : BayNo) (s : State) : State :=
  let now := s.now
  let r := (s.bay b).offer
  let t := r.1.term
  let poll : Poll := ⟨b, t.display?, t.tone?, t.command?, r.2⟩
  (s.modBay b fun _ => { r.1 with term := t.polled true now }).modBus fun x =>
    { x with exchange := some ⟨poll, false, now⟩, next := b.val + 1 }

/-- A recovery poll of bay b is built and sent (R194, R195). -/
def recoveryPoll (b : BayNo) (s : State) : State :=
  let now := s.now
  let t := (s.bay b).term
  let poll : Poll := ⟨b, t.display?, t.tone?, none, none⟩
  (s.modTerm b fun t => { t.polled false now with recoveryStart := some now }).modBus fun x =>
    { x with exchange := some ⟨poll, true, now⟩ }

/-- POLL_START: the next rotation poll, when no recovery poll is due (R194). -/
def execPollStart (s : State) : Out :=
  .next (match s.busReady, s.dueBay, s.nextBay with
  | true, none, some b => rotationPoll b s
  | _, _, _ => s)

/-- RECOVERY_POLL_DUE: the lowest due recovery poll (R194). -/
def execRecoveryPollDue (s : State) : Out :=
  .next (match s.busReady, s.dueBay with
  | true, some b => recoveryPoll b s
  | _, _ => s)

/-! ### Misses (R196, R197) -/

/-- The command that was in the card slot of a lost terminal is no longer outstanding (R197): a re-application's write
has an unknown outcome, and a reading exchange asks again. The exchange's own write is taken with the cause (R22). -/
def lostCommand (c : Option CardSlot) (b : BayNo) (s : State) : State :=
  match c with
  | some c => presentRead b (if c.owner = .reapplication then reapplyUnknown b s else s)
  | none => s

/-- A bay becomes LOST, and the loss is handed on (R197). -/
def terminalLost (b : BayNo) (s : State) : State :=
  let now := s.now
  let slot := s.slot b
  let s := s.modTerm b fun t =>
    { t with state := .lost, misses := 3, recoveryStart := some now, cardSlot := none }
  let s := lostCommand slot b (joinCause .terminalLost b s)
  let s := s.modBay b fun y => { y with printer := { y.printer with credit := 0 }, inFlight := 0, chunkMark := none }
  notify (.terminal b .lost) (receiptTaken? b (cutJob b s))

/-- A miss of bay b (R197). -/
def miss (b : BayNo) (s : State) : State :=
  match (s.bay b).term.state with
  | .present => s.modTerm b fun t => { t with state := .missing, misses := 1 }
  | .missing =>
    if (s.bay b).term.misses < 2 then s.modTerm b fun t => { t with misses := t.misses + 1 }
    else terminalLost b s
  | _ => s

/-- The exchange on the line ends. -/
def endBusExchange (s : State) : State := s.modBus fun x => { x with exchange := none, dropKey := false }

/-- The bad reply counter grows (R196). -/
def countBadReply (s : State) : State := s.modBus fun x => { x with badReplies := satInc x.badReplies }

/-- REPLY_WINDOW_EXPIRY: no reply begun within 5 ms (R195, R196). -/
def execReplyWindowExpiry (s : State) : Out :=
  done s (match s.bus.exchange with
  | some x => if s.passed x.builtAt Config.replyWindow then miss x.poll.bay (endBusExchange s) else s
  | none => s)

/-- REPLY_GAP_EXPIRY: a reply begun is cut by a gap (R196). -/
def execReplyGapExpiry (s : State) : Out :=
  done s (match s.bus.exchange with
  | some x => miss x.poll.bay (countBadReply (endBusExchange s))
  | none => s)

/-! ### Good replies (R196, R197) -/

/-- The display and tone of the poll have reached the terminal, unless newer ones were handed over (R196). -/
def Terminal.reached (t : Terminal) (p : Poll) : Terminal :=
  { t with
    displayPending := t.displayPending && !(p.display.isSome && t.displayOnLine)
    tonePending := t.tonePending && !(p.tone.isSome && t.toneOnLine) }

/-- A good reply changes the terminal state (R197). -/
def terminalHeard (b : BayNo) (s : State) : State :=
  match (s.bay b).term.state with
  | .missing =>
    let s := s.modTerm b fun t => { t with state := .present, misses := 0 }
    if (s.ctx b).causes.terminalLost then leaveCause .terminalLost b s else s
  | .lost =>
    notify (.terminal b .present)
      (leaveCause .terminalLost b
        (s.modTerm b fun t =>
          { t with state := .present, misses := 0, recoveryStart := none, displayPending := true,
                   displayOnLine := false }))
  | _ => s

/-- The sections of a good reply in the order they are handed on (R196). -/
def BusReply.sections (r : BusReply) (carried : Option Nat) (dropKey : Bool) : List ReplySection :=
  (r.delivered.map fun m => ReplySection.delivered m carried).toList
  ++ (r.status.map fun p => ReplySection.status p.1 p.2.1 p.2.2).toList
  ++ (r.taken.map ReplySection.taken).toList
  ++ (r.answer.map fun p => ReplySection.answer p.1 p.2).toList
  ++ (if dropKey then [] else (r.key.map ReplySection.key).toList)

/-- A good reply is taken (R196). -/
def goodReply (x : BusExchange) (r : BusReply) (s : State) : State :=
  let b := x.poll.bay
  let sections := r.sections (x.poll.chunk.map (·.1)) s.bus.dropKey
  let s := s.modTerm b fun t => t.reached x.poll
  (terminalHeard b (endBusExchange s)).modBus fun u => { u with inboxBay := b, inbox := sections }

/-- REPLY_RECEIVED: a reply is judged good or a miss (R196). -/
def execReplyReceived (bytes : List Byte) (s : State) : Out :=
  done s (match s.bus.exchange with
  | some x =>
    match parseReply bytes with
    | some r =>
      if r.address = x.poll.bay.val then goodReply x r s
      else miss x.poll.bay (countBadReply (endBusExchange s))
    | none => miss x.poll.bay (countBadReply (endBusExchange s))
  | none => s)

/-! ### Line recovery (R201) -/

/-- LINE_HELD: the line has stood active for more than 20 ms while watched; the break begins (R201). -/
def execLineHeld (s : State) : Out :=
  let now := s.now
  .next (s.whenUp (match s.bus.exchange, s.bus.recovery with
  | none, .none => s.modBus fun x => { x with recovery := .breaking now, recoveries := satInc x.recoveries }
  | _, _ => s))

/-- BREAK_END: the line is released after 2 ms (R201). -/
def execBreakEnd (s : State) : Out :=
  let now := s.now
  .next (match s.bus.recovery with
  | .breaking m => if s.passed m Config.breakTime then s.modBus fun x => { x with recovery := .waiting now } else s
  | _ => s)

/-- RECOVERY_WAIT_END: after 10 ms the rotation resumes (R201). DESIGN CHOICE: where the last poll was a recovery poll it
resumes with its own next bay (notes/assumptions/53.md). -/
def execRecoveryWaitEnd (s : State) : Out :=
  .next (match s.bus.recovery with
  | .waiting m => if s.passed m Config.breakWait then s.modBus fun x => { x with recovery := .none } else s
  | _ => s)

/-! ### Handing sections on (R196) -/

/-- The head of the inbox is handed on, when it is a section the command takes. -/
def takeSection {α : Type} (f : ReplySection → Option α) (act : BayNo → α → State → State) (s : State) : State :=
  match s.bus.inbox with
  | x :: xs =>
    match f x with
    | some a => act s.bus.inboxBay a (s.modBus fun u => { u with inbox := xs })
    | none => s
  | [] => s

end Sys2Proof.Machine
end

