-- ==== Sys2Proof/Machine/Keys.lean ====
section
/-! DEFINITION. Key events (R4 to R8, R11, R148) and the context timeouts (R7). -/

namespace Sys2Proof.Machine

open Sys2Proof

/-! ### SELECT (R4 to R6) -/

/-- The request of a selection fits the product (R4 order 6). -/
def Product.fits (p : Product) (q : Selection) : Bool :=
  (if p.kind = .topup then
    decide (q.quantity = 1)
    && (match q.topup with
        | some a => decide (p.topMin ≤ a) && decide (a ≤ p.topMax) && decide (a % p.topStep = 0)
        | none => false)
   else decide (1 ≤ q.quantity) && decide (q.quantity ≤ 4))
  && (if p.usesZones then
        match q.zones with
        | some (o, d) => decide (o < 32) && decide (d < 32)
        | none => false
      else true)

/-- The product is sold with a card: PASS_ON_CARD, TOPUP, or a card is intended (R4 order 8, R6). -/
def Product.withCard (p : Product) (q : Selection) : Bool :=
  match p.kind with
  | .passPrinted => q.cardIntended
  | _ => true

/-- The selected product in the active bank, if its classes include the selected one (R4 order 5). -/
def State.offered (s : State) (q : Selection) : Option Product :=
  match (s.tariff.bank s.tariff.active).findProduct q.product with
  | some p => if p.allowsClass q.cls then some p else none
  | none => none

/-- The OPEN gate (R4): the product sold, or the refusal code of the first condition that fails. -/
def State.openGate (s : State) (b : BayNo) (q : Selection) : Code ⊕ Product :=
  if s.journal.erasedCount < Config.reserveBlocks then .inl .journalLow
  else if s.time.isSet = false then .inl .timeUnset
  else if s.supplyLow then .inl .supplyLow
  else if (s.tariff.bank s.tariff.active).allValid = false then .inl .noBank
  else match s.offered q with
    | none => .inl .noProduct
    | some p =>
      if p.fits q = false then .inl .badRequest
      else if p.kind = .passPrinted ∧ (s.bay b).printer.paper = .out then .inl .noPaper
      else if p.withCard q ∧ s.tearFree = false then .inl .cardBusy
      else .inr p

/-- The context of an accepted SELECT (R5). -/
def Ctx.open (c : Ctx) (p : Product) (q : Selection) (k : Bank) (time : Calendar) : Ctx :=
  { c with
    product := some q.product
    cls := some q.cls
    origin := if p.usesZones then q.zones.map (·.1) else none
    destination := if p.usesZones then q.zones.map (·.2) else none
    quantity := q.quantity
    cardIntended := q.cardIntended
    topupAmount := if p.kind = .topup then q.topup else none
    bank := some k
    openTime := some time }

/-- A SELECT that passes the gate opens the transaction (R5, R6, R121). -/
def openTxn (p : Product) (q : Selection) (b : BayNo) (s : State) : State :=
  let k := s.tariff.active
  let time := s.time.calendar
  let s := s.modBay b fun y => { y with ctx := y.ctx.open p q k time, reserved := p.withCard q }
  let s := enter .opening b { s with tariff := s.tariff.pin k }
  if p.withCard q then enterCardRead b s else enterPricing b s

/-- A SELECT key event (R4, R8). -/
def select (q : Selection) (b : BayNo) (s : State) : State :=
  let s := clearOverlay b s
  match (s.ctx b).state with
  | .outOfService => refuse .outOfService b s
  | .idle =>
    match s.openGate b q with
    | .inl code => refuse code b s
    | .inr p => openTxn p q b s
  | _ => refuse .busy b s

/-- SELECT (R4). -/
def execSelect (s : State) : Out :=
  done s (takeSection (fun x => match x with
    | .key (.select q) => some q
    | _ => none) (fun b q s => select q b s) s)

/-! ### CONFIRM (R11) -/

/-- The method may be confirmed (R11 check 1). -/
def State.methodFits (s : State) (b : BayNo) (p : Product) (m : Method) : Bool :=
  p.allowsMethod m && (decide (m = .coins) || (s.ctx b).card.isSome)

/-- The check of R11 that fails first. -/
def State.confirmFailure (s : State) (b : BayNo) (p : Product) (m : Method) : Option Code :=
  firstFailure
    [(s.methodFits b p m, .methodRefused),
     (decide (p.kind ≠ .topup) || s.online || s.offlineFits ((s.ctx b).topupAmount.getD 0), .offlineLimit)]

/-- A CONFIRM that passes (R11). -/
def confirmed (p : Product) (m : Method) (wanted : Bool) (b : BayNo) (s : State) : State :=
  let s := s.modCtx b fun c =>
    { c with method := some m, receiptWanted := wanted || decide (p.kind = .passPrinted) }
  if (s.ctx b).priceMethod = some m then leavePriced b s else enterPricing b s

/-- A CONFIRM key event (R8, R11). -/
def confirm (m : Method) (wanted : Bool) (b : BayNo) (s : State) : State :=
  let s := clearOverlay b s
  if (s.ctx b).state = .priced ∧ (s.ctx b).takes then
    match s.product b with
    | some p =>
      match s.confirmFailure b p m with
      | some code => refuse code b s
      | none => confirmed p m wanted b s
    | none => s
  else s

/-- CONFIRM (R11). -/
def execConfirm (s : State) : Out :=
  done s (takeSection (fun x => match x with
    | .key (.confirm m w) => some (m, w)
    | _ => none) (fun b p s => confirm p.1 p.2 b s) s)

/-! ### CANCEL and REPRINT (R7, R148) -/

/-- A CANCEL key event (R7). DESIGN CHOICE: the please-wait text stays until the next key event, refusal or state entry
(notes/assumptions/39.md). -/
def cancel (b : BayNo) (s : State) : State :=
  let s := clearOverlay b s
  if (s.ctx b).takes then
    match (s.ctx b).state with
    | .cardRead | .pricing | .priced | .tender => enterRefund b s
    | .cardWrite | .tearWait => refresh b (s.modCtx b fun c => { c with overlay := .pleaseWait })
    | _ => s
  else s

/-- CANCEL (R7). -/
def execCancel (s : State) : Out :=
  done s (takeSection (fun x => match x with
    | .key .cancel => some ()
    | _ => none) (fun b _ s => cancel b s) s)

/-- The last-receipt record still stands for a reprint (R148 check 1). -/
def State.recent (s : State) (r : LastReceipt) : Bool := decide (elapsed s.now r.printedAt < Config.reprintLimit)

/-- The record's tables are valid and at the recorded versions (R148 check 3). -/
def State.unchanged (s : State) (r : LastReceipt) : Bool :=
  let t := s.tariff.bank r.bank
  t.layout.valid && decide (t.layout.version = r.layoutVersion) && t.text.valid
  && decide (t.text.version = r.textVersion)

/-- The job of a reprint (R148). -/
def LastReceipt.job (r : LastReceipt) : Job :=
  { kind := .reprint, bank := r.bank, layout := r.layout, snapshot := { r.snapshot with duplicate := true },
    copies := 1, voucher := false, lostMark := false, layoutVersion := r.layoutVersion,
    textVersion := r.textVersion }

/-- A REPRINT in IDLE (R148). -/
def reprint (b : BayNo) (s : State) : State :=
  match (s.bay b).lastReceipt with
  | none => refuse .noReceipt b s
  | some r =>
    if s.recent r = false then refuse .noReceipt b s
    else if (s.bay b).printer.paper = .out then refuse .noPaper b s
    else if s.unchanged r = false then refuse .noReceipt b s
    else receiptTaken? b (requestJob b r.job (s.modBay b fun y => { y with lastReceipt := none }))

/-- REPRINT (R8, R148). -/
def execReprint (s : State) : Out :=
  done s (takeSection (fun x => match x with
    | .key .reprint => some ()
    | _ => none) (fun b _ s =>
      let s := clearOverlay b s
      if (s.ctx b).state = .idle then reprint b s else s) s)

/-! ### Timeouts (R7) -/

/-- The limit of a state, if it has one (R7). -/
def CtxState.limit : CtxState → Option Nat
  | .cardRead => some Config.cardReadLimit
  | .priced => some Config.pricedLimit
  | .tender => some Config.tenderLimit
  | .tearWait => some Config.tearWaitLimit
  | _ => none

/-- What the expiry of a state's limit does (R7, R14). -/
def timeout (b : BayNo) (s : State) : State :=
  match (s.ctx b).state with
  | .cardRead => cancelWith .cardTimeout b s
  | .tearWait => enterCommit b (s.modCtx b fun c => { c with cardOutcome := .pending })
  | _ => enterRefund b s

/-- CONTEXT_TIMEOUT: the limit has passed from last_change (R7). -/
def execContextTimeout (bay : BayNo) (s : State) : Out :=
  done s (match (s.ctx bay).state.limit with
  | some n => if s.passed (s.ctx bay).lastChange n ∧ (s.ctx bay).takes then timeout bay s else s
  | none => s)

end Sys2Proof.Machine
end

