-- ==== Sys2Proof/Machine/Card.lean ====
section
/-! DEFINITION. Card command and card answer sections (R198), and the card timers (R109, R115, R130). -/

namespace Sys2Proof.Machine

open Sys2Proof

/-- CARD_COMMAND_TAKEN: the slot whose mark the section holds is marked taken (R198). -/
def execCardCommandTaken (s : State) : Out :=
  .next (takeSection (fun x => match x with
    | .taken m => some m
    | _ => none) (fun b m s =>
      s.modTerm b fun t =>
        { t with cardSlot := t.cardSlot.map fun c => if c.mark = m then { c with taken := true } else c }) s)

/-- A command has no answer that says how it ended: a READ counts as NO_CARD, a write has an unknown outcome (R109, R119,
R126). -/
def commandExpired (c : CardSlot) (b : BayNo) (s : State) : State :=
  match c.owner, c.command with
  | .reapplication, _ => presentRead b (reapplyUnknown b s)
  | .exchange, .write .. => writeUnknown b s
  | _, _ => presentRead b s

/-- An answer with the mark of the command in the slot is handed over, and the slot is empty; any other answer is
discarded (R198). -/
def answerSlot (m : Nat) (act : CardSlot → State → State) (b : BayNo) (s : State) : State :=
  match s.slot b with
  | some c => if c.mark = m then act c (emptySlot b s) else s
  | none => s

/-- A CARD answer goes to the exchange that asked, or is a late read (R111, R114). DESIGN CHOICE: a CARD answer to a write
leaves its outcome unknown (notes/assumptions/16.md). -/
def cardRead (v : CardValues) (b : BayNo) (c : CardSlot) (s : State) : State :=
  match c.command, c.owner, (s.exch b).phase with
  | .read, .exchange, .presenting => readTaken v b s
  | .read, _, _ => presentRead b (lateRead v b s)
  | _, _, _ => commandExpired c b s

/-- CARD_ANSWER_CARD (R111). -/
def execCardAnswerCard (s : State) : Out :=
  done s (takeSection (fun x => match x with
    | .answer m (.card v) => some (m, v)
    | _ => none) (fun b p s => answerSlot p.1 (cardRead p.2 b) b s) s)

/-- CARD_ANSWER_NO_CARD: a new READ follows while the exchange stands in PRESENTING (R111). DESIGN CHOICE: a NO_CARD answer
to a write leaves its outcome unknown (notes/assumptions/16.md). -/
def execCardAnswerNoCard (s : State) : Out :=
  done s (takeSection (fun x => match x with
    | .answer m .noCard => some m
    | _ => none) (fun b m s => answerSlot m (fun c s => commandExpired c b s) b s) s)

/-- A write was answered OK: the exchange's, or the re-application's (R119, R126). DESIGN CHOICE: an OK to a READ counts as
NO_CARD (notes/assumptions/16.md). -/
def writeOk (balance : Nat) (b : BayNo) (c : CardSlot) (s : State) : State :=
  match c.owner, c.command with
  | .exchange, .write .. => writeDone balance b s
  | .reapplication, _ => presentRead b (reapplyAnswered .reapplied .none b s)
  | _, _ => presentRead b s

/-- WRITE_ANSWER_OK (R119, R126). -/
def execWriteAnswerOk (s : State) : Out :=
  done s (takeSection (fun x => match x with
    | .answer m (.ok balance _) => some (m, balance)
    | _ => none) (fun b p s => answerSlot p.1 (writeOk p.2 b) b s) s)

/-- A write was refused by the card: the exchange's, or the re-application's (R119, R126). DESIGN CHOICE: a REFUSED to a
READ counts as NO_CARD (notes/assumptions/16.md). -/
def writeNo (r : CardRefusal) (b : BayNo) (c : CardSlot) (s : State) : State :=
  match c.owner, c.command with
  | .exchange, .write .. => writeRefused r b s
  | .reapplication, _ => presentRead b (reapplyAnswered .failed r.reason b s)
  | _, _ => presentRead b s

/-- WRITE_ANSWER_REFUSED (R119, R126). -/
def execWriteAnswerRefused (s : State) : Out :=
  done s (takeSection (fun x => match x with
    | .answer m (.refused r) => some (m, r)
    | _ => none) (fun b p s => answerSlot p.1 (writeNo p.2 b) b s) s)

/-- CARD_COMMAND_TIMEOUT: 500 ms have passed since the command's first sending (R109, R198). -/
def execCardCommandTimeout (bay : BayNo) (s : State) : Out :=
  done s (match s.slot bay with
  | some c =>
    match c.firstSent with
    | some m => if s.passed m Config.commandLimit then commandExpired c bay (emptySlot bay s) else s
    | none => s
  | none => s)

/-- The presentation limit runs in a phase (R115). -/
def Phase.limited : Phase → Bool
  | .presenting | .resolving | .checking | .authorising | .held => true
  | _ => false

/-- PRESENTATION_LIMIT_EXPIRY: 20 s have passed from limit start without the issue of the write (R115). -/
def execPresentationLimitExpiry (bay : BayNo) (s : State) : Out :=
  done s (match (s.exch bay).limitStart with
  | some m =>
    if (s.exch bay).phase.limited ∧ s.passed m Config.presentationLimit then cancelWith .cardTimeout bay s else s
  | none => s)

/-- AUTH_WAIT_EXPIRY: 3 s have passed from the sending of the request (R130). -/
def execAuthWaitExpiry (bay : BayNo) (s : State) : Out :=
  done s (match (s.bay bay).authWait with
  | some w => if s.passed w.sentAt Config.authLimit then authFailed .authTimeout bay s else s
  | none => s)

end Sys2Proof.Machine
end

