-- ==== Sys2Proof/Machine/Coins.lean ====
section
/-! DEFINITION. The coin lines: the glitch filter and the capture of trains (R69 to R72), faults (R73, R74), what a coin
becomes (R76 to R80), and the end of an escrow pulse (R86). -/

namespace Sys2Proof.Machine

open Sys2Proof

/-- Bay b's coin line receiver changes under f. -/
def State.modCoin (s : State) (b : BayNo) (f : CoinLine → CoinLine) : State :=
  s.modBay b fun y => { y with coin := f y.coin }

/-- Bay b's coin counters change under f. -/
def State.modCounters (s : State) (b : BayNo) (f : CoinCounters → CoinCounters) : State :=
  s.modBay b fun y => { y with counters := f y.counters }

/-! ### The filter and the capture (R69 to R72) -/

/-- COIN_LINE_CHANGE: the raw line takes a level, which the filter times from now (R69). -/
def execCoinLineChange (bay : BayNo) (high : Bool) (s : State) : Out :=
  let now := s.now
  .next (if (s.bay bay).coin.rawHigh = high then s
    else s.modCoin bay fun c => { c with rawHigh := high, rawSince := now })

/-- The filter time: the live site value in IDLE, the value in force within a train (R69). -/
def State.filterTime (s : State) (b : BayNo) : Nat := (s.bay b).coin.filterTime.getD (siteFilter s.site)

/-- The raw line has held a level the filtered line has not for the filter time (R69). -/
def State.edgeDue (s : State) (b : BayNo) (high : Bool) : Bool :=
  let c := (s.bay b).coin
  decide (c.rawHigh = high) && decide (c.filteredHigh ≠ high) && s.passed c.rawSince (s.filterTime b)

/-- A filtered falling edge at a receiver that captures (R70). -/
def CoinLine.captureFall (c : CoinLine) (now : Ms) (site : List (List Byte)) : CoinLine :=
  match c.capture with
  | .idle =>
    { c with capture := .inPulse, pulses := 0, lastEdge := some now, malformed := false,
             filterTime := some (siteFilter site), endGap := some (siteEndGap site) }
  | .inGap => { c with capture := .inPulse, lastEdge := some now }
  | .inPulse => c

/-- A filtered falling edge (R70, R73, R74). -/
def CoinLine.fall (c : CoinLine) (now : Ms) (site : List (List Byte)) : CoinLine :=
  let c := { c with filteredHigh := false }
  let c := if c.coinOff then { c with stuckFrom := some now } else c
  if c.fault then { c with recoveryStart := none }
  else if c.coinOff then c
  else c.captureFall now site

/-- FILTERED_FALLING_EDGE (R69, R70, R74). -/
def execFilteredFallingEdge (bay : BayNo) (s : State) : Out :=
  let now := s.now
  let site := s.site
  .next (s.whenUp (if s.edgeDue bay false then s.modCoin bay fun c => c.fall now site else s))

/-- A pulse of a width ends (R71). -/
def CoinLine.pulseEnd (c : CoinLine) (now : Ms) (width : Nat) : CoinLine :=
  let n := min (c.pulses + 1) 9
  { c with
    capture := .inGap, pulses := n, lastEdge := some now,
    malformed := c.malformed || decide (width < 10) || decide (120 < width) || decide (n = 9) }

/-- A filtered rising edge (R71, R74, R75). -/
def CoinLine.rise (c : CoinLine) (now : Ms) : CoinLine :=
  let c := { c with filteredHigh := true, waitHigh := false, stuckFrom := none }
  if c.fault then { c with recoveryStart := some now }
  else match c.capture with
    | .inPulse => c.pulseEnd now (elapsed now (c.lastEdge.getD now))
    | _ => c

/-- FILTERED_RISING_EDGE (R69, R71, R74). -/
def execFilteredRisingEdge (bay : BayNo) (s : State) : Out :=
  let now := s.now
  .next (s.whenUp (if s.edgeDue bay true then s.modCoin bay fun c => c.rise now else s))

/-! ### What a coin becomes (R76 to R80) -/

/-- The configured kind whose pulse count a train carries, with its value (R76). -/
def kindOf (site : List (List Byte)) (pulses : Nat) : Option (Nat × Nat) :=
  [1, 2, 3, 4, 5, 6, 7, 8].findSome? fun k => match siteKind site k with
    | some (v, n) => if n = pulses then some (k, v) else none
    | none => none

/-- A classified coin with its standing at bay b's context (R76, R77). -/
def State.coinOf (s : State) (b : BayNo) (pulses : Nat) (malformed : Bool) : Coin :=
  match malformed, kindOf s.site pulses with
  | false, some (k, v) =>
    if (s.ctx b).state = .tender ∧ (s.ctx b).takes ∧ (s.ctx b).tendered + v ≤ Config.maxAmount then ⟨k, .credited, v⟩
    else ⟨k, .stray, 0⟩
  | _, _ => ⟨0, .unvalued, 0⟩

/-- The counter and the notice of a coin's standing (R76, R77). -/
def countCoin (c : Coin) (pulses : Nat) (malformed : Bool) (b : BayNo) (s : State) : State :=
  match c.standing with
  | .credited => s
  | .stray => s.modCounters b fun n => { n with stray := satInc n.stray }
  | .unvalued =>
    notify (.unvalued b pulses malformed) (s.modCounters b fun n => { n with unvalued := satInc n.unvalued })

/-- The credit of a coin (R13, R77). -/
def creditCoin (c : Coin) (b : BayNo) (s : State) : State :=
  let now := s.now
  match c.standing with
  | .credited => s.modCtx b fun x => { x with tendered := x.tendered + c.value, lastChange := now }
  | _ => s

/-- A coin joins the escrow list, with the return that IDLE and OUT_OF_SERVICE call for (R78, R80). -/
def joinEscrow (c : Coin) (b : BayNo) (s : State) : State :=
  let s := s.modCtx b fun x => { x with coins := x.coins ++ [c] }
  match (s.ctx b).state with
  | .idle | .outOfService => requestReturn b s
  | _ => s

/-- An overflow coin goes to the box or to the hold counts (R79). -/
def overflowCoin (c : Coin) (b : BayNo) (s : State) : State :=
  s.modBay b fun y =>
    { y with
      box := y.box.put c.kind
      counters := { y.counters with overflow := satInc y.counters.overflow }
      ctx := if c.standing = .credited then { y.ctx with overflow := y.ctx.overflow + 1 } else y.ctx }

/-- The coin joins the escrow list, or passes over a full escrow (R78, R79). -/
def placeCoin (c : Coin) (b : BayNo) (s : State) : State :=
  if (s.ctx b).coins.length < Config.escrowPlaces then joinEscrow c b s else overflowCoin c b s

/-- Payment is complete: the context leaves TENDER (R13). -/
def payIfComplete (c : Coin) (b : BayNo) (s : State) : State :=
  if c.standing = .credited ∧ (s.ctx b).price.getD 0 ≤ (s.ctx b).tendered then
    if s.writesCard b then enterCardWrite b s else enterCommit b s
  else refresh b (recomputeMask b s)

/-- A train has ended with a pulse count: the coin is classified, credited and placed (R72, R76 to R80). -/
def takeCoin (pulses : Nat) (malformed : Bool) (b : BayNo) (s : State) : State :=
  let c := s.coinOf b pulses malformed
  payIfComplete c b (placeCoin c b (creditCoin c b (countCoin c pulses malformed b s)))

/-- A train's end is due: the line has stayed HIGH in IN_GAP for the end gap in force (R72). -/
def State.trainDue (s : State) (b : BayNo) : Bool :=
  let c := (s.bay b).coin
  match c.lastEdge with
  | some m => decide (c.capture = .inGap) && c.filteredHigh && s.passed m (c.endGap.getD (siteEndGap s.site))
  | none => false

/-- TRAIN_END (R72). -/
def execTrainEnd (bay : BayNo) (s : State) : Out :=
  done s (if s.trainDue bay then
    let c := (s.bay bay).coin
    takeCoin c.pulses c.malformed bay (s.modCoin bay CoinLine.discard)
  else s)

/-! ### Faults (R73, R74) -/

/-- The time from which a LOW line is timed (R73). -/
def CoinLine.lowSince (c : CoinLine) : Option Ms :=
  match c.capture with
  | .inPulse => c.lastEdge
  | _ => c.stuckFrom

/-- A LINE_STUCK fault is declared (R73). -/
def declareFault (b : BayNo) (s : State) : State :=
  let s := s.modBay b fun y =>
    { y with
      coin := { y.coin.discard with fault := true, recoveryStart := none, stuckFrom := none, waitHigh := false }
      counters := { y.counters with fault := satInc y.counters.fault } }
  notify (.coinFault b false) (joinCause .coinLineFault b s)

/-- LINE_STUCK: the filtered line has stayed LOW for 400 ms (R73). -/
def execLineStuck (bay : BayNo) (s : State) : Out :=
  let c := (s.bay bay).coin
  done s (s.whenUp (match c.lowSince with
  | some m =>
    if c.filteredHigh = false ∧ c.fault = false ∧ s.passed m Config.stuckLimit then declareFault bay s else s
  | none => s))

/-- The fault ends (R74). -/
def endFault (b : BayNo) (s : State) : State :=
  let s := s.modCoin b fun c => { c with fault := false, recoveryStart := none, capture := .idle }
  notify (.coinFault b true) (leaveCause .coinLineFault b s)

/-- FAULT_END: the line has been HIGH for 1 s since recovery start (R74). -/
def execFaultEnd (bay : BayNo) (s : State) : Out :=
  let c := (s.bay bay).coin
  done s (s.whenUp (match c.recoveryStart with
  | some m => if c.fault ∧ s.passed m Config.faultEndLimit then endFault bay s else s
  | none => s))

/-! ### Escrow (R86) -/

/-- ESCROW_PULSE_END: after 200 ms the output is released; a pending return begins a new pulse at once (R86). -/
def execEscrowPulseEnd (bay : BayNo) (s : State) : Out :=
  done s (match (s.bay bay).escrow.pulse with
  | some m =>
    if s.passed m Config.returnPulse then
      if (s.bay bay).escrow.pending then startPulse bay s
      else s.modBay bay fun y => { y with escrow := ⟨none, false⟩ }
    else s
  | none => s)

end Sys2Proof.Machine
end

