-- ==== Sys2Proof/Machine/Payout.lean ====
section
/-! DEFINITION. Payout senses and drive timeouts (R95 to R100). -/

namespace Sys2Proof.Machine

open Sys2Proof

/-- A coin leaves tube t: its count falls by 1, to no less than 0 (R95, R100). -/
def Tube.leave (u : Tube) : Tube := { u with count := u.count - 1 }

/-- An extra coin of tube t (R100). -/
def extraCoin (t : TubeNo) (b : BayNo) (s : State) : State :=
  changeTube b t (fun u => { u.leave with extra := satInc u.extra }) s

/-- A sensed coin of value v is paid (R95): paid, and for requester PAYOUT change_paid, grow; the entry is used. -/
def payCoin (v : Nat) (b : BayNo) (s : State) : State :=
  let s := s.modPayout b fun x => { x with paid := x.paid + v, plan := usePlan x.plan, drive := none }
  match (s.bay b).payout.requester with
  | .payout => s.modCtx b fun c => { c with changePaid := c.changePaid + v }
  | .refund => s

/-- A sense that answers the drive of tube t (R95). DESIGN CHOICE: a paid value above the amount ends the payout as an equal
one does (notes/assumptions/41.md). -/
def answerDrive (t : TubeNo) (b : BayNo) (s : State) : State :=
  let v := kindValue s.site (s.tube b t).kind
  let s := payCoin v b (changeTube b t Tube.leave s)
  if (s.bay b).payout.amount ≤ (s.bay b).payout.paid then payoutEnded b (stopPayout b s)
  else payoutStep b (nextDrive b s)

/-- PAYOUT_SENSE: a sense pulse answers the current drive of its tube, or is an extra coin (R95, R100). -/
def execPayoutSense (bay : BayNo) (tube : TubeNo) (s : State) : Out :=
  done s (s.whenUp (match (s.bay bay).payout.drive with
  | some (t, _) => if t = tube then answerDrive tube bay s else extraCoin tube bay s
  | none => extraCoin tube bay s))

/-- A drive of tube t has gone unanswered: the tube is JAMMED and the executor replans (R96, R98). -/
def jam (t : TubeNo) (b : BayNo) (s : State) : State :=
  let s := changeTube b t (fun u => { u with state := .jammed }) (s.modPayout b fun x => { x with drive := none })
  payoutStep b (planPayout b (testJamAll b (notify (.jam b t) s)))

/-- DRIVE_TIMEOUT: 400 ms have passed from the drive time (R96). -/
def execDriveTimeout (bay : BayNo) (s : State) : Out :=
  done s (match (s.bay bay).payout.drive with
  | some (t, m) => if s.passed m Config.driveLimit then jam t bay s else s
  | none => s)

end Sys2Proof.Machine
end

