-- ==== Sys2Proof/Machine/Lines.lean ====
section
/-! DEFINITION. Accepted changes of the cabinet lines (R206, R207). -/

namespace Sys2Proof.Machine

open Sys2Proof

/-- Bay b's samplers change under f. -/
def State.modLines (s : State) (b : BayNo) (f : BayLines → BayLines) : State :=
  s.modBay b fun y => { y with lines := f y.lines }

/-- A cause joins or leaves with its condition (R20). -/
def setCause (k : Cause) (v : Bool) (b : BayNo) (s : State) : State := if v then joinCause k b s else leaveCause k b s

/-- SERVICE_DOOR_CHANGE: SERVICE_DOOR joins or leaves, and a DOOR notice follows (R206). DESIGN CHOICE: in that order
(notes/assumptions/54.md). -/
def execServiceDoorChange (bay : BayNo) (isOpen : Bool) (s : State) : Out :=
  done s (s.whenUp (if (s.bay bay).lines.serviceDoor.accepted = isOpen then s
    else notify (.door bay false isOpen)
      (setCause .serviceDoor isOpen bay (s.modLines bay fun l => { l with serviceDoor := .start isOpen }))))

/-- BOX_DOOR_CHANGE: a DOOR notice and no other effect (R206). -/
def execBoxDoorChange (bay : BayNo) (isOpen : Bool) (s : State) : Out :=
  .next (s.whenUp (if (s.bay bay).lines.boxDoor.accepted = isOpen then s
    else notify (.door bay true isOpen) (s.modLines bay fun l => { l with boxDoor := .start isOpen })))

/-- BOX_REMOVED: the period closes when the box state was PRESENT, and BOX_ABSENT joins (R102, R206). DESIGN CHOICE: in that
order (notes/assumptions/54.md). -/
def execBoxRemoved (bay : BayNo) (s : State) : Out :=
  done s (s.whenUp (if (s.bay bay).lines.boxPresent.accepted then
    let s := s.modLines bay fun l => { l with boxPresent := .start false }
    recomputeMask bay (joinCause .boxAbsent bay (if (s.bay bay).box.present then removeBox bay s else s))
  else s))

/-- BOX_INSERTED: the hold counts enter the record when the box state was ABSENT, and BOX_ABSENT leaves (R104,
R206). -/
def execBoxInserted (bay : BayNo) (s : State) : Out :=
  done s (s.whenUp (if (s.bay bay).lines.boxPresent.accepted then s
    else
      let s := s.modLines bay fun l => { l with boxPresent := .start true }
      leaveCause .boxAbsent bay (if (s.bay bay).box.present then s else insertBox bay s)))

/-- SUPPLY_WARNING_CHANGE: masks, the erase under way, and held exchanges follow (R118, R173, R207). DESIGN CHOICE: in that
order (notes/assumptions/54.md). -/
def execSupplyWarningChange (asserted : Bool) (s : State) : Out :=
  done s (s.whenUp (if s.time.supply.accepted = asserted then s
    else
      let s := { s with time := { s.time with supply := .start asserted } }
      let s := settleErase (forBays recomputeMask s)
      if asserted then s else forBays unhold s))

/-- AUDIT_SWITCH_CHANGE: the state a RELEASE_HOLD checks (R165, R206). -/
def execAuditSwitchChange (asserted : Bool) (s : State) : Out :=
  .next (s.whenUp { s with time := { s.time with audit := .start asserted } })

end Sys2Proof.Machine
end

