-- ==== Sys2Proof/Machine/Records.lean ====
section
/-! DEFINITION. The Journal Unit's events: the end of a record's write (R155, R156, R159) and of an erase (R160 to R163). -/

namespace Sys2Proof.Machine

open Sys2Proof

/-- A request placed from the wait list: a BOX head is now requested (R103, R155). -/
def placed (r : Append) (s : State) : State :=
  match r.requester with
  | .box b => s.modBay b fun y =>
    { y with box := { y.box with slot := match y.box.slot with
      | c :: rest => { c with requested := true } :: rest
      | [] => [] } }
  | _ => s

/-- The head leaves the queue, and the head of the wait list is placed (R155, R156). -/
def shiftQueue (s : State) : State :=
  let w := s.journal.waitList.head?
  let s := s.modJournal Journal.shift
  match w with
  | some r => placed r s
  | none => s

/-- The completion of a BOX record: the head leaves the slot, and a tail is asked for in turn (R103, R159). -/
def boxDone (b : BayNo) (s : State) : State :=
  askBox b (s.modBay b fun y => { y with box := { y.box with slot := y.box.slot.drop 1 } })

/-- The completion of an append is handed to its requester (R159). -/
def complete (r : Append) (q : Nat) (s : State) : State :=
  match r.requester, r.body with
  | .ctx b, .sale _ => saleDone q b s
  | .ctx b, _ => adjustDone b s
  | .tear serial, .tear resolution .. => tearDone serial resolution s
  | .box b, _ => boxDone b s
  | _, _ => s

/-- A bay reset that waited for places closes once its records have them (R23). -/
def releaseReset (b : BayNo) (s : State) : State :=
  if (s.ctx b).wait = .places ∧ s.journal.waitsFor b = false then closeTxn b s else s

/-- A record's CRC is programmed (R156): the record is valid, the head leaves, the completion is handed over, the next
head is taken, and forwarding and waiting resets go on. -/
def recordWritten (w : Writing) (s : State) : State :=
  let head := s.journal.queue.head?
  let s := shiftQueue (s.modJournal (·.program w))
  let s := match head with
    | some r => complete r w.sequence s
    | none => s
  linkResetContinue (forBays releaseReset (forwardNext (journalKick s)))

/-- RECORD_WRITE_END (R156). -/
def execRecordWriteEnd (s : State) : Out :=
  done s (match s.journal.writing with
  | some w => recordWritten w s
  | none => s)

/-- ERASE_BEGIN: the engine begins the erase it takes next (R160). -/
def execEraseBegin (s : State) : Out :=
  let now := s.now
  .next (s.whenUp (match s.journal.canErase s.supplyLow, s.journal.nextErase with
  | true, some i => s.modJournal (·.beginErase i now)
  | _, _ => s))

/-- An erase has succeeded: the block is ERASED, the reserve is tested, and a full journal goes on (R158, R160,
R163). -/
def eraseSucceeded (e : Erase) (s : State) : State :=
  let before := s.journal.erasedCount
  let s := s.modJournal (·.eraseDone e.block)
  leaveFull (notify? (reserveNotice before s.journal.erasedCount s.journal.full) s)

/-- An attempt has failed: begun again, or the block is BAD and noticed (R162). -/
def eraseFailed (e : Erase) (s : State) : State :=
  let now := s.now
  let s := s.modJournal (·.eraseFailed e now)
  match s.journal.erase with
  | none => notify (.journalLow .badBlock e.block) s
  | some _ => s

/-- ERASE_END: an erase that is not suspended and has run for 80 ms ends in success or failure (R160, R162). -/
def execEraseEnd (success : Bool) (s : State) : Out :=
  .next (match s.journal.erase with
  | some e =>
    if e.suspended = false ∧ Config.eraseMin ≤ e.ran s.now then
      if success then eraseSucceeded e s else eraseFailed e s
    else s
  | none => s)

end Sys2Proof.Machine
end

