-- ==== Sys2Proof/Machine/Print.lean ====
section
/-! DEFINITION. Printing: chunks delivered (R142), printer status (R137, R138, R143) and the no-progress limit (R144). -/

namespace Sys2Proof.Machine

open Sys2Proof

/-- The chunk in flight carries a mark, and the poll carried it (R199). -/
def Bay.inFlightAs (y : Bay) (mark : Nat) (carried : Option Nat) : Bool :=
  decide (0 < y.inFlight) && decide (y.chunkMark = some mark) && decide (carried = some mark)

/-- A chunk is reported delivered (R142, R199): expansion goes on, and the job may end (R140, R145). -/
def delivered (mark : Nat) (carried : Option Nat) (b : BayNo) (s : State) : State :=
  let now := s.now
  if (s.bay b).inFlightAs mark carried then receiptTaken? b (driveJob b (s.modBay b fun y => y.deliver now)) else s

/-- PRINT_DELIVERED (R142, R199). -/
def execPrintDelivered (s : State) : Out :=
  done s (takeSection (fun x => match x with
    | .delivered m c => some (m, c)
    | _ => none) (fun b p s => delivered p.1 p.2 b s) s)

/-- A change of the paper field is handed on (R20, R138). -/
def paperChanged (was is : Paper) (b : BayNo) (s : State) : State :=
  if was = is then s
  else
    let s := notify (.paper b is) s
    if sitePassesOnly s.site b then
      if is = .out then joinCause .paper b s else leaveCause .paper b s
    else s

/-- The paper and the head act on the running job (R143). DESIGN CHOICE: a stall that still stands once a byte has been
delivered goes as it would before (notes/assumptions/52.md). -/
def statusAtJob (b : BayNo) (s : State) : State :=
  let y := s.bay b
  let out := decide (y.printer.paper = .out)
  if y.seq.job.isNone then s
  else if 0 < y.seq.sent ∧ (out || y.printer.headUp) then receiptTaken? b (cutJob b s)
  else s.modBay b fun y => { y with seq := { y.seq with paperOut := out, headUp := y.printer.headUp } }

/-- A printer status is taken (R137, R138, R143). -/
def printerStatus (paper : Paper) (headUp : Bool) (credit : Nat) (b : BayNo) (s : State) : State :=
  let was := (s.bay b).printer.paper
  let s := s.modBay b fun y => { y with printer := ⟨paper, headUp, credit⟩ }
  statusAtJob b (paperChanged was paper b s)

/-- PRINTER_STATUS (R137). -/
def execPrinterStatus (s : State) : Out :=
  done s (takeSection (fun x => match x with
    | .status p h c => some (p, h, c)
    | _ => none) (fun b p s => printerStatus p.1 p.2.1 p.2.2 b s) s)

/-- NO_PROGRESS_LIMIT: 10 s have passed from last progress without a delivery (R144). -/
def execNoProgressLimit (bay : BayNo) (s : State) : Out :=
  done s (if (s.bay bay).seq.job.isSome ∧ s.passed (s.bay bay).seq.lastProgress Config.progressLimit then
    receiptTaken? bay (cutJob bay s)
  else s)

end Sys2Proof.Machine
end

