-- ==== Sys2Proof/Machine/Reset.lean ====
section
/-! DEFINITION. POWER_ON_RESET (R208). -/

namespace Sys2Proof.Machine

open Sys2Proof

/-- POWER_ON_RESET: all volatile state is lost and start-up runs its seven steps (R208). -/
def execPowerOnReset (env : StartUp) (s : State) : Out := .next (powerOn env s)

end Sys2Proof.Machine
end

