-- ==== Sys2Proof/Machine/Dispatch.lean ====
section
/-! DEFINITION. One arm per command: a direct call of its meaning. -/

namespace Sys2Proof.Machine

open Sys2Proof

/-- The effect of a command on everything but the queue. -/
def exec (i : Instr) (s : State) : Host.Outcome State Fault Refusal :=
  match i with
  | .powerOnReset env => Sys2Proof.Machine.execPowerOnReset env s
  | .frameReceived bytes => Sys2Proof.Machine.execFrameReceived bytes s
  | .characterWithoutStopBit => Sys2Proof.Machine.execCharacterWithoutStopBit s
  | .idleGapExpiry => Sys2Proof.Machine.execIdleGapExpiry s
  | .frameGapExpiry => Sys2Proof.Machine.execFrameGapExpiry s
  | .badKind => Sys2Proof.Machine.execBadKind s
  | .heartbeat => Sys2Proof.Machine.execHeartbeat s
  | .ack => Sys2Proof.Machine.execAck s
  | .authReply => Sys2Proof.Machine.execAuthReply s
  | .tableOpen => Sys2Proof.Machine.execTableOpen s
  | .tableData => Sys2Proof.Machine.execTableData s
  | .tableClose => Sys2Proof.Machine.execTableClose s
  | .loadClear => Sys2Proof.Machine.execLoadClear s
  | .bankSwitch => Sys2Proof.Machine.execBankSwitch s
  | .scheduledSwitchDue => Sys2Proof.Machine.execScheduledSwitchDue s
  | .denyAdd => Sys2Proof.Machine.execDenyAdd s
  | .denyRemove => Sys2Proof.Machine.execDenyRemove s
  | .setTime => Sys2Proof.Machine.execSetTime s
  | .clockSecond => Sys2Proof.Machine.execClockSecond s
  | .queryBay => Sys2Proof.Machine.execQueryBay s
  | .queryTubes => Sys2Proof.Machine.execQueryTubes s
  | .queryBox => Sys2Proof.Machine.execQueryBox s
  | .queryLoad => Sys2Proof.Machine.execQueryLoad s
  | .queryJournal => Sys2Proof.Machine.execQueryJournal s
  | .queryTear => Sys2Proof.Machine.execQueryTear s
  | .queryLink => Sys2Proof.Machine.execQueryLink s
  | .queryIdent => Sys2Proof.Machine.execQueryIdent s
  | .bayControlInService => Sys2Proof.Machine.execBayControlInService s
  | .bayControlOutOfService => Sys2Proof.Machine.execBayControlOutOfService s
  | .bayControlReset => Sys2Proof.Machine.execBayControlReset s
  | .coinOff => Sys2Proof.Machine.execCoinOff s
  | .coinOn => Sys2Proof.Machine.execCoinOn s
  | .tubeSet => Sys2Proof.Machine.execTubeSet s
  | .hold => Sys2Proof.Machine.execHold s
  | .releaseHold => Sys2Proof.Machine.execReleaseHold s
  | .noticeMask => Sys2Proof.Machine.execNoticeMask s
  | .linkReset => Sys2Proof.Machine.execLinkReset s
  | .frameSent => Sys2Proof.Machine.execFrameSent s
  | .supervisionExpiry => Sys2Proof.Machine.execSupervisionExpiry s
  | .pollStart => Sys2Proof.Machine.execPollStart s
  | .recoveryPollDue => Sys2Proof.Machine.execRecoveryPollDue s
  | .replyReceived bytes => Sys2Proof.Machine.execReplyReceived bytes s
  | .replyWindowExpiry => Sys2Proof.Machine.execReplyWindowExpiry s
  | .replyGapExpiry => Sys2Proof.Machine.execReplyGapExpiry s
  | .lineHeld => Sys2Proof.Machine.execLineHeld s
  | .breakEnd => Sys2Proof.Machine.execBreakEnd s
  | .recoveryWaitEnd => Sys2Proof.Machine.execRecoveryWaitEnd s
  | .select => Sys2Proof.Machine.execSelect s
  | .confirm => Sys2Proof.Machine.execConfirm s
  | .cancel => Sys2Proof.Machine.execCancel s
  | .reprint => Sys2Proof.Machine.execReprint s
  | .cardCommandTaken => Sys2Proof.Machine.execCardCommandTaken s
  | .cardAnswerCard => Sys2Proof.Machine.execCardAnswerCard s
  | .cardAnswerNoCard => Sys2Proof.Machine.execCardAnswerNoCard s
  | .writeAnswerOk => Sys2Proof.Machine.execWriteAnswerOk s
  | .writeAnswerRefused => Sys2Proof.Machine.execWriteAnswerRefused s
  | .cardCommandTimeout bay => Sys2Proof.Machine.execCardCommandTimeout bay s
  | .presentationLimitExpiry bay => Sys2Proof.Machine.execPresentationLimitExpiry bay s
  | .authWaitExpiry bay => Sys2Proof.Machine.execAuthWaitExpiry bay s
  | .tearExpiry => Sys2Proof.Machine.execTearExpiry s
  | .contextTimeout bay => Sys2Proof.Machine.execContextTimeout bay s
  | .evaluationEnd => Sys2Proof.Machine.execEvaluationEnd s
  | .coinLineChange bay high => Sys2Proof.Machine.execCoinLineChange bay high s
  | .filteredFallingEdge bay => Sys2Proof.Machine.execFilteredFallingEdge bay s
  | .filteredRisingEdge bay => Sys2Proof.Machine.execFilteredRisingEdge bay s
  | .trainEnd bay => Sys2Proof.Machine.execTrainEnd bay s
  | .lineStuck bay => Sys2Proof.Machine.execLineStuck bay s
  | .faultEnd bay => Sys2Proof.Machine.execFaultEnd bay s
  | .escrowPulseEnd bay => Sys2Proof.Machine.execEscrowPulseEnd bay s
  | .payoutSense bay tube => Sys2Proof.Machine.execPayoutSense bay tube s
  | .driveTimeout bay => Sys2Proof.Machine.execDriveTimeout bay s
  | .serviceDoorChange bay isOpen => Sys2Proof.Machine.execServiceDoorChange bay isOpen s
  | .boxDoorChange bay isOpen => Sys2Proof.Machine.execBoxDoorChange bay isOpen s
  | .boxRemoved bay => Sys2Proof.Machine.execBoxRemoved bay s
  | .boxInserted bay => Sys2Proof.Machine.execBoxInserted bay s
  | .supplyWarningChange asserted => Sys2Proof.Machine.execSupplyWarningChange asserted s
  | .auditSwitchChange asserted => Sys2Proof.Machine.execAuditSwitchChange asserted s
  | .recordWriteEnd => Sys2Proof.Machine.execRecordWriteEnd s
  | .eraseBegin => Sys2Proof.Machine.execEraseBegin s
  | .eraseEnd success => Sys2Proof.Machine.execEraseEnd success s
  | .printDelivered => Sys2Proof.Machine.execPrintDelivered s
  | .printerStatus => Sys2Proof.Machine.execPrinterStatus s
  | .noProgressLimit bay => Sys2Proof.Machine.execNoProgressLimit bay s
  | .characterReceived char => Sys2Proof.Machine.execCharacterReceived char s

end Sys2Proof.Machine
end

