-- ==== Sys2Proof/Machine/Step.lean ====
section
/-! DEFINITION. One step of the part: the command at the front of the queue, or a millisecond with nothing to do. -/

namespace Sys2Proof.Machine

open Sys2Proof

/-- A millisecond passes: the free-running count advances by 1, wrapping (R203). -/
def State.tick (s : State) : State := { s with time := { s.time with ms := s.time.ms + 1 } }

/-- One step: the command at the front of the queue is taken and executed with the queue's rest; with no command
waiting, a millisecond passes. DESIGN CHOICE: the tick is the idle step (notes/assumptions/1.md). -/
def step (s : State) : Host.Outcome State Fault Refusal :=
  match s.pending with
  | c :: rest => exec c { s with pending := rest }
  | [] => .next s.tick

/-- The state with the command that a word spells at the front of its queue, unchanged where it spells none. -/
def State.withFetchWord (s : State) (nbits w : Nat) : State :=
  match decodeTableWord nbits w with
  | some c => { s with pending := c :: s.pending }
  | none => s

end Sys2Proof.Machine
end

