-- ==== Sys2Proof/WellFormed.lean ====
section
/-! DEFINITION. Well-formed commands: the operands a row may carry. -/

namespace Sys2Proof

/-- The bytes of a whole depot link frame (R178): the start byte, a length of at most 240, and that many body bytes
with kind, tag and check. -/
def frameShaped (bytes : List Byte) : Bool :=
  match bytes with
  | s :: l :: _ => decide (s = 0xA5#8) && decide (l.toNat ≤ 240) && decide (bytes.length = l.toNat + 7)
  | _ => false

/-- The bytes of a bay bus reply (R192): address, kind, mask and check, and at most the five sections. -/
def replyShaped (bytes : List Byte) : Bool := decide (5 ≤ bytes.length) && decide (bytes.length ≤ 51)

/-- What the environment decides at a power-on reset: a journal write has at most 128 bytes (R152), and start-up
writes to what is kept in twelve places, four of the part and one of each bay (R208). -/
def StartUp.wellFormed (env : StartUp) : Bool :=
  decide (env.tornBytes ≤ 128) && env.cutAfter.all fun k => decide (k ≤ 12)

/-- A command whose operands lie in the ranges its row gives them. The bay and tube numbers of the other rows are in
range by their types. -/
def Instr.wellFormed : Instr → Bool
  | .frameReceived bytes => frameShaped bytes
  | .replyReceived bytes => replyShaped bytes
  | .powerOnReset env => env.wellFormed
  | .characterWithoutStopBit => true
  | .idleGapExpiry => true
  | .frameGapExpiry => true
  | .badKind => true
  | .heartbeat => true
  | .ack => true
  | .authReply => true
  | .tableOpen => true
  | .tableData => true
  | .tableClose => true
  | .loadClear => true
  | .bankSwitch => true
  | .scheduledSwitchDue => true
  | .denyAdd => true
  | .denyRemove => true
  | .setTime => true
  | .clockSecond => true
  | .queryBay => true
  | .queryTubes => true
  | .queryBox => true
  | .queryLoad => true
  | .queryJournal => true
  | .queryTear => true
  | .queryLink => true
  | .queryIdent => true
  | .bayControlInService => true
  | .bayControlOutOfService => true
  | .bayControlReset => true
  | .coinOff => true
  | .coinOn => true
  | .tubeSet => true
  | .hold => true
  | .releaseHold => true
  | .noticeMask => true
  | .linkReset => true
  | .frameSent => true
  | .supervisionExpiry => true
  | .pollStart => true
  | .recoveryPollDue => true
  | .replyWindowExpiry => true
  | .replyGapExpiry => true
  | .lineHeld => true
  | .breakEnd => true
  | .recoveryWaitEnd => true
  | .select => true
  | .confirm => true
  | .cancel => true
  | .reprint => true
  | .cardCommandTaken => true
  | .cardAnswerCard => true
  | .cardAnswerNoCard => true
  | .writeAnswerOk => true
  | .writeAnswerRefused => true
  | .cardCommandTimeout _ => true
  | .presentationLimitExpiry _ => true
  | .authWaitExpiry _ => true
  | .tearExpiry => true
  | .contextTimeout _ => true
  | .evaluationEnd => true
  | .coinLineChange _ _ => true
  | .filteredFallingEdge _ => true
  | .filteredRisingEdge _ => true
  | .trainEnd _ => true
  | .lineStuck _ => true
  | .faultEnd _ => true
  | .escrowPulseEnd _ => true
  | .payoutSense _ _ => true
  | .driveTimeout _ => true
  | .serviceDoorChange _ _ => true
  | .boxDoorChange _ _ => true
  | .boxRemoved _ => true
  | .boxInserted _ => true
  | .supplyWarningChange _ => true
  | .auditSwitchChange _ => true
  | .recordWriteEnd => true
  | .eraseBegin => true
  | .eraseEnd _ => true
  | .printDelivered => true
  | .printerStatus => true
  | .noProgressLimit _ => true
  | .characterReceived _ => true

end Sys2Proof
end

