-- ==== Sys2Proof/Safety.lean ====
section
/-! DEFINITION. What counts as a safe state and a safe step, in the terms the statements use: the bounded places of
the manual, the bay a command is an event of, and how a frame is answered. -/

namespace Sys2Proof.Machine

open Sys2Proof

/-! ### The bounded places -/

/-- A closure record within bounds: its counts stay at 65,535 and its total at 999,999 (R102, R103). -/
structure BoxRecord.Bounded (r : BoxRecord) : Prop where
  counts : ∀ k : Fin 9, r.counts[k] ≤ Config.counterMax
  total  : r.total ≤ Config.maxAmount

/-- The places and counters the manual bounds within one bay: the escrow list (R78), tendered (R77), the print ring
(R140), the coin counters (R81), the tubes' extra counters (R88), the box and hold counts (R101), the pending closure slot
and its records (R103), and the misses and marks of the terminal record (R193). -/
structure Bay.Bounded (y : Bay) : Prop where
  escrow    : y.ctx.coins.length ≤ Config.escrowPlaces
  tendered  : y.ctx.tendered ≤ Config.maxAmount
  ring      : y.ring.length ≤ Config.ringBytes
  unvalued  : y.counters.unvalued ≤ Config.counterMax
  stray     : y.counters.stray ≤ Config.counterMax
  overflow  : y.counters.overflow ≤ Config.counterMax
  aborted   : y.counters.aborted ≤ Config.counterMax
  fault     : y.counters.fault ≤ Config.counterMax
  extras    : ∀ n : TubeNo, y.tubes[n].extra ≤ Config.counterMax
  boxCounts : ∀ k : Fin 9, y.box.counts[k] ≤ Config.counterMax
  holds     : ∀ k : Fin 9, y.box.holds[k] ≤ Config.counterMax
  closures  : y.box.slot.length ≤ 2
  records   : ∀ c ∈ y.box.slot, c.record.Bounded
  misses    : y.term.misses ≤ 3
  cardMark  : 1 ≤ y.term.nextCardMark ∧ y.term.nextCardMark ≤ 255
  chunkMark : 1 ≤ y.term.nextChunkMark ∧ y.term.nextChunkMark ≤ 255

/-- The places and counters the manual bounds at the port: the receive buffer and the reply queue hold 4 frames, the
start-up notice list holds 24 notices, and the transitions and the seven counters stay at 65,535 (R176). -/
structure Link.Bounded (l : Link) : Prop where
  rxBuffer    : l.rxBuffer.length ≤ Config.framePlaces
  replies     : l.replies.length ≤ Config.framePlaces
  noticeList  : l.noticeList.length ≤ Config.noticeListPlaces
  transitions : l.transitions ≤ Config.counterMax
  badLength   : l.counters.badLength ≤ Config.counterMax
  badCrc      : l.counters.badCrc ≤ Config.counterMax
  truncated   : l.counters.truncated ≤ Config.counterMax
  overrun     : l.counters.overrun ≤ Config.counterMax
  formatError : l.counters.formatError ≤ Config.counterMax
  samePhase   : l.counters.samePhase ≤ Config.counterMax
  dropped     : l.counters.dropped ≤ Config.counterMax

/-- The bounded places and counters of the Journal Unit: the append queue (R155), the hold list (R164) and the four
counters (R175). -/
structure Journal.Bounded (j : Journal) : Prop where
  queue     : j.queue.length ≤ Config.appendPlaces
  holdList  : j.holdList.length ≤ Config.holdPlaces
  torn      : j.torn ≤ Config.counterMax
  ackClamp  : j.ackClamp ≤ Config.counterMax
  eraseFail : j.eraseFail ≤ Config.counterMax
  badBlock  : j.badBlock ≤ Config.counterMax

/-- The pins of a bank are the contexts open on it, and a context in IDLE or OUT_OF_SERVICE is open on none (R2, R5,
R63). -/
structure State.PinsCounted (s : State) : Prop where
  pins    : ∀ k, s.tariff.pins k = (s.bays.toList.filter fun y => decide (y.ctx.bank = some k)).length
  resting : ∀ b, (s.ctx b).state = .idle ∨ (s.ctx b).state = .outOfService → (s.ctx b).bank = none

/-- A state whose bounded places hold no more than the manual gives them, and whose counters stay at their highest value:
the places of the bays, the port and the journal; the pending tear table with the reservations, and never two entries of
a serial (R121); the pin counts (R63); the late replies (R130), the abandons (R55), the deny edits (R62), and the counters
of the bus (R193, R201). -/
structure State.Bounded (s : State) : Prop where
  bays        : ∀ b, (s.bay b).Bounded
  link        : s.link.Bounded
  journal     : s.journal.Bounded
  tears       : s.card.tears.length + s.reservations ≤ Config.tearPlaces
  serials     : (s.card.tears.map Tear.serial).Nodup
  lateReplies : s.card.lateReplies ≤ Config.counterMax
  abandons    : s.tariff.load.abandons ≤ Config.counterMax
  denyEdits   : s.tariff.denyEdits ≤ Config.counterMax
  badReplies  : s.bus.badReplies ≤ Config.counterMax
  recoveries  : s.bus.recoveries ≤ Config.counterMax
  pins        : s.PinsCounted

/-! ### The tubes and their settings -/

/-- Every tube stands under its setting of the live site table, its low level is not above its full level, which like its
count is not above its capacity (R51, R61, R88), the live site table is valid with a good check (R50, R52), and a SITE stream's running CRC is that of the entries it
has brought (R56, R57). -/
structure State.TubesHold (s : State) : Prop where
  settings : ∀ (b : BayNo) (n : TubeNo),
    let u := (s.bay b).tubes[n]
    (u.kind, u.capacity, u.fullLevel, u.lowLevel) = siteTube s.site b n
  levels   : ∀ (b : BayNo) (n : TubeNo), (s.bay b).tubes[n].fullLevel ≤ (s.bay b).tubes[n].capacity
    ∧ (s.bay b).tubes[n].lowLevel ≤ (s.bay b).tubes[n].fullLevel
  counts   : ∀ (b : BayNo) (n : TubeNo), (s.bay b).tubes[n].count ≤ (s.bay b).tubes[n].capacity
  site     : s.tariff.site.valid = true ∧ s.tariff.site.good [] = true
  stream   : ∀ g, s.tariff.load.state = .stream → s.tariff.load.target = some g → g.table = .site →
    s.tariff.load.crc = some (crc32Run crc32Start s.tariff.siteShadow.entries.flatten)

/-! ### Why the message queue and the pricing queue never overflow (R46, R184) -/

/-- A bay's card work and its context agree: an authorisation wait belongs to an exchange in AUTHORISING, an exchange to a
context in CARD_READ, CARD_WRITE or TEAR_WAIT that no bay reset waits in, and an outstanding write of the exchange to one
in WRITING (R23, R110, R129, R198). -/
structure Bay.CardWorkStands (y : Bay) : Prop where
  wait     : y.authWait.isSome = true → y.card.phase = .authorising
  exchange : y.card.phase ≠ .idle → y.ctx.state ∈ [.cardRead, .cardWrite, .tearWait] ∧ y.ctx.wait ≠ .places
  write    : ∀ c, y.term.cardSlot = some c → c.owner = .exchange → c.command ≠ .read → y.card.phase = .writing

/-- The reference and the bay of an AUTH_REQ. -/
def Message.authOf : Message → Option (BitVec 16 × BayNo)
  | .authReq reference bay _ _ _ => some (reference, bay)
  | .notice _ => none

/-- The AUTH_REQs of the message queue whose frames have not begun. -/
def Link.waitingAuths (l : Link) : List (BitVec 16 × BayNo) :=
  (if l.sending = some ⟨.message, true⟩ then l.messages.drop 1 else l.messages).filterMap Message.authOf

/-- The pricing requests placed and not withdrawn: the queue's, and the one being evaluated (R46, R48). -/
def Tariff.requests (t : Tariff) : List PriceRequest :=
  t.queue ++ (t.evaluating.filter fun r => !r.withdrawn).toList

/-- Each bay has one authorisation wait and one pricing request at most, so that 16 messages and 8 requests always find
their places (R46, R184). -/
structure State.PlacesSuffice (s : State) : Prop where
  cardWork   : ∀ b, (s.bay b).CardWorkStands
  auths      : ∀ p ∈ s.link.waitingAuths, (s.bay p.2).authWait.map AuthWait.reference = some p.1
  oneAuth    : (s.link.waitingAuths.map (·.2)).Nodup
  notices    : ∀ m ∈ s.link.messages.drop Config.noticeRoom, m.authOf.isSome = true
  requests   : ∀ r ∈ s.tariff.requests, (s.ctx r.bay).state = .pricing ∧ (s.ctx r.bay).wait ≠ .places
  oneRequest : (s.tariff.requests.map PriceRequest.bay).Nodup

/-! ### The bay a command is an event of -/

/-- The bay whose line, terminal or timer a command is an event of, if it is one of a bay: a bay number the row names,
the bay of the exchange on the line, or the bay whose reply is being handed on. Frames, clocks, the journal engine, the
evaluator and the shared inputs are events of no bay. -/
def State.eventBay (s : State) : Instr → Option BayNo
  | .cardCommandTimeout b | .presentationLimitExpiry b | .authWaitExpiry b | .contextTimeout b
  | .coinLineChange b _ | .filteredFallingEdge b | .filteredRisingEdge b | .trainEnd b | .lineStuck b | .faultEnd b
  | .escrowPulseEnd b | .payoutSense b _ | .driveTimeout b | .serviceDoorChange b _ | .boxDoorChange b _
  | .boxRemoved b | .boxInserted b | .noProgressLimit b => some b
  | .select | .confirm | .cancel | .reprint | .cardCommandTaken | .cardAnswerCard | .cardAnswerNoCard | .writeAnswerOk
  | .writeAnswerRefused | .printDelivered | .printerStatus => some s.bus.inboxBay
  | .replyReceived _ | .replyWindowExpiry | .replyGapExpiry => s.bus.exchange.map fun x => x.poll.bay
  | _ => none

/-! ### How a command is taken -/

/-- Frame f is taken next and, being of an answered kind, finds a free place in the reply queue (R179). -/
abbrev State.TakesNext (s : State) (f : Frame) : Prop :=
  s.link.rxBuffer.head? = some f ∧ s.link.replies.length < Config.framePlaces

/-- Frame f has been taken from s and answered: it has left the receive buffer, and its REPLY with its tag, a status and
data stands at the tail of the reply queue (R179, R180). -/
abbrev Replied (s t : State) (f : Frame) (status : Code) (data : List Byte) : Prop :=
  t.link.rxBuffer = s.link.rxBuffer.drop 1
  ∧ t.link.replies = s.link.replies ++ [⟨f.tag, status, data, .nothing⟩]

/-- Section x of bay b's last good reply is handed on next (R196). -/
abbrev State.HandsOn (s : State) (b : BayNo) (x : ReplySection) : Prop :=
  s.bus.inboxBay = b ∧ s.bus.inbox.head? = some x

/-- The section has been handed on. -/
abbrev Handed (s t : State) : Prop := t.bus.inbox = s.bus.inbox.drop 1

/-- Every bay but b keeps its whole record. -/
abbrev OtherBays (b : BayNo) (s t : State) : Prop := ∀ c, c ≠ b → t.bay c = s.bay c

/-- Every bay but b keeps its context. -/
abbrev OtherContexts (b : BayNo) (s t : State) : Prop := ∀ c, c ≠ b → t.ctx c = s.ctx c

/-! ### What ends a transaction's work -/

/-- Bay b's context has come to rest: unpinned, in IDLE with an empty causes set at a bay not marked ABSENT, and in
OUT_OF_SERVICE otherwise (R17, R18, R21). -/
abbrev AtRest (t : State) (b : BayNo) : Prop :=
  (t.ctx b).state = (if (t.ctx b).causes.isEmpty && !siteAbsent t.site b then .idle else .outOfService)
  ∧ (t.ctx b).bank = none

/-- Bay b's transaction in s has been cancelled in t (R7, R18): its exchange has ended, a return with no pulse under way
begins at once, and the context is in REFUND where overflow value is owed, and at rest otherwise. -/
abbrev Cancelled (s t : State) (b : BayNo) : Prop :=
  (t.exch b).phase = .idle
  ∧ ((s.bay b).escrow.pulse = none → (t.bay b).escrow.pulse = some s.time.ms ∧ (t.ctx b).coins = [])
  ∧ (0 < (s.ctx b).overflowValue → (t.ctx b).state = .refund)
  ∧ ((s.ctx b).overflowValue = 0 → AtRest t b)

/-- An append request stands in the append queue or on its wait list (R155). -/
abbrev Requested (t : State) (r : Append) : Prop := r ∈ t.journal.queue ++ t.journal.waitList

/-- Bay b's payout in s has ended in t, with `paid` in all and change_paid at `change` (R97). The executor is IDLE. In
PAYOUT, what change is still due becomes short_pay: an ADJUST SHORT_PAY of it is requested and waited for, and with
nothing due the context goes on to PRINT, which a declined receipt closes at once (R16, R17). In REFUND an ADJUST
REFUND_SHORT of what is still owed is requested and waited for, and with nothing owed the transaction closes (R18). -/
abbrev PayoutEnds (s t : State) (b : BayNo) (paid change : Nat) : Prop :=
  let c := s.ctx b
  let d := t.ctx b
  let x := (s.bay b).payout
  let short := c.changeDue.getD 0 - change
  let owed := c.refundOwed - paid
  (t.bay b).payout = { x with running := false, paid := paid, plan := [], drive := none }
  ∧ (x.requester = .payout → c.state = .payout → c.wait = .payout →
      (0 < short → d.state = .payout ∧ d.wait = .adjust ∧ d.shortPay = short ∧ d.changePaid = change
        ∧ Requested t ⟨.adjust .shortPay short c.txnSeq, some b, .ctx b⟩)
      ∧ (short = 0 → c.receiptWanted = false → AtRest t b ∧ (t.bay b).term.tone = .chirp)
      ∧ (short = 0 → c.receiptWanted = true →
          d.state = .print ∧ d.shortPay = 0 ∨ AtRest t b ∧ (t.bay b).lastReceipt.isSome = true))
  ∧ (x.requester = .refund → c.state = .refund → c.wait = .payout →
      (0 < owed → d.state = .refund ∧ d.wait = .adjust
        ∧ Requested t ⟨.adjust .refundShort owed none, some b, .ctx b⟩)
      ∧ (owed = 0 → AtRest t b))

/-- The eight queries with the target code of each, and the data its owner forms for a bay. -/
def queryRows : List (Instr × Byte × (State → BayNo → List Byte)) :=
  [(.queryBay, 0, State.bayData), (.queryTubes, 1, State.tubesData), (.queryBox, 2, State.boxData),
   (.queryLoad, 3, fun s _ => s.loadData), (.queryJournal, 4, fun s _ => s.journalData),
   (.queryTear, 5, fun s _ => s.tearData), (.queryLink, 6, fun s _ => s.linkData),
   (.queryIdent, 7, fun _ _ => identData)]

end Sys2Proof.Machine
end

