-- ==== Sys2Proof/Certificates/Slice0/Obligations.lean ====
section
/-! DEFINITION. The statements about the DT-418 for the provers, in the order of its units. -/

open Sys2Proof Sys2Proof.Machine

/-! ### The whole part -/

/-- Each step takes one command, whole (spec/95): with c in front, a step is c executed with the queue's rest. -/
def Obligations.StepTakesFront : Prop :=
  ∀ (c : Instr) (rest : List Instr) (s : State),
    step { s with pending := c :: rest } = exec c { s with pending := rest }

/-- MODEL's choice (notes/assumptions/1.md): on an empty queue a step is a millisecond, which wraps at 2 to the 32nd
power and changes nothing else. -/
def Obligations.IdleStepIsAMillisecond : Prop :=
  ∀ s : State, s.pending = [] →
    ∃ t, step s = .next t ∧ t = { s with time := { s.time with ms := s.time.ms + 1 } }
      ∧ t.time.ms.toNat = (s.time.ms.toNat + 1) % 2 ^ 32

/-- Every command answers a next state, in every state, and no command touches the commands that wait. -/
def Obligations.CommandsKeepQueue : Prop :=
  ∀ (c : Instr) (s : State), ∃ t, exec c s = .next t ∧ t.pending = s.pending

/-- What one owner alone changes. R203 to R207: the calendar clock, its mark and the shared samplers belong to the
clock's second, SET_TIME, the shared inputs and a power-on reset. R167, R172: the acknowledged mark is moved by ACK
and by the start-up scan. R64, R66, R204: the active bank changes by BANK_SWITCH and where a scheduled switch falls
due. That no command but a power-on reset changes the millisecond count is the model's choice, for its commands take
no time (notes/assumptions/1.md), and that SET_TIME performs a switch it reaches is its reading
(notes/assumptions/31.md). -/
def Obligations.KeptByOthers : Prop :=
  ∀ (c : Instr) (s t : State), exec c s = .next t →
    ((∀ env, c ≠ .powerOnReset env) →
      t.time.ms = s.time.ms
      ∧ (c ≠ .setTime → c ≠ .clockSecond → t.time.calendar = s.time.calendar)
      ∧ (c ≠ .setTime → t.time.isSet = s.time.isSet)
      ∧ ((∀ x, c ≠ .supplyWarningChange x) → t.time.supply = s.time.supply)
      ∧ ((∀ x, c ≠ .auditSwitchChange x) → t.time.audit = s.time.audit)
      ∧ (c ≠ .ack → t.journal.acked = s.journal.acked))
    ∧ (c ≠ .bankSwitch → c ≠ .scheduledSwitchDue → c ≠ .setTime → t.tariff.active = s.tariff.active)

/-- Chapter 1: events at one bay change that bay's context only. -/
def Obligations.EventsKeepOtherContexts : Prop :=
  ∀ (c : Instr) (b : BayNo) (s t : State), exec c s = .next t → s.eventBay c = some b → OtherContexts b s t

/-- R63, R77, R78, R81, R88, R101 to R103, R121, R130, R140, R155, R164, R175, R176, R193, R201: every step keeps the
places and the counters that State.Bounded names within the manual's bounds: the escrow lists, tendered, print rings,
coin and tube counters, box counts and closure slots of the bays, the tear table with the reservations, the pin
counts, the port's frame places, notice list and counters, the append queue, the hold list and the counters of the
journal and of the bus. That a tube holds no more than its capacity is EveryStepKeepsTubes, and that the message queue
and the pricing queue hold no more than 16 and 8 is EveryStepKeepsQueuePlaces. -/
def Obligations.EveryStepKeepsBounds : Prop :=
  ∀ (s t : State), s.Bounded → step s = .next t → t.Bounded

/-- R51, R58, R61, R88: every step keeps each tube under the setting of the live site table, its low level not
above its full level, and its full level and its count not above its capacity. -/
def Obligations.EveryStepKeepsTubes : Prop :=
  ∀ (s t : State), s.TubesHold → step s = .next t → t.TubesHold

/-- R46, R129, R184: each bay has one authorisation wait and one pricing request at most, and every step keeps it so;
the message queue then never holds more than 16 frames, and the pricing queue never more than 8 requests. -/
def Obligations.EveryStepKeepsQueuePlaces : Prop :=
  ∀ (s t : State), s.PlacesSuffice → step s = .next t →
    t.PlacesSuffice ∧ t.link.messages.length ≤ 16 ∧ t.tariff.queue.length ≤ 8

/-- R205, R208: the stored check of the retained area agrees with its items after every step. A power-on reset that
ends start-up before anything has been written leaves the check that was read, which agrees where the backup cell has
held it. Over which bytes the check is taken is the model's choice (notes/assumptions/5.md). -/
def Obligations.EveryStepKeepsRetainedCheck : Prop :=
  ∀ (s t : State), s.areaGood →
    (∀ env, s.pending.head? = some (.powerOnReset env) → env.cutAfter = some 0 → env.areaCheck = none) →
    step s = .next t → t.areaGood

/-- Right after reset the bounded places are within their bounds, the tubes hold their settings, the queues' places
suffice, and the check of the retained area agrees. The number the check then has follows from the bytes the model
takes it over (notes/assumptions/5.md). -/
def Obligations.ResetMeetsInvariants : Prop :=
  State.reset.Bounded ∧ State.reset.TubesHold ∧ State.reset.PlacesSuffice ∧ State.reset.areaGood

/-! ### Reset and start-up -/

/-- The state after a power-on reset (R2, R53, R63, R68, R81, R94, R110, R129, R130, R139, R176, R193, R194, R200):
these values the manual gives, but for two: that no command waits is the model's choice (notes/assumptions/2.md), and
so is the millisecond count of 0, for State.reset stands at the end of a start-up that takes no time
(notes/assumptions/3.md and 5.md). -/
def Obligations.ResetValues : Prop :=
  let s := State.reset
  s.pending = [] ∧ s.time.ms = 0
  ∧ s.link.online = false ∧ s.link.lastPhase = none ∧ s.link.timer = none ∧ s.link.noticeMask = BitVec.allOnes 13
  ∧ s.link.rate = 115200 ∧ s.link.rx = .idleWait ∧ s.link.rxBuffer = [] ∧ s.link.replies = [] ∧ s.link.messages = []
  ∧ s.link.record = none ∧ s.link.turn = .reply ∧ s.link.listState = .isOpen ∧ s.link.transitions = 0
  ∧ s.link.counters = ⟨0, 0, 0, 0, 0, 0, 0⟩
  ∧ s.tariff.load.state = .idle ∧ s.tariff.load.abandons = 0 ∧ s.tariff.pinsA = 0 ∧ s.tariff.pinsB = 0
  ∧ s.tariff.scheduled = none ∧ s.tariff.queue = [] ∧ s.tariff.evaluating = none
  ∧ s.card.lateReplies = 0 ∧ s.card.nextRef = 0 ∧ s.bus.exchange = none ∧ s.bus.badReplies = 0
  ∧ ∀ b, (s.bay b).counters = ⟨0, 0, 0, 0, 0⟩ ∧ (s.bay b).payout.running = false ∧ (s.bay b).card.phase = .idle
      ∧ (s.bay b).authWait = none ∧ (s.bay b).reserved = false ∧ (s.bay b).seq.state = .idle ∧ (s.bay b).ring = []
      ∧ (s.bay b).lastReceipt = none ∧ (s.bay b).term.state = .missing ∧ (s.bay b).term.misses = 0
      ∧ (s.bay b).term.cardSlot = none ∧ (s.bay b).coin.capture = .idle ∧ (s.bay b).coin.coinOff = false
      ∧ (s.bay b).mask = [] ∧ (s.ctx b).lastRefusal = none ∧ (s.ctx b).causes.server = false

/-- POWER_ON_RESET whose start-up runs to its end (R2, R53, R63, R110, R120, R129, R176, R193, R205, R208): in every
state, start-up loses the volatile state and rebuilds every context from the conditions standing. The active bank
stands, and every table of both banks keeps its entries, its count and its version. With the retained check agreeing
the tears, the offline total and the clock's mark are kept, and without it they are cleared; either way the check
agrees afterwards. What start-up finds is the command's operand, and the count and the bus's two MODEL fields hold the
model's choice (notes/assumptions/4.md and 5.md). -/
def Obligations.PowerOnReset : Prop :=
  ∀ (env : StartUp) (s : State), env.cutAfter = none →
    let held : Prop := env.areaCheck.getD s.check = s.retained.crc
    ∃ t, exec (.powerOnReset env) s = .next t ∧ t.up = true ∧ t.areaGood
    ∧ t.time.ms = 0 ∧ t.bus = .reset
    ∧ t.link.online = false ∧ t.link.lastPhase = none ∧ t.link.timer = none ∧ t.link.noticeMask = BitVec.allOnes 13
    ∧ t.link.rx = .idleWait ∧ t.link.rxBuffer = [] ∧ t.link.replies = [] ∧ t.link.messages = []
    ∧ t.link.record = none ∧ t.link.turn = .reply ∧ t.link.listState = .isOpen ∧ t.link.transitions = 0
    ∧ t.link.rate = siteRate t.site
    ∧ t.tariff.load = .reset ∧ t.tariff.pinsA = 0 ∧ t.tariff.pinsB = 0 ∧ t.tariff.scheduled = none
    ∧ t.tariff.queue = [] ∧ t.tariff.evaluating = none ∧ t.card.lateReplies = 0 ∧ t.card.nextRef = 0
    ∧ (∀ e ∈ t.card.tears, e.closing = false ∧ e.owner ≠ .openTxn)
    ∧ (held → t.card.tears.map Tear.serial = s.card.tears.map Tear.serial
        ∧ t.card.offlineTotal = s.card.offlineTotal ∧ t.time.isSet = s.time.isSet)
    ∧ (¬ held → t.card.tears = [] ∧ t.card.offlineTotal = 0 ∧ t.time.isSet = false ∧ t.time.calendar = ⟨0, 0, 0⟩)
    ∧ t.tariff.active = s.tariff.active
    ∧ (∀ k, ∀ f ∈
        [BankTables.product, BankTables.zone, BankTables.calendar, BankTables.rule, BankTables.layout, BankTables.text],
        (f (t.tariff.bank k)).entries = (f (s.tariff.bank k)).entries
        ∧ (f (t.tariff.bank k)).count = (f (s.tariff.bank k)).count
        ∧ (f (t.tariff.bank k)).version = (f (s.tariff.bank k)).version)
    ∧ ∀ b : BayNo, (t.bay b).card = .reset ∧ (t.bay b).authWait = none ∧ (t.bay b).reserved = false
        ∧ (t.bay b).payout.running = false ∧ (t.bay b).seq.state = .idle ∧ (t.bay b).ring = []
        ∧ (t.bay b).escrow = ⟨some t.time.ms, false⟩ ∧ (t.ctx b).coins = [] ∧ (t.ctx b).lastRefusal = none
        ∧ (t.ctx b).causes.server = false ∧ (t.ctx b).causes.terminalLost = false ∧ (t.ctx b).causes.paper = false
        ∧ (t.ctx b).causes.serviceDoor = env.serviceDoorOpen[b] ∧ (t.ctx b).causes.boxAbsent = !env.boxPresent[b]
        ∧ (t.ctx b).causes.coinLineFault = !env.coinHigh[b] ∧ (t.ctx b).causes.jamAll = (t.bay b).allJammed
        ∧ (t.ctx b).state = (if (t.ctx b).causes.isEmpty && !siteAbsent t.site b then .idle else .outOfService)

/-- R205, R208: a power-on reset that cuts start-up leaves the part in reset with no output driven: every mask empty,
no tube driven, no escrow pulse, neither port sending. Cut before its first write, start-up leaves the retained items
as they were and the check as it was read; cut later, it leaves a check that agrees with what it has written, the
items cleared where the check had failed. Until the next reset a character is ignored and a door is not seen. Into
which writes start-up is cut, and what the volatile fields hold meanwhile, is the model's choice
(notes/assumptions/5.md and 14.md). -/
def Obligations.StartUpCut : Prop :=
  ∀ (env : StartUp) (s : State) (n : Nat), env.cutAfter = some n →
    ∃ t, exec (.powerOnReset env) s = .next t ∧ t.up = false ∧ t.link.sending = none ∧ t.link.rate = 115200
      ∧ t.bus.running = false
      ∧ t.bus.exchange = none ∧ t.tariff.active = s.tariff.active
      ∧ (∀ b, (t.bay b).mask = [] ∧ (t.bay b).payout.drive = none ∧ (t.bay b).escrow.pulse = none)
      ∧ (n = 0 → t.retained = s.retained ∧ t.check = env.areaCheck.getD s.check
          ∧ t.journal.store = (s.journal.tear env.tornBytes).store)
      ∧ (0 < n → t.areaGood)
      ∧ (0 < n → env.areaCheck.getD s.check ≠ s.retained.crc →
          t.card.tears = [] ∧ t.card.offlineTotal = 0 ∧ t.time.isSet = false
          ∧ ∀ b : BayNo, (t.bay b).box.counts = Vector.replicate 9 0 ∧ (t.bay b).box.slot = []
              ∧ ∀ u : TubeNo, (t.bay b).tubes[u].count = 0 ∧ (t.bay b).tubes[u].state = .ok)
      ∧ (∀ c : Byte, exec (.characterReceived c) t = .next t)
      ∧ ∀ b isOpen, exec (.serviceDoorChange b isOpen) t = .next t

/-- R169 to R172, R175: what start-up makes of the journal store, with a write under way torn at the bytes it had
programmed. A block is taken by its header; an ACTIVE one that holds a torn record becomes FULL and is marked so; the
rows hold the sequences found; last takes the highest of them, or one below the base of a block still empty; the
acknowledged mark is the retained one, no higher than last, or after a retained loss one below the lowest record
found; and there is an ACTIVE block unless the journal is full. Within a block the sequences rise, which the writer
sees to (R156). That a good header whose marker is still erased is taken as ERASING is the model's choice
(notes/assumptions/60.md). -/
def Obligations.StartUpScansJournal : Prop :=
  ∀ (env : StartUp) (s : State), env.cutAfter = none →
    let held : Prop := env.areaCheck.getD s.check = s.retained.crc
    let old := s.journal.tear env.tornBytes
    let found (i : Nat) := blockRecords 512 (old.block i).units
    (∀ i < 32, ((found i).1.map (·.1)).Pairwise (· < ·)) →
    ∃ t, exec (.powerOnReset env) s = .next t
      ∧ let j := t.journal
        (∀ i < 32, (j.block i).units = (old.block i).units
          ∧ ((old.block i).classify ∈ [.full, .erasing, .bad] → (j.row i).state = (old.block i).classify)
          ∧ ((old.block i).classify = .active → (found i).2 = true →
              (j.block i).marker = some .full ∧ (j.row i).state = .full)
          ∧ ((old.block i).classify = .active → (found i).2 = false → (j.row i).state ∈ [.active, .full])
          ∧ ((old.block i).classify ∈ [.active, .full] →
              (j.row i).firstValid = (found i).1.head?.map (·.1) ∧ (j.row i).lastValid = (found i).1.getLast?.map (·.1)
              ∧ (j.row i).baseSeq = (old.block i).baseSeq)
          ∧ (∀ q, (j.row i).blockSeq = some q → q < j.nextBlockSeq))
        ∧ (∀ p ∈ j.records, p.1 ≤ j.last)
        ∧ (j.last = 0 ∨ (∃ p ∈ j.records, p.1 = j.last) ∨ ∃ i < 32, (old.block i).baseSeq = some (j.last + 1))
        ∧ (∀ i < 32, (old.block i).classify = .active → (∀ k < i, (old.block k).classify ≠ .active) →
            found i = ([], false) → (old.block i).baseSeq.getD 1 ≤ j.last + 1)
        ∧ (held → j.acked = min s.journal.acked j.last)
        ∧ (¬ held → (j.records = [] → j.acked = j.last)
            ∧ (j.records ≠ [] → ∃ p ∈ j.records, j.acked = p.1 - 1 ∧ ∀ q ∈ j.records, p.1 ≤ q.1))
        ∧ t.link.forward = j.acked ∧ j.erase = none ∧ j.ackClamp = 0 ∧ j.eraseFail = 0
        ∧ j.torn = ((List.range 32).filter fun i =>
            ((old.block i).classify = .active || (old.block i).classify = .full) && (found i).2).length
        ∧ (∀ i ∈ j.holdList, i ∈ s.journal.holdList ∧ (j.row i).state ≠ .erased)
        ∧ (j.full = false → ∃ i < 32, (j.row i).state = .active)
        ∧ (j.full = true → ∀ i < 32, (j.row i).state ≠ .erased)

/-! ### The depot link's line -/

/-- R177 to R179: a character in IDLE_WAIT starts the 2 ms again; the start byte in HUNT begins a frame; any other
character there leads to IDLE_WAIT; a length byte above 240 drops the frame and is counted; the last byte of a whole
frame offers it to the receive buffer where its CRC-16 matches, and drops and counts it where it does not. A frame
offered joins the tail while the buffer holds fewer than 4, and is dropped and counted as an overrun otherwise. 2 ms
of quiet end IDLE_WAIT, or drop a frame begun, which is counted truncated; a character without its stop bit inside a
frame drops it in the same way and leads to IDLE_WAIT. FRAME_RECEIVED is the characters of a frame one behind the
other. Nothing outside the receiver changes. -/
def Obligations.ReceiverFollowsItsTable : Prop :=
  ((∀ (s : State) (c : Byte), s.link.resetStage = .none →
       ∃ t, exec (.characterReceived c) s = .next t ∧ t = { s with link := t.link }
         ∧ (s.link.rx = .idleWait → t.link = { s.link with rxLast := s.time.ms })
         ∧ (s.link.rx = .hunt → c = 0xA5#8 →
             t.link = { s.link with rx := .inFrame, rxBytes := [0xA5#8], rxLast := s.time.ms })
         ∧ (s.link.rx = .hunt → c ≠ 0xA5#8 →
             t.link = { s.link with rx := .idleWait, rxBytes := [], rxLast := s.time.ms })
         ∧ (s.link.rx = .inFrame → s.link.rxBytes.length = 1 → 240 < c.toNat →
             t.link.rx = .idleWait ∧ t.link.rxBuffer = s.link.rxBuffer ∧ t.link.counters =
               { s.link.counters with badLength := min (s.link.counters.badLength + 1) 65535 })
         ∧ (s.link.rx = .inFrame → 2 ≤ s.link.rxBytes.length →
             let bs := s.link.rxBytes ++ [c]
             (bs.length ≠ frameLength bs → t.link = { s.link with rxBytes := bs, rxLast := s.time.ms })
             ∧ (bs.length = frameLength bs → frameGood bs = false → t.link.rx = .idleWait
                 ∧ t.link.rxBuffer = s.link.rxBuffer ∧ t.link.counters =
                   { s.link.counters with badCrc := min (s.link.counters.badCrc + 1) 65535 })
             ∧ (bs.length = frameLength bs → frameGood bs = true → t.link.rx = .hunt
                 ∧ (s.link.rxBuffer.length < 4 → t.link.rxBuffer = s.link.rxBuffer ++ [frameOf bs]
                     ∧ t.link.counters = s.link.counters)
                 ∧ (4 ≤ s.link.rxBuffer.length → t.link.rxBuffer = s.link.rxBuffer ∧ t.link.counters =
                     { s.link.counters with overrun := min (s.link.counters.overrun + 1) 65535 }))))
   ∧ (∀ s : State, s.link.resetStage = .none →
       (s.link.rx = .idleWait → 2 ≤ (s.time.ms - s.link.rxLast).toNat →
         exec .idleGapExpiry s = .next { s with link := { s.link with rx := .hunt } })
       ∧ (s.link.rx = .inFrame → 2 ≤ (s.time.ms - s.link.rxLast).toNat →
         exec .frameGapExpiry s = .next { s with link := { s.link with
           rx := .hunt, rxBytes := []
           counters := { s.link.counters with truncated := min (s.link.counters.truncated + 1) 65535 } } })
       ∧ (s.link.rx = .inFrame →
         exec .characterWithoutStopBit s = .next { s with link := { s.link with
           rx := .idleWait, rxBytes := [], rxLast := s.time.ms
           counters := { s.link.counters with truncated := min (s.link.counters.truncated + 1) 65535 } } })))
  ∧ (∀ (s : State) (bytes : List Byte), s.link.resetStage = .none → s.link.rx = .hunt → frameShaped bytes = true →
     ∃ t, exec (.frameReceived bytes) s = .next t ∧ t = { s with link := t.link }
       ∧ (frameGood bytes = true → t.link.rx = .hunt
           ∧ (s.link.rxBuffer.length < 4 →
               t.link.rxBuffer = s.link.rxBuffer ++ [frameOf bytes] ∧ t.link.counters = s.link.counters)
           ∧ (4 ≤ s.link.rxBuffer.length → t.link.rxBuffer = s.link.rxBuffer
               ∧ t.link.counters = { s.link.counters with overrun := min (s.link.counters.overrun + 1) 65535 }))
       ∧ (frameGood bytes = false → t.link.rx = .idleWait ∧ t.link.rxBuffer = s.link.rxBuffer
           ∧ t.link.counters = { s.link.counters with badCrc := min (s.link.counters.badCrc + 1) 65535 })
       ∧ t.link.replies = s.link.replies ∧ t.link.messages = s.link.messages ∧ t.link.record = s.link.record)

/-- R166, R177, R183, R186: the frame sent leaves its source. A REPLY leaves the head of the reply queue, and a
changed rate takes effect behind it. A message leaves the head of the message queue, and a DRAINING start-up list then
gives its notices in order while the queue holds fewer than 8, those of a masked kind dropped, and is CLOSED when
empty. A record leaves its place, which while ONLINE the valid record of the lowest sequence above the forward mark
fills. Only the port changes. -/
def Obligations.SentFrameLeavesItsSource : Prop :=
  ∀ s : State,
    (∀ r rest, s.link.sending = some ⟨.reply, true⟩ → s.link.replies = r :: rest → r.after = .nothing →
      ∃ t, exec .frameSent s = .next t ∧ t = { s with link := t.link } ∧ t.link.replies = rest
        ∧ t.link.messages = s.link.messages ∧ t.link.rate = s.link.rate)
    ∧ (∀ r rest rate, s.link.sending = some ⟨.reply, true⟩ → s.link.replies = r :: rest → r.after = .changeRate rate →
      ∃ t, exec .frameSent s = .next t ∧ t = { s with link := t.link } ∧ t.link.replies = rest
        ∧ t.link.messages = s.link.messages ∧ t.link.rate = rate ∧ t.link.rx = .idleWait ∧ t.link.rxBytes = []
        ∧ t.link.rxLast = s.time.ms ∧ t.link.rxBuffer = s.link.rxBuffer
        ∧ t.link.counters = (if s.link.rx = .inFrame
            then { s.link.counters with truncated := min (s.link.counters.truncated + 1) 65535 } else s.link.counters))
    ∧ (∀ m rest, s.link.sending = some ⟨.message, true⟩ → s.link.messages = m :: rest →
      ∃ t, exec .frameSent s = .next t ∧ t = { s with link := t.link } ∧ t.link.replies = s.link.replies
        ∧ (s.link.listState ≠ .draining → t.link.messages = rest ∧ t.link.noticeList = s.link.noticeList
            ∧ t.link.listState = s.link.listState)
        ∧ (s.link.listState = .draining → ∃ given, s.link.noticeList = given ++ t.link.noticeList
            ∧ t.link.messages = rest ++ (given.filter s.link.inMask).map Message.notice
            ∧ (∀ ns n, given = ns ++ [n] → rest.length + (ns.filter s.link.inMask).length < 8)
            ∧ (t.link.noticeList = [] → t.link.listState = .closed)
            ∧ (t.link.noticeList ≠ [] → t.link.listState = .draining ∧ 8 ≤ t.link.messages.length)))
    ∧ (s.link.sending = some ⟨.record, true⟩ →
      ∃ t, exec .frameSent s = .next t ∧ t = { s with link := t.link }
        ∧ t.link.replies = s.link.replies ∧ t.link.messages = s.link.messages
        ∧ (s.link.online = false → t.link.record = none)
        ∧ (s.link.online = true →
            (∀ r, t.link.record = some r → (r.sequence, r.bytes) ∈ s.journal.records ∧ s.link.forward < r.sequence
              ∧ ∀ p ∈ s.journal.records, s.link.forward < p.1 → r.sequence ≤ p.1)
            ∧ (t.link.record = none →
                s.journal.last ≤ s.link.forward ∨ ∀ p ∈ s.journal.records, p.1 ≤ s.link.forward)))

/-! ### Frames without an answer -/

/-- R188: an accepted heartbeat restarts the supervision timer with the live supervision time while the link is ONLINE;
while it is OFFLINE it makes the link ONLINE with the offline total 0, the timer running, and one more transition; a
heartbeat of the last accepted phase is ignored and counted. No context changes. -/
def Obligations.HeartbeatActsByPhase : Prop :=
  ∀ (s : State) (f : Frame) (p : Byte), s.link.rxBuffer.head? = some f → f.kind = 0x01#8 → f.body = [p] →
    p.toNat ≤ 1 →
    let phase := decide (p.toNat = 1)
    ∃ t, exec .heartbeat s = .next t ∧ t.bays = s.bays ∧ t.tariff = s.tariff ∧ t.bus = s.bus ∧ t.time = s.time
      ∧ t.link.rxBuffer = s.link.rxBuffer.drop 1 ∧ t.link.lastPhase = some phase
      ∧ (s.link.lastPhase = some phase →
          t.link = { s.link with
            rxBuffer := s.link.rxBuffer.drop 1
            counters := { s.link.counters with samePhase := min (s.link.counters.samePhase + 1) 65535 } }
          ∧ t.journal = s.journal ∧ t.card = s.card)
      ∧ (s.link.lastPhase ≠ some phase → t.link.online = true
          ∧ t.link.timer = some (s.time.ms, siteSupervision s.site * 1000)
          ∧ (s.link.online = true → t.journal = s.journal ∧ t.card = s.card)
          ∧ (s.link.online = false → t.card = { s.card with offlineTotal := 0 }
              ∧ t.link.transitions = min (s.link.transitions + 1) 65535))

/-- R167: a sequence at or below the acknowledged mark changes nothing; one above it and at or below the forward mark
becomes the acknowledged mark; one above the forward mark sets it to the forward mark and is counted. The check of the
retained area, which holds the mark, is rewritten with a change of it (R205). -/
def Obligations.AckMovesMarkUpToForward : Prop :=
  ∀ (s : State) (f : Frame), s.link.rxBuffer.head? = some f → f.kind = 0x02#8 → f.body.length = 4 →
    let q := beNat f.body
    ∃ t, exec .ack s = .next t
      ∧ t = { s with
          check := if t.journal.acked = s.journal.acked then s.check else t.retained.crc
          link := { s.link with rxBuffer := s.link.rxBuffer.drop 1 }
          journal :=
            if q ≤ s.journal.acked then s.journal
            else if q ≤ s.link.forward then { s.journal with acked := q }
            else { s.journal with
              acked := s.link.forward, ackClamp := min (s.journal.ackClamp + 1) 65535 } }

/-- R130: an AUTH_REPLY whose reference matches no wait is late: it is counted and changes no bay. One that denies the
wait of a bay ends it with AUTH_DENIED. One that grants it stores the authorisation reference and, with the link ONLINE
and no supply warning, issues the write on the fresh read, where limit start stays and the presentation limit runs no
more, unless R121 bars a write to that card, and the card is then read again, which is the model's choice (notes/assumptions/45.md). -/
def Obligations.AuthReplyGrantsDeniesOrIsLate : Prop :=
  ∀ (s : State) (f : Frame) (ref : BitVec 16) (d : Byte) (a : BitVec 32),
    s.link.rxBuffer.head? = some f → f.kind = 0x03#8 → f.body.length = 7 → field f.body 0 2 = ref.toNat →
    field f.body 2 1 = d.toNat → d.toNat ≤ 1 → field f.body 3 4 = a.toNat →
    ∃ t, exec .authReply s = .next t ∧ t.link.replies = s.link.replies ∧ t.link.rxBuffer = s.link.rxBuffer.drop 1
      ∧ (s.waitOf ref = none → t.bays = s.bays ∧ t.tariff = s.tariff ∧ t.journal = s.journal
          ∧ t.card = { s.card with lateReplies := min (s.card.lateReplies + 1) 65535 })
      ∧ (∀ b, s.waitOf ref = some b → OtherContexts b s t ∧ (t.bay b).authWait = none
          ∧ (d = 1 → (t.ctx b).lastRefusal = some .authDenied ∧ (t.exch b).phase = .idle
              ∧ (t.ctx b).state ∈ [.refund, .idle, .outOfService])
          ∧ (d = 0 → s.link.online = true → (t.ctx b).authRef = some a
              ∧ ∀ r v, (s.exch b).request = some r → (s.exch b).fresh = some v → s.supplyLow = false →
                  (s.writeBarred b = false → (t.exch b).phase = .writing ∧ (t.exch b).limitStart = (s.exch b).limitStart
                    ∧ exec (.presentationLimitExpiry b) t = .next t
                    ∧ (t.slot b).map CardSlot.command = some (.write r.op v.serial r.amount v.pseq r.pass))
                  ∧ (s.writeBarred b = true → (t.exch b).phase = .presenting ∧ t.card = s.card)))

/-! ### Frames with an answer -/

/-- R187, R204, R205: NOTICE_MASK makes its set the notice mask, and leaves the messages that wait; SET_TIME with a
time in range sets the clock and its mark, which the retained check follows, and with one out of range is refused with
BAD_REQUEST. -/
def Obligations.NoticeMaskAndSetTimeStored : Prop :=
  ∀ (s : State) (f : Frame), s.TakesNext f →
    (f.kind = 0x26#8 → f.body.length = 2 →
      ∃ t, exec .noticeMask s = .next t ∧ t = { s with link := t.link } ∧ Replied s t f .accepted []
        ∧ t.link.messages = s.link.messages
        ∧ ∀ i < 13, t.link.noticeMask.getLsbD i = (beNat f.body).testBit i)
    ∧ (f.kind = 0x20#8 → f.body.length = 5 → field f.body 2 2 ≤ 1439 → field f.body 4 1 ≤ 59 →
        s.tariff.scheduled = none →
      ∃ t, exec .setTime s = .next t ∧ Replied s t f .accepted []
        ∧ t = { s with
            check := if s.time.isSet = true then s.check else t.retained.crc
            link := t.link
            time := { s.time with
              calendar := ⟨field f.body 0 2, field f.body 2 2, field f.body 4 1⟩, isSet := true } })
    ∧ (f.kind = 0x20#8 → f.body.length = 5 → 1439 < field f.body 2 2 ∨ 59 < field f.body 4 1 →
      ∃ t, exec .setTime s = .next t ∧ t = { s with link := t.link } ∧ Replied s t f .badRequest [])

/-- R180: a kind code that names no downstream kind is answered BAD_KIND; a body that is not of its kind's length, a
QUERY of a target outside its list and a BAY_CONTROL of an action outside its list are answered BAD_REQUEST. Each
changes nothing but the port. A HEARTBEAT, ACK or AUTH_REPLY of a wrong length, and a HEARTBEAT whose phase is neither
0 nor 1, has no answer: it is dropped and counted. Which row takes a malformed QUERY or BAY_CONTROL is the model's
reading (notes/assumptions/6.md). -/
def Obligations.MalformedFramesRefused : Prop :=
  (∀ c k n, (c, k, n) ∈ [(Instr.tableOpen, 0x10#8, 7), (.tableClose, 0x12#8, 4), (.loadClear, 0x13#8, 0),
      (.bankSwitch, 0x14#8, 18), (.denyAdd, 0x15#8, 4), (.denyRemove, 0x16#8, 4), (.setTime, 0x20#8, 5),
      (.queryBay, 0x21#8, 3), (.bayControlReset, 0x22#8, 2), (.tubeSet, 0x23#8, 4), (.noticeMask, 0x26#8, 2),
      (.linkReset, 0x27#8, 0)] →
    ∀ (s : State) (f : Frame), s.TakesNext f → f.kind = k → f.body.length ≠ n →
      ∃ t, exec c s = .next t ∧ t = { s with link := t.link } ∧ Replied s t f .badRequest [])
  ∧ (∀ c k n, (c, k, n) ∈ [(Instr.heartbeat, 0x01#8, 1), (.ack, 0x02#8, 4), (.authReply, 0x03#8, 7)] →
    ∀ (s : State) (f : Frame), s.link.rxBuffer.head? = some f → f.kind = k → f.body.length ≠ n →
      exec c s = .next { s with link := { s.link with
        rxBuffer := s.link.rxBuffer.drop 1
        counters := { s.link.counters with formatError := min (s.link.counters.formatError + 1) 65535 } } })
  ∧ (∀ (s : State) (f : Frame) (p : Byte), s.link.rxBuffer.head? = some f → f.kind = 0x01#8 → f.body = [p] →
      1 < p.toNat →
      exec .heartbeat s = .next { s with link := { s.link with
        rxBuffer := s.link.rxBuffer.drop 1
        counters := { s.link.counters with formatError := min (s.link.counters.formatError + 1) 65535 } } })
  ∧ (∀ (s : State) (f : Frame), s.TakesNext f →
      (downKinds.contains f.kind.toNat = false →
        ∃ t, exec .badKind s = .next t ∧ t = { s with link := t.link } ∧ Replied s t f .badKind [])
      ∧ (∀ x y z, f.kind = 0x21#8 → f.body = [x, y, z] → 7 < x.toNat →
        ∃ t, exec .queryIdent s = .next t ∧ t = { s with link := t.link } ∧ Replied s t f .badRequest [])
      ∧ (∀ x y, f.kind = 0x22#8 → f.body = [x, y] → 4 < y.toNat →
        ∃ t, exec .bayControlReset s = .next t ∧ t = { s with link := t.link } ∧ Replied s t f .badRequest []))

/-- R181: a QUERY of any target is answered with the page of its data that it asks for, 237 bytes to a page, an empty
page where there is no data, or with NO_PAGE at or above the page count. The selector names the bay for BAY, TUBES and
BOX, where a number outside 0 to 7 is refused with BAD_BAY, and is not read for the other targets. A QUERY changes
nothing but the port. That its data are formed with the QUERY gone from the receive buffer is the model's choice
(notes/assumptions/62.md). -/
def Obligations.QueriesAnswerAPage : Prop :=
  ∀ c n data, (c, n, data) ∈ queryRows →
    ∀ (s : State) (f : Frame) (x p : Byte), s.TakesNext f → f.kind = 0x21#8 → f.body = [n, x, p] →
      (∀ b : BayNo, (n.toNat < 3 → x.toNat = b.val) →
        let d := data (dropHead s) b
        let pages := max 1 ((d.length + 236) / 237)
        ∃ t, exec c s = .next t ∧ t = { s with link := t.link }
          ∧ (p.toNat < pages → Replied s t f .accepted
              (beBytes 1 p.toNat ++ beBytes 1 pages ++ (d.drop (p.toNat * 237)).take 237))
          ∧ (pages ≤ p.toNat → Replied s t f .noPage []))
      ∧ (n.toNat < 3 → 7 < x.toNat →
        ∃ t, exec c s = .next t ∧ t = { s with link := t.link } ∧ Replied s t f .badBay [])

/-! ### Table loading and the bank switch -/

/-- R54, R56: a TABLE_OPEN that passes its checks begins a stream: the target and the version and count carried are
kept, the next index is 0, a banked target is invalid from then on, and no other block changes. A TABLE_DATA whose
entries follow on the next index and fit the count is ACCEPTED, and the next index grows by their number; one whose
start index is not the next index is refused with SEQ_ERROR, and one beyond the count with COUNT_ERROR, each with
LOAD_ERROR. -/
def Obligations.TableOpenAndDataFillStream : Prop :=
  (∀ (s : State) (f : Frame) (g : Target), s.TakesNext f → f.kind = 0x10#8 → f.body.length = 7 →
     targetOf (field f.body 0 1) (field f.body 1 1) = some g → s.tariff.openFailure g (field f.body 4 2) = none →
     ∃ t, exec .tableOpen s = .next t ∧ t = { s with link := t.link, tariff := t.tariff } ∧ Replied s t f .accepted []
       ∧ t.tariff.load.state = .stream ∧ t.tariff.load.target = some g ∧ t.tariff.load.version = some (field f.body 2 2)
       ∧ t.tariff.load.count = some (field f.body 4 2) ∧ t.tariff.load.next = 0 ∧ t.tariff.active = s.tariff.active
       ∧ (∀ k, g.bank = some k → (t.tariff.bank k).allValid = false))
  ∧ (∀ (s : State) (f : Frame) (g : Target) (es : List (List Byte)), s.TakesNext f → f.kind = 0x11#8 →
     3 ≤ f.body.length → s.tariff.load.state = .stream → s.tariff.load.target = some g →
     splitEntries g.table (f.body.length - 2) (f.body.drop 2) = some es → es ≠ [] → es.length ≤ 16 →
     let start := field f.body 0 2
     ∃ t, exec .tableData s = .next t ∧ t = { s with link := t.link, tariff := t.tariff }
       ∧ (start ≠ s.tariff.load.next → Replied s t f .seqError [] ∧ t.tariff.load.state = .error
           ∧ t.tariff.load.error = .seq)
       ∧ (start = s.tariff.load.next → s.tariff.load.count.getD 0 < start + es.length →
           Replied s t f .countError [] ∧ t.tariff.load.state = .error ∧ t.tariff.load.error = .count)
       ∧ (start = s.tariff.load.next → start + es.length ≤ s.tariff.load.count.getD 0 →
           Replied s t f .accepted [] ∧ t.tariff.load.state = .stream
           ∧ t.tariff.load.next = s.tariff.load.next + es.length
           ∧ (g = ⟨.deny, none⟩ → t.tariff.denyShadow.entries = s.tariff.denyShadow.entries ++ es
               ∧ t.tariff.deny = s.tariff.deny)))

/-- R55, R57, R58: a TABLE_CLOSE of a DENY stream whose entries number its count, whose check matches and whose
entries pass validation replaces the live deny table whole, with edit count 0; one whose check does not match is
refused with CRC_ERROR, and the live table stands. LOAD_CLEAR returns the load machine to LOAD_IDLE, and counts an
abandoned stream. -/
def Obligations.TableCloseReplacesDeny : Prop :=
  (∀ (s : State) (f : Frame), s.TakesNext f → f.kind = 0x12#8 → f.body.length = 4 → s.tariff.load.state = .stream →
    s.tariff.load.target = some ⟨.deny, none⟩ → s.tariff.load.next = s.tariff.load.count.getD 0 →
    ∃ t, exec .tableClose s = .next t ∧ t = { s with link := t.link, tariff := t.tariff }
      ∧ (s.tariff.load.crc.map crc32End = some (BitVec.ofNat 32 (beNat f.body)) → s.validate ⟨.deny, none⟩ = none →
          Replied s t f .accepted [] ∧ t.tariff.load.state = .idle ∧ t.tariff.deny.valid = true
          ∧ t.tariff.deny.entries = s.tariff.denyShadow.entries
          ∧ t.tariff.deny.version = s.tariff.load.version.getD 0 ∧ t.tariff.denyEdits = 0)
      ∧ (s.tariff.load.crc.map crc32End ≠ some (BitVec.ofNat 32 (beNat f.body)) →
          Replied s t f .crcError [] ∧ t.tariff.load.state = .error ∧ t.tariff.load.error = .crc
          ∧ t.tariff.deny = s.tariff.deny ∧ t.tariff.denyEdits = s.tariff.denyEdits))
  ∧ (∀ (s : State) (f : Frame), s.TakesNext f → f.kind = 0x13#8 → f.body = [] →
    ∃ t, exec .loadClear s = .next t ∧ t = { s with link := t.link, tariff := t.tariff } ∧ Replied s t f .accepted []
      ∧ (s.tariff.load.state = .error → t.tariff.load.state = .idle ∧ t.tariff.load.error = .none
          ∧ t.tariff.load.failure = none ∧ t.tariff.load.abandons = s.tariff.load.abandons)
      ∧ (s.tariff.load.state = .stream → s.tariff.load.target.isSome → t.tariff.load.state = .idle
          ∧ t.tariff.load.abandons = min (s.tariff.load.abandons + 1) 65535)
      ∧ t.tariff.active = s.tariff.active ∧ t.tariff.deny = s.tariff.deny ∧ t.tariff.site = s.tariff.site)

/-- R51, R53, R57, R58, R61, R202: a TABLE_CLOSE of a banked stream that passes its checks makes the table valid with
the version, count and check carried, and a RULE table's mode takes the stream's; no other table changes. One of SITE
replaces the live site table whole: every tube takes its new setting with its coins and state kept, a bay newly ABSENT
leaves sale at rest and is marked at its close in a transaction, one no longer ABSENT is MISSING with SERVER standing,
and PAPER follows a passes-only mark. A check that fails or an entry that fails validation is refused, the table is
not valid, and no bay changes. A SITE table that names a coin kind above 8 at a tube fails, and so does one under
which a tube with coins changes its kind or holds too many: the place is the first entry that names such a tube, or
the count where none does. Which failure of a banked table that fails twice gives the place is the model's choice
(notes/assumptions/46.md, notes/assumptions/61.md). -/
def Obligations.TableCloseFillsBankOrSite : Prop :=
  (∀ (s : State) (f : Frame) (g : Target) (crc : BitVec 32), s.TakesNext f → f.kind = 0x12#8 → f.body.length = 4 →
    s.tariff.load.state = .stream → s.tariff.load.target = some g → s.tariff.load.next = s.tariff.load.count.getD 0 →
    crc = BitVec.ofNat 32 (beNat f.body) →
    let l := s.tariff.load
    let closed := l.crc.map crc32End = some crc ∧ s.validate g = none
    ∃ t, exec .tableClose s = .next t ∧ t.tariff.active = s.tariff.active ∧ t.journal = s.journal ∧ t.card = s.card
      ∧ t.time = s.time ∧ t.tariff.load.abandons = l.abandons
      ∧ (l.crc.map crc32End ≠ some crc →
          t = { s with link := t.link, tariff := t.tariff } ∧ Replied s t f .crcError []
          ∧ t.tariff.load.state = .error ∧ t.tariff.load.error = .crc ∧ t.tariff.site = s.tariff.site
          ∧ ∀ k, g.bank = some k → g.table ∈ bankedTables → ((t.tariff.bank k).table g.table).valid = false)
      ∧ (l.crc.map crc32End = some crc → ∀ n i, s.validate g = some (n, i) →
          t = { s with link := t.link, tariff := t.tariff }
          ∧ Replied s t f .validationError (beBytes 1 n.toNat ++ beBytes 2 i)
          ∧ t.tariff.load.state = .error ∧ t.tariff.load.error = .validation ∧ t.tariff.load.failure = some (n, i)
          ∧ t.tariff.site = s.tariff.site
          ∧ ∀ k, g.bank = some k → g.table ∈ bankedTables → ((t.tariff.bank k).table g.table).valid = false)
      ∧ (closed → ∀ k, g.bank = some k → g.table ∈ bankedTables →
          t = { s with link := t.link, tariff := t.tariff } ∧ Replied s t f .accepted [] ∧ t.tariff.load.state = .idle
          ∧ (t.tariff.bank k).table g.table = ⟨l.version.getD 0, true, l.count.getD 0,
              ((s.tariff.bank k).table g.table).entries, crc⟩
          ∧ (t.tariff.bank k).mode = (if g.table = .rule then l.mode.getD .halfUp else (s.tariff.bank k).mode)
          ∧ (∀ n ∈ bankedTables, n ≠ g.table → (t.tariff.bank k).table n = (s.tariff.bank k).table n)
          ∧ t.tariff.bank k.other = s.tariff.bank k.other ∧ t.tariff.site = s.tariff.site ∧ t.tariff.deny = s.tariff.deny)
      ∧ (closed → g.table = .site →
          let old := s.site
          let new := s.tariff.siteShadow.entries
          t.tariff.load.state = .idle ∧ t.tariff.site = ⟨l.version.getD 0, true, l.count.getD 0, new, crc⟩
          ∧ t.tariff.bankA = s.tariff.bankA ∧ t.tariff.bankB = s.tariff.bankB
          ∧ t.link.replies = s.link.replies ++ [⟨f.tag, .accepted, [],
              if siteRate new = siteRate old then .nothing else .changeRate (siteRate new)⟩]
          ∧ ∀ b : BayNo, (t.bay b).mask = t.maskOf b
            ∧ (∀ n : TubeNo, let u := (t.bay b).tubes[n]
                (u.kind, u.capacity, u.fullLevel, u.lowLevel) = siteTube new b n
                ∧ u.count = ((s.bay b).tubes[n]).count ∧ u.state = ((s.bay b).tubes[n]).state)
            ∧ (siteAbsent old b = siteAbsent new b → sitePassesOnly old b = sitePassesOnly new b →
                t.ctx b = s.ctx b ∧ (t.bay b).term = (s.bay b).term)
            ∧ (siteAbsent old b = false → siteAbsent new b = true →
                ((s.ctx b).state.isOpen = false → (t.ctx b).state = .outOfService ∧ (t.bay b).term.state = .absent
                  ∧ (t.bay b).term.misses = 0)
                ∧ ((s.ctx b).state.isOpen = true → (t.ctx b).state = (s.ctx b).state
                  ∧ (t.bay b).term.state = (s.bay b).term.state))
            ∧ (siteAbsent old b = true → siteAbsent new b = false → (t.ctx b).causes.server = true
                ∧ (t.bay b).term.state = .missing ∧ (t.bay b).term.misses = 0
                ∧ (t.bay b).term.displayPending = true)
            ∧ (sitePassesOnly old b = false → sitePassesOnly new b = true → (s.bay b).printer.paper = .out →
                (t.ctx b).causes.paper = true)
            ∧ (sitePassesOnly old b = true → sitePassesOnly new b = false → (t.ctx b).causes.paper = false)))
  ∧ (∀ (s : State) (all before : List (List Byte)) (i : Nat) (e : List Byte),
      (field e 0 1 = 3 → 8 < field e 2 1 → siteOk all before i e = false)
      ∧ let es := s.tariff.siteShadow.entries
        let misfits (b : BayNo) (n : TubeNo) : Prop :=
          0 < (s.tube b n).count ∧ ((siteTube es b n).1 ≠ (s.tube b n).kind ∨ (siteTube es b n).2.1 < (s.tube b n).count)
        let names (i : Nat) (b : BayNo) (n : TubeNo) : Prop :=
          ∃ e, es[i]? = some e ∧ field e 0 1 = 3 ∧ field e 1 1 = b.val * 4 + n.val
        firstBad (siteOk es) es = none →
        ((∀ b n, ¬ misfits b n) → s.validate ⟨.site, none⟩ = none)
        ∧ ((∃ b n, misfits b n) → ∃ i, s.validate ⟨.site, none⟩ = some (.site, i)
            ∧ (∀ j < i, ∀ b n, names j b n → ¬ misfits b n)
            ∧ (i = es.length ∨ ∃ b n, names i b n ∧ misfits b n)))

/-- R62: the checks of a deny edit in their order. With a DENY stream open it is refused with DENY_BUSY, and with an
invalid live table with NOT_VALID. A DENY_ADD of a listed serial changes nothing, of a new one at 4096 is refused with
TABLE_FULL, and else puts the serial into its ascending place; a DENY_REMOVE takes a listed serial out. Exactly that
serial joins or leaves, the serials still rise strictly, the stored check follows, the version stays, and the edit count
grows by 1. -/
def Obligations.DenyEditsChangeOneSerial : Prop :=
  ∀ (c : Instr) (s : State) (f : Frame), s.TakesNext f → f.body.length = 4 →
    (c = .denyAdd ∧ f.kind = 0x15#8 ∨ c = .denyRemove ∧ f.kind = 0x16#8) →
    s.tariff.deny.entries.Pairwise (fun a b => beNat a < beNat b) →
    let q := beNat f.body
    let on (es : List (List Byte)) (x : Nat) : Prop := ∃ e ∈ es, beNat e = x
    let es := s.tariff.deny.entries
    let busy : Prop := s.tariff.load.state = .stream ∧ s.tariff.load.target = some ⟨.deny, none⟩
    let edited (t : State) : Prop :=
      t.tariff.deny.entries.Pairwise (fun a b => beNat a < beNat b)
      ∧ t.tariff.deny.count = t.tariff.deny.entries.length ∧ t.tariff.deny.check = crc32 t.tariff.deny.entries.flatten
      ∧ t.tariff.deny.version = s.tariff.deny.version ∧ t.tariff.deny.valid = true
      ∧ t.tariff.denyEdits = min (s.tariff.denyEdits + 1) 65535
    ∃ t, exec c s = .next t ∧ t = { s with link := t.link, tariff := t.tariff }
      ∧ (busy → t.tariff = s.tariff ∧ Replied s t f .denyBusy [])
      ∧ (¬ busy → s.tariff.deny.valid = false → t.tariff = s.tariff ∧ Replied s t f .notValid [])
      ∧ (¬ busy → s.tariff.deny.valid = true → c = .denyAdd →
          (on es q → t.tariff = s.tariff ∧ Replied s t f .accepted [])
          ∧ (¬ on es q → 4096 ≤ es.length → t.tariff = s.tariff ∧ Replied s t f .tableFull [])
          ∧ (¬ on es q → es.length < 4096 → Replied s t f .accepted [] ∧ edited t
              ∧ ∀ x, on t.tariff.deny.entries x ↔ on es x ∨ x = q))
      ∧ (¬ busy → s.tariff.deny.valid = true → c = .denyRemove →
          (¬ on es q → t.tariff = s.tariff ∧ Replied s t f .accepted [])
          ∧ (on es q → Replied s t f .accepted [] ∧ edited t
              ∧ ∀ x, on t.tariff.deny.entries x ↔ on es x ∧ x ≠ q))

/-- R64, R66, R67: a BANK_SWITCH that fails a check is refused with its code and changes no bank. One that passes, at
once or for a time the clock has reached, makes the bank active, drops a scheduled switch and requests a TABLE record;
for a later time it becomes the scheduled switch; a time is refused with TIME_UNSET while the clock is UNSET. A
scheduled switch that is due is cleared; the checks of R64 are made again, and either the bank becomes active with the
result DONE, or the switch is dropped with the failing code and the active bank stands. One not due stays. No context
changes. That times are ordered by day and then by minute, also for a minute above 1439, is the model's reading
(notes/assumptions/31.md). -/
def Obligations.BankSwitchActivatesSchedulesOrRefuses : Prop :=
  (∀ (s : State) (f : Frame) (k : Bank), s.TakesNext f → f.kind = 0x14#8 → f.body.length = 18 →
    Bank.ofCode (field f.body 0 1) = some k → field f.body 13 1 ≤ 1 →
    let w : Scheduled := ⟨k, versionsOf f.body, field f.body 14 2, field f.body 16 2⟩
    let now := s.time.calendar
    let later := now.day < w.day ∨ (now.day = w.day ∧ now.minute < w.minute)
    ∃ t, exec .bankSwitch s = .next t ∧ t.bays = s.bays ∧ t.card = s.card ∧ t.time = s.time
      ∧ (∀ code, s.tariff.switchFailure k (versionsOf f.body) = some code →
          t = { s with link := t.link } ∧ Replied s t f code [])
      ∧ (s.tariff.switchFailure k (versionsOf f.body) = none →
          (field f.body 13 1 = 1 → s.time.isSet = false → t = { s with link := t.link } ∧ Replied s t f .timeUnset [])
          ∧ (field f.body 13 1 = 1 → s.time.isSet = true → later → Replied s t f .accepted []
              ∧ t = { s with link := t.link, tariff := { s.tariff with scheduled := some w } })
          ∧ (field f.body 13 1 = 0 ∨ (s.time.isSet = true ∧ ¬ later) → Replied s t f .accepted []
              ∧ t.tariff = { s.tariff with active := k, scheduled := none }
              ∧ ∃ r ∈ t.journal.queue ++ t.journal.waitList,
                  r.body = .table k (s.tariff.bank k).versions s.time.calendar)))
  ∧ (∀ (s : State) (w : Scheduled), s.tariff.scheduled = some w →
     ∃ t, exec .scheduledSwitchDue s = .next t ∧ t.bays = s.bays ∧ t.card = s.card ∧ t.time = s.time
       ∧ (s.time.calendar.day < w.day ∨ (s.time.calendar.day = w.day ∧ s.time.calendar.minute < w.minute) → t = s)
       ∧ (w.day < s.time.calendar.day ∨ (w.day = s.time.calendar.day ∧ w.minute ≤ s.time.calendar.minute) →
           t.tariff.scheduled = none
           ∧ (∀ code, s.tariff.switchFailure w.bank w.versions = some code →
               t.tariff.active = s.tariff.active ∧ t.tariff.lastSwitch = .dropped code)
           ∧ (s.tariff.switchFailure w.bank w.versions = none →
               t.tariff.active = w.bank ∧ t.tariff.lastSwitch = .done)))

/-! ### Service frames -/

/-- R21: IN_SERVICE with no cause but SERVER standing takes SERVER away, returns a context in OUT_OF_SERVICE to IDLE
and leaves an open transaction; with another cause standing it is refused with CAUSE_STANDING and changes nothing.
OUT_OF_SERVICE makes SERVER join: a bay in IDLE enters OUT_OF_SERVICE, any other keeps its state. For every action, a
bay number outside 0 to 7 is refused with BAD_BAY and a bay marked ABSENT with BAY_ABSENT, and neither changes
anything but the port. -/
def Obligations.BayControlMovesServerOrRefuses : Prop :=
  (∀ (s : State) (f : Frame) (b : BayNo), s.TakesNext f → f.kind = 0x22#8 → siteAbsent s.site b = false →
     (f.body = [BitVec.ofNat 8 b.val, 0] →
       ∃ t, exec .bayControlInService s = .next t ∧ OtherBays b s t ∧ t.tariff = s.tariff ∧ t.journal = s.journal
         ∧ ((s.ctx b).causes.onlyServer = true → Replied s t f .accepted [] ∧ (t.ctx b).causes.server = false
             ∧ ((s.ctx b).state = .outOfService → (t.ctx b).state = .idle)
             ∧ ((s.ctx b).state ≠ .outOfService → t.ctx b = { s.ctx b with causes := (t.ctx b).causes }))
         ∧ ((s.ctx b).causes.onlyServer = false → t = { s with link := t.link } ∧ Replied s t f .causeStanding []))
     ∧ (f.body = [BitVec.ofNat 8 b.val, 1] → (s.ctx b).causes.server = false →
       ∃ t, exec .bayControlOutOfService s = .next t ∧ Replied s t f .accepted [] ∧ OtherBays b s t
         ∧ t.tariff = s.tariff ∧ t.journal = s.journal ∧ (t.ctx b).causes = { (s.ctx b).causes with server := true }
         ∧ ((s.ctx b).state = .idle → (t.ctx b).state = .outOfService)
         ∧ ((s.ctx b).state ≠ .idle → (t.ctx b).state = (s.ctx b).state)))
  ∧ (∀ c n, (c, n) ∈ [(Instr.bayControlInService, 0#8), (.bayControlOutOfService, 1#8), (.bayControlReset, 2#8),
       (.coinOff, 3#8), (.coinOn, 4#8)] →
     ∀ (s : State) (f : Frame) (x : Byte), s.TakesNext f → f.kind = 0x22#8 → f.body = [x, n] →
       (7 < x.toNat → ∃ t, exec c s = .next t ∧ t = { s with link := t.link } ∧ Replied s t f .badBay [])
       ∧ (∀ b : BayNo, x.toNat = b.val → siteAbsent s.site b = true →
           ∃ t, exec c s = .next t ∧ t = { s with link := t.link } ∧ Replied s t f .bayAbsent []))

/-- R23, R198, R200: BAY_CONTROL RESET is answered ACCEPTED. In IDLE and OUT_OF_SERVICE it pulses the escrow return
and changes nothing else; in COMMIT it is held; in PRICED and TENDER with no credited overflow value it gives the
transaction back: the bank is unpinned, and the context is cleared and comes to rest with its causes and last refusal
kept. In every open state but COMMIT the bay's card command is withdrawn, but for a re-application's write. In PRINT
the receipt fails with its ADJUST, unless its outcome has been taken, and the close sounds CHIRP. -/
def Obligations.BayResetReturnsOrIsHeld : Prop :=
  ∀ (s : State) (f : Frame) (b : BayNo), s.TakesNext f → f.kind = 0x22#8 → siteAbsent s.site b = false →
    f.body = [BitVec.ofNat 8 b.val, 2] → (s.ctx b).wait ≠ .places →
    ∃ t, exec .bayControlReset s = .next t ∧ Replied s t f .accepted [] ∧ OtherContexts b s t ∧ t.time = s.time
      ∧ ((s.ctx b).state = .idle ∨ (s.ctx b).state = .outOfService → (s.bay b).escrow.pulse = none →
          OtherBays b s t
          ∧ t.bay b = { s.bay b with escrow := ⟨some s.time.ms, false⟩, ctx := { s.ctx b with coins := [] } })
      ∧ ((s.ctx b).state = .commit → OtherBays b s t
          ∧ t.bay b = { s.bay b with ctx := { s.ctx b with resetHeld := true } })
      ∧ ((s.ctx b).state.isOpen = true → (s.ctx b).state ≠ .commit →
          ∀ c, t.slot b = some c → c.owner = .reapplication)
      ∧ ((s.ctx b).state = .priced ∨ (s.ctx b).state = .tender → (s.ctx b).overflowValue = 0 →
          (s.bay b).authWait = none → (s.bay b).card.phase = .idle → s.journal.waitsFor b = false →
          ∀ k, (s.ctx b).bank = some k →
          t.tariff = s.tariff.unpin k ∧ t.journal = s.journal
          ∧ (t.ctx b).state = (if (s.ctx b).causes.isEmpty then .idle else .outOfService)
          ∧ (t.ctx b).causes = (s.ctx b).causes ∧ (t.ctx b).lastRefusal = (s.ctx b).lastRefusal
          ∧ (t.ctx b).coins = [] ∧ (t.ctx b).tendered = 0 ∧ (t.ctx b).bank = none ∧ (t.ctx b).product = none)
      ∧ ((s.ctx b).state = .print → s.journal.waitsFor b = false → s.journal.queue.length < 16 →
          (t.bay b).term.tone = .chirp ∧ (t.bay b).term.tonePending = true
          ∧ ((t.ctx b).state = .idle ∨ (t.ctx b).state = .outOfService)
          ∧ ((s.ctx b).wait ≠ .adjust → ∃ r ∈ t.journal.queue, r.requester = .reset b
              ∧ r.body = (if s.isPrintedPass b
                  then .adjust .passNotIssued ((s.ctx b).price.getD 0) (s.ctx b).txnSeq
                  else .adjust .receiptFailed 0 (s.ctx b).txnSeq)))

/-- R75, R106: COIN_OFF empties the mask, discards a train in progress and counts it aborted; COIN_ON takes the mark
away. Either at a bay that already has the mark, or lacks it, changes nothing but the port. TUBE_SET at a bay in
OUT_OF_SERVICE with its service door open stores the count, cut at the capacity, or 0 for a tube of no kind, and the
state, and its REPLY carries the count stored; elsewhere it is refused with NOT_SERVICING. -/
def Obligations.CoinAndTubeFramesAct : Prop :=
  (∀ (s : State) (f : Frame) (b : BayNo), s.TakesNext f → f.kind = 0x22#8 → siteAbsent s.site b = false →
     (f.body = [BitVec.ofNat 8 b.val, 3] →
       ∃ t, exec .coinOff s = .next t ∧ Replied s t f .accepted [] ∧ OtherBays b s t ∧ t.tariff = s.tariff
         ∧ t.journal = s.journal ∧ t.ctx b = s.ctx b ∧ (t.bay b).tubes = (s.bay b).tubes
         ∧ (t.bay b).coin.coinOff = true
         ∧ ((s.bay b).coin.coinOff = true → t.bay b = s.bay b)
         ∧ ((s.bay b).coin.coinOff = false → (t.bay b).mask = [] ∧ (t.bay b).coin.capture = .idle
             ∧ ((s.bay b).coin.capture ≠ .idle →
                 (t.bay b).counters.aborted = min ((s.bay b).counters.aborted + 1) 65535)
             ∧ ((s.bay b).coin.capture = .idle → (t.bay b).counters = (s.bay b).counters)))
     ∧ (f.body = [BitVec.ofNat 8 b.val, 4] →
       ∃ t, exec .coinOn s = .next t ∧ Replied s t f .accepted [] ∧ OtherBays b s t ∧ t.tariff = s.tariff
         ∧ t.journal = s.journal ∧ t.ctx b = s.ctx b ∧ (t.bay b).tubes = (s.bay b).tubes
         ∧ (t.bay b).coin.coinOff = false ∧ ((s.bay b).coin.coinOff = false → t.bay b = s.bay b)))
  ∧ (∀ (s : State) (f : Frame) (b : BayNo) (n : TubeNo) (count : Byte) (st : TubeState), s.TakesNext f →
     f.kind = 0x23#8 → (st = .ok ∨ st = .disabled) →
     f.body = [BitVec.ofNat 8 b.val, BitVec.ofNat 8 n.val, count, if st = .ok then 0 else 2] →
     let u := (s.bay b).tubes[n]
     let stored := if u.kind = 0 then 0 else min count.toNat u.capacity
     ∃ t, exec .tubeSet s = .next t ∧ OtherBays b s t ∧ t.tariff = s.tariff ∧ t.journal = s.journal
       ∧ ((s.ctx b).state = .outOfService → (s.bay b).lines.serviceDoor.accepted = true →
           Replied s t f .accepted (beBytes 1 stored)
           ∧ (t.bay b).tubes = (s.bay b).tubes.set n { u with count := stored, state := st }
           ∧ (t.ctx b).causes = { (s.ctx b).causes with jamAll := false })
       ∧ ((s.ctx b).state ≠ .outOfService ∨ (s.bay b).lines.serviceDoor.accepted = false →
           t = { s with link := t.link } ∧ Replied s t f .notServicing []))

/-- R164, R165: HOLD of blocks that are ACTIVE, FULL or held joins them to the hold list where that stays within 8
places, and is refused with NOT_HOLDABLE or HOLD_FULL otherwise; RELEASE_HOLD takes its blocks off the list with the
audit switch asserted, and is refused with AUDIT_LOCKED otherwise. No block changes. -/
def Obligations.HoldsChangeNamedBlocksOnly : Prop :=
  ∀ (s : State) (f : Frame) (bs : List Nat), s.TakesNext f → blocksOf f.body = some bs →
    (f.kind = 0x24#8 →
      ∃ t, exec .hold s = .next t
        ∧ t = { s with link := t.link, journal := { s.journal with holdList := t.journal.holdList } }
        ∧ (bs.all s.journal.holdable = true → (withHolds s.journal.holdList bs).length ≤ 8 →
            Replied s t f .accepted [] ∧ ∀ i, i ∈ t.journal.holdList ↔ i ∈ s.journal.holdList ∨ i ∈ bs)
        ∧ (bs.all s.journal.holdable = true → 8 < (withHolds s.journal.holdList bs).length →
            Replied s t f .holdFull [] ∧ t.journal = s.journal)
        ∧ (bs.all s.journal.holdable = false → Replied s t f .notHoldable [] ∧ t.journal = s.journal))
    ∧ (f.kind = 0x25#8 →
      ∃ t, exec .releaseHold s = .next t
        ∧ t = { s with link := t.link, journal := { s.journal with holdList := t.journal.holdList } }
        ∧ (s.time.audit.accepted = true →
            Replied s t f .accepted [] ∧ ∀ i, i ∈ t.journal.holdList ↔ i ∈ s.journal.holdList ∧ i ∉ bs)
        ∧ (s.time.audit.accepted = false → Replied s t f .auditLocked [] ∧ t.journal = s.journal))

/-- R174, R176, R191: LINK_RESET is answered ACCEPTED, every frame behind it is discarded, and the receiver ignores the
line. Once its REPLY has been sent, with no transaction open, the reset runs: the port takes its reset values with the
live site rate, the contexts are rebuilt, the Card Unit keeps its tears with no closing mark and no owner OPEN, and the
tables, the acknowledged mark, the clocks and the lines are kept. -/
def Obligations.LinkResetKeepsLastingState : Prop :=
  (∀ (s : State) (f : Frame), s.TakesNext f → f.kind = 0x27#8 → f.body = [] →
      ∃ t, exec .linkReset s = .next t ∧ t = { s with link := t.link } ∧ t.link.rxBuffer = []
        ∧ t.link.replies = s.link.replies ++ [⟨f.tag, .accepted, [], .linkReset⟩]
        ∧ ∀ c : Byte, exec (.characterReceived c) t = .next t)
  ∧ (∀ (s : State) (r : Reply) (rest : List Reply), s.link.sending = some ⟨.reply, true⟩ → s.link.replies = r :: rest →
      r.after = .linkReset → (∀ b, (s.ctx b).state.isOpen = false ∧ (s.ctx b).resetHeld = false ∧ (s.ctx b).wait = .none) →
      ∃ t, exec .frameSent s = .next t
        ∧ t.link.online = false ∧ t.link.lastPhase = none ∧ t.link.timer = none ∧ t.link.noticeMask = BitVec.allOnes 13
        ∧ t.link.rate = siteRate s.site ∧ t.link.rx = .idleWait ∧ t.link.rxBuffer = [] ∧ t.link.replies = []
        ∧ t.link.messages = [] ∧ t.link.record = none ∧ t.link.transitions = 0 ∧ t.link.resetStage = .none
        ∧ t.time = s.time ∧ t.journal.acked = s.journal.acked ∧ t.journal.last = s.journal.last
        ∧ t.journal.holdList = s.journal.holdList
        ∧ t.tariff.active = s.tariff.active ∧ t.tariff.bankA = s.tariff.bankA ∧ t.tariff.bankB = s.tariff.bankB
        ∧ t.tariff.deny = s.tariff.deny ∧ t.tariff.site = s.tariff.site ∧ t.tariff.load = .reset
        ∧ t.card.offlineTotal = s.card.offlineTotal ∧ t.card.tears.map Tear.serial = s.card.tears.map Tear.serial
        ∧ (∀ e ∈ t.card.tears, e.closing = false ∧ e.owner ≠ .openTxn)
        ∧ ∀ b, (t.bay b).lines = (s.bay b).lines ∧ (t.bay b).tubes = (s.bay b).tubes
            ∧ (t.ctx b).causes.server = false ∧ (t.ctx b).lastRefusal = none)

/-- R189: the supervision limit passed makes the link OFFLINE: the timer stops with the last accepted phase kept, the
messages and the record that have not begun are discarded, every authorisation wait ends, the budget in force takes the
site's, and the transition is counted. -/
def Obligations.SupervisionExpiryTakesLinkOffline : Prop :=
  ∀ (s : State) (start : Ms) (limit : Nat), s.link.timer = some (start, limit) →
    limit ≤ (s.time.ms - start).toNat →
    ∃ t, exec .supervisionExpiry s = .next t ∧ t.link.online = false ∧ t.link.timer = none
      ∧ t.link.lastPhase = s.link.lastPhase ∧ t.card.budget = siteBudget s.site
      ∧ (∀ b, (t.bay b).authWait = none)
      ∧ (s.link.sending = none → t.link.messages = [] ∧ t.link.record = none)
      ∧ t.link.transitions = min (s.link.transitions + 1) 65535 ∧ t.link.replies = s.link.replies
      ∧ ∀ b, (s.bay b).authWait = none → t.ctx b = s.ctx b

/-! ### The bay bus -/

/-- R142, R194, R195, R198, R199: with the bus ready, no recovery poll due and bay b next, a rotation poll of b is
built: it carries the display with its hold cause and the tone, each where it is pending, and the card command not yet
taken, whose first sending time is set once; with an empty card slot it carries none. It carries the chunk in flight
again under its mark; with none in flight and no stall of paper or head, the ring's first bytes, as many as the credit
allows and no more than 64, under the next mark; and else no chunk. No byte leaves the ring. A due recovery poll comes
first: POLL_START sends nothing while one is due, and the recovery poll carries the display and tone likewise, no card
command and no chunk. Nothing but the bus and the polled bay's record changes. -/
def Obligations.PollsCarryWhatIsPending : Prop :=
  ∀ (s : State) (b : BayNo), s.busReady = true →
    let u := (s.bay b).term
    let shown := if u.displayPending then some (u.screen, u.screenHold) else none
    let tone := if u.tonePending then some u.tone else none
    (s.dueBay = none → s.nextBay = some b →
      ∃ t, exec .pollStart s = .next t ∧ OtherBays b s t ∧ t = { s with bays := t.bays, bus := t.bus }
        ∧ t.bus.next = b.val + 1 ∧ t.ctx b = s.ctx b ∧ (t.bay b).ring = (s.bay b).ring
        ∧ (∃ x, t.bus.exchange = some x ∧ x.recovery = false ∧ x.builtAt = s.time.ms ∧ x.poll.bay = b
            ∧ x.poll.display = shown ∧ x.poll.tone = tone
            ∧ (s.slot b = none → x.poll.card = none ∧ t.slot b = none)
            ∧ (∀ c, s.slot b = some c → c.taken = false → x.poll.card = some (c.mark, c.command)
                ∧ (t.slot b) = some { c with firstSent := some (c.firstSent.getD s.time.ms) })
            ∧ (∀ c, s.slot b = some c → c.taken = true → x.poll.card = none ∧ t.slot b = s.slot b)
            ∧ (∀ mark, 0 < (s.bay b).inFlight → (s.bay b).chunkMark = some mark →
                x.poll.chunk = some (mark, (s.bay b).ring.take (s.bay b).inFlight)
                ∧ (t.bay b).inFlight = (s.bay b).inFlight ∧ (t.bay b).chunkMark = some mark)
            ∧ ((s.bay b).inFlight = 0 →
                let y := s.bay b
                let n := min y.printer.credit (min 64 y.ring.length)
                (y.seq.paperOut = true ∨ y.seq.headUp = true ∨ n = 0 →
                  x.poll.chunk = none ∧ (t.bay b).inFlight = 0 ∧ (t.bay b).chunkMark = y.chunkMark)
                ∧ (y.seq.paperOut = false → y.seq.headUp = false → 0 < n →
                  x.poll.chunk = some (y.term.nextChunkMark, y.ring.take n) ∧ (t.bay b).inFlight = n
                  ∧ (t.bay b).chunkMark = some y.term.nextChunkMark
                  ∧ (t.bay b).term.nextChunkMark =
                      (if y.term.nextChunkMark < 255 then y.term.nextChunkMark + 1 else 1)))))
    ∧ (s.dueBay = some b → exec .pollStart s = .next s ∧
      ∃ t, exec .recoveryPollDue s = .next t ∧ OtherBays b s t ∧ t = { s with bays := t.bays, bus := t.bus }
        ∧ (t.bay b).term.recoveryStart = some s.time.ms ∧ t.slot b = s.slot b ∧ t.bus.next = s.bus.next
        ∧ (∃ x, t.bus.exchange = some x ∧ x.recovery = true ∧ x.poll.bay = b ∧ x.poll.display = shown
            ∧ x.poll.tone = tone ∧ x.poll.card = none
            ∧ x.poll.chunk = none))

/-- R196, R197: an exchange that ends without a good reply is a miss: PRESENT becomes MISSING with one miss, and a
second miss is counted; the third makes the terminal LOST, where TERMINAL_LOST joins the causes, the credit becomes 0,
nothing is in flight, and the recovery start takes the count. TERMINAL_LOST that joins where no bay reset waits takes
a bay in IDLE out of sale; it cancels an early transaction, and one in CARD_WRITE with CARD_TIMEOUT where no write has
been issued; a write issued and unanswered, where the card slot holds no command of a re-application, enters the tear,
and leads to TEAR_WAIT; in COMMIT and PAYOUT the
transaction goes on with its lost mark, in PRINT the SALE job ends FAILED, or PARTIAL once a byte has been delivered,
and its ADJUST is waited for; TEAR_WAIT and REFUND go on. A reply cut or bad is counted besides. A good reply of the
polled bay ends the exchange; its sections wait to be handed on in their order; a MISSING terminal becomes PRESENT
with no miss, and a LOST one PRESENT with TERMINAL_LOST gone and its display pending. That the 5 ms run from the
building of the poll is the model's choice (notes/assumptions/8.md), and that REPLY_GAP_EXPIRY is its own evidence of
the gap and that no card balance makes a reply bad likewise (notes/assumptions/7.md, notes/assumptions/58.md). -/
def Obligations.PollEndsGoodOrMissed : Prop :=
  (∀ (c : Instr) (bad : Bool) (s : State) (x : BusExchange), s.bus.exchange = some x →
     ((c = .replyWindowExpiry ∧ bad = false ∧ 5 ≤ (s.time.ms - x.builtAt).toNat) ∨ (c = .replyGapExpiry ∧ bad = true)
       ∨ (∃ bytes, c = .replyReceived bytes ∧ bad = true ∧ parseReply bytes = none)) →
     let b := x.poll.bay
     let u := (s.bay b).term
     ∃ t, exec c s = .next t ∧ t.bus.exchange = none ∧ t.bus.inbox = s.bus.inbox ∧ OtherContexts b s t
       ∧ t.bus.badReplies = (if bad then min (s.bus.badReplies + 1) 65535 else s.bus.badReplies)
       ∧ (u.state = .present → OtherBays b s t
           ∧ t.bay b = { s.bay b with term := { u with state := .missing, misses := 1 } })
       ∧ (u.state = .missing → u.misses < 2 → OtherBays b s t
           ∧ t.bay b = { s.bay b with term := { u with misses := u.misses + 1 } })
       ∧ (u.state = .missing → 2 ≤ u.misses → siteAbsent s.site b = false → (t.bay b).term.state = .lost
           ∧ (t.bay b).term.recoveryStart = some s.time.ms ∧ (t.ctx b).causes.terminalLost = true
           ∧ (t.bay b).printer.credit = 0 ∧ (t.bay b).inFlight = 0
           ∧ ((s.ctx b).causes.terminalLost = false → (s.ctx b).wait ≠ .places →
               ((s.ctx b).state = .idle → (t.ctx b).state = .outOfService)
               ∧ ((s.ctx b).state ∈ [.opening, .cardRead, .pricing, .priced, .tender] → Cancelled s t b)
               ∧ ((s.ctx b).state = .cardWrite → (s.exch b).phase ≠ .writing →
                   Cancelled s t b ∧ (t.ctx b).lastRefusal = some .cardTimeout)
               ∧ ((s.ctx b).state = .cardWrite → (s.exch b).phase = .writing →
                   (t.ctx b).state = .tearWait ∧ (t.exch b).phase = .presenting ∧ (t.exch b).purpose = some .retrn
                   ∧ (∀ r v, (s.exch b).request = some r → (s.exch b).fresh = some v → s.retrying b = false →
                       (s.bay b).reserved = true → s.tearOf v.serial = none →
                       (∀ c, s.slot b = some c → c.owner = .exchange) →
                       ⟨v.serial, b, r.op, r.amount, r.pass, v.pseq, v.balance, s.time.calendar, .openTxn, false⟩
                         ∈ t.card.tears))
               ∧ ((s.ctx b).state ∈ [.commit, .payout] →
                   (t.ctx b).state = (s.ctx b).state ∧ (t.ctx b).lostMark = true)
               ∧ ((s.ctx b).state ∈ [.tearWait, .refund] → (t.ctx b).state = (s.ctx b).state))
           ∧ ((s.ctx b).state = .print → (s.ctx b).wait = .receipt → ∀ j, (s.bay b).seq.job = some j → j.kind = .sale →
               (t.ctx b).state = .print ∧ (t.ctx b).wait = .adjust
               ∧ (t.ctx b).receiptOutcome = (if (s.bay b).seq.sent = 0 then .failed else .partly))))
  ∧ (∀ (s : State) (x : BusExchange) (bytes : List Byte) (r : BusReply), s.bus.exchange = some x →
     parseReply bytes = some r → r.address = x.poll.bay.val → s.bus.dropKey = false →
     let b := x.poll.bay
     ∃ t, exec (.replyReceived bytes) s = .next t ∧ t.bus.exchange = none ∧ t.bus.badReplies = s.bus.badReplies
       ∧ OtherBays b s t ∧ t.bus.inboxBay = b ∧ t.bus.inbox = r.sections (x.poll.chunk.map (·.1)) false
       ∧ t.tariff = s.tariff ∧ t.journal = s.journal ∧ t.card = s.card
       ∧ ((s.bay b).term.state = .missing ∨ (s.bay b).term.state = .lost → (t.bay b).term.state = .present
           ∧ (t.bay b).term.misses = 0 ∧ (t.ctx b).causes.terminalLost = false)
       ∧ ((s.bay b).term.state = .lost → (t.bay b).term.displayPending = true))

/-- R201: once start-up has ended, a line held active while no exchange stands begins a break, which is counted; the
break ends after 2 ms, and the rotation resumes after 10 ms more. Nothing but the bus changes. That LINE_HELD is its
own evidence of the 20 ms is the model's choice (notes/assumptions/7.md), and that the rotation resumes with its own
next bay even after a recovery poll likewise (notes/assumptions/53.md). -/
def Obligations.HeldLineIsBrokenThenWaits : Prop :=
  ∀ s : State,
    (s.up = true → s.bus.exchange = none → s.bus.recovery = .none →
      exec .lineHeld s = .next { s with bus := { s.bus with
        recovery := .breaking s.time.ms, recoveries := min (s.bus.recoveries + 1) 65535 } })
    ∧ (∀ m, s.bus.recovery = .breaking m → 2 ≤ (s.time.ms - m).toNat →
      exec .breakEnd s = .next { s with bus := { s.bus with recovery := .waiting s.time.ms } })
    ∧ (∀ m, s.bus.recovery = .waiting m → 10 ≤ (s.time.ms - m).toNat →
      exec .recoveryWaitEnd s = .next { s with bus := { s.bus with recovery := .none } })

/-! ### Key events -/

/-- R4 to R6, R8, R20, R121: a SELECT is refused with OUT_OF_SERVICE in OUT_OF_SERVICE, with BUSY in an open
transaction, and in IDLE with the code of the first gate condition that fails, each condition deciding where those
before it hold; a refused SELECT pins nothing, opens nothing, sets last_refusal and sounds DOUBLE. One that passes the
gate opens the transaction: the context takes the selection, the calendar time and the active bank, whose pin count
grows; a product sold with a card takes a reservation and reads the card, any other places its pricing request. Every
other bay is untouched. -/
def Obligations.SelectRefusedOrOpens : Prop :=
  (∀ (s : State) (b : BayNo) (q : Selection) (code : Code), s.HandsOn b (.key (.select q)) →
     ((s.ctx b).state = .outOfService ∧ code = .outOfService ∨ (s.ctx b).state.isOpen = true ∧ code = .busy
       ∨ (s.ctx b).state = .idle ∧ s.openGate b q = .inl code) →
     ∃ t, exec .select s = .next t ∧ Handed s t ∧ OtherBays b s t ∧ t.tariff = s.tariff ∧ t.journal = s.journal
       ∧ t.card = s.card ∧ t.link = s.link
       ∧ t.ctx b = { s.ctx b with
           lastRefusal := some code, overlay := .refusal code, holdCause := (t.ctx b).holdCause }
       ∧ (t.bay b).term.tone = .double ∧ (t.bay b).term.tonePending = true)
  ∧ (∀ (s : State) (b : BayNo) (q : Selection),
     let bank := s.tariff.bank s.tariff.active
     (s.journal.erasedCount < 2 → s.openGate b q = .inl .journalLow)
     ∧ (2 ≤ s.journal.erasedCount → s.time.isSet = false → s.openGate b q = .inl .timeUnset)
     ∧ (2 ≤ s.journal.erasedCount → s.time.isSet = true → s.supplyLow = true → s.openGate b q = .inl .supplyLow)
     ∧ (2 ≤ s.journal.erasedCount → s.time.isSet = true → s.supplyLow = false → bank.allValid = false →
         s.openGate b q = .inl .noBank)
     ∧ (2 ≤ s.journal.erasedCount → s.time.isSet = true → s.supplyLow = false → bank.allValid = true →
         (s.offered q = none → s.openGate b q = .inl .noProduct)
         ∧ (∀ p, s.offered q = some p →
             (p.fits q = false → s.openGate b q = .inl .badRequest)
             ∧ (p.fits q = true → p.kind = .passPrinted → (s.bay b).printer.paper = .out →
                 s.openGate b q = .inl .noPaper)
             ∧ (p.fits q = true → (p.kind ≠ .passPrinted ∨ (s.bay b).printer.paper ≠ .out) →
                 (p.kind ≠ .passPrinted ∨ q.cardIntended = true) →
                 16 ≤ s.card.tears.length + s.reservations → s.openGate b q = .inl .cardBusy)
             ∧ (p.fits q = true → (p.kind ≠ .passPrinted ∨ (s.bay b).printer.paper ≠ .out) →
                 (p.kind = .passPrinted ∧ q.cardIntended = false
                   ∨ s.card.tears.length + s.reservations < 16) → s.openGate b q = .inr p))))
  ∧ (∀ (s : State) (b : BayNo) (q : Selection) (p : Product), s.HandsOn b (.key (.select q)) → (s.ctx b).state = .idle →
     s.openGate b q = .inr p →
     ∃ t, exec .select s = .next t ∧ Handed s t ∧ OtherBays b s t ∧ t.journal = s.journal ∧ t.card = s.card
       ∧ t.time = s.time ∧ t.tariff.pins s.tariff.active = s.tariff.pins s.tariff.active + 1
       ∧ t.tariff.active = s.tariff.active
       ∧ (t.ctx b).product = some q.product ∧ (t.ctx b).cls = some q.cls ∧ (t.ctx b).quantity = q.quantity
       ∧ (t.ctx b).cardIntended = q.cardIntended ∧ (t.ctx b).bank = some s.tariff.active
       ∧ (t.ctx b).openTime = some s.time.calendar ∧ (t.ctx b).lastChange = s.time.ms
       ∧ (p.usesZones = true → (t.ctx b).origin = q.zones.map (·.1) ∧ (t.ctx b).destination = q.zones.map (·.2))
       ∧ (p.kind = .topup → (t.ctx b).topupAmount = q.topup)
       ∧ (p.usesZones = false → (t.ctx b).origin = none ∧ (t.ctx b).destination = none)
       ∧ (p.kind ≠ .topup → (t.ctx b).topupAmount = none)
       ∧ (t.bay b).reserved = p.withCard q
       ∧ (p.withCard q = true → (t.ctx b).state = .cardRead ∧ (t.exch b).phase = .presenting
           ∧ (t.exch b).purpose = some .read)
       ∧ (p.withCard q = false → (t.ctx b).state = .pricing
           ∧ ∃ r, (t.tariff.evaluating = some r ∨ r ∈ t.tariff.queue) ∧ r.bay = b ∧ r.product = q.product
               ∧ r.bank = s.tariff.active))

/-- R11, R12: a CONFIRM in PRICED that fails a check is refused with its code: the context stays in PRICED with its
method and last_change as they were. One that passes sets method and receipt_wanted, forced to yes for a printed pass.
With a method other than the price's the context enters PRICING. With the price's: PURSE and a card balance below the
price is refused with INSUFFICIENT, and the method is absent again; a price of 0 goes on to the card write, or to
COMMIT for a printed pass; PURSE to the card write; and COINS to TENDER. -/
def Obligations.ConfirmRefusesOrLeadsOn : Prop :=
  ∀ (s : State) (b : BayNo) (m : Method) (w : Bool) (p : Product), s.HandsOn b (.key (.confirm m w)) →
    (s.ctx b).state = .priced → (s.ctx b).wait ≠ .places → s.product b = some p →
    let price := (s.ctx b).price.getD 0
    let balance := ((s.ctx b).card.map CardValues.balance).getD 0
    ∃ t, exec .confirm s = .next t ∧ Handed s t ∧ OtherContexts b s t
      ∧ (∀ code, s.confirmFailure b p m = some code → (t.ctx b).state = .priced ∧ (t.ctx b).lastRefusal = some code
          ∧ (t.ctx b).method = (s.ctx b).method ∧ (t.ctx b).lastChange = (s.ctx b).lastChange)
      ∧ (s.confirmFailure b p m = none →
          (t.ctx b).receiptWanted = (w || decide (p.kind = .passPrinted))
          ∧ ((s.ctx b).priceMethod ≠ some m →
            (t.ctx b).state = .pricing ∧ (t.ctx b).method = some m
            ∧ ∃ r, (t.tariff.evaluating = some r ∨ r ∈ t.tariff.queue) ∧ r.bay = b ∧ r.method = m)
          ∧ ((s.ctx b).priceMethod = some m →
            (m = .purse → balance < price → (t.ctx b).state = .priced ∧ (t.ctx b).method = none
              ∧ (t.ctx b).lastRefusal = some .insufficient)
            ∧ (price = 0 → (t.ctx b).method = some m
              ∧ (t.ctx b).state = (if p.kind = .passPrinted then .commit else .cardWrite))
            ∧ (m = .purse → 0 < price → price ≤ balance →
              (t.ctx b).state = .cardWrite ∧ (t.ctx b).method = some .purse)
            ∧ (m = .coins → 0 < price →
              (t.ctx b).state = .tender ∧ (t.ctx b).method = some .coins ∧ (t.bay b).mask = t.maskOf b)))

/-- R7, R18: a CANCEL in CARD_READ, PRICING, PRICED or TENDER with no credited overflow value returns the escrow and
closes the transaction: the bank is unpinned and the context comes to rest in IDLE, or OUT_OF_SERVICE with a cause
standing; with overflow value, which only TENDER credits, the context is in REFUND. In CARD_WRITE and TEAR_WAIT the please-wait text is shown
and nothing else happens; in COMMIT, PAYOUT, PRINT and REFUND it is ignored, and in IDLE and OUT_OF_SERVICE it
changes nothing, but that a text laid over the display ends with the key event (R19). How long the text stays is the model's
choice (notes/assumptions/39.md). -/
def Obligations.CancelClosesWaitsOrIsIgnored : Prop :=
  ∀ (s : State) (b : BayNo), s.HandsOn b (.key .cancel) → (s.ctx b).wait ≠ .places →
    ∃ t, exec .cancel s = .next t ∧ Handed s t ∧ OtherContexts b s t
      ∧ ((s.ctx b).state ∈ [.cardRead, .pricing, .priced, .tender] →
          (t.ctx b).state ∈ [.refund, .idle, .outOfService] ∧ (t.exch b).phase = .idle
          ∧ (0 < (s.ctx b).overflowValue → (t.ctx b).state = .refund)
          ∧ ((s.bay b).escrow.pulse = none → (t.bay b).escrow.pulse = some s.time.ms ∧ (t.ctx b).coins = [])
          ∧ ((s.ctx b).overflowValue = 0 → siteAbsent s.site b = false → ∀ k, (s.ctx b).bank = some k →
            t.tariff.pins k = s.tariff.pins k - 1 ∧ t.journal = s.journal
            ∧ (t.ctx b).state = (if (s.ctx b).causes.isEmpty then .idle else .outOfService)
            ∧ (t.ctx b).bank = none ∧ (t.ctx b).product = none ∧ (t.ctx b).price = none
            ∧ (t.ctx b).causes = (s.ctx b).causes ∧ (t.bay b).reserved = false))
      ∧ ((s.ctx b).state = .cardWrite ∨ (s.ctx b).state = .tearWait →
          t.ctx b = { s.ctx b with overlay := .pleaseWait, holdCause := (t.ctx b).holdCause }
          ∧ t.exch b = s.exch b ∧ t.card = s.card ∧ t.journal = s.journal)
      ∧ ((s.ctx b).state ∈ [.commit, .payout, .print, .refund, .idle, .outOfService] →
          t.ctx b = { s.ctx b with overlay := .none, holdCause := (t.ctx b).holdCause } ∧ t.exch b = s.exch b
          ∧ t.card = s.card ∧ t.journal = s.journal)

/-- R8, R148: a REPRINT in IDLE without a last-receipt record, or with one older than 60 s, is refused with
NO_RECEIPT, and with paper OUT refused with NO_PAPER. With a record whose tables stand and the sequencer IDLE at a
terminal not LOST, the record is taken and a REPRINT job of it is started, marked as a duplicate. -/
def Obligations.ReprintRefusesOrStartsJob : Prop :=
  ∀ (s : State) (b : BayNo), s.HandsOn b (.key .reprint) → (s.ctx b).state = .idle →
    ∃ t, exec .reprint s = .next t ∧ Handed s t ∧ OtherBays b s t ∧ t.tariff = s.tariff ∧ t.journal = s.journal
      ∧ (t.ctx b).state = .idle
      ∧ ((s.bay b).lastReceipt = none → (t.ctx b).lastRefusal = some .noReceipt ∧ (t.bay b).seq = (s.bay b).seq)
      ∧ (∀ r, (s.bay b).lastReceipt = some r →
          (60000 ≤ (s.time.ms - r.printedAt).toNat →
            (t.ctx b).lastRefusal = some .noReceipt ∧ (t.bay b).seq = (s.bay b).seq)
          ∧ ((s.time.ms - r.printedAt).toNat < 60000 → (s.bay b).printer.paper = .out →
            (t.ctx b).lastRefusal = some .noPaper ∧ (t.bay b).seq = (s.bay b).seq)
          ∧ ((s.time.ms - r.printedAt).toNat < 60000 → (s.bay b).printer.paper ≠ .out → s.unchanged r = true →
              (s.bay b).seq.state = .idle → (s.bay b).seq.waiting = none → (s.bay b).term.state ≠ .lost →
            (t.ctx b).lastRefusal = (s.ctx b).lastRefusal ∧ (t.bay b).lastReceipt = none
            ∧ ((t.bay b).seq.job = some r.job ∧ r.job.snapshot.duplicate = true
                ∨ (t.bay b).seq.job = none ∧ (t.bay b).seq.lastReprint = .printed)))

/-! ### Card work -/

/-- R111, R198: an acknowledgement of the mark in the card slot marks the command taken; a NO_CARD answer of that mark
to a READ of an exchange in PRESENTING is followed by a new READ under the next mark; an answer of another mark is
discarded. Nothing but the bay's card slot and marks changes. -/
def Obligations.CardAnswersNeedTheSlotMark : Prop :=
  ∀ (s : State) (b : BayNo) (m : Nat) (c : CardSlot), s.slot b = some c →
    (s.HandsOn b (.taken m) →
      ∃ t, exec .cardCommandTaken s = .next t ∧ Handed s t ∧ OtherBays b s t
        ∧ t = { s with bays := t.bays, bus := t.bus }
        ∧ t.bay b = { s.bay b with term := { (s.bay b).term with
            cardSlot := some (if c.mark = m then { c with taken := true } else c) } })
    ∧ (s.HandsOn b (.answer m .noCard) → c.mark ≠ m ∨ (c.command = .read ∧ c.owner ≠ .reapplication) →
      ∃ t, exec .cardAnswerNoCard s = .next t ∧ Handed s t ∧ OtherBays b s t
        ∧ t = { s with bays := t.bays, bus := t.bus } ∧ t.ctx b = s.ctx b ∧ t.exch b = s.exch b
        ∧ (c.mark ≠ m → t.bay b = s.bay b)
        ∧ (c.mark = m → (s.exch b).phase = .presenting →
            t.slot b = some ⟨.read, (s.bay b).term.nextCardMark, none, false, .exchange⟩
            ∧ (t.bay b).term.nextCardMark =
                (if (s.bay b).term.nextCardMark < 255 then (s.bay b).term.nextCardMark + 1 else 1))
        ∧ (c.mark = m → (s.exch b).phase ≠ .presenting → t.slot b = none))

/-- R9, R112, R113: a CARD answer to the READ of an exchange for CARD_READ, of a serial without a tear entry, is the
good read: the context keeps its values and enters PRICING with a request placed, unless the deny lookup answers yes;
then the refusal is CARD_DENIED and the transaction is cancelled: it is in REFUND, or closed. The lookup answers yes
for a listed serial, and for every serial while the live deny table is invalid. That a balance above 999,999 is kept as
it stands is the model's choice (notes/assumptions/58.md). -/
def Obligations.GoodReadPricesDeniedCancels : Prop :=
  ∀ (s : State) (b : BayNo) (v : CardValues) (c : CardSlot), s.slot b = some c → c.command = .read →
    c.owner = .exchange → s.HandsOn b (.answer c.mark (.card v)) → (s.exch b).phase = .presenting →
    (s.exch b).purpose = some .read → s.tearOf v.serial = none →
    ∃ t, exec .cardAnswerCard s = .next t ∧ Handed s t ∧ OtherContexts b s t
      ∧ (s.tariff.deny.valid = true → (∀ e ∈ s.tariff.deny.entries, beNat e ≠ v.serial.toNat) →
          (t.ctx b).card = some v ∧ (t.ctx b).state = .pricing ∧ (t.exch b).phase = .idle
          ∧ ∃ r, (t.tariff.evaluating = some r ∨ r ∈ t.tariff.queue) ∧ r.bay = b ∧ r.slots = some v.slots)
      ∧ (s.tariff.deny.valid = false ∨ (∃ e ∈ s.tariff.deny.entries, beNat e = v.serial.toNat) →
          (t.ctx b).lastRefusal = some .cardDenied ∧ (t.exch b).phase = .idle
          ∧ ((t.ctx b).state = .refund ∨ (t.ctx b).state = .idle ∨ (t.ctx b).state = .outOfService))

/-- R116 to R118, R121: the write a CARD answer issues is issued on the values just read and stays within the purse:
it is for the serial of the context's card record, which is not denied; its expected sequence is the one just read;
the balance it would leave lies within 0 and the purse ceiling; and no supply warning is asserted. From then on the
presentation limit does not run, and limit start stays. A write that
another bay's outstanding write to the same card bars is not issued, and the card is read again, which is the model's
choice (notes/assumptions/45.md). -/
def Obligations.FreshReadIssuesWithinPurse : Prop :=
  ∀ (s : State) (b : BayNo) (v : CardValues) (r : WriteRequest) (c : CardSlot), s.slot b = some c →
    c.command = .read → c.owner = .exchange → s.HandsOn b (.answer c.mark (.card v)) →
    (s.exch b).phase = .presenting → (s.exch b).purpose = some .write → (s.exch b).request = some r →
    s.tearOf v.serial = none →
    ∃ t, exec .cardAnswerCard s = .next t ∧ OtherContexts b s t
      ∧ ((t.exch b).phase = .writing →
          t.slot b = some ⟨.write r.op v.serial r.amount v.pseq r.pass, (s.bay b).term.nextCardMark, none, false,
            .exchange⟩
          ∧ (s.ctx b).cardIs v.serial = true ∧ s.denied v.serial = false ∧ s.supplyLow = false
          ∧ 0 ≤ balanceAfterOp r.op v.balance r.amount
          ∧ balanceAfterOp r.op v.balance r.amount ≤ (siteCeiling s.site : Int)
          ∧ (t.ctx b).state = (s.ctx b).state ∧ (t.exch b).limitStart = (s.exch b).limitStart
          ∧ exec (.presentationLimitExpiry b) t = .next t)
      ∧ ((s.ctx b).cardIs v.serial = true → s.freshFailure b r v = none → s.supplyLow = false → s.link.online = true →
          r.amount ≤ siteThreshold s.site → t.card = s.card
          ∧ ((∀ d, d ≠ b → s.writingTo d v.serial = false) → (t.exch b).phase = .writing)
          ∧ ((∃ d, d ≠ b ∧ s.writingTo d v.serial = true) →
              (t.exch b).phase = .presenting ∧ (t.slot b).map CardSlot.command = some .read))
      ∧ ((s.ctx b).cardIs v.serial = false → (t.ctx b).lastRefusal = some .wrongCard
          ∧ (t.ctx b).state = (s.ctx b).state ∧ (t.exch b).phase = .presenting)

/-- R14, R109, R119 to R121: the OK of an issued write commits the transaction with card_outcome DONE and the new
balance, its SALE requested; a REFUSED ends it with the card's reason as refusal. 500 ms after its first sending
without an answer, a READ of an exchange in PRESENTING counts as NO_CARD and a new READ follows; an issued write that
is no retry has an unknown outcome: an entry owned by the open transaction joins the pending tear table with the
values of the fresh read, the reservation becomes it, and the context waits in TEAR_WAIT for the card. That a new
balance above 999,999 is taken as it stands is the model's choice (notes/assumptions/58.md). -/
def Obligations.WriteAnsweredOrLost : Prop :=
  (∀ (s : State) (b : BayNo) (c : CardSlot), s.slot b = some c → c.command ≠ .read → c.owner = .exchange →
     (∀ balance pseq, s.HandsOn b (.answer c.mark (.ok balance pseq)) →
       ∃ t, exec .writeAnswerOk s = .next t ∧ Handed s t ∧ OtherContexts b s t
         ∧ (t.ctx b).state = .commit ∧ (t.ctx b).cardOutcome = .done ∧ (t.ctx b).balanceAfter = some balance
         ∧ (t.ctx b).coins = [] ∧ (t.exch b).phase = .idle ∧ t.slot b = none
         ∧ ∃ x, ⟨.sale x, some b, .ctx b⟩ ∈ t.journal.queue ++ t.journal.waitList)
     ∧ (∀ why, s.HandsOn b (.answer c.mark (.refused why)) →
       ∃ t, exec .writeAnswerRefused s = .next t ∧ Handed s t ∧ OtherContexts b s t
         ∧ (t.ctx b).lastRefusal = some why.code ∧ (t.exch b).phase = .idle
         ∧ ((t.ctx b).state = .refund ∨ (t.ctx b).state = .idle ∨ (t.ctx b).state = .outOfService)))
  ∧ (∀ (s : State) (b : BayNo) (c : CardSlot) (m : Ms), s.slot b = some c → c.firstSent = some m →
     c.owner = .exchange → 500 ≤ (s.time.ms - m).toNat →
     ∃ t, exec (.cardCommandTimeout b) s = .next t ∧ OtherBays b s t ∧ t.journal = s.journal
       ∧ (c.command = .read → (s.exch b).phase = .presenting → t.ctx b = s.ctx b ∧ t.card = s.card
           ∧ (t.slot b).map CardSlot.command = some .read)
       ∧ (∀ r v, c.command ≠ .read → (s.exch b).request = some r → (s.exch b).fresh = some v →
           (s.bay b).authWait = none → s.retrying b = false → (s.bay b).reserved = true → s.tearOf v.serial = none →
           (t.ctx b).state = .tearWait ∧ (t.bay b).reserved = false ∧ (t.exch b).purpose = some .retrn
           ∧ (t.exch b).phase = .presenting ∧ (t.slot b).map CardSlot.command = some .read
           ∧ (t.bay b).term.tone = .rept
           ∧ t.card = { s.card with tears := s.card.tears ++
               [⟨v.serial, b, r.op, r.amount, r.pass, v.pseq, v.balance, s.time.calendar, .openTxn, false⟩] }))

/-- R14, R122, R123: in TEAR_WAIT the owner's card settles its own entry: APPLIED removes it and commits with
card_outcome DONE; NOT_APPLIED with the retry unused keeps it and enters CARD_WRITE once more; CONFLICT closes it and
commits with card_outcome PENDING. -/
def Obligations.OwnTearSettled : Prop :=
  ∀ (s : State) (b : BayNo) (v : CardValues) (c : CardSlot) (e : Tear), s.slot b = some c → c.command = .read →
    c.owner = .exchange → s.HandsOn b (.answer c.mark (.card v)) → (s.exch b).phase = .presenting →
    (s.exch b).purpose = some .retrn → s.tearOf v.serial = some e → e.closing = false → e.owner = .openTxn →
    e.bay = b →
    ∃ t, exec .cardAnswerCard s = .next t ∧ OtherContexts b s t
      ∧ (e.judge v = .applied → (t.ctx b).state = .commit ∧ (t.ctx b).cardOutcome = .done
          ∧ t.tearOf v.serial = none)
      ∧ (e.judge v = .notApplied → (s.ctx b).writeRetried = false → (t.ctx b).state = .cardWrite
          ∧ (t.ctx b).writeRetried = true ∧ t.card = s.card ∧ (t.exch b).purpose = some .write
          ∧ (t.exch b).limitStart = some s.time.ms)
      ∧ (e.judge v = .conflict → (t.ctx b).state = .commit ∧ (t.ctx b).cardOutcome = .pending
          ∧ ∃ f, t.tearOf v.serial = some f ∧ f.closing = true)

/-- R7, R14, R115, R127, R128, R130: the limits. The presentation limit ends a write not issued with CARD_TIMEOUT; 3 s
end an authorisation wait with AUTH_TIMEOUT; the 20 s of TEAR_WAIT commit with card_outcome PENDING and the entry
kept; the 30 s of CARD_READ refuse with CARD_TIMEOUT; the limits of PRICED and TENDER cancel. The oldest tear entry
that has expired is closed with TEAR EXPIRED, its record requested and its closing mark set, one entry to a command
(the model's reading, notes/assumptions/32.md); while the calendar time is UNSET no entry expires. -/
def Obligations.LimitsAndExpiryEndTheirWaits : Prop :=
  (∀ (s : State) (b : BayNo),
     (∀ m, (s.exch b).limitStart = some m → (s.exch b).phase.limited = true → 20000 ≤ (s.time.ms - m).toNat →
       ∃ t, exec (.presentationLimitExpiry b) s = .next t ∧ OtherContexts b s t
         ∧ (t.ctx b).lastRefusal = some .cardTimeout ∧ (t.exch b).phase = .idle ∧ (t.bay b).authWait = none)
     ∧ (∀ w, (s.bay b).authWait = some w → 3000 ≤ (s.time.ms - w.sentAt).toNat →
       ∃ t, exec (.authWaitExpiry b) s = .next t ∧ OtherContexts b s t
         ∧ (t.ctx b).lastRefusal = some .authTimeout ∧ (t.exch b).phase = .idle ∧ (t.bay b).authWait = none)
     ∧ ((s.ctx b).wait = .none →
       ∃ t, exec (.contextTimeout b) s = .next t ∧ OtherContexts b s t
         ∧ ((s.ctx b).state = .tearWait → 20000 ≤ (s.time.ms - (s.ctx b).lastChange).toNat →
             (t.ctx b).state = .commit ∧ (t.ctx b).cardOutcome = .pending ∧ t.card = s.card)
         ∧ ((s.ctx b).state = .cardRead → 30000 ≤ (s.time.ms - (s.ctx b).lastChange).toNat →
             (t.ctx b).lastRefusal = some .cardTimeout ∧ (t.exch b).phase = .idle)
         ∧ ((s.ctx b).state = .priced ∧ 60000 ≤ (s.time.ms - (s.ctx b).lastChange).toNat
               ∨ (s.ctx b).state = .tender ∧ 90000 ≤ (s.time.ms - (s.ctx b).lastChange).toNat →
             ((t.ctx b).state = .refund ∨ (t.ctx b).state = .idle ∨ (t.ctx b).state = .outOfService)
             ∧ ((s.bay b).escrow.pulse = none → (t.ctx b).coins = []))))
  ∧ (∀ s : State, ∃ t, exec .tearExpiry s = .next t ∧ t.bays = s.bays ∧ t.tariff = s.tariff ∧ t.time = s.time
     ∧ (s.time.isSet = false → t = s)
     ∧ (s.up = true → ∀ e, s.card.tears.find? s.expired = some e →
         t.card = { s.card with
           tears := s.card.tears.map fun x => if x.serial = e.serial then { x with closing := true } else x }
         ∧ ∃ r ∈ t.journal.queue ++ t.journal.waitList,
             r.body = .tear .expired e.serial e.op e.amount e.owner.sequence none .none))

/-! ### Fares -/

/-- R10, R12, R41, R47, R48: at the end of an evaluation the idle evaluator takes the next request, which is the head
of the queue where no other request of the same bay waits in it. A result that is not withdrawn is taken in PRICING:
the price, its method and its flags are stored and the context enters PRICED. There it stays, with price and flags on
its display, unless a CONFIRM came before, which leads it on as R12 gives. A runaway ends the transaction with
TARIFF_ERROR, and a pass without a free slot with NO_SLOT: it is in REFUND, or closed. A withdrawn one changes no
context. -/
def Obligations.EvaluationResultPricesOrEnds : Prop :=
  ∀ (s : State) (r : PriceRequest), s.tariff.evaluating = some r →
    ∃ t, exec .evaluationEnd s = .next t ∧ OtherContexts r.bay s t ∧ t.time = s.time
      ∧ (r.withdrawn = true → t.bays = s.bays ∧ t.tariff.evaluating = s.tariff.queue.head?
          ∧ t.tariff.queue = s.tariff.queue.drop 1)
      ∧ ((∀ q ∈ s.tariff.queue, q.bay ≠ r.bay) →
          t.tariff.evaluating = s.tariff.queue.head? ∧ t.tariff.queue = s.tariff.queue.drop 1)
      ∧ (r.withdrawn = false → (s.ctx r.bay).state = .pricing → (s.ctx r.bay).wait ≠ .places →
          (∀ amount flags plan, (s.tariff.bank r.bank).evaluate r = .price amount flags plan →
            ((s.ctx r.bay).method = none →
              OtherBays r.bay s t ∧ (t.ctx r.bay).state = .priced ∧ (t.ctx r.bay).price = some amount
              ∧ (t.ctx r.bay).priceMethod = some r.method ∧ (t.ctx r.bay).evalFlags = flags
              ∧ (t.ctx r.bay).passPlan = plan ∧ (t.ctx r.bay).lastChange = s.time.ms
              ∧ (t.bay r.bay).term.screen.amounts = [amount] ∧ (t.bay r.bay).term.screen.flags = some flags
              ∧ t.tariff.evaluating = s.tariff.queue.head? ∧ t.tariff.queue = s.tariff.queue.drop 1)
            ∧ ((s.ctx r.bay).method = some .coins → 0 < amount →
              (t.ctx r.bay).state = .tender ∧ (t.ctx r.bay).price = some amount
              ∧ (t.ctx r.bay).priceMethod = some r.method ∧ (t.ctx r.bay).method = some .coins)
            ∧ (∀ m v, (s.ctx r.bay).method = some m → (s.ctx r.bay).card = some v →
              (m = .purse → v.balance < amount → (t.ctx r.bay).state = .priced ∧ (t.ctx r.bay).price = some amount
                ∧ (t.ctx r.bay).method = none ∧ (t.ctx r.bay).lastRefusal = some .insufficient)
              ∧ (m = .purse → 0 < amount → amount ≤ v.balance → (t.ctx r.bay).state = .cardWrite
                ∧ (t.ctx r.bay).price = some amount)))
          ∧ ((s.tariff.bank r.bank).evaluate r = .runaway → (t.ctx r.bay).lastRefusal = some .tariffError
              ∧ ((t.ctx r.bay).state = .refund ∨ (t.ctx r.bay).state = .idle ∨ (t.ctx r.bay).state = .outOfService))
          ∧ ((s.tariff.bank r.bank).evaluate r = .noSlot → (t.ctx r.bay).lastRefusal = some .noSlot
              ∧ ((t.ctx r.bay).state = .refund ∨ (t.ctx r.bay).state = .idle ∨ (t.ctx r.bay).state = .outOfService)))

/-- R28, R32 to R36, R41, R42, R47: a fare chain. A run of arithmetic entries acts on the fare in order, a step each;
a TEST that holds goes on, and one that does not passes over its n entries, each of which counts a step; GOTO goes to
its target; END gives the fare; 64 steps without an END, or an index past the entries, is a runaway. The fare starts
at the amount of a top-up and else at 0; the price is the fare times the quantity, or the fare itself for a top-up,
saturating, with ZERO where it is 0. A pass on a card carries its plan, or has no slot. -/
def Obligations.FareChainRunsToPrice : Prop :=
  (∀ (rules : List (List Byte)) (mode : PercentMode) (d : Derived) (steps i : Nat) (fare : Fare),
    let at_ (k : Nat) : Option RuleEntry := rules[k]?.bind decodeRule
    let run := runChain rules mode d
    (∀ es : List RuleEntry, (∀ k (h : k < es.length), at_ (i + k) = some es[k]) →
        (∀ e ∈ es, e ≠ .finish ∧ (∀ g, e ≠ .goto g) ∧ ∀ f c v n, e ≠ .test f c v n) →
        run (steps + es.length) i 0 fare = run steps (i + es.length) 0 (es.foldl (fun x e => e.act mode d x) fare))
    ∧ (∀ f c v n, at_ i = some (.test f c v n) → i + n < rules.length →
        run (steps + 1 + n) i 0 fare = (if c.holds (d.get f) v then run (steps + n) (i + 1) 0 fare
          else run steps (i + 1 + n) 0 fare))
    ∧ (∀ g, at_ i = some (.goto g) → run (steps + 1) i 0 fare = run steps g 0 fare)
    ∧ (at_ i = some .finish → run (steps + 1) i 0 fare = some fare)
    ∧ (rules.length ≤ i → run steps i 0 fare = none) ∧ run 0 i 0 fare = none)
  ∧ (∀ (t : BankTables) (r : PriceRequest) (p : Product), t.findProduct r.product = some p →
    let d := t.derive p r
    let chain := runChain t.rule.entries t.mode d 64 p.chainStart 0
      ⟨if p.kind = .topup then r.topupAmount.getD 0 else 0, EvalFlags.empty⟩
    (chain = none → t.evaluate r = .runaway)
    ∧ (∀ fare, chain = some fare →
        let sum := if p.kind = .topup then fare.f else fare.f * r.quantity
        let price := if p.kind = .topup then sum else min sum 999999
        let flags := { fare.flags with
          clampHigh := fare.flags.clampHigh || decide (p.kind ≠ .topup ∧ 999999 < sum)
          zero := decide (price = 0) }
        (p.kind ≠ .passOnCard → t.evaluate r = .price price flags none)
        ∧ (∀ plan, p.kind = .passOnCard → passPlanOf p r = some plan → t.evaluate r = .price price flags (some plan))
        ∧ (p.kind = .passOnCard → passPlanOf p r = none → t.evaluate r = .noSlot)))

/-- R37 to R40: what each entry does to a fare in 0 to 999,999. BASE, PER_ZONE and ADD take the exact sum, saturated
at 0 and 999,999 with CLAMP_LOW and CLAMP_HIGH; PERCENT divides by 10,000 under the bank's mode, and ROUND goes to a
multiple of its unit, each with ROUNDED where the exact value is not met; CAP and FLOOR bound the fare, CAP with
CAPPED. Every result lies in 0 to 999,999. -/
def Obligations.FareArithmetic : Prop :=
  ∀ (mode : PercentMode) (d : Derived) (f : Nat) (flags : EvalFlags), f ≤ 999999 →
    let act (e : RuleEntry) : Fare := e.act mode d ⟨f, flags⟩
    let saturated (x : Int) : Fare := ⟨(max 0 (min x 999999)).toNat, { flags with
      clampLow := flags.clampLow || decide (x < 0), clampHigh := flags.clampHigh || decide (999999 < x) }⟩
    let near (q : Nat) (off : Bool) : Fare := ⟨min q 999999, { flags with
      clampHigh := flags.clampHigh || decide (999999 < q), rounded := flags.rounded || off }⟩
    (∀ a : Nat, a ≤ 999999 → act (.base a) = ⟨a, flags⟩)
    ∧ (∀ a : Nat, act (.perZone a) = saturated (f + a * d.zones : Nat))
    ∧ (∀ a : Int, act (.add a) = saturated (f + a))
    ∧ (∀ p : Int, -10000 ≤ p →
        let x := f * (10000 + p).toNat
        ∃ q, act (.percent p) = near q (decide (¬ 10000 ∣ x))
          ∧ (mode = .down → 10000 * q ≤ x ∧ x < 10000 * (q + 1))
          ∧ (mode = .up → x ≤ 10000 * q ∧ 10000 * q < x + 10000)
          ∧ (mode = .halfUp → 10000 * q ≤ x + 5000 ∧ x + 5000 < 10000 * (q + 1)))
    ∧ (∀ u m, 0 < u → ∃ q, act (.round u m) = near q (decide (q ≠ f)) ∧ u ∣ q
          ∧ (m = .down → q ≤ f ∧ f < q + u)
          ∧ (m = .up → f ≤ q ∧ q < f + u)
          ∧ (m = .nearest → 2 * q ≤ 2 * f + u ∧ 2 * f < 2 * q + u))
    ∧ (∀ a : Nat, act (.cap a) = ⟨min f a, { flags with capped := flags.capped || decide (a < f) }⟩)
    ∧ (∀ a : Nat, act (.floor a) = ⟨max f a, flags⟩)
    ∧ (∀ e, (∀ a, e = .floor a → a ≤ 999999) → (act e).f ≤ 999999)

/-- R27 to R30, R43 to R45: the derived fields and the pass plan of a request. ZONES counts rings; BAND is the band
the open minute lies in, the eight starts rising from 0; DAYTYPE is 2 on a holiday and else follows the weekday; HOLDS
is 1 where a slot holds the product to today or later. A plan renews the slot of the same product that lasts longest,
from the day after, else takes the lowest empty slot, else the lowest slot that has run out, from today; else there is
none. It lasts the product's validity for each of the quantity, and day numbers saturate at 65,535. -/
def Obligations.DerivedFieldsAndPassPlans : Prop :=
  (∀ (t : BankTables) (p : Product) (r : PriceRequest),
    let d := t.derive p r
    let start (i : Nat) : Nat := field ((t.calendar.entries[i]?).getD []) 0 2
    let today := r.openTime.day
    d.cls = r.cls ∧ d.qty = r.quantity ∧ d.method = (if r.method = .coins then 0 else 1)
    ∧ d.amount = (if p.kind = .topup then r.topupAmount.getD 0 else 0)
    ∧ (p.usesZones = false → d.zones = 1)
    ∧ (∀ o e, p.usesZones = true → r.origin = some o → r.destination = some e →
        d.zones = ((t.ring o : Int) - t.ring e).natAbs + 1)
    ∧ (8 ≤ t.calendar.entries.length → start 0 = 0 → (∀ i < 7, start i < start (i + 1)) →
        d.band < 8 ∧ start d.band ≤ r.openTime.minute ∧ (d.band < 7 → r.openTime.minute < start (d.band + 1)))
    ∧ ((∃ i, 8 ≤ i ∧ i < t.calendar.entries.length ∧ start i = today) → d.dayType = 2)
    ∧ ((∀ i, 8 ≤ i → i < t.calendar.entries.length → start i ≠ today) →
        d.dayType = (if today % 7 ≤ 4 then 0 else if today % 7 = 5 then 1 else 2))
    ∧ (d.holds = 1 ↔ ∃ v, r.slots = some v ∧
        ∃ i : Fin 4, ∃ x, v[i] = some x ∧ x.product = r.product ∧ today ≤ x.validTo)
    ∧ d.holds ≤ 1)
  ∧ (∀ (p : Product) (r : PriceRequest) (v : Vector (Option PassSlot) 4), r.slots = some v →
    let today := r.openTime.day
    let days := (if p.validity = 0 then 1 else p.validity) * r.quantity
    let planned (i : Fin 4) (start : Nat) : Prop :=
      passPlanOf p r = some ⟨i.val, min start 65535, min (start + days - 1) 65535⟩
    let renews (i : Fin 4) (x : PassSlot) : Prop := v[i] = some x ∧ x.product = r.product ∧ today ≤ x.validTo
    let out (i : Fin 4) : Prop := ∃ x, v[i] = some x ∧ x.validTo < today
    (∀ (i : Fin 4) x, renews i x →
        (∀ (j : Fin 4) y, renews j y → y.validTo ≤ x.validTo ∧ (y.validTo = x.validTo → i ≤ j)) → planned i (x.validTo + 1))
    ∧ ((∀ (i : Fin 4) x, ¬ renews i x) →
        (∀ i : Fin 4, v[i] = none → (∀ j : Fin 4, v[j] = none → i ≤ j) → planned i today)
        ∧ ((∀ i : Fin 4, v[i] ≠ none) →
            (∀ i : Fin 4, out i → (∀ j : Fin 4, out j → i ≤ j) → planned i today)
            ∧ ((∀ i : Fin 4, ¬ out i) → passPlanOf p r = none))))
  ∧ ∀ (p : Product) (today : Nat), today ≤ 65535 →
      printedPeriod p today = (today, min (today + (if p.validity = 0 then 1 else p.validity) - 1) 65535)

/-! ### Coin lines and payout -/

/-- R69 to R71: a raw change starts the filter time; once start-up has ended, a level held for the filter time becomes
the filtered level. A filtered falling edge in IDLE begins a train with no pulse and not malformed; a filtered rising
edge in a pulse counts it, no further than 9, and marks the train malformed for a width outside 10 to 120 ms or a
ninth pulse. Nothing but the bay's receiver changes. -/
def Obligations.CoinEdgesCountPulses : Prop :=
  ∀ (s : State) (b : BayNo),
    (∀ high, ∃ t, exec (.coinLineChange b high) s = .next t ∧ OtherBays b s t ∧ t = { s with bays := t.bays }
      ∧ t.bay b = { s.bay b with coin := (t.bay b).coin } ∧ (t.bay b).coin.rawHigh = high
      ∧ ((s.bay b).coin.rawHigh ≠ high → (t.bay b).coin.rawSince = s.time.ms))
    ∧ (s.up = true → s.edgeDue b false = true →
      ∃ t, exec (.filteredFallingEdge b) s = .next t ∧ OtherBays b s t ∧ t = { s with bays := t.bays }
        ∧ t.bay b = { s.bay b with coin := (t.bay b).coin } ∧ (t.bay b).coin.filteredHigh = false
        ∧ ((s.bay b).coin.capture = .idle → (s.bay b).coin.fault = false → (s.bay b).coin.coinOff = false →
            (t.bay b).coin.capture = .inPulse ∧ (t.bay b).coin.pulses = 0 ∧ (t.bay b).coin.malformed = false
            ∧ (t.bay b).coin.lastEdge = some s.time.ms))
    ∧ (s.up = true → s.edgeDue b true = true →
      ∃ t, exec (.filteredRisingEdge b) s = .next t ∧ OtherBays b s t ∧ t = { s with bays := t.bays }
        ∧ t.bay b = { s.bay b with coin := (t.bay b).coin } ∧ (t.bay b).coin.filteredHigh = true
        ∧ (∀ m, (s.bay b).coin.capture = .inPulse → (s.bay b).coin.fault = false →
            (s.bay b).coin.lastEdge = some m →
            let width := (s.time.ms - m).toNat
            let n := min ((s.bay b).coin.pulses + 1) 9
            (t.bay b).coin.capture = .inGap ∧ (t.bay b).coin.pulses = n ∧ (t.bay b).coin.lastEdge = some s.time.ms
            ∧ ((t.bay b).coin.malformed = true ↔
                (s.bay b).coin.malformed = true ∨ width < 10 ∨ 120 < width ∨ n = 9)))

/-- R13, R72, R76 to R80: the end of a train is a coin. One of a configured kind is credited in TENDER where tendered
stays within 999,999: tendered grows by its value, and where the price is reached the context leaves TENDER. Any other
of a configured kind is a stray, and a malformed train or a pulse count of no kind is unvalued, with its notice: it is
counted and not credited. A coin joins the escrow list while that holds fewer than 16, and in IDLE and OUT_OF_SERVICE
it is returned at once; otherwise it is an overflow coin, counted, and goes to the box, or to the hold counts without
one. -/
def Obligations.CoinIsCreditedStrayOrUnvalued : Prop :=
  ∀ (s : State) (b : BayNo), s.trainDue b = true → (s.ctx b).wait ≠ .places →
    let y := s.bay b
    let c := s.ctx b
    let more (n : Nat) := min (n + 1) 65535
    let full : Prop := 16 ≤ c.coins.length
    let boxed (t : State) (k : Nat) : Prop := ∀ i : Fin 9,
      (t.bay b).box.counts[i] = (if y.box.present = true ∧ i.val = k then more y.box.counts[i] else y.box.counts[i])
      ∧ (t.bay b).box.holds[i] = (if y.box.present = false ∧ i.val = k then more y.box.holds[i] else y.box.holds[i])
    let uncredited (t : State) (x : Coin) (n : CoinCounters) : Prop :=
      (t.ctx b).state = c.state ∧ (t.ctx b).tendered = c.tendered ∧ (t.ctx b).overflow = c.overflow
      ∧ (¬ full → (t.bay b).counters = n ∧ (t.bay b).box = y.box
          ∧ (c.state = .idle ∨ c.state = .outOfService → y.escrow.pulse = none →
              (t.ctx b).coins = [] ∧ (t.bay b).escrow.pulse = some s.time.ms)
          ∧ (c.state ≠ .idle → c.state ≠ .outOfService → (t.ctx b).coins = c.coins ++ [x]))
      ∧ (full → (t.ctx b).coins = c.coins ∧ (t.bay b).counters = { n with overflow := more n.overflow }
          ∧ boxed t x.kind)
    ∃ t, exec (.trainEnd b) s = .next t ∧ OtherContexts b s t ∧ (t.bay b).coin.capture = .idle
      ∧ (y.coin.malformed = true ∨ kindOf s.site y.coin.pulses = none →
          uncredited t ⟨0, .unvalued, 0⟩ { y.counters with unvalued := more y.counters.unvalued }
          ∧ t.link = (notify (.unvalued b y.coin.pulses y.coin.malformed) s).link)
      ∧ (∀ k v, y.coin.malformed = false → kindOf s.site y.coin.pulses = some (k, v) →
          (c.state ≠ .tender ∨ 999999 < c.tendered + v →
            uncredited t ⟨k, .stray, 0⟩ { y.counters with stray := more y.counters.stray } ∧ t.link = s.link)
          ∧ (c.state = .tender → c.tendered + v ≤ 999999 →
            (t.ctx b).tendered = c.tendered + v ∧ (t.ctx b).lastChange = s.time.ms
            ∧ (¬ full → (t.bay b).counters = y.counters ∧ (t.ctx b).overflow = c.overflow)
            ∧ (full → (t.bay b).counters = { y.counters with overflow := more y.counters.overflow }
                ∧ (t.ctx b).overflow = c.overflow + 1)
            ∧ (c.tendered + v < c.price.getD 0 → (t.ctx b).state = .tender ∧ (t.bay b).mask = t.maskOf b
                ∧ (¬ full → (t.ctx b).coins = c.coins ++ [⟨k, .credited, v⟩] ∧ (t.bay b).box = y.box)
                ∧ (full → (t.ctx b).coins = c.coins ∧ boxed t k))
            ∧ (c.price.getD 0 ≤ c.tendered + v → (t.bay b).mask = []
                ∧ (s.writesCard b = true → (t.ctx b).state = .cardWrite)
                ∧ (s.writesCard b = false → (t.ctx b).state = .commit ∧ (t.ctx b).coins = []))))

/-- R73, R74, R86: once start-up has ended, a filtered line LOW for 400 ms is in fault: the fault is counted,
COIN_LINE_FAULT joins and the train is discarded; HIGH for 1 s ends the fault and takes the cause away. A return pulse
of 200 ms ends the pulse, or begins the pending one, which returns the coins gathered. -/
def Obligations.CoinFaultsAndReturnPulseEnd : Prop :=
  ∀ (s : State) (b : BayNo) (m : Ms),
    (s.up = true → (s.bay b).coin.lowSince = some m → (s.bay b).coin.filteredHigh = false → (s.bay b).coin.fault = false →
        400 ≤ (s.time.ms - m).toNat →
      ∃ t, exec (.lineStuck b) s = .next t ∧ OtherBays b s t ∧ (t.bay b).coin.fault = true
        ∧ (t.bay b).coin.capture = .idle ∧ (t.ctx b).causes.coinLineFault = true
        ∧ (t.bay b).counters = { (s.bay b).counters with fault := min ((s.bay b).counters.fault + 1) 65535 }
        ∧ ((s.ctx b).causes.coinLineFault = false → (t.bay b).mask = []
            ∧ ((s.ctx b).state = .idle → (t.ctx b).state = .outOfService))
        ∧ ((s.ctx b).state ≠ .idle → (t.ctx b).state = (s.ctx b).state))
    ∧ (s.up = true → (s.bay b).coin.recoveryStart = some m → (s.bay b).coin.fault = true → 1000 ≤ (s.time.ms - m).toNat →
      ∃ t, exec (.faultEnd b) s = .next t ∧ OtherBays b s t ∧ (t.bay b).coin.fault = false
        ∧ (t.ctx b).causes = { (s.ctx b).causes with coinLineFault := false }
        ∧ (t.ctx b).state = (s.ctx b).state ∧ (t.bay b).counters = (s.bay b).counters)
    ∧ ((s.bay b).escrow.pulse = some m → 200 ≤ (s.time.ms - m).toNat →
      ∃ t, exec (.escrowPulseEnd b) s = .next t ∧ OtherBays b s t ∧ t = { s with bays := t.bays }
        ∧ ((s.bay b).escrow.pending = false → t.bay b = { s.bay b with escrow := ⟨none, false⟩ })
        ∧ ((s.bay b).escrow.pending = true → t.bay b = { s.bay b with
            escrow := ⟨some s.time.ms, false⟩, ctx := { s.ctx b with coins := [] } }))

/-- R16, R18, R95 to R98, R100: once start-up has ended, a sense of the driven tube takes a coin from the tube and
adds its value to what is paid, and to change_paid for requester PAYOUT; the entry's coins fall by 1, and an entry
used up leaves the plan. Below the amount the next entry's tube is driven where it is OK and holds a coin, and
otherwise the rest is planned anew: its first tube is driven, or the payout ends with no plan. That a plan used up
below the amount is planned anew, and that a paid value above the amount ends the payout, is the model's choice
(notes/assumptions/41.md). At the amount the payout ends. A sense of any other tube, or with no drive, is an extra
coin: the count falls by 1 to no less than 0, the extra counter grows, nothing is paid, and the mask and the TUBE_LOW
test follow. 400 ms without a sense jam the driven tube, its count and what is paid kept; the rest is planned anew
without it, or the payout ends. -/
def Obligations.SensePaysOrIsExtraCoin : Prop :=
  ∀ (s : State) (b : BayNo) (n : TubeNo),
    let u := (s.bay b).tubes[n]
    let x := (s.bay b).payout
    let paid := x.paid + kindValue s.site u.kind
    let change := match x.requester with
      | .payout => (s.ctx b).changePaid + kindValue s.site u.kind
      | .refund => (s.ctx b).changePaid
    (∀ m e es, s.up = true → x.drive = some (n, m) → x.plan = e :: es → paid < x.amount →
      let left := if e.coins ≤ 1 then es else { e with coins := e.coins - 1 } :: es
      ∃ t, exec (.payoutSense b n) s = .next t ∧ OtherBays b s t
        ∧ (t.bay b).tubes = (s.bay b).tubes.set n { u with count := u.count - 1 }
        ∧ (∀ f fs, left = f :: fs → (t.bay b).tubes[f.tube].state = .ok → 0 < (t.bay b).tubes[f.tube].count →
            t.journal = s.journal ∧ t.ctx b = { s.ctx b with changePaid := change }
            ∧ (t.bay b).payout = { x with paid := paid, plan := f :: fs, drive := some (f.tube, s.time.ms) })
        ∧ ((∀ f ∈ left.head?, (t.bay b).tubes[f.tube].state ≠ .ok ∨ (t.bay b).tubes[f.tube].count = 0) →
            (∀ f fs, t.changePlan b (x.amount - paid) = some (f :: fs) →
              t.journal = s.journal ∧ t.ctx b = { s.ctx b with changePaid := change }
              ∧ (t.bay b).payout = { x with paid := paid, plan := f :: fs, drive := some (f.tube, s.time.ms) })
            ∧ (t.changePlan b (x.amount - paid) = none → PayoutEnds s t b paid change)))
    ∧ (∀ m, s.up = true → x.drive = some (n, m) → x.amount ≤ paid →
      ∃ t, exec (.payoutSense b n) s = .next t ∧ OtherBays b s t
        ∧ (t.bay b).tubes = (s.bay b).tubes.set n { u with count := u.count - 1 } ∧ PayoutEnds s t b paid change)
    ∧ (s.up = true → (x.drive = none ∨ ∃ n' m, x.drive = some (n', m) ∧ n' ≠ n) →
      ∃ t, exec (.payoutSense b n) s = .next t ∧ OtherBays b s t ∧ t.journal = s.journal
        ∧ (t.bay b).tubes = (s.bay b).tubes.set n
            { u with count := u.count - 1, extra := min (u.extra + 1) 65535 }
        ∧ t.ctx b = s.ctx b ∧ (t.bay b).payout = x ∧ (t.bay b).mask = t.maskOf b
        ∧ t.link = (if u.lowLevel < u.count ∧ u.count - 1 ≤ u.lowLevel
            then (notify (.tubeLow b n (u.count - 1)) s).link else s.link))
    ∧ (∀ m, x.drive = some (n, m) → 400 ≤ (s.time.ms - m).toNat →
      ∃ t, exec (.driveTimeout b) s = .next t ∧ OtherContexts b s t
        ∧ (t.bay b).tubes = (s.bay b).tubes.set n { u with state := .jammed } ∧ (t.bay b).payout.paid = x.paid
        ∧ (∀ f fs, t.changePlan b (x.amount - x.paid) = some (f :: fs) →
            f.tube ≠ n ∧ t.journal = s.journal ∧ (t.ctx b).changePaid = (s.ctx b).changePaid
            ∧ (t.bay b).payout = { x with plan := f :: fs, drive := some (f.tube, s.time.ms) })
        ∧ (t.changePlan b (x.amount - x.paid) = none → PayoutEnds s t b x.paid (s.ctx b).changePaid))

/-- R20, R22, R82, R101, R102, R104, R165, R203, R206, R207: the lines act once start-up has ended. A service door
opened makes SERVICE_DOOR join and closed takes it away: a bay in IDLE leaves sale, an open transaction goes on. A box
door's change changes no context. The supply warning asserted empties every acceptance mask; the audit switch is what
RELEASE_HOLD reads. A box removed closes its period: the period number grows by 1, wrapping, the counts become 0, the
box is absent, BOX_ABSENT joins, and with an empty slot and room in the append queue the BOX record of the period's
counts is requested. BOX_ABSENT that joins takes a bay in IDLE out of sale, cancels an early transaction in which no
bay reset waits, and leaves any other in its state; that the BOX record is asked for before that is the model's choice
(notes/assumptions/54.md). A box inserted takes the hold counts into its counts, and BOX_ABSENT leaves. The clock's
second advances the calendar clock, through minute and day, and no further than its last second. -/
def Obligations.CabinetLinesBoxesAndSecondAct : Prop :=
  ((∀ (s : State) (b : BayNo) (isOpen : Bool), s.up = true →
       ((s.bay b).lines.serviceDoor.accepted ≠ isOpen →
         ∃ t, exec (.serviceDoorChange b isOpen) s = .next t ∧ OtherBays b s t ∧ t.tariff = s.tariff
           ∧ t.journal = s.journal ∧ (t.bay b).lines.serviceDoor.accepted = isOpen
           ∧ (t.ctx b).causes = { (s.ctx b).causes with serviceDoor := isOpen }
           ∧ ((s.ctx b).state = .idle → isOpen = true → (s.ctx b).causes.serviceDoor = false →
               (t.ctx b).state = .outOfService)
           ∧ ((s.ctx b).state ≠ .idle ∨ isOpen = false → (t.ctx b).state = (s.ctx b).state))
       ∧ ((s.bay b).lines.boxDoor.accepted ≠ isOpen →
         ∃ t, exec (.boxDoorChange b isOpen) s = .next t ∧ OtherBays b s t ∧ t.tariff = s.tariff
           ∧ t.journal = s.journal
           ∧ t.bay b = { s.bay b with lines := { (s.bay b).lines with boxDoor := ⟨isOpen, isOpen⟩ } }))
   ∧ (∀ s : State,
       (s.up = true → s.time.supply.accepted = false →
         ∃ t, exec (.supplyWarningChange true) s = .next t ∧ t.supplyLow = true ∧ t.tariff = s.tariff ∧ t.card = s.card
           ∧ t.link = s.link ∧ ∀ b, t.bay b = { s.bay b with mask := [] })
       ∧ (s.up = true → ∀ x, exec (.auditSwitchChange x) s = .next { s with time := { s.time with audit := ⟨x, x⟩ } })
       ∧ (∃ t, exec .clockSecond s = .next t ∧ t = { s with time := { s.time with calendar := t.time.calendar } }
           ∧ (s.time.calendar.day ≤ 65535 → s.time.calendar.minute ≤ 1439 → s.time.calendar.second ≤ 59 →
               t.time.calendar.seconds = min (s.time.calendar.seconds + 1) 5662310399
               ∧ t.time.calendar.day ≤ 65535 ∧ t.time.calendar.minute ≤ 1439 ∧ t.time.calendar.second ≤ 59))))
  ∧ (∀ (s : State) (b : BayNo), s.up = true →
     ((s.bay b).lines.boxPresent.accepted = true → (s.bay b).box.present = true →
       ∃ t, exec (.boxRemoved b) s = .next t ∧ OtherContexts b s t ∧ (t.ctx b).causes.boxAbsent = true
         ∧ (t.bay b).box.present = false ∧ (t.bay b).box.period = (s.bay b).box.period + 1
         ∧ (t.bay b).box.counts = Vector.replicate 9 0 ∧ (t.bay b).lines.boxPresent.accepted = false
         ∧ (t.bay b).tubes = (s.bay b).tubes
         ∧ ((s.bay b).box.slot = [] → s.journal.queue.length < 16 →
             (∀ q ∈ s.journal.waitList, q.requester ≠ .box b) →
             ∃ r ∈ t.journal.queue, r.requester = .box b ∧ r.body =
               .box ⟨(s.bay b).box.period, (s.bay b).box.counts, totalValue s.site (s.bay b).box.counts, false⟩)
         ∧ ((s.ctx b).causes.boxAbsent = false →
             ((s.ctx b).state = .idle → (t.ctx b).state = .outOfService)
             ∧ ((s.ctx b).wait ≠ .places → (s.ctx b).state ∈ [.opening, .cardRead, .pricing, .priced, .tender] →
                 Cancelled s t b)
             ∧ ((s.ctx b).state ∈ [.cardWrite, .tearWait, .commit, .payout, .print, .refund] →
                 (t.ctx b).state = (s.ctx b).state)))
     ∧ ((s.bay b).lines.boxPresent.accepted = false → (s.bay b).box.present = false →
       ∃ t, exec (.boxInserted b) s = .next t ∧ OtherBays b s t ∧ (t.bay b).box.present = true
         ∧ (t.bay b).box.period = (s.bay b).box.period ∧ (t.bay b).box.holds = Vector.replicate 9 0
         ∧ (∀ i : Fin 9, (t.bay b).box.counts[i] =
             min ((s.bay b).box.counts[i] + (s.bay b).box.holds[i]) 65535)
         ∧ (t.ctx b).causes = { (s.ctx b).causes with boxAbsent := false }
         ∧ (t.ctx b).state = (s.ctx b).state))

/-! ### The journal engine -/

/-- R15 to R18, R103, R126, R127, R156, R159, R166: the end of any record's write programs its bytes behind the ACTIVE
block's units, whose last valid sequence it is then, and makes its sequence last. The head leaves the queue and its
completion is handed over. A SALE's context leaves COMMIT with the sequence, and where change is due and a plan exists
the executor drives the plan's first tube. An ADJUST takes its context from PAYOUT to PRINT, and from PRINT or REFUND
to its close, with CHIRP from PRINT. A TEAR's closing entry leaves the table, and the exchanges that waited for it
read again. A BOX's record leaves its slot, and a second one is asked for. A TABLE's or a LINK's changes nothing more.
-/
def Obligations.RecordWriteCompletesItsRequest : Prop :=
  ∀ (s : State) (w : Writing), s.journal.writing = some w →
    ∃ t, exec .recordWriteEnd s = .next t ∧ t.time = s.time ∧ t.journal.acked = s.journal.acked
      ∧ t.journal.last = w.sequence
      ∧ (∀ i n, s.journal.lowest .active = some i → w.bytes.length = 16 * n → n ≤ 8 →
          (t.journal.row i).lastValid = some w.sequence
          ∧ (∃ us, (t.journal.block i).units = (s.journal.block i).units ++ us ∧ us.length = n ∧ us.flatten = w.bytes
              ∧ ∀ u ∈ us, u.length = 16)
          ∧ ∀ k, k ≠ i → (s.journal.row k).state ≠ .erased → t.journal.block k = s.journal.block k)
      ∧ (s.link.resetStage = .none → (∀ c, (s.ctx c).wait ≠ .places) → ∀ r rest, s.journal.queue = r :: rest →
          (∀ x b, r = ⟨.sale x, some b, .ctx b⟩ → (s.ctx b).state = .commit → (s.ctx b).wait = .sale →
            (s.ctx b).resetHeld = false → OtherContexts b s t ∧ (t.ctx b).state ≠ .commit
            ∧ ((t.ctx b).state.isOpen = true → (t.ctx b).txnSeq = some w.sequence)
            ∧ ∀ e es, 0 < (s.ctx b).changeDue.getD 0 →
                s.changePlan b ((s.ctx b).changeDue.getD 0) = some (e :: es) →
                (t.ctx b).state = .payout
                ∧ (t.bay b).payout =
                    ⟨true, .payout, (s.ctx b).changeDue.getD 0, 0, e :: es, some (e.tube, s.time.ms)⟩)
          ∧ (∀ why n q b, r = ⟨.adjust why n q, some b, .ctx b⟩ → (s.ctx b).wait = .adjust →
            OtherContexts b s t
            ∧ ((s.ctx b).state = .payout →
                (t.ctx b).state = .print ∨ (t.ctx b).state = .idle ∨ (t.ctx b).state = .outOfService)
            ∧ ((s.ctx b).state = .print ∨ (s.ctx b).state = .refund →
                ((t.ctx b).state = .idle ∨ (t.ctx b).state = .outOfService) ∧ (t.ctx b).bank = none)
            ∧ ((s.ctx b).state = .print → (t.bay b).term.tone = .chirp))
          ∧ (∀ e serial op n q d why b x, r = ⟨.tear e serial op n q d why, b, .tear serial⟩ →
            s.tearOf serial = some x → x.closing = true →
            t.tearOf serial = none ∧ (∀ c, t.ctx c = s.ctx c)
            ∧ ∀ c, (s.exch c).phase = .resolving → (s.exch c).resolving = some serial → (t.exch c).phase = .presenting)
          ∧ (∀ x b, r = ⟨.box x, some b, .box b⟩ → (∀ c, t.ctx c = s.ctx c) ∧ t.card = s.card
            ∧ (t.bay b).box.slot.map Closure.record = ((s.bay b).box.slot.drop 1).map Closure.record
            ∧ ∀ c, ((s.bay b).box.slot.drop 1).head? = some c → c.requested = false →
                ∃ q ∈ t.journal.queue ++ t.journal.waitList, q.requester = .box b ∧ q.body = .box c.record)
          ∧ (r.requester = .tariff ∨ r.requester = .port → (∀ c, t.ctx c = s.ctx c ∧ t.exch c = s.exch c)
            ∧ t.card = s.card ∧ t.tariff = s.tariff ∧ t.bus = s.bus
            ∧ t.journal.queue = rest ++ s.journal.waitList.take 1
            ∧ t.journal.waitList = s.journal.waitList.drop 1))

/-- R156 to R159: behind any record written, whoever its completion reaches, the writer takes the next head. One that
fits the ACTIVE block is written there under the next sequence; for one that does not, the block becomes FULL and the
lowest-numbered ERASED block is activated with the next block sequence, its base the sequence to be written; with no
ERASED block the journal is full: nothing is written and the head waits, with JOURNAL_LOW noticed. A completion that
reaches nobody changes no bay and no other place of the queue. -/
def Obligations.WriterTakesNextBlock : Prop :=
  ∀ (s : State) (w : Writing) (h r : Append) (rest : List Append) (i free n : Nat),
    s.journal.writing = some w → s.journal.queue = h :: r :: rest → s.journal.full = false →
    s.journal.lowest .active = some i → (s.journal.row i).nextFree = some free → w.bytes.length = 16 * n → n ≤ 8 →
    s.link.resetStage = .none →
    let begun : Writing :=
      ⟨recordBytes (w.sequence + 1) r.bay r.body s.time.calendar s.time.isSet, w.sequence + 1⟩
    ∃ t, exec .recordWriteEnd s = .next t ∧ t.journal.last = w.sequence
      ∧ (∃ q qs, t.journal.queue = q :: qs ∧ q.body = r.body ∧ q.bay = r.bay)
      ∧ (free + n + r.body.units ≤ 512 → t.journal.writing = some begun ∧ t.journal.full = false
          ∧ (t.journal.row i).state = .active ∧ (t.journal.row i).nextFree = some (free + n)
          ∧ t.journal.nextBlockSeq = s.journal.nextBlockSeq)
      ∧ (512 < free + n + r.body.units → ∀ k, s.journal.lowest .erased = some k →
          t.journal.writing = some begun ∧ t.journal.full = false
          ∧ (t.journal.row i).state = .full ∧ (t.journal.block i).marker = some .full
          ∧ t.journal.row k =
              ⟨.active, some s.journal.nextBlockSeq, some (w.sequence + 1), none, none, some 1, 0⟩
          ∧ t.journal.block k = ⟨.good s.journal.nextBlockSeq (w.sequence + 1), some .active, []⟩
          ∧ t.journal.nextBlockSeq = s.journal.nextBlockSeq + 1)
      ∧ (512 < free + n + r.body.units → s.journal.lowest .erased = none →
          t.journal.writing = none ∧ t.journal.full = true ∧ (t.journal.row i).state = .active)
      ∧ (h.requester = .nobody → s.journal.waitList = [] → (∀ c, (s.ctx c).wait ≠ .places) →
          t.bays = s.bays ∧ t.journal.queue = r :: rest
          ∧ (512 < free + n + r.body.units → s.journal.lowest .erased = none → s.link.online = false →
              s.link.listState = .isOpen → s.link.noticeList.length < 24 →
              t.link.noticeList = s.link.noticeList ++ [.journalLow .full 0]))

/-- R158, R160 to R163: once start-up has ended, an erase begins at the block the engine takes next, when it may: the
block is ERASING and its failures are 0. Once it has run for 80 ms it ends: in success the block is ERASED and leaves
the hold list, and a full journal is full no more and has an ACTIVE block; a first failure is counted and the erase
begun again; a second makes the block BAD. -/
def Obligations.EraseEndsErasedRetriedOrBad : Prop :=
  ∀ (s : State) (i : Nat), i < 32 →
    (s.up = true → s.journal.canErase s.supplyLow = true → s.journal.nextErase = some i →
      ∃ t, exec .eraseBegin s = .next t ∧ t = { s with journal := t.journal }
        ∧ t.journal.erase = some ⟨i, false, 0, s.time.ms⟩ ∧ (t.journal.row i).state = .erasing
        ∧ (t.journal.row i).failures = 0 ∧ (t.journal.block i).marker = some .erasing
        ∧ ∀ k, k ≠ i → t.journal.row k = s.journal.row k ∧ t.journal.block k = s.journal.block k)
    ∧ (∀ spent since, s.journal.erase = some ⟨i, false, spent, since⟩ →
        80 ≤ spent + (s.time.ms - since).toNat →
      (∃ t, exec (.eraseEnd true) s = .next t ∧ t.bays = s.bays ∧ t.card = s.card ∧ t.time = s.time
        ∧ (s.journal.full = false → (t.journal.row i).state = .erased ∧ t.journal.block i = .erased
            ∧ t.journal.erase = none ∧ i ∉ t.journal.holdList ∧ t.journal.last = s.journal.last)
        ∧ (s.journal.full = true → t.journal.full = false ∧ i ∉ t.journal.holdList ∧ t.journal.erase = none
            ∧ ∃ k < 32, (t.journal.row k).state = .active))
      ∧ (∃ t, exec (.eraseEnd false) s = .next t ∧ t.bays = s.bays ∧ t.time = s.time
        ∧ t.journal.eraseFail = min (s.journal.eraseFail + 1) 65535
        ∧ ((s.journal.row i).failures = 0 → (t.journal.row i).failures = 1
            ∧ (t.journal.row i).state = (s.journal.row i).state
            ∧ t.journal.erase = some ⟨i, false, 0, s.time.ms⟩ ∧ t.link = s.link)
        ∧ ((s.journal.row i).failures ≠ 0 → (t.journal.row i).state = .bad ∧ t.journal.erase = none
            ∧ (t.journal.block i).marker = some .bad
            ∧ t.journal.badBlock = min (s.journal.badBlock + 1) 65535)))

/-! ### Printing -/

/-- R137, R142, R144, R145: a printer status is kept as reported; a chunk reported delivered leaves the ring and the
credit, and moves sent and last progress; 10 s without progress end a REPRINT with nothing sent FAILED, and with bytes
sent PARTIAL; no context changes then. How a SALE's job ends is ReceiptEndsPrintedOrAdjusted. -/
def Obligations.PrintingStatusChunksAndLimit : Prop :=
  ∀ (s : State) (b : BayNo),
    (∀ paper headUp credit, s.HandsOn b (.status paper headUp credit) →
      ∃ t, exec .printerStatus s = .next t ∧ Handed s t ∧ OtherContexts b s t
        ∧ ((s.bay b).seq.job = none → (t.bay b).printer = ⟨paper, headUp, credit⟩
            ∧ (t.bay b).ring = (s.bay b).ring ∧ (t.bay b).seq = (s.bay b).seq))
    ∧ (∀ mark, s.HandsOn b (.delivered mark (some mark)) → (s.bay b).chunkMark = some mark →
        0 < (s.bay b).inFlight → (s.bay b).seq.state = .draining → (s.bay b).seq.job.isSome →
        (s.bay b).inFlight < (s.bay b).ring.length →
      ∃ t, exec .printDelivered s = .next t ∧ Handed s t ∧ OtherBays b s t ∧ t.ctx b = s.ctx b
        ∧ (t.bay b).ring = (s.bay b).ring.drop (s.bay b).inFlight ∧ (t.bay b).inFlight = 0
        ∧ (t.bay b).chunkMark = none ∧ (t.bay b).seq.sent = (s.bay b).seq.sent + (s.bay b).inFlight
        ∧ (t.bay b).seq.lastProgress = s.time.ms
        ∧ (t.bay b).printer.credit = (s.bay b).printer.credit - (s.bay b).inFlight)
    ∧ (∀ j, (s.bay b).seq.job = some j → j.kind = .reprint → (s.bay b).seq.waiting = none →
        10000 ≤ (s.time.ms - (s.bay b).seq.lastProgress).toNat →
      ∃ t, exec (.noProgressLimit b) s = .next t ∧ OtherBays b s t ∧ t.ctx b = s.ctx b
        ∧ (t.bay b).seq.job = none ∧ (t.bay b).seq.state = .idle ∧ (t.bay b).ring = []
        ∧ ((s.bay b).seq.sent = 0 → (t.bay b).seq.lastReprint = .failed)
        ∧ ((s.bay b).seq.sent ≠ 0 → (t.bay b).seq.lastReprint = .partly))

/-- R17, R143 to R145, R148, R200: the SALE job a context in PRINT waits for. A job that drains ends PRINTED: the
last-receipt record is formed, the context closes and CHIRP sounds. Paper OUT or the head UP stalls a job that has
sent nothing, and the stall goes with its cause (for one that still stands once a byte has been sent this is the
model's choice, notes/assumptions/52.md); it ends one that has sent a byte PARTIAL, and 10 s without progress end one
FAILED or PARTIAL: the context takes the outcome and waits for its ADJUST, and SERVER joins where a printed pass is
not issued. -/
def Obligations.ReceiptEndsPrintedOrAdjusted : Prop :=
  ∀ (s : State) (b : BayNo) (j : Job), (s.bay b).seq.job = some j → j.kind = .sale →
    let y := s.bay b
    let waits : Prop := (s.ctx b).state = .print ∧ (s.ctx b).wait = .receipt
    let cut (t : State) : Prop :=
      (OtherContexts b s t ∧ (t.bay b).seq.job = none ∧ (t.bay b).seq.state = .idle
      ∧ (t.bay b).ring = [] ∧ (t.bay b).lastReceipt = y.lastReceipt
      ∧ (waits → (t.ctx b).state = .print ∧ (t.ctx b).wait = .adjust
          ∧ (t.ctx b).receiptOutcome = (if y.seq.sent = 0 then .failed else .partly)
          ∧ (s.isPrintedPass b = true → (t.ctx b).causes.server = true)
          ∧ ∃ r ∈ t.journal.queue ++ t.journal.waitList, r.requester = .ctx b
              ∧ r.body = (if s.isPrintedPass b then .adjust .passNotIssued ((s.ctx b).price.getD 0) (s.ctx b).txnSeq
                else .adjust .receiptFailed 0 (s.ctx b).txnSeq)))
    (∀ paper headUp credit, s.HandsOn b (.status paper headUp credit) →
      ∃ t, exec .printerStatus s = .next t ∧ Handed s t ∧ (t.bay b).printer = ⟨paper, headUp, credit⟩
        ∧ (0 < y.seq.sent → paper = .out ∨ headUp = true → cut t)
        ∧ (y.seq.sent = 0 ∨ (paper ≠ .out ∧ headUp = false) →
            (t.bay b).seq = { y.seq with paperOut := decide (paper = .out), headUp := headUp }
            ∧ (t.bay b).ring = y.ring))
    ∧ (10000 ≤ (s.time.ms - y.seq.lastProgress).toNat → ∃ t, exec (.noProgressLimit b) s = .next t ∧ cut t)
    ∧ (∀ mark, s.HandsOn b (.delivered mark (some mark)) → y.chunkMark = some mark → 0 < y.inFlight →
        y.inFlight = y.ring.length → y.seq.state = .draining →
      ∃ t, exec .printDelivered s = .next t ∧ Handed s t ∧ OtherContexts b s t ∧ (t.bay b).seq.job = none
        ∧ (t.bay b).ring = []
        ∧ (let k := s.tariff.bank j.bank;
            (t.bay b).lastReceipt =
              some ⟨j.snapshot.sequence, j.bank, j.layout, k.layout.version, k.text.version, j.snapshot, s.time.ms⟩)
        ∧ (waits → ((t.ctx b).state = .idle ∨ (t.ctx b).state = .outOfService) ∧ (t.ctx b).bank = none
            ∧ (t.bay b).term.tone = .chirp ∧ (t.bay b).term.tonePending = true))
end

