-- ==== Sys2Proof/Laws/Frames.lean ====
section
/-! SUPPORT. What taking a frame, answering it and handing a section on can do: each once, for the statements to cite
instead of unfolding. -/

namespace Sys2Proof.Laws

open Sys2Proof Sys2Proof.Machine

/-! ### Which frame or section is taken -/

/-- The head of the buffer, of a kind without an answer, is taken. -/
theorem takeFrame_eq {s : State} {f : Frame} {isKind : Frame → Bool} (act : Frame → State → State)
    (h : s.link.rxBuffer.head? = some f) (hk : isKind f = true) :
    takeFrame isKind act s = act f (dropHead s) := by
  unfold takeFrame
  cases hb : s.link.rxBuffer with
  | nil => simp [hb] at h
  | cons g rest => simp [hb] at h; subst h; simp [hk]

/-- The head of the buffer, of an answered kind with room for its REPLY, is taken and answered. -/
theorem answerFrame_eq {s : State} {f : Frame} {isKind : Frame → Bool} (act : Frame → State → Answer)
    (h : s.TakesNext f) (hk : isKind f = true) : answerFrame isKind act s = answer f (act f (dropHead s)) := by
  obtain ⟨h, hr⟩ := h
  unfold answerFrame
  cases hb : s.link.rxBuffer with
  | nil => simp [hb] at h
  | cons g rest => simp [hb] at h; subst h; simp [hk, hr]

/-- The section in front is handed on. -/
theorem takeSection_eq {α : Type} {s : State} {b : BayNo} {x : ReplySection} {f : ReplySection → Option α} {a : α}
    (act : BayNo → α → State → State) (h : s.HandsOn b x) (hf : f x = some a) :
    takeSection f act s = act b a (s.modBus fun u => { u with inbox := u.inbox.drop 1 }) := by
  obtain ⟨rfl, h⟩ := h
  unfold takeSection
  cases hb : s.bus.inbox with
  | nil => simp [hb] at h
  | cons g rest => simp [hb] at h; subst h; simp [hf, State.modBus, hb]

/-! ### What an answer leaves -/

/-- Sending what stands at the sources changes none of them. -/
theorem kick_sources (l : Link) :
    l.kick.replies = l.replies ∧ l.kick.messages = l.messages ∧ l.kick.record = l.record
    ∧ l.kick.rxBuffer = l.rxBuffer := by
  unfold Link.kick; split <;> simp

/-- Outside the port an answer leaves what its owner's rule left. -/
theorem answer_outside (f : Frame) (a : Answer) : answer f a = { a.state with link := (answer f a).link } := rfl

/-- An answer puts its REPLY at the tail of the reply queue. -/
theorem answer_replies (f : Frame) (a : Answer) :
    (answer f a).link.replies = a.state.link.replies ++ [⟨f.tag, a.status, a.data, a.after⟩] := by
  show (Link.reply _ _ _ _ _).replies = _
  unfold Link.reply; exact (kick_sources _).1

/-- An answer leaves the receive buffer as its owner's rule left it. -/
theorem answer_rxBuffer (f : Frame) (a : Answer) : (answer f a).link.rxBuffer = a.state.link.rxBuffer := by
  show (Link.reply _ _ _ _ _).rxBuffer = _
  unfold Link.reply; exact (kick_sources _).2.2.2

/-! ### A part of the state that neither the port nor the act changes is kept -/

theorem takeFrame_keeps {α : Type} (p : State → α) (hl : ∀ s f, p (State.modLink s f) = p s) (isKind : Frame → Bool)
    (act : Frame → State → State) (h : ∀ f t, p (act f t) = p t) (s : State) : p (takeFrame isKind act s) = p s := by
  unfold takeFrame; (repeat' split) <;> simp [h, dropHead, hl]

theorem answerFrame_keeps {α : Type} (p : State → α) (hl : ∀ s f, p (State.modLink s f) = p s)
    (isKind : Frame → Bool) (act : Frame → State → Answer) (h : ∀ f t, p (act f t).state = p t) (s : State) :
    p (answerFrame isKind act s) = p s := by
  unfold answerFrame answer; (repeat' split) <;> simp [h, dropHead, hl]

theorem takeSection_keeps {α β : Type} (p : State → α) (hb : ∀ s f, p (State.modBus s f) = p s)
    (f : ReplySection → Option β) (act : BayNo → β → State → State) (h : ∀ b x t, p (act b x t) = p t) (s : State) :
    p (takeSection f act s) = p s := by
  unfold takeSection; (repeat' split) <;> simp [h, hb]

theorem ofLength_keeps {α : Type} (p : State → α) (n : Nat) (act : List Byte → State → Answer)
    (h : ∀ f t, p (act f t).state = p t) (f : Frame) (s : State) : p (ofLength n act f s).state = p s := by
  unfold ofLength; split <;> simp [h, refusal]

theorem refuseOr_keeps {α : Type} (p : State → α) (c : Option Code) (act : State → Answer)
    (h : ∀ t, p (act t).state = p t) (s : State) : p (refuseOr c act s).state = p s := by
  unfold refuseOr; split <;> simp [h, refusal]

theorem bayControl_keeps {α : Type} (p : State → α) (act : BayNo → State → Answer)
    (h : ∀ b t, p (act b t).state = p t) (f : Frame) (s : State) : p (bayControl act f s).state = p s := by
  unfold bayControl; (repeat' split) <;> simp [h, refusal]

end Sys2Proof.Laws
end

