-- ==== Sys2Proof/Laws/Journal.lean ====
section
/-! SUPPORT. The journal store: every operation on it keeps its canonical form, and the store as delivered has it. -/

namespace Sys2Proof.Laws

open Sys2Proof Sys2Proof.Machine

/-- The canonical form of one block. -/
abbrev BlockFits (b : Block) : Prop := ∀ u ∈ b.units, 1 ≤ u.length ∧ u.length ≤ 16

theorem wf_iff (j : Journal) : j.wf = true ↔ ∀ b ∈ j.store.toList, BlockFits b := by
  simp only [Journal.wf, BlockFits, List.all_eq_true, Bool.and_eq_true, decide_eq_true_eq]
  rfl

theorem reset_wf : Journal.reset.wf = true := by decide +kernel

/-- Bytes cut into units fill each with 1 to 16 bytes. -/
theorem cutUnits_fits (n : Nat) (bs : List Byte) : ∀ u ∈ cutUnits n bs, 1 ≤ u.length ∧ u.length ≤ 16 := by
  induction n generalizing bs with
  | zero => cases bs <;> simp [cutUnits]
  | succ n ih =>
    cases bs with
    | nil => simp [cutUnits]
    | cons x xs =>
      intro u hu
      rcases List.mem_cons.mp hu with rfl | h
      · simp only [Config.unitBytes, List.length_take, List.length_cons]; omega
      · exact ih _ u h

/-- Changing one block keeps the form where the new block has it. -/
theorem modBlock_wf (j : Journal) (i : Nat) (f : Block → Block) (hf : ∀ b, BlockFits b → BlockFits (f b))
    (h : j.wf = true) : (j.modBlock i f).wf = true := by
  rw [wf_iff] at *
  unfold Journal.modBlock
  split
  · rename_i hi
    intro b hb
    rw [Vector.toList_set] at hb
    rcases List.mem_or_eq_of_mem_set hb with hb | rfl
    · exact h b hb
    · exact hf _ (h _ (by simp))
  · exact h

theorem modRow_wf (j : Journal) (i : Nat) (f : Row → Row) : (j.modRow i f).wf = j.wf := by
  unfold Journal.modRow; split <;> rfl

theorem closeActive_wf (j : Journal) (h : j.wf = true) : j.closeActive.wf = true := by
  unfold Journal.closeActive
  split
  · rw [modRow_wf]; exact modBlock_wf _ _ _ (fun _ hb => hb) h
  · exact h

theorem activate_wf (j j' : Journal) (h : j.wf = true) (e : j.activate = some j') : j'.wf = true := by
  unfold Journal.activate at e
  split at e
  · cases e
    show (Journal.modRow _ _ _).wf = true
    rw [modRow_wf]; exact modBlock_wf _ _ _ (fun _ _ => by simp [BlockFits]) h
  · cases e

theorem beginWrite_wf (j : Journal) (r : Append) (time : Calendar) (isSet : Bool) :
    (j.beginWrite r time isSet).wf = j.wf := rfl

theorem program_wf (j : Journal) (w : Writing) (h : j.wf = true) : (j.program w).wf = true := by
  unfold Journal.program
  split
  · show (Journal.modRow _ _ _).wf = true
    rw [modRow_wf]
    refine modBlock_wf _ _ _ (fun b hb u hu => ?_) h
    rcases List.mem_append.mp hu with hu | hu
    · exact hb u hu
    · exact cutUnits_fits _ _ u hu
  · exact h

theorem tear_wf (j : Journal) (n : Nat) (h : j.wf = true) : (j.tear n).wf = true := by
  unfold Journal.tear
  split
  · refine modBlock_wf _ _ _ (fun b hb u hu => ?_) h
    rcases List.mem_append.mp hu with hu | hu
    · exact hb u hu
    · exact cutUnits_fits _ _ u hu
  · exact h

theorem beginErase_wf (j : Journal) (i : Nat) (now : Ms) (h : j.wf = true) : (j.beginErase i now).wf = true := by
  show (Journal.modRow _ _ _).wf = true
  rw [modRow_wf]; exact modBlock_wf _ _ _ (fun _ hb => hb) h

theorem eraseDone_wf (j : Journal) (i : Nat) (h : j.wf = true) : (j.eraseDone i).wf = true := by
  show (Journal.modRow _ _ _).wf = true
  rw [modRow_wf]; exact modBlock_wf _ _ _ (fun _ _ => by simp [BlockFits, Block.erased]) h

theorem eraseFailed_wf (j : Journal) (e : Erase) (now : Ms) (h : j.wf = true) : (j.eraseFailed e now).wf = true := by
  unfold Journal.eraseFailed
  dsimp only
  split
  · show (Journal.modRow _ _ _).wf = true
    rw [modRow_wf]; exact h
  · show (Journal.modRow _ _ _).wf = true
    rw [modRow_wf]; exact modBlock_wf _ _ _ (fun _ hb => hb) h

/-- A FULL marker on a torn block changes no unit. -/
theorem markTorn_wf (j : Journal) (h : j.wf = true) : j.markTorn.wf = true := by
  rw [wf_iff] at *
  intro b hb
  simp only [Journal.markTorn, Vector.toList_map, List.mem_map] at hb
  obtain ⟨c, hc, rfl⟩ := hb
  have := h c hc
  unfold Block.markTorn
  split <;> exact this

theorem losePower_wf (j : Journal) (n : Nat) (h : j.wf = true) : (j.losePower n).wf = true := tear_wf j n h

/-- The scan rebuilds the table from the store: of the store it may activate a block. -/
theorem scan_wf (j : Journal) (retained : Option Nat) (h : j.wf = true) : (j.scan retained).wf = true := by
  have hs : ∀ k : Journal, k.store = j.store → k.wf = true := by
    intro k hk
    rw [wf_iff] at *
    rw [hk]; exact h
  unfold Journal.scan
  dsimp only
  show Journal.wf _ = true
  split
  · exact hs _ rfl
  · split
    · next j' e =>
      refine activate_wf _ j' ?_ e
      exact hs _ rfl
    · exact hs _ rfl

end Sys2Proof.Laws
end

