-- ==== Sys2Proof/Laws/State.lean ====
section
/-! SUPPORT. Lemmas about the named updates of State: what each update changes and what it leaves. -/

namespace Sys2Proof.Machine

open Sys2Proof

/-! ### Bays -/

@[simp] theorem State.bay_modBay_self (s : State) (b : BayNo) (f : Bay → Bay) : (s.modBay b f).bay b = f (s.bay b) := by
  simp [State.bay, State.modBay]

theorem State.bay_modBay_ne (s : State) {b c : BayNo} (h : c ≠ b) (f : Bay → Bay) :
    (s.modBay b f).bay c = s.bay c := by
  have : b.val ≠ c.val := fun e => h (Fin.ext e.symm)
  simp [State.bay, State.modBay, this]

theorem State.bay_modBay (s : State) (b c : BayNo) (f : Bay → Bay) :
    (s.modBay b f).bay c = if c = b then f (s.bay b) else s.bay c := by
  split
  · next h => subst h; simp
  · next h => exact s.bay_modBay_ne h f

@[simp] theorem State.modBay_tariff (s : State) (b : BayNo) (f : Bay → Bay) : (s.modBay b f).tariff = s.tariff := rfl
@[simp] theorem State.modBay_card (s : State) (b : BayNo) (f : Bay → Bay) : (s.modBay b f).card = s.card := rfl
@[simp] theorem State.modBay_journal (s : State) (b : BayNo) (f : Bay → Bay) : (s.modBay b f).journal = s.journal := rfl
@[simp] theorem State.modBay_link (s : State) (b : BayNo) (f : Bay → Bay) : (s.modBay b f).link = s.link := rfl
@[simp] theorem State.modBay_bus (s : State) (b : BayNo) (f : Bay → Bay) : (s.modBay b f).bus = s.bus := rfl
@[simp] theorem State.modBay_time (s : State) (b : BayNo) (f : Bay → Bay) : (s.modBay b f).time = s.time := rfl
@[simp] theorem State.modBay_pending (s : State) (b : BayNo) (f : Bay → Bay) : (s.modBay b f).pending = s.pending := rfl
@[simp] theorem State.modBay_up (s : State) (b : BayNo) (f : Bay → Bay) : (s.modBay b f).up = s.up := rfl
@[simp] theorem State.modBay_check (s : State) (b : BayNo) (f : Bay → Bay) : (s.modBay b f).check = s.check := rfl

@[simp] theorem State.ctx_modCtx_self (s : State) (b : BayNo) (f : Ctx → Ctx) : (s.modCtx b f).ctx b = f (s.ctx b) := by
  simp [State.ctx, State.modCtx]

@[simp] theorem State.modCtx_tariff (s : State) (b : BayNo) (f : Ctx → Ctx) : (s.modCtx b f).tariff = s.tariff := rfl
@[simp] theorem State.modCtx_card (s : State) (b : BayNo) (f : Ctx → Ctx) : (s.modCtx b f).card = s.card := rfl
@[simp] theorem State.modCtx_journal (s : State) (b : BayNo) (f : Ctx → Ctx) : (s.modCtx b f).journal = s.journal := rfl
@[simp] theorem State.modCtx_link (s : State) (b : BayNo) (f : Ctx → Ctx) : (s.modCtx b f).link = s.link := rfl
@[simp] theorem State.modCtx_bus (s : State) (b : BayNo) (f : Ctx → Ctx) : (s.modCtx b f).bus = s.bus := rfl
@[simp] theorem State.modCtx_time (s : State) (b : BayNo) (f : Ctx → Ctx) : (s.modCtx b f).time = s.time := rfl
@[simp] theorem State.modCtx_pending (s : State) (b : BayNo) (f : Ctx → Ctx) : (s.modCtx b f).pending = s.pending := rfl
@[simp] theorem State.modCtx_up (s : State) (b : BayNo) (f : Ctx → Ctx) : (s.modCtx b f).up = s.up := rfl
@[simp] theorem State.modCtx_check (s : State) (b : BayNo) (f : Ctx → Ctx) : (s.modCtx b f).check = s.check := rfl

/-! ### The port -/

@[simp] theorem State.modLink_link (s : State) (f : Link → Link) : (s.modLink f).link = f s.link := rfl
@[simp] theorem State.modLink_bays (s : State) (f : Link → Link) : (s.modLink f).bays = s.bays := rfl
@[simp] theorem State.modLink_bay (s : State) (f : Link → Link) (b : BayNo) : (s.modLink f).bay b = s.bay b := rfl
@[simp] theorem State.modLink_tariff (s : State) (f : Link → Link) : (s.modLink f).tariff = s.tariff := rfl
@[simp] theorem State.modLink_card (s : State) (f : Link → Link) : (s.modLink f).card = s.card := rfl
@[simp] theorem State.modLink_journal (s : State) (f : Link → Link) : (s.modLink f).journal = s.journal := rfl
@[simp] theorem State.modLink_bus (s : State) (f : Link → Link) : (s.modLink f).bus = s.bus := rfl
@[simp] theorem State.modLink_time (s : State) (f : Link → Link) : (s.modLink f).time = s.time := rfl
@[simp] theorem State.modLink_pending (s : State) (f : Link → Link) : (s.modLink f).pending = s.pending := rfl
@[simp] theorem State.modLink_up (s : State) (f : Link → Link) : (s.modLink f).up = s.up := rfl
@[simp] theorem State.modLink_check (s : State) (f : Link → Link) : (s.modLink f).check = s.check := rfl

/-! ### The Journal Unit -/

@[simp] theorem State.modJournal_journal (s : State) (f : Journal → Journal) : (s.modJournal f).journal = f s.journal := rfl
@[simp] theorem State.modJournal_bays (s : State) (f : Journal → Journal) : (s.modJournal f).bays = s.bays := rfl
@[simp] theorem State.modJournal_bay (s : State) (f : Journal → Journal) (b : BayNo) : (s.modJournal f).bay b = s.bay b := rfl
@[simp] theorem State.modJournal_tariff (s : State) (f : Journal → Journal) : (s.modJournal f).tariff = s.tariff := rfl
@[simp] theorem State.modJournal_card (s : State) (f : Journal → Journal) : (s.modJournal f).card = s.card := rfl
@[simp] theorem State.modJournal_link (s : State) (f : Journal → Journal) : (s.modJournal f).link = s.link := rfl
@[simp] theorem State.modJournal_bus (s : State) (f : Journal → Journal) : (s.modJournal f).bus = s.bus := rfl
@[simp] theorem State.modJournal_time (s : State) (f : Journal → Journal) : (s.modJournal f).time = s.time := rfl
@[simp] theorem State.modJournal_pending (s : State) (f : Journal → Journal) : (s.modJournal f).pending = s.pending := rfl
@[simp] theorem State.modJournal_up (s : State) (f : Journal → Journal) : (s.modJournal f).up = s.up := rfl
@[simp] theorem State.modJournal_check (s : State) (f : Journal → Journal) : (s.modJournal f).check = s.check := rfl

/-! ### The Card Unit, the bus and the clock -/

@[simp] theorem State.modCard_card (s : State) (f : CardUnit → CardUnit) : (s.modCard f).card = f s.card := rfl
@[simp] theorem State.modCard_bays (s : State) (f : CardUnit → CardUnit) : (s.modCard f).bays = s.bays := rfl
@[simp] theorem State.modCard_bay (s : State) (f : CardUnit → CardUnit) (b : BayNo) : (s.modCard f).bay b = s.bay b := rfl
@[simp] theorem State.modCard_tariff (s : State) (f : CardUnit → CardUnit) : (s.modCard f).tariff = s.tariff := rfl
@[simp] theorem State.modCard_journal (s : State) (f : CardUnit → CardUnit) : (s.modCard f).journal = s.journal := rfl
@[simp] theorem State.modCard_link (s : State) (f : CardUnit → CardUnit) : (s.modCard f).link = s.link := rfl
@[simp] theorem State.modCard_bus (s : State) (f : CardUnit → CardUnit) : (s.modCard f).bus = s.bus := rfl
@[simp] theorem State.modCard_time (s : State) (f : CardUnit → CardUnit) : (s.modCard f).time = s.time := rfl
@[simp] theorem State.modCard_pending (s : State) (f : CardUnit → CardUnit) : (s.modCard f).pending = s.pending := rfl
@[simp] theorem State.modCard_up (s : State) (f : CardUnit → CardUnit) : (s.modCard f).up = s.up := rfl
@[simp] theorem State.modCard_check (s : State) (f : CardUnit → CardUnit) : (s.modCard f).check = s.check := rfl

@[simp] theorem State.modBus_bus (s : State) (f : Bus → Bus) : (s.modBus f).bus = f s.bus := rfl
@[simp] theorem State.modBus_bays (s : State) (f : Bus → Bus) : (s.modBus f).bays = s.bays := rfl
@[simp] theorem State.modBus_bay (s : State) (f : Bus → Bus) (b : BayNo) : (s.modBus f).bay b = s.bay b := rfl
@[simp] theorem State.modBus_tariff (s : State) (f : Bus → Bus) : (s.modBus f).tariff = s.tariff := rfl
@[simp] theorem State.modBus_card (s : State) (f : Bus → Bus) : (s.modBus f).card = s.card := rfl
@[simp] theorem State.modBus_journal (s : State) (f : Bus → Bus) : (s.modBus f).journal = s.journal := rfl
@[simp] theorem State.modBus_link (s : State) (f : Bus → Bus) : (s.modBus f).link = s.link := rfl
@[simp] theorem State.modBus_time (s : State) (f : Bus → Bus) : (s.modBus f).time = s.time := rfl
@[simp] theorem State.modBus_pending (s : State) (f : Bus → Bus) : (s.modBus f).pending = s.pending := rfl
@[simp] theorem State.modBus_up (s : State) (f : Bus → Bus) : (s.modBus f).up = s.up := rfl
@[simp] theorem State.modBus_check (s : State) (f : Bus → Bus) : (s.modBus f).check = s.check := rfl

@[simp] theorem State.modTariff_tariff (s : State) (f : Tariff → Tariff) : (s.modTariff f).tariff = f s.tariff := rfl
@[simp] theorem State.modTariff_bays (s : State) (f : Tariff → Tariff) : (s.modTariff f).bays = s.bays := rfl
@[simp] theorem State.modTariff_bay (s : State) (f : Tariff → Tariff) (b : BayNo) : (s.modTariff f).bay b = s.bay b := rfl
@[simp] theorem State.modTariff_card (s : State) (f : Tariff → Tariff) : (s.modTariff f).card = s.card := rfl
@[simp] theorem State.modTariff_journal (s : State) (f : Tariff → Tariff) : (s.modTariff f).journal = s.journal := rfl
@[simp] theorem State.modTariff_link (s : State) (f : Tariff → Tariff) : (s.modTariff f).link = s.link := rfl
@[simp] theorem State.modTariff_bus (s : State) (f : Tariff → Tariff) : (s.modTariff f).bus = s.bus := rfl
@[simp] theorem State.modTariff_time (s : State) (f : Tariff → Tariff) : (s.modTariff f).time = s.time := rfl
@[simp] theorem State.modTariff_pending (s : State) (f : Tariff → Tariff) : (s.modTariff f).pending = s.pending := rfl
@[simp] theorem State.modTariff_up (s : State) (f : Tariff → Tariff) : (s.modTariff f).up = s.up := rfl
@[simp] theorem State.modTariff_check (s : State) (f : Tariff → Tariff) : (s.modTariff f).check = s.check := rfl

@[simp] theorem State.tick_bays (s : State) : s.tick.bays = s.bays := rfl
@[simp] theorem State.tick_tariff (s : State) : s.tick.tariff = s.tariff := rfl
@[simp] theorem State.tick_card (s : State) : s.tick.card = s.card := rfl
@[simp] theorem State.tick_journal (s : State) : s.tick.journal = s.journal := rfl
@[simp] theorem State.tick_link (s : State) : s.tick.link = s.link := rfl
@[simp] theorem State.tick_bus (s : State) : s.tick.bus = s.bus := rfl
@[simp] theorem State.tick_pending (s : State) : s.tick.pending = s.pending := rfl
@[simp] theorem State.tick_up (s : State) : s.tick.up = s.up := rfl
@[simp] theorem State.tick_check (s : State) : s.tick.check = s.check := rfl

/-! ### The retained area and its check -/

@[simp] theorem State.reseal_up (s t : State) : (s.reseal t).up = t.up := rfl
@[simp] theorem State.reseal_bays (s t : State) : (s.reseal t).bays = t.bays := rfl
@[simp] theorem State.reseal_tariff (s t : State) : (s.reseal t).tariff = t.tariff := rfl
@[simp] theorem State.reseal_card (s t : State) : (s.reseal t).card = t.card := rfl
@[simp] theorem State.reseal_journal (s t : State) : (s.reseal t).journal = t.journal := rfl
@[simp] theorem State.reseal_link (s t : State) : (s.reseal t).link = t.link := rfl
@[simp] theorem State.reseal_bus (s t : State) : (s.reseal t).bus = t.bus := rfl
@[simp] theorem State.reseal_time (s t : State) : (s.reseal t).time = t.time := rfl
@[simp] theorem State.reseal_pending (s t : State) : (s.reseal t).pending = t.pending := rfl
@[simp] theorem State.reseal_bay (s t : State) (b : BayNo) : (s.reseal t).bay b = t.bay b := rfl
@[simp] theorem State.reseal_ctx (s t : State) (b : BayNo) : (s.reseal t).ctx b = t.ctx b := rfl
@[simp] theorem State.reseal_retained (s t : State) : (s.reseal t).retained = t.retained := rfl
@[simp] theorem State.seal_up (s : State) : s.seal.up = s.up := rfl
@[simp] theorem State.seal_bays (s : State) : s.seal.bays = s.bays := rfl
@[simp] theorem State.seal_tariff (s : State) : s.seal.tariff = s.tariff := rfl
@[simp] theorem State.seal_card (s : State) : s.seal.card = s.card := rfl
@[simp] theorem State.seal_journal (s : State) : s.seal.journal = s.journal := rfl
@[simp] theorem State.seal_link (s : State) : s.seal.link = s.link := rfl
@[simp] theorem State.seal_bus (s : State) : s.seal.bus = s.bus := rfl
@[simp] theorem State.seal_time (s : State) : s.seal.time = s.time := rfl
@[simp] theorem State.seal_pending (s : State) : s.seal.pending = s.pending := rfl
@[simp] theorem State.seal_check (s : State) : s.seal.check = s.retained.crc := rfl
@[simp] theorem State.seal_retained (s : State) : s.seal.retained = s.retained := rfl
@[simp] theorem State.modLink_retained (s : State) (f : Link → Link) : (s.modLink f).retained = s.retained := rfl
@[simp] theorem State.modBus_retained (s : State) (f : Bus → Bus) : (s.modBus f).retained = s.retained := rfl
@[simp] theorem State.modTariff_retained (s : State) (f : Tariff → Tariff) : (s.modTariff f).retained = s.retained := rfl

@[simp] theorem State.reseal_self (s : State) : s.reseal s = s := by simp [State.reseal]

/-- The check stands over the items of a state just sealed. -/
theorem State.seal_areaGood (s : State) : s.seal.areaGood := rfl

/-- A step whose answer reseals the area keeps its check good, whatever it changes. -/
theorem State.reseal_areaGood {s : State} (h : s.areaGood) (t : State) : (s.reseal t).areaGood := by
  show (if t.retained = s.retained then s.check else t.retained.crc) = t.retained.crc
  split
  · next e => rw [e]; exact h
  · rfl

@[simp] theorem State.whenUp_of_up {s : State} (h : s.up = true) (t : State) : s.whenUp t = t := by
  simp [State.whenUp, h]

/-- What holds before and after holds whether start-up has ended or not. -/
theorem State.whenUp_cases (P : State → Prop) {s t : State} (hs : P s) (ht : P t) : P (s.whenUp t) := by
  unfold State.whenUp; split <;> assumption

/-! ### Done for every bay -/

/-- What no turn of `f` changes, `forBays f` leaves. -/
theorem forBays_keeps {α : Type} (p : State → α) (f : BayNo → State → State) (h : ∀ b s, p (f b s) = p s) (s : State) :
    p (forBays f s) = p s := by
  simp only [forBays, allBays, List.foldl_cons, List.foldl_nil, h]

/-- What every turn of `f` keeps, `forBays f` keeps. -/
theorem forBays_invariant (P : State → Prop) (f : BayNo → State → State) (h : ∀ b s, P s → P (f b s)) {s : State}
    (hs : P s) : P (forBays f s) := by
  simp only [forBays, allBays, List.foldl_cons, List.foldl_nil]
  exact h _ _ (h _ _ (h _ _ (h _ _ (h _ _ (h _ _ (h _ _ (h _ _ hs)))))))

end Sys2Proof.Machine
end

