-- ==== Sys2Proof/Laws/Peers.lean ====
section
/-! SUPPORT. What an operation at one bay leaves of the other bays' contexts. An operation that touches no context says so
of every bay c; one that works on bay b's context says so of every bay but b. -/

namespace Sys2Proof.Machine

open Sys2Proof

/-- The contexts of every bay but b, bay b's own masked. -/
def State.peers (s : State) (b : BayNo) : BayNo → Ctx := fun c => if c = b then Ctx.reset else s.ctx c

/-- Equal peers are equal contexts at every other bay. -/
theorem State.ctx_of_peers {s t : State} {b c : BayNo} (h : t.peers b = s.peers b) (hc : c ≠ b) : t.ctx c = s.ctx c := by
  simpa [State.peers, hc] using congrFun h c

@[simp] theorem State.modBay_peers (s : State) (b : BayNo) (f : Bay → Bay) : (s.modBay b f).peers b = s.peers b := by
  funext c
  by_cases h : c = b
  · simp [State.peers, h]
  · simp [State.peers, h, State.ctx, State.bay_modBay_ne]

/-- An update of a bay that keeps its context. -/
theorem State.modBay_peers_all (s : State) (b c : BayNo) (f : Bay → Bay) (h : ∀ y, (f y).ctx = y.ctx) :
    (s.modBay b f).peers c = s.peers c := by
  funext d
  simp only [State.peers, State.ctx, State.bay_modBay]
  split
  · rfl
  · split
    · next e => subst e; exact h _
    · rfl

@[simp] theorem State.modCtx_peers (s : State) (b : BayNo) (f : Ctx → Ctx) : (s.modCtx b f).peers b = s.peers b :=
  s.modBay_peers b _
@[simp] theorem State.modLink_peers (s : State) (c : BayNo) (f : Link → Link) : (s.modLink f).peers c = s.peers c := rfl
@[simp] theorem State.modJournal_peers (s : State) (c : BayNo) (f : Journal → Journal) :
    (s.modJournal f).peers c = s.peers c := rfl
@[simp] theorem State.modCard_peers (s : State) (c : BayNo) (f : CardUnit → CardUnit) :
    (s.modCard f).peers c = s.peers c := rfl
@[simp] theorem State.modBus_peers (s : State) (c : BayNo) (f : Bus → Bus) : (s.modBus f).peers c = s.peers c := rfl
@[simp] theorem State.modTariff_peers (s : State) (c : BayNo) (f : Tariff → Tariff) :
    (s.modTariff f).peers c = s.peers c := rfl
@[simp] theorem State.tariff_peers (s : State) (c : BayNo) (x : Tariff) :
    State.peers { s with tariff := x } c = s.peers c := rfl
@[simp] theorem State.journal_peers (s : State) (c : BayNo) (x : Journal) :
    State.peers { s with journal := x } c = s.peers c := rfl
@[simp] theorem State.modExch_peers (s : State) (b c : BayNo) (f : Exchange → Exchange) :
    (s.modExch b f).peers c = s.peers c := s.modBay_peers_all b c _ fun _ => rfl
@[simp] theorem State.modTerm_peers (s : State) (b c : BayNo) (f : Terminal → Terminal) :
    (s.modTerm b f).peers c = s.peers c := s.modBay_peers_all b c _ fun _ => rfl
@[simp] theorem State.modTube_peers (s : State) (b c : BayNo) (t : TubeNo) (f : Tube → Tube) :
    (s.modTube b t f).peers c = s.peers c := s.modBay_peers_all b c _ fun _ => rfl
@[simp] theorem State.modPayout_peers (s : State) (b c : BayNo) (f : Executor → Executor) :
    (s.modPayout b f).peers c = s.peers c := s.modBay_peers_all b c _ fun _ => rfl
@[simp] theorem State.modCoin_peers (s : State) (b c : BayNo) (f : CoinLine → CoinLine) :
    (s.modCoin b f).peers c = s.peers c := s.modBay_peers_all b c _ fun _ => rfl
@[simp] theorem State.modCounters_peers (s : State) (b c : BayNo) (f : CoinCounters → CoinCounters) :
    (s.modCounters b f).peers c = s.peers c := s.modBay_peers_all b c _ fun _ => rfl
@[simp] theorem State.modLines_peers (s : State) (b c : BayNo) (f : BayLines → BayLines) :
    (s.modLines b f).peers c = s.peers c := s.modBay_peers_all b c _ fun _ => rfl
@[simp] theorem State.modTear_peers (s : State) (c : BayNo) (serial : BitVec 32) (f : Tear → Tear) :
    (s.modTear serial f).peers c = s.peers c := rfl

/-- A loop over the bays whose turns touch no context. -/
theorem forBays_peers (c : BayNo) (f : BayNo → State → State) (h : ∀ b s, (f b s).peers c = s.peers c) (s : State) :
    (forBays f s).peers c = s.peers c := forBays_keeps (State.peers · c) f h s

@[simp] theorem notify_peers (n : Notice) (s : State) (c : BayNo) : (notify n s).peers c = s.peers c := by rfl

@[simp] theorem notify?_peers (n : Option Notice) (s : State) (c : BayNo) : (notify? n s).peers c = s.peers c := by
  unfold notify?; split <;> simp

@[simp] theorem forwardNext_peers (s : State) (c : BayNo) : (forwardNext s).peers c = s.peers c := by
  unfold forwardNext; (repeat' split) <;> simp

@[simp] theorem settleErase_peers (s : State) (c : BayNo) : (settleErase s).peers c = s.peers c := by rfl

@[simp] theorem engineTake_peers (s : State) (c : BayNo) : (engineTake s).peers c = s.peers c := by
  simp only [engineTake]; (repeat' split) <;> simp

@[simp] theorem journalKick_peers (s : State) (c : BayNo) : (journalKick s).peers c = s.peers c := by
  simp [journalKick]

@[simp] theorem append_peers (r : Append) (s : State) (c : BayNo) : (append r s).peers c = s.peers c := by
  simp [append]

@[simp] theorem appendLink_peers (online : Bool) (s : State) (c : BayNo) :
    (appendLink online s).peers c = s.peers c := by
  simp [appendLink]

@[simp] theorem leaveFull_peers (s : State) (c : BayNo) : (leaveFull s).peers c = s.peers c := by
  unfold leaveFull; split <;> simp

@[simp] theorem refresh_peers (b : BayNo) (s : State) : (refresh b s).peers b = s.peers b := by simp [refresh]

@[simp] theorem sound_peers (x : Tone) (b : BayNo) (s : State) (c : BayNo) : (sound x b s).peers c = s.peers c := by
  exact s.modBay_peers_all _ _ _ fun _ => rfl

@[simp] theorem refuse_peers (code : Code) (b : BayNo) (s : State) : (refuse code b s).peers b = s.peers b := by
  simp [refuse]

@[simp] theorem clearOverlay_peers (b : BayNo) (s : State) : (clearOverlay b s).peers b = s.peers b := by
  simp [clearOverlay]

@[simp] theorem recomputeMask_peers (b : BayNo) (s : State) (c : BayNo) :
    (recomputeMask b s).peers c = s.peers c := by
  exact s.modBay_peers_all _ _ _ fun _ => rfl

@[simp] theorem changeTube_peers (b : BayNo) (t : TubeNo) (f : Tube → Tube) (s : State) (c : BayNo) :
    (changeTube b t f s).peers c = s.peers c := by
  simp [changeTube]

@[simp] theorem startPulse_peers (b : BayNo) (s : State) : (startPulse b s).peers b = s.peers b := by
  simp [startPulse]

@[simp] theorem requestReturn_peers (b : BayNo) (s : State) : (requestReturn b s).peers b = s.peers b := by
  unfold requestReturn; split <;> simp

@[simp] theorem routeEscrow_peers (b : BayNo) (s : State) : (routeEscrow b s).peers b = s.peers b := by
  simp [routeEscrow]

@[simp] theorem askBox_peers (b : BayNo) (s : State) : (askBox b s).peers b = s.peers b := by
  unfold askBox; (repeat' split) <;> simp

@[simp] theorem closePeriod_peers (b : BayNo) (s : State) (c : BayNo) : (closePeriod b s).peers c = s.peers c := by
  exact s.modBay_peers_all _ _ _ fun _ => rfl

@[simp] theorem removeBox_peers (b : BayNo) (s : State) : (removeBox b s).peers b = s.peers b := by simp [removeBox]

@[simp] theorem insertBox_peers (b : BayNo) (s : State) : (insertBox b s).peers b = s.peers b := by simp [insertBox]

@[simp] theorem stopPayout_peers (b : BayNo) (s : State) (c : BayNo) : (stopPayout b s).peers c = s.peers c := by
  simp [stopPayout]

@[simp] theorem planPayout_peers (b : BayNo) (s : State) (c : BayNo) : (planPayout b s).1.peers c = s.peers c := by
  simp only [planPayout]; (repeat' split) <;> simp

@[simp] theorem nextDrive_peers (b : BayNo) (s : State) (c : BayNo) : (nextDrive b s).1.peers c = s.peers c := by
  unfold nextDrive; (repeat' split) <;> simp

@[simp] theorem startPayout_peers (b : BayNo) (r : Requester) (amount : Nat) (s : State) (c : BayNo) :
    (startPayout b r amount s).1.peers c = s.peers c := by
  simp [startPayout]

@[simp] theorem placeRequest_peers (b : BayNo) (s : State) (c : BayNo) : (placeRequest b s).peers c = s.peers c := by
  rfl

@[simp] theorem runJob_peers (b : BayNo) (s : State) : (runJob b s).1.peers b = s.peers b := by
  simp only [runJob]; (repeat' split) <;> simp

@[simp] theorem startJob_peers (b : BayNo) (j : Job) (s : State) : (startJob b j s).1.peers b = s.peers b := by
  simp only [startJob]; (repeat' split) <;> simp

@[simp] theorem keepReceipt_peers (b : BayNo) (j : Job) (o : ReceiptOutcome) (s : State) (c : BayNo) :
    (keepReceipt b j o s).peers c = s.peers c := by
  unfold keepReceipt; (repeat' split) <;> first | rfl | exact s.modBay_peers_all _ _ _ fun _ => rfl

@[simp] theorem finishJob_peers (b : BayNo) (o : ReceiptOutcome) (s : State) :
    (finishJob b o s).1.peers b = s.peers b := by
  unfold finishJob
  split
  · rfl
  · split
    · simp
    · dsimp only
      split
      · simp
      · next w _ =>
        split <;>
        · next h =>
          have k := congrArg (·.1.peers b) h
          rw [startJob_peers] at k
          simpa using k.symm

@[simp] theorem driveJob_peers (b : BayNo) (s : State) : (driveJob b s).1.peers b = s.peers b := by
  unfold driveJob; split <;> next h => simpa [h] using runJob_peers b s

@[simp] theorem requestJob_peers (b : BayNo) (j : Job) (s : State) :
    (requestJob b j s).1.peers b = s.peers b := by
  unfold requestJob; split
  · split <;> next h => simpa [h] using startJob_peers b j s
  · simp

@[simp] theorem abortJob_peers (b : BayNo) (s : State) : (abortJob b s).peers b = s.peers b := by simp [abortJob]

@[simp] theorem cutJob_peers (b : BayNo) (s : State) : (cutJob b s).1.peers b = s.peers b := by simp [cutJob]

@[simp] theorem handCommand_peers (cmd : CardCommand) (owner : CommandOwner) (b : BayNo) (s : State) (c : BayNo) :
    (handCommand cmd owner b s).peers c = s.peers c := by
  simp [handCommand]

@[simp] theorem emptySlot_peers (b : BayNo) (s : State) (c : BayNo) : (emptySlot b s).peers c = s.peers c := by
  simp [emptySlot]

@[simp] theorem presentRead_peers (b : BayNo) (s : State) (c : BayNo) : (presentRead b s).peers c = s.peers c := by
  unfold presentRead; split <;> simp

@[simp] theorem startExchange_peers (p : Purpose) (req : Option WriteRequest) (b : BayNo) (s : State) (c : BayNo) :
    (startExchange p req b s).peers c = s.peers c := by
  simp [startExchange]

@[simp] theorem endAuth_peers (b : BayNo) (s : State) : (endAuth b s).peers b = s.peers b := by
  unfold endAuth; split <;> simp

@[simp] theorem endExchange_peers (b : BayNo) (s : State) : (endExchange b s).peers b = s.peers b := by
  simp [endExchange]

@[simp] theorem removeTear_peers (serial : BitVec 32) (s : State) (c : BayNo) :
    (removeTear serial s).peers c = s.peers c := by
  rfl

@[simp] theorem dropOwnEntry_peers (b : BayNo) (s : State) (c : BayNo) : (dropOwnEntry b s).peers c = s.peers c := by
  rfl

@[simp] theorem changeOwner_peers (b : BayNo) (o : TearOwner) (s : State) (c : BayNo) :
    (changeOwner b o s).peers c = s.peers c := by
  rfl

@[simp] theorem closeTear_peers (t : Tear) (resolution : Resolution) (resolver : Option BayNo) (reason : TearReason) (s : State) (c : BayNo) :
    (closeTear t resolution resolver reason s).peers c = s.peers c := by
  simp [closeTear]

@[simp] theorem formTear_peers (b : BayNo) (s : State) : (formTear b s).peers b = s.peers b := by
  unfold formTear; (repeat' split) <;> simp

@[simp] theorem issueWrite_peers (b : BayNo) (s : State) : (issueWrite b s).peers b = s.peers b := by
  unfold issueWrite; split <;> simp

@[simp] theorem issueReapplication_peers (t : Tear) (v : CardValues) (b : BayNo) (s : State) :
    (issueReapplication t v b s).peers b = s.peers b := by
  simp [issueReapplication]

@[simp] theorem resolve_peers (serial : BitVec 32) (b : BayNo) (s : State) (c : BayNo) :
    (resolve serial b s).peers c = s.peers c := by
  simp [resolve]

@[simp] theorem presentAgain_peers (b : BayNo) (s : State) (c : BayNo) : (presentAgain b s).peers c = s.peers c := by
  unfold presentAgain; rw [presentRead_peers]; exact s.modBay_peers_all _ _ _ fun _ => rfl

@[simp] theorem withdrawCommand_peers (b : BayNo) (s : State) (c : BayNo) :
    (withdrawCommand b s).peers c = s.peers c := by
  simp [withdrawCommand]

@[simp] theorem resumeAt_peers (serial : BitVec 32) (b : BayNo) (s : State) (c : BayNo) :
    (resumeAt serial b s).peers c = s.peers c := by
  unfold resumeAt; split <;> simp

@[simp] theorem resume_peers (serial : BitVec 32) (s : State) (c : BayNo) :
    (resume serial s).peers c = s.peers c := by
  exact forBays_peers _ _ (by simp) s

@[simp] theorem tearDone_peers (serial : BitVec 32) (resolution : Resolution) (s : State) (c : BayNo) :
    (tearDone serial resolution s).peers c = s.peers c := by
  unfold tearDone; (repeat' split) <;> simp

@[simp] theorem reapplyUnknown_peers (b : BayNo) (s : State) : (reapplyUnknown b s).peers b = s.peers b := by
  simp only [reapplyUnknown]; (repeat' split) <;> simp

@[simp] theorem reapplyAnswered_peers (resolution : Resolution) (reason : TearReason) (b : BayNo) (s : State) :
    (reapplyAnswered resolution reason b s).peers b = s.peers b := by
  simp only [reapplyAnswered]; (repeat' split) <;> simp

@[simp] theorem entryTone_peers (was st : CtxState) (b : BayNo) (s : State) (c : BayNo) :
    (entryTone was st b s).peers c = s.peers c := by
  unfold entryTone; (repeat' split) <;> simp

@[simp] theorem enter_peers (st : CtxState) (b : BayNo) (s : State) : (enter st b s).peers b = s.peers b := by
  simp [enter]

@[simp] theorem rest_peers (st : CtxState) (b : BayNo) (s : State) : (rest st b s).peers b = s.peers b := by
  simp [rest]

@[simp] theorem makeAbsent_peers (b : BayNo) (s : State) (c : BayNo) : (makeAbsent b s).peers c = s.peers c := by
  simp [makeAbsent]

@[simp] theorem settleAbsent_peers (b : BayNo) (s : State) (c : BayNo) : (settleAbsent b s).peers c = s.peers c := by
  unfold settleAbsent; split <;> simp

@[simp] theorem unpinBank_peers (b : BayNo) (s : State) (c : BayNo) : (unpinBank b s).peers c = s.peers c := by
  unfold unpinBank; split <;> simp

@[simp] theorem chirpFrom_peers (was : CtxState) (b : BayNo) (s : State) (c : BayNo) :
    (chirpFrom was b s).peers c = s.peers c := by
  unfold chirpFrom; split <;> simp

@[simp] theorem closeTxn_peers (b : BayNo) (s : State) : (closeTxn b s).peers b = s.peers b := by
  simp only [closeTxn, chirpFrom_peers, settleAbsent_peers, rest_peers]; split <;> simp

@[simp] theorem appendAdjust_peers (reason : AdjustReason) (amount : Nat) (by_ : AppendBy) (b : BayNo) (s : State) (c : BayNo) :
    (appendAdjust reason amount by_ b s).peers c = s.peers c := by
  simp [appendAdjust]

@[simp] theorem await_peers (w : Wait) (b : BayNo) (s : State) : (await w b s).peers b = s.peers b := by simp [await]

@[simp] theorem adjustAndWait_peers (reason : AdjustReason) (amount : Nat) (b : BayNo) (s : State) :
    (adjustAndWait reason amount b s).peers b = s.peers b := by
  simp [adjustAndWait]

@[simp] theorem refundEnded_peers (paid : Nat) (b : BayNo) (s : State) :
    (refundEnded paid b s).peers b = s.peers b := by
  simp only [refundEnded]; (repeat' split) <;> simp

@[simp] theorem enterRefund_peers (b : BayNo) (s : State) : (enterRefund b s).peers b = s.peers b := by
  unfold enterRefund; dsimp only
  split
  · split <;>
    · next h =>
      have k := congrArg (·.1.peers b) h
      rw [startPayout_peers] at k
      simp only [← k, refundEnded_peers]
      split <;> simp
  · split <;> simp

@[simp] theorem cancelWith_peers (code : Code) (b : BayNo) (s : State) :
    (cancelWith code b s).peers b = s.peers b := by
  simp [cancelWith]

@[simp] theorem joinServer_peers (b : BayNo) (s : State) : (joinServer b s).peers b = s.peers b := by
  simp [joinServer]

@[simp] theorem receiptAdjust_peers (by_ : AppendBy) (b : BayNo) (s : State) :
    (receiptAdjust by_ b s).peers b = s.peers b := by
  unfold receiptAdjust; split <;> simp

@[simp] theorem receiptTaken_peers (o : ReceiptOutcome) (b : BayNo) (s : State) :
    (receiptTaken o b s).peers b = s.peers b := by
  unfold receiptTaken; (repeat' split) <;> simp

@[simp] theorem receiptTaken?_peers (b : BayNo) (r : State × Option ReceiptOutcome) :
    (receiptTaken? b r).peers b = r.1.peers b := by
  unfold receiptTaken?; split <;> simp

@[simp] theorem enterPrint_peers (b : BayNo) (s : State) : (enterPrint b s).peers b = s.peers b := by
  simp only [enterPrint]; (repeat' split) <;> simp

@[simp] theorem changeEnded_peers (b : BayNo) (s : State) : (changeEnded b s).peers b = s.peers b := by
  simp only [changeEnded]; (repeat' split) <;> simp

@[simp] theorem payoutEnded_peers (b : BayNo) (s : State) : (payoutEnded b s).peers b = s.peers b := by
  simp only [payoutEnded]; (repeat' split) <;> simp

@[simp] theorem payoutStep_peers (b : BayNo) (r : State × Bool) : (payoutStep b r).peers b = r.1.peers b := by
  unfold payoutStep; split <;> simp

@[simp] theorem enterPayout_peers (b : BayNo) (s : State) : (enterPayout b s).peers b = s.peers b := by
  simp [enterPayout]

@[simp] theorem enterCommit_peers (b : BayNo) (s : State) : (enterCommit b s).peers b = s.peers b := by
  simp [enterCommit]

@[simp] theorem enterCardRead_peers (b : BayNo) (s : State) : (enterCardRead b s).peers b = s.peers b := by
  simp [enterCardRead]

@[simp] theorem enterCardWrite_peers (b : BayNo) (s : State) : (enterCardWrite b s).peers b = s.peers b := by
  simp [enterCardWrite]

@[simp] theorem enterTearWait_peers (b : BayNo) (s : State) : (enterTearWait b s).peers b = s.peers b := by
  simp [enterTearWait]

@[simp] theorem writeUnknown_peers (b : BayNo) (s : State) : (writeUnknown b s).peers b = s.peers b := by
  simp [writeUnknown]

@[simp] theorem enterPricing_peers (b : BayNo) (s : State) : (enterPricing b s).peers b = s.peers b := by
  simp [enterPricing]

@[simp] theorem leavePriced_peers (b : BayNo) (s : State) : (leavePriced b s).peers b = s.peers b := by
  simp only [leavePriced]; (repeat' split) <;> simp

@[simp] theorem takeSequence_peers (q : Nat) (b : BayNo) (s : State) : (takeSequence q b s).peers b = s.peers b := by
  simp only [takeSequence]; (repeat' split) <;> simp

@[simp] theorem finishReset_peers (b : BayNo) (s : State) : (finishReset b s).peers b = s.peers b := by
  simp only [finishReset]; split <;> simp

@[simp] theorem resetAdjust_peers (reason : AdjustReason) (amount : Nat) (b : BayNo) (s : State) (c : BayNo) :
    (resetAdjust reason amount b s).peers c = s.peers c := by
  unfold resetAdjust; split <;> simp

@[simp] theorem resetReceipt_peers (b : BayNo) (s : State) : (resetReceipt b s).peers b = s.peers b := by
  simp [resetReceipt]

@[simp] theorem resetEarly_peers (b : BayNo) (s : State) : (resetEarly b s).peers b = s.peers b := by
  simp only [resetEarly]; (repeat' split) <;> simp

@[simp] theorem resetPayout_peers (b : BayNo) (s : State) : (resetPayout b s).peers b = s.peers b := by
  simp only [resetPayout]; (repeat' split) <;> simp

@[simp] theorem resetPrint_peers (b : BayNo) (s : State) : (resetPrint b s).peers b = s.peers b := by
  simp only [resetPrint]; (repeat' split) <;> simp

@[simp] theorem resetRefund_peers (b : BayNo) (s : State) : (resetRefund b s).peers b = s.peers b := by
  simp only [resetRefund]; (repeat' split) <;> simp

@[simp] theorem bayReset_peers (b : BayNo) (s : State) : (bayReset b s).peers b = s.peers b := by
  simp only [bayReset]; (repeat' split) <;> simp

@[simp] theorem saleDone_peers (q : Nat) (b : BayNo) (s : State) : (saleDone q b s).peers b = s.peers b := by
  simp only [saleDone]; (repeat' split) <;> simp

@[simp] theorem adjustDone_peers (b : BayNo) (s : State) : (adjustDone b s).peers b = s.peers b := by
  unfold adjustDone; split <;> simp

@[simp] theorem lostReaction_peers (b : BayNo) (s : State) : (lostReaction b s).peers b = s.peers b := by
  simp only [lostReaction]; (repeat' split) <;> simp

@[simp] theorem causeReaction_peers (k : Cause) (b : BayNo) (s : State) :
    (causeReaction k b s).peers b = s.peers b := by
  simp only [causeReaction]; (repeat' split) <;> simp

@[simp] theorem joinCause_peers (k : Cause) (b : BayNo) (s : State) : (joinCause k b s).peers b = s.peers b := by
  unfold joinCause; split <;> simp

@[simp] theorem leaveCause_peers (k : Cause) (b : BayNo) (s : State) : (leaveCause k b s).peers b = s.peers b := by
  simp [leaveCause]

@[simp] theorem testJamAll_peers (b : BayNo) (s : State) : (testJamAll b s).peers b = s.peers b := by
  unfold testJamAll; split <;> simp

@[simp] theorem goodRead_peers (v : CardValues) (b : BayNo) (s : State) : (goodRead v b s).peers b = s.peers b := by
  unfold goodRead; split <;> simp

@[simp] theorem goWrite_peers (b : BayNo) (s : State) : (goWrite b s).peers b = s.peers b := by
  unfold goWrite; (repeat' split) <;> simp

@[simp] theorem requestAuth_peers (r : WriteRequest) (v : CardValues) (b : BayNo) (s : State) :
    (requestAuth r v b s).peers b = s.peers b := by
  simp [requestAuth]

@[simp] theorem afterFresh_peers (r : WriteRequest) (v : CardValues) (b : BayNo) (s : State) :
    (afterFresh r v b s).peers b = s.peers b := by
  simp only [afterFresh]; (repeat' split) <;> simp

@[simp] theorem freshRead_peers (v : CardValues) (b : BayNo) (s : State) : (freshRead v b s).peers b = s.peers b := by
  simp only [freshRead]; (repeat' split) <;> simp

@[simp] theorem settleOwn_peers (t : Tear) (v : CardValues) (b : BayNo) (s : State) :
    (settleOwn t v b s).peers b = s.peers b := by
  unfold settleOwn; (repeat' split) <;> simp

@[simp] theorem reapplyEntry_peers (t : Tear) (v : CardValues) (b : BayNo) (s : State) :
    (reapplyEntry t v b s).peers b = s.peers b := by
  simp only [reapplyEntry]; (repeat' split) <;> simp

@[simp] theorem resolveEntry_peers (t : Tear) (v : CardValues) (b : BayNo) (s : State) :
    (resolveEntry t v b s).peers b = s.peers b := by
  unfold resolveEntry; (repeat' split) <;> simp

@[simp] theorem purposeRead_peers (v : CardValues) (b : BayNo) (s : State) :
    (purposeRead v b s).peers b = s.peers b := by
  unfold purposeRead; split <;> simp

@[simp] theorem entryRead_peers (t : Tear) (v : CardValues) (b : BayNo) (s : State) :
    (entryRead t v b s).peers b = s.peers b := by
  unfold entryRead; (repeat' split) <;> simp

@[simp] theorem readTaken_peers (v : CardValues) (b : BayNo) (s : State) : (readTaken v b s).peers b = s.peers b := by
  unfold readTaken; split <;> simp

@[simp] theorem lateRead_peers (v : CardValues) (b : BayNo) (s : State) (c : BayNo) :
    (lateRead v b s).peers c = s.peers c := by
  unfold lateRead; (repeat' split) <;> simp

@[simp] theorem writeDone_peers (balance : Nat) (b : BayNo) (s : State) :
    (writeDone balance b s).peers b = s.peers b := by
  simp [writeDone]

@[simp] theorem writeRefused_peers (r : CardRefusal) (b : BayNo) (s : State) :
    (writeRefused r b s).peers b = s.peers b := by
  simp [writeRefused]

@[simp] theorem authFailed_peers (code : Code) (b : BayNo) (s : State) :
    (authFailed code b s).peers b = s.peers b := by
  simp [authFailed]

@[simp] theorem authGranted_peers (ref : BitVec 32) (b : BayNo) (s : State) :
    (authGranted ref b s).peers b = s.peers b := by
  simp [authGranted]

@[simp] theorem unhold_peers (b : BayNo) (s : State) : (unhold b s).peers b = s.peers b := by
  unfold unhold; (repeat' split) <;> simp

@[simp] theorem dropHead_peers (s : State) (c : BayNo) : (dropHead s).peers c = s.peers c := by rfl

@[simp] theorem formatError_peers (s : State) (c : BayNo) : (formatError s).peers c = s.peers c := by rfl

@[simp] theorem coinOff_peers (b : BayNo) (s : State) : (coinOff b s).peers b = s.peers b := by
  unfold coinOff; split <;> simp

@[simp] theorem coinOn_peers (b : BayNo) (s : State) : (coinOn b s).peers b = s.peers b := by
  unfold coinOn; split <;> simp

@[simp] theorem rotationPoll_peers (b : BayNo) (s : State) : (rotationPoll b s).peers b = s.peers b := by
  simp [rotationPoll]

@[simp] theorem recoveryPoll_peers (b : BayNo) (s : State) (c : BayNo) : (recoveryPoll b s).peers c = s.peers c := by
  simp [recoveryPoll]

@[simp] theorem lostCommand_peers (c : Option CardSlot) (b : BayNo) (s : State) :
    (lostCommand c b s).peers b = s.peers b := by
  unfold lostCommand; (repeat' split) <;> simp

@[simp] theorem terminalLost_peers (b : BayNo) (s : State) : (terminalLost b s).peers b = s.peers b := by
  simp [terminalLost]

@[simp] theorem miss_peers (b : BayNo) (s : State) : (miss b s).peers b = s.peers b := by
  unfold miss; (repeat' split) <;> simp

@[simp] theorem endBusExchange_peers (s : State) (c : BayNo) : (endBusExchange s).peers c = s.peers c := by rfl

@[simp] theorem countBadReply_peers (s : State) (c : BayNo) : (countBadReply s).peers c = s.peers c := by rfl

@[simp] theorem terminalHeard_peers (b : BayNo) (s : State) : (terminalHeard b s).peers b = s.peers b := by
  simp only [terminalHeard]; (repeat' split) <;> simp

@[simp] theorem openTxn_peers (p : Product) (q : Selection) (b : BayNo) (s : State) :
    (openTxn p q b s).peers b = s.peers b := by
  unfold openTxn; dsimp only; split <;> simp only [enterCardRead_peers, enterPricing_peers, enter_peers] <;>
    exact s.modBay_peers b fun y => { y with
      ctx := y.ctx.open p q s.tariff.active s.time.calendar, reserved := p.withCard q }

@[simp] theorem select_peers (q : Selection) (b : BayNo) (s : State) : (select q b s).peers b = s.peers b := by
  unfold select; dsimp only; (repeat' split) <;> first | rfl | simp

@[simp] theorem confirmed_peers (p : Product) (m : Method) (wanted : Bool) (b : BayNo) (s : State) :
    (confirmed p m wanted b s).peers b = s.peers b := by
  simp only [confirmed]; (repeat' split) <;> simp

@[simp] theorem confirm_peers (m : Method) (wanted : Bool) (b : BayNo) (s : State) :
    (confirm m wanted b s).peers b = s.peers b := by
  simp only [confirm]; (repeat' split) <;> simp

@[simp] theorem cancel_peers (b : BayNo) (s : State) : (cancel b s).peers b = s.peers b := by
  simp only [cancel]; (repeat' split) <;> simp

@[simp] theorem reprint_peers (b : BayNo) (s : State) : (reprint b s).peers b = s.peers b := by
  unfold reprint; (repeat' split) <;> simp

@[simp] theorem timeout_peers (b : BayNo) (s : State) : (timeout b s).peers b = s.peers b := by
  unfold timeout; split <;> simp

@[simp] theorem commandExpired_peers (c : CardSlot) (b : BayNo) (s : State) :
    (commandExpired c b s).peers b = s.peers b := by
  unfold commandExpired; split <;> simp

@[simp] theorem cardRead_peers (v : CardValues) (b : BayNo) (c : CardSlot) (s : State) :
    (cardRead v b c s).peers b = s.peers b := by
  unfold cardRead; split <;> simp

@[simp] theorem writeOk_peers (balance : Nat) (b : BayNo) (c : CardSlot) (s : State) :
    (writeOk balance b c s).peers b = s.peers b := by
  unfold writeOk; split <;> simp

@[simp] theorem writeNo_peers (r : CardRefusal) (b : BayNo) (c : CardSlot) (s : State) :
    (writeNo r b c s).peers b = s.peers b := by
  unfold writeNo; split <;> simp

@[simp] theorem countCoin_peers (c : Coin) (pulses : Nat) (malformed : Bool) (b : BayNo) (s : State) :
    (countCoin c pulses malformed b s).peers b = s.peers b := by
  unfold countCoin; split <;> simp

@[simp] theorem creditCoin_peers (c : Coin) (b : BayNo) (s : State) : (creditCoin c b s).peers b = s.peers b := by
  unfold creditCoin; split <;> simp

@[simp] theorem joinEscrow_peers (c : Coin) (b : BayNo) (s : State) : (joinEscrow c b s).peers b = s.peers b := by
  simp only [joinEscrow]; (repeat' split) <;> simp

@[simp] theorem overflowCoin_peers (c : Coin) (b : BayNo) (s : State) : (overflowCoin c b s).peers b = s.peers b := by
  simp [overflowCoin]

@[simp] theorem placeCoin_peers (c : Coin) (b : BayNo) (s : State) : (placeCoin c b s).peers b = s.peers b := by
  unfold placeCoin; split <;> simp

@[simp] theorem payIfComplete_peers (c : Coin) (b : BayNo) (s : State) :
    (payIfComplete c b s).peers b = s.peers b := by
  unfold payIfComplete; (repeat' split) <;> simp

@[simp] theorem takeCoin_peers (pulses : Nat) (malformed : Bool) (b : BayNo) (s : State) :
    (takeCoin pulses malformed b s).peers b = s.peers b := by
  simp [takeCoin]

@[simp] theorem declareFault_peers (b : BayNo) (s : State) : (declareFault b s).peers b = s.peers b := by
  simp [declareFault]

@[simp] theorem endFault_peers (b : BayNo) (s : State) : (endFault b s).peers b = s.peers b := by simp [endFault]

@[simp] theorem extraCoin_peers (t : TubeNo) (b : BayNo) (s : State) (c : BayNo) :
    (extraCoin t b s).peers c = s.peers c := by
  simp [extraCoin]

@[simp] theorem payCoin_peers (v : Nat) (b : BayNo) (s : State) : (payCoin v b s).peers b = s.peers b := by
  simp only [payCoin]; (repeat' split) <;> simp

@[simp] theorem answerDrive_peers (t : TubeNo) (b : BayNo) (s : State) : (answerDrive t b s).peers b = s.peers b := by
  simp only [answerDrive]; (repeat' split) <;> simp

@[simp] theorem jam_peers (t : TubeNo) (b : BayNo) (s : State) : (jam t b s).peers b = s.peers b := by simp [jam]

@[simp] theorem setCause_peers (k : Cause) (v : Bool) (b : BayNo) (s : State) :
    (setCause k v b s).peers b = s.peers b := by
  unfold setCause; split <;> simp

@[simp] theorem placed_peers (r : Append) (s : State) (c : BayNo) : (placed r s).peers c = s.peers c := by
  unfold placed; (repeat' split) <;> first | rfl | exact s.modBay_peers_all _ _ _ fun _ => rfl

@[simp] theorem shiftQueue_peers (s : State) (c : BayNo) : (shiftQueue s).peers c = s.peers c := by
  simp only [shiftQueue]; (repeat' split) <;> simp

@[simp] theorem boxDone_peers (b : BayNo) (s : State) : (boxDone b s).peers b = s.peers b := by simp [boxDone]

@[simp] theorem delivered_peers (mark : Nat) (carried : Option Nat) (b : BayNo) (s : State) :
    (delivered mark carried b s).peers b = s.peers b := by
  unfold delivered; split <;> simp

@[simp] theorem paperChanged_peers (was is : Paper) (b : BayNo) (s : State) :
    (paperChanged was is b s).peers b = s.peers b := by
  simp only [paperChanged]; (repeat' split) <;> simp

@[simp] theorem statusAtJob_peers (b : BayNo) (s : State) : (statusAtJob b s).peers b = s.peers b := by
  simp only [statusAtJob]; (repeat' split) <;> simp

@[simp] theorem printerStatus_peers (paper : Paper) (headUp : Bool) (credit : Nat) (b : BayNo) (s : State) :
    (printerStatus paper headUp credit b s).peers b = s.peers b := by
  simp [printerStatus]

end Sys2Proof.Machine
end

