-- ==== Sys2Proof/Laws/PerInstr.lean ====
section
/-! SUPPORT. Statements made per command: no word spells a command, since no row of the opcode table gives bits. -/

namespace Sys2Proof.Laws

open Sys2Proof

/-- No word of any length spells the command. -/
def Unspelled.Statement (i : Instr) : Prop := ∀ nbits w : Nat, decodeTableWord nbits w ≠ some i

theorem Unspelled.powerOnReset (env : StartUp) : Unspelled.Statement (.powerOnReset env) :=
  fun _ _ => nofun
theorem Unspelled.frameReceived (bytes : List Byte) : Unspelled.Statement (.frameReceived bytes) :=
  fun _ _ => nofun
theorem Unspelled.characterWithoutStopBit : Unspelled.Statement (.characterWithoutStopBit) :=
  fun _ _ => nofun
theorem Unspelled.idleGapExpiry : Unspelled.Statement (.idleGapExpiry) :=
  fun _ _ => nofun
theorem Unspelled.frameGapExpiry : Unspelled.Statement (.frameGapExpiry) :=
  fun _ _ => nofun
theorem Unspelled.badKind : Unspelled.Statement (.badKind) :=
  fun _ _ => nofun
theorem Unspelled.heartbeat : Unspelled.Statement (.heartbeat) :=
  fun _ _ => nofun
theorem Unspelled.ack : Unspelled.Statement (.ack) :=
  fun _ _ => nofun
theorem Unspelled.authReply : Unspelled.Statement (.authReply) :=
  fun _ _ => nofun
theorem Unspelled.tableOpen : Unspelled.Statement (.tableOpen) :=
  fun _ _ => nofun
theorem Unspelled.tableData : Unspelled.Statement (.tableData) :=
  fun _ _ => nofun
theorem Unspelled.tableClose : Unspelled.Statement (.tableClose) :=
  fun _ _ => nofun
theorem Unspelled.loadClear : Unspelled.Statement (.loadClear) :=
  fun _ _ => nofun
theorem Unspelled.bankSwitch : Unspelled.Statement (.bankSwitch) :=
  fun _ _ => nofun
theorem Unspelled.scheduledSwitchDue : Unspelled.Statement (.scheduledSwitchDue) :=
  fun _ _ => nofun
theorem Unspelled.denyAdd : Unspelled.Statement (.denyAdd) :=
  fun _ _ => nofun
theorem Unspelled.denyRemove : Unspelled.Statement (.denyRemove) :=
  fun _ _ => nofun
theorem Unspelled.setTime : Unspelled.Statement (.setTime) :=
  fun _ _ => nofun
theorem Unspelled.clockSecond : Unspelled.Statement (.clockSecond) :=
  fun _ _ => nofun
theorem Unspelled.queryBay : Unspelled.Statement (.queryBay) :=
  fun _ _ => nofun
theorem Unspelled.queryTubes : Unspelled.Statement (.queryTubes) :=
  fun _ _ => nofun
theorem Unspelled.queryBox : Unspelled.Statement (.queryBox) :=
  fun _ _ => nofun
theorem Unspelled.queryLoad : Unspelled.Statement (.queryLoad) :=
  fun _ _ => nofun
theorem Unspelled.queryJournal : Unspelled.Statement (.queryJournal) :=
  fun _ _ => nofun
theorem Unspelled.queryTear : Unspelled.Statement (.queryTear) :=
  fun _ _ => nofun
theorem Unspelled.queryLink : Unspelled.Statement (.queryLink) :=
  fun _ _ => nofun
theorem Unspelled.queryIdent : Unspelled.Statement (.queryIdent) :=
  fun _ _ => nofun
theorem Unspelled.bayControlInService : Unspelled.Statement (.bayControlInService) :=
  fun _ _ => nofun
theorem Unspelled.bayControlOutOfService : Unspelled.Statement (.bayControlOutOfService) :=
  fun _ _ => nofun
theorem Unspelled.bayControlReset : Unspelled.Statement (.bayControlReset) :=
  fun _ _ => nofun
theorem Unspelled.coinOff : Unspelled.Statement (.coinOff) :=
  fun _ _ => nofun
theorem Unspelled.coinOn : Unspelled.Statement (.coinOn) :=
  fun _ _ => nofun
theorem Unspelled.tubeSet : Unspelled.Statement (.tubeSet) :=
  fun _ _ => nofun
theorem Unspelled.hold : Unspelled.Statement (.hold) :=
  fun _ _ => nofun
theorem Unspelled.releaseHold : Unspelled.Statement (.releaseHold) :=
  fun _ _ => nofun
theorem Unspelled.noticeMask : Unspelled.Statement (.noticeMask) :=
  fun _ _ => nofun
theorem Unspelled.linkReset : Unspelled.Statement (.linkReset) :=
  fun _ _ => nofun
theorem Unspelled.frameSent : Unspelled.Statement (.frameSent) :=
  fun _ _ => nofun
theorem Unspelled.supervisionExpiry : Unspelled.Statement (.supervisionExpiry) :=
  fun _ _ => nofun
theorem Unspelled.pollStart : Unspelled.Statement (.pollStart) :=
  fun _ _ => nofun
theorem Unspelled.recoveryPollDue : Unspelled.Statement (.recoveryPollDue) :=
  fun _ _ => nofun
theorem Unspelled.replyReceived (bytes : List Byte) : Unspelled.Statement (.replyReceived bytes) :=
  fun _ _ => nofun
theorem Unspelled.replyWindowExpiry : Unspelled.Statement (.replyWindowExpiry) :=
  fun _ _ => nofun
theorem Unspelled.replyGapExpiry : Unspelled.Statement (.replyGapExpiry) :=
  fun _ _ => nofun
theorem Unspelled.lineHeld : Unspelled.Statement (.lineHeld) :=
  fun _ _ => nofun
theorem Unspelled.breakEnd : Unspelled.Statement (.breakEnd) :=
  fun _ _ => nofun
theorem Unspelled.recoveryWaitEnd : Unspelled.Statement (.recoveryWaitEnd) :=
  fun _ _ => nofun
theorem Unspelled.select : Unspelled.Statement (.select) :=
  fun _ _ => nofun
theorem Unspelled.confirm : Unspelled.Statement (.confirm) :=
  fun _ _ => nofun
theorem Unspelled.cancel : Unspelled.Statement (.cancel) :=
  fun _ _ => nofun
theorem Unspelled.reprint : Unspelled.Statement (.reprint) :=
  fun _ _ => nofun
theorem Unspelled.cardCommandTaken : Unspelled.Statement (.cardCommandTaken) :=
  fun _ _ => nofun
theorem Unspelled.cardAnswerCard : Unspelled.Statement (.cardAnswerCard) :=
  fun _ _ => nofun
theorem Unspelled.cardAnswerNoCard : Unspelled.Statement (.cardAnswerNoCard) :=
  fun _ _ => nofun
theorem Unspelled.writeAnswerOk : Unspelled.Statement (.writeAnswerOk) :=
  fun _ _ => nofun
theorem Unspelled.writeAnswerRefused : Unspelled.Statement (.writeAnswerRefused) :=
  fun _ _ => nofun
theorem Unspelled.cardCommandTimeout (bay : BayNo) : Unspelled.Statement (.cardCommandTimeout bay) :=
  fun _ _ => nofun
theorem Unspelled.presentationLimitExpiry (bay : BayNo) : Unspelled.Statement (.presentationLimitExpiry bay) :=
  fun _ _ => nofun
theorem Unspelled.authWaitExpiry (bay : BayNo) : Unspelled.Statement (.authWaitExpiry bay) :=
  fun _ _ => nofun
theorem Unspelled.tearExpiry : Unspelled.Statement (.tearExpiry) :=
  fun _ _ => nofun
theorem Unspelled.contextTimeout (bay : BayNo) : Unspelled.Statement (.contextTimeout bay) :=
  fun _ _ => nofun
theorem Unspelled.evaluationEnd : Unspelled.Statement (.evaluationEnd) :=
  fun _ _ => nofun
theorem Unspelled.coinLineChange (bay : BayNo) (high : Bool) : Unspelled.Statement (.coinLineChange bay high) :=
  fun _ _ => nofun
theorem Unspelled.filteredFallingEdge (bay : BayNo) : Unspelled.Statement (.filteredFallingEdge bay) :=
  fun _ _ => nofun
theorem Unspelled.filteredRisingEdge (bay : BayNo) : Unspelled.Statement (.filteredRisingEdge bay) :=
  fun _ _ => nofun
theorem Unspelled.trainEnd (bay : BayNo) : Unspelled.Statement (.trainEnd bay) :=
  fun _ _ => nofun
theorem Unspelled.lineStuck (bay : BayNo) : Unspelled.Statement (.lineStuck bay) :=
  fun _ _ => nofun
theorem Unspelled.faultEnd (bay : BayNo) : Unspelled.Statement (.faultEnd bay) :=
  fun _ _ => nofun
theorem Unspelled.escrowPulseEnd (bay : BayNo) : Unspelled.Statement (.escrowPulseEnd bay) :=
  fun _ _ => nofun
theorem Unspelled.payoutSense (bay : BayNo) (tube : TubeNo) : Unspelled.Statement (.payoutSense bay tube) :=
  fun _ _ => nofun
theorem Unspelled.driveTimeout (bay : BayNo) : Unspelled.Statement (.driveTimeout bay) :=
  fun _ _ => nofun
theorem Unspelled.serviceDoorChange (bay : BayNo) (isOpen : Bool) : Unspelled.Statement (.serviceDoorChange bay isOpen) :=
  fun _ _ => nofun
theorem Unspelled.boxDoorChange (bay : BayNo) (isOpen : Bool) : Unspelled.Statement (.boxDoorChange bay isOpen) :=
  fun _ _ => nofun
theorem Unspelled.boxRemoved (bay : BayNo) : Unspelled.Statement (.boxRemoved bay) :=
  fun _ _ => nofun
theorem Unspelled.boxInserted (bay : BayNo) : Unspelled.Statement (.boxInserted bay) :=
  fun _ _ => nofun
theorem Unspelled.supplyWarningChange (asserted : Bool) : Unspelled.Statement (.supplyWarningChange asserted) :=
  fun _ _ => nofun
theorem Unspelled.auditSwitchChange (asserted : Bool) : Unspelled.Statement (.auditSwitchChange asserted) :=
  fun _ _ => nofun
theorem Unspelled.recordWriteEnd : Unspelled.Statement (.recordWriteEnd) :=
  fun _ _ => nofun
theorem Unspelled.eraseBegin : Unspelled.Statement (.eraseBegin) :=
  fun _ _ => nofun
theorem Unspelled.eraseEnd (success : Bool) : Unspelled.Statement (.eraseEnd success) :=
  fun _ _ => nofun
theorem Unspelled.printDelivered : Unspelled.Statement (.printDelivered) :=
  fun _ _ => nofun
theorem Unspelled.printerStatus : Unspelled.Statement (.printerStatus) :=
  fun _ _ => nofun
theorem Unspelled.noProgressLimit (bay : BayNo) : Unspelled.Statement (.noProgressLimit bay) :=
  fun _ _ => nofun
theorem Unspelled.characterReceived (char : Byte) : Unspelled.Statement (.characterReceived char) :=
  fun _ _ => nofun

end Sys2Proof.Laws
end

