-- ==== Sys2Proof/Laws/Retained.lean ====
section
/-! SUPPORT. The check of the retained area: the CRC-32 of a long list of bytes taken piece by piece, and the check of the
area of a part as delivered. -/

namespace Sys2Proof.Machine

open Sys2Proof

theorem crc32Run_append (r : BitVec 32) (a b : List Byte) : crc32Run r (a ++ b) = crc32Run (crc32Run r a) b :=
  List.foldl_append

/-- The registers qs stand behind one piece of n bytes each, and nothing is left. -/
def crc32Pieces (n : Nat) : BitVec 32 → List (BitVec 32) → List Byte → Bool
  | _, [], bs => bs.isEmpty
  | r, q :: qs, bs => decide (crc32Run r (bs.take n) = q) && crc32Pieces n q qs (bs.drop n)

theorem crc32Run_eq_of_pieces {n : Nat} (qs : List (BitVec 32)) :
    ∀ {r : BitVec 32} {bs : List Byte}, crc32Pieces n r qs bs = true → crc32Run r bs = qs.getLastD r := by
  induction qs with
  | nil => intro r bs h; simp_all [crc32Pieces, crc32Run]
  | cons q qs ih =>
    intro r bs h
    simp only [crc32Pieces, Bool.and_eq_true, decide_eq_true_eq] at h
    rw [← List.take_append_drop n bs, crc32Run_append, h.1, ih h.2]
    cases qs <;> rfl

/-- The check State.reset holds is that of its items (R205). -/
theorem reset_area_crc : State.reset.retained.crc = 0xe7efbdb0#32 := by
  have h : crc32Pieces 32 crc32Start 
      [0xaa7ea41c, 0xeb036fca, 0x4187fb89, 0xc3d55313, 0xda620c95,
       0x0772434b, 0x569634f5, 0xa862f12e, 0x75b5869e, 0xcaec47f0,
       0x267de131, 0x0dec8110, 0xb0a05af5, 0x87fb7998, 0xfa980af2,
       0x6217bc67, 0x0da042a7, 0x1eda4087, 0x276d7846, 0xf2420818]
      State.reset.retained.bytes = true := by decide +kernel
  exact (congrArg crc32End (crc32Run_eq_of_pieces _ h)).trans (by decide +kernel)

end Sys2Proof.Machine
end

