-- ==== Sys2Proof/Laws/Still.lean ====
section
/-! SUPPORT. What ordinary work leaves alone: the queue, the clocks, the table store and the acknowledged mark. One lemma
for each operation says that it leaves them, so that a claim about them is a chain of rewrites. -/

namespace Sys2Proof.Machine

open Sys2Proof

/-- The parts of the state that only the clock, the table frames, ACK, a power-on reset and the resealing of the retained
area change. -/
structure Still where
  up      : Bool
  check   : BitVec 32
  pending : List Instr
  time    : Time
  bankA   : BankTables
  bankB   : BankTables
  deny    : Table
  edits   : Nat
  site    : Table
  active  : Bank
  acked   : Nat

/-- Those parts of a state. -/
def State.still (s : State) : Still :=
  ⟨s.up, s.check, s.pending, s.time, s.tariff.bankA, s.tariff.bankB, s.tariff.deny, s.tariff.denyEdits, s.tariff.site,
    s.tariff.active, s.journal.acked⟩

@[simp] theorem State.modBay_still (s : State) (b : BayNo) (f : Bay → Bay) : (s.modBay b f).still = s.still := rfl
@[simp] theorem State.modCtx_still (s : State) (b : BayNo) (f : Ctx → Ctx) : (s.modCtx b f).still = s.still := rfl
@[simp] theorem State.modLink_still (s : State) (f : Link → Link) : (s.modLink f).still = s.still := rfl
@[simp] theorem State.modCard_still (s : State) (f : CardUnit → CardUnit) : (s.modCard f).still = s.still := rfl
@[simp] theorem State.modExch_still (s : State) (b : BayNo) (f : Exchange → Exchange) : (s.modExch b f).still = s.still := rfl
@[simp] theorem State.modTerm_still (s : State) (b : BayNo) (f : Terminal → Terminal) : (s.modTerm b f).still = s.still := rfl
@[simp] theorem State.modBus_still (s : State) (f : Bus → Bus) : (s.modBus f).still = s.still := rfl
@[simp] theorem State.modLoad_still (s : State) (f : Load → Load) : (s.modLoad f).still = s.still := rfl
@[simp] theorem Tariff.unpin_still (s : State) (k : Bank) : State.still { s with tariff := s.tariff.unpin k } = s.still := by
  cases k <;> rfl
@[simp] theorem Tariff.pin_still (s : State) (k : Bank) : State.still { s with tariff := s.tariff.pin k } = s.still := by
  cases k <;> rfl
@[simp] theorem Tariff.withdraw_still (s : State) (b : BayNo) :
    State.still { s with tariff := s.tariff.withdraw b } = s.still := by
  unfold Tariff.withdraw; rfl

/-- An update of the Journal Unit that keeps the acknowledged mark. -/
theorem State.modJournal_still (s : State) (f : Journal → Journal) (h : (f s.journal).acked = s.journal.acked) :
    (s.modJournal f).still = s.still := by simp [State.still, State.modJournal, h]

/-- A loop over the bays whose turns leave the still parts. -/
theorem forBays_still (f : BayNo → State → State) (h : ∀ b s, (f b s).still = s.still) (s : State) :
    (forBays f s).still = s.still := forBays_keeps State.still f h s

/-! ### The Journal Unit's own operations keep the acknowledged mark -/

@[simp] theorem Journal.modRow_acked (j : Journal) (i : Nat) (f : Row → Row) : (j.modRow i f).acked = j.acked := by
  unfold Journal.modRow; split <;> rfl
@[simp] theorem Journal.modBlock_acked (j : Journal) (i : Nat) (f : Block → Block) :
    (j.modBlock i f).acked = j.acked := by
  unfold Journal.modBlock; split <;> rfl
@[simp] theorem Journal.request_acked (j : Journal) (r : Append) : (j.request r).acked = j.acked := by
  unfold Journal.request; (repeat' split) <;> rfl
@[simp] theorem Journal.closeActive_acked (j : Journal) : j.closeActive.acked = j.acked := by
  unfold Journal.closeActive; split <;> simp
theorem Journal.activate_acked {j k : Journal} (h : j.activate = some k) : k.acked = j.acked := by
  unfold Journal.activate at h; split at h <;> simp_all; subst h; simp
@[simp] theorem Journal.settleErase_acked (j : Journal) (now : Ms) (low : Bool) :
    (j.settleErase now low).acked = j.acked := by
  unfold Journal.settleErase; (repeat' split) <;> rfl
@[simp] theorem Journal.program_acked (j : Journal) (w : Writing) : (j.program w).acked = j.acked := by
  unfold Journal.program; dsimp only; split <;> simp
@[simp] theorem Journal.shift_acked (j : Journal) : j.shift.acked = j.acked := by
  unfold Journal.shift; split <;> rfl
@[simp] theorem Journal.beginErase_acked (j : Journal) (i : Nat) (now : Ms) : (j.beginErase i now).acked = j.acked := by
  simp [Journal.beginErase]
@[simp] theorem Journal.eraseDone_acked (j : Journal) (i : Nat) : (j.eraseDone i).acked = j.acked := by
  simp [Journal.eraseDone]
@[simp] theorem Journal.eraseFailed_acked (j : Journal) (e : Erase) (now : Ms) :
    (j.eraseFailed e now).acked = j.acked := by
  unfold Journal.eraseFailed; dsimp only; split <;> simp
@[simp] theorem Journal.orphan_acked (j : Journal) (b : BayNo) : (j.orphan b).acked = j.acked := rfl
@[simp] theorem Journal.linkReset_acked (j : Journal) : j.linkReset.acked = j.acked := rfl

/-! ### The operations on the state -/

@[simp] theorem State.orphan_still (s : State) (b : BayNo) : (s.modJournal (·.orphan b)).still = s.still := rfl
@[simp] theorem State.linkReset_still (s : State) : (s.modJournal (·.linkReset)).still = s.still := rfl


@[simp] theorem notify_still (n : Notice) (s : State) : (notify n s).still = s.still := by rfl

@[simp] theorem notify?_still (n : Option Notice) (s : State) : (notify? n s).still = s.still := by
  unfold notify?; split <;> simp

@[simp] theorem forwardNext_still (s : State) : (forwardNext s).still = s.still := by
  unfold forwardNext; (repeat' split) <;> simp

@[simp] theorem settleErase_still (s : State) : (settleErase s).still = s.still :=
  s.modJournal_still _ (Journal.settleErase_acked ..)

@[simp] theorem engineTake_still (s : State) : (engineTake s).still = s.still := by
  unfold engineTake; dsimp only; (repeat' split) <;> try rfl
  · next h =>
    rw [notify?_still]
    simp [State.still, Journal.beginWrite, Journal.activate_acked h]

@[simp] theorem journalKick_still (s : State) : (journalKick s).still = s.still := by simp [journalKick]

@[simp] theorem append_still (r : Append) (s : State) : (append r s).still = s.still := by
  unfold append; rw [journalKick_still]; exact s.modJournal_still _ (Journal.request_acked ..)

@[simp] theorem appendLink_still (online : Bool) (s : State) : (appendLink online s).still = s.still := by
  simp [appendLink]

@[simp] theorem leaveFull_still (s : State) : (leaveFull s).still = s.still := by
  unfold leaveFull; split
  · simp only [notify_still, journalKick_still]
    split
    · rfl
    · cases h : Journal.activate { s.journal with full := false } with
      | none => rfl
      | some j => simp [State.still, Journal.activate_acked h]
  · rfl

@[simp] theorem refresh_still (b : BayNo) (s : State) : (refresh b s).still = s.still := by rfl

@[simp] theorem sound_still (x : Tone) (b : BayNo) (s : State) : (sound x b s).still = s.still := by rfl

@[simp] theorem refuse_still (code : Code) (b : BayNo) (s : State) : (refuse code b s).still = s.still := by rfl

@[simp] theorem clearOverlay_still (b : BayNo) (s : State) : (clearOverlay b s).still = s.still := by rfl

@[simp] theorem recomputeMask_still (b : BayNo) (s : State) : (recomputeMask b s).still = s.still := by rfl

@[simp] theorem changeTube_still (b : BayNo) (t : TubeNo) (f : Tube → Tube) (s : State) :
    (changeTube b t f s).still = s.still := by
  unfold changeTube; simp only [recomputeMask_still, notify?_still]; rfl

@[simp] theorem startPulse_still (b : BayNo) (s : State) : (startPulse b s).still = s.still := by rfl

@[simp] theorem requestReturn_still (b : BayNo) (s : State) : (requestReturn b s).still = s.still := by
  unfold requestReturn; split <;> simp

@[simp] theorem routeEscrow_still (b : BayNo) (s : State) : (routeEscrow b s).still = s.still := by rfl

@[simp] theorem askBox_still (b : BayNo) (s : State) : (askBox b s).still = s.still := by
  unfold askBox; (repeat' split) <;> first | rfl | simp

@[simp] theorem closePeriod_still (b : BayNo) (s : State) : (closePeriod b s).still = s.still := by rfl

@[simp] theorem removeBox_still (b : BayNo) (s : State) : (removeBox b s).still = s.still := by simp [removeBox]

@[simp] theorem insertBox_still (b : BayNo) (s : State) : (insertBox b s).still = s.still := by rfl

@[simp] theorem stopPayout_still (b : BayNo) (s : State) : (stopPayout b s).still = s.still := by rfl

@[simp] theorem planPayout_still (b : BayNo) (s : State) : (planPayout b s).1.still = s.still := by
  unfold planPayout; dsimp only; split <;> rfl

@[simp] theorem nextDrive_still (b : BayNo) (s : State) : (nextDrive b s).1.still = s.still := by
  unfold nextDrive; (repeat' split) <;> first | rfl | simp

@[simp] theorem startPayout_still (b : BayNo) (r : Requester) (amount : Nat) (s : State) :
    (startPayout b r amount s).1.still = s.still := by
  unfold startPayout; rw [planPayout_still]; rfl

@[simp] theorem placeRequest_still (b : BayNo) (s : State) : (placeRequest b s).still = s.still := by
  unfold placeRequest Tariff.place Tariff.evalStart; (repeat' split) <;> rfl

@[simp] theorem runJob_still (b : BayNo) (s : State) : (runJob b s).1.still = s.still := by
  simp only [runJob]; (repeat' split) <;> simp

@[simp] theorem startJob_still (b : BayNo) (j : Job) (s : State) : (startJob b j s).1.still = s.still := by
  simp only [startJob]; (repeat' split) <;> simp

@[simp] theorem keepReceipt_still (b : BayNo) (j : Job) (o : ReceiptOutcome) (s : State) :
    (keepReceipt b j o s).still = s.still := by
  unfold keepReceipt; split <;> simp

@[simp] theorem finishJob_still (b : BayNo) (o : ReceiptOutcome) (s : State) : (finishJob b o s).1.still = s.still := by
  unfold finishJob
  split
  · rfl
  · split
    · simp
    · dsimp only
      split
      · rfl
      · next w _ =>
        split <;>
        · next h =>
          have k := congrArg (·.1.still) h
          rw [startJob_still] at k
          simpa using k.symm

@[simp] theorem driveJob_still (b : BayNo) (s : State) : (driveJob b s).1.still = s.still := by
  unfold driveJob; split <;> next h => simpa [h] using runJob_still b s

@[simp] theorem requestJob_still (b : BayNo) (j : Job) (s : State) : (requestJob b j s).1.still = s.still := by
  unfold requestJob; split
  · split <;> next h => simpa [h] using startJob_still b j s
  · rfl

@[simp] theorem abortJob_still (b : BayNo) (s : State) : (abortJob b s).still = s.still := by rfl

@[simp] theorem cutJob_still (b : BayNo) (s : State) : (cutJob b s).1.still = s.still := by simp [cutJob]

@[simp] theorem handCommand_still (cmd : CardCommand) (owner : CommandOwner) (b : BayNo) (s : State) :
    (handCommand cmd owner b s).still = s.still := by
  rfl

@[simp] theorem emptySlot_still (b : BayNo) (s : State) : (emptySlot b s).still = s.still := by rfl

@[simp] theorem presentRead_still (b : BayNo) (s : State) : (presentRead b s).still = s.still := by
  unfold presentRead; split <;> simp

@[simp] theorem startExchange_still (p : Purpose) (req : Option WriteRequest) (b : BayNo) (s : State) :
    (startExchange p req b s).still = s.still := by
  simp [startExchange]

@[simp] theorem endAuth_still (b : BayNo) (s : State) : (endAuth b s).still = s.still := by
  unfold endAuth; split <;> simp

@[simp] theorem endExchange_still (b : BayNo) (s : State) : (endExchange b s).still = s.still := by
  simp [endExchange]

@[simp] theorem removeTear_still (serial : BitVec 32) (s : State) : (removeTear serial s).still = s.still := by rfl

@[simp] theorem dropOwnEntry_still (b : BayNo) (s : State) : (dropOwnEntry b s).still = s.still := by rfl

@[simp] theorem changeOwner_still (b : BayNo) (o : TearOwner) (s : State) : (changeOwner b o s).still = s.still := by
  rfl

@[simp] theorem closeTear_still (t : Tear) (r : Resolution) (by_ : Option BayNo) (why : TearReason) (s : State) :
    (closeTear t r by_ why s).still = s.still := by
  unfold closeTear; rw [append_still]; rfl

@[simp] theorem formTear_still (b : BayNo) (s : State) : (formTear b s).still = s.still := by
  unfold formTear; (repeat' split) <;> simp

@[simp] theorem issueWrite_still (b : BayNo) (s : State) : (issueWrite b s).still = s.still := by
  unfold issueWrite; split <;> simp

@[simp] theorem issueReapplication_still (t : Tear) (v : CardValues) (b : BayNo) (s : State) :
    (issueReapplication t v b s).still = s.still := by
  rfl

@[simp] theorem resolve_still (serial : BitVec 32) (b : BayNo) (s : State) :
    (resolve serial b s).still = s.still := by
  rfl

@[simp] theorem presentAgain_still (b : BayNo) (s : State) : (presentAgain b s).still = s.still := by
  simp [presentAgain]

@[simp] theorem resumeAt_still (serial : BitVec 32) (b : BayNo) (s : State) :
    (resumeAt serial b s).still = s.still := by
  unfold resumeAt; split <;> simp

@[simp] theorem resume_still (serial : BitVec 32) (s : State) : (resume serial s).still = s.still :=
  forBays_still _ (resumeAt_still serial) s

@[simp] theorem modTear_still (serial : BitVec 32) (f : Tear → Tear) (s : State) :
    (s.modTear serial f).still = s.still := rfl

@[simp] theorem withdrawCommand_still (b : BayNo) (s : State) : (withdrawCommand b s).still = s.still := by rfl

@[simp] theorem tearDone_still (serial : BitVec 32) (resolution : Resolution) (s : State) :
    (tearDone serial resolution s).still = s.still := by
  unfold tearDone; (repeat' split) <;> simp

@[simp] theorem reapplyUnknown_still (b : BayNo) (s : State) : (reapplyUnknown b s).still = s.still := by
  simp only [reapplyUnknown]; (repeat' split) <;> simp

@[simp] theorem reapplyAnswered_still (resolution : Resolution) (reason : TearReason) (b : BayNo) (s : State) :
    (reapplyAnswered resolution reason b s).still = s.still := by
  simp only [reapplyAnswered]; (repeat' split) <;> simp

@[simp] theorem entryTone_still (was st : CtxState) (b : BayNo) (s : State) :
    (entryTone was st b s).still = s.still := by
  unfold entryTone; (repeat' split) <;> simp

@[simp] theorem enter_still (st : CtxState) (b : BayNo) (s : State) : (enter st b s).still = s.still := by
  simp [enter]

@[simp] theorem rest_still (st : CtxState) (b : BayNo) (s : State) : (rest st b s).still = s.still := by simp [rest]

@[simp] theorem makeAbsent_still (b : BayNo) (s : State) : (makeAbsent b s).still = s.still := by rfl

@[simp] theorem settleAbsent_still (b : BayNo) (s : State) : (settleAbsent b s).still = s.still := by
  unfold settleAbsent; split <;> simp

@[simp] theorem unpinBank_still (b : BayNo) (s : State) : (unpinBank b s).still = s.still := by
  unfold unpinBank; split <;> simp

@[simp] theorem chirpFrom_still (was : CtxState) (b : BayNo) (s : State) : (chirpFrom was b s).still = s.still := by
  unfold chirpFrom; split <;> simp

@[simp] theorem closeTxn_still (b : BayNo) (s : State) : (closeTxn b s).still = s.still := by
  simp only [closeTxn, chirpFrom_still, settleAbsent_still, rest_still]; split <;> simp

@[simp] theorem appendAdjust_still (reason : AdjustReason) (amount : Nat) (by_ : AppendBy) (b : BayNo) (s : State) :
    (appendAdjust reason amount by_ b s).still = s.still := by
  simp [appendAdjust]

@[simp] theorem await_still (w : Wait) (b : BayNo) (s : State) : (await w b s).still = s.still := by rfl

@[simp] theorem adjustAndWait_still (reason : AdjustReason) (amount : Nat) (b : BayNo) (s : State) :
    (adjustAndWait reason amount b s).still = s.still := by
  simp [adjustAndWait]

@[simp] theorem refundEnded_still (paid : Nat) (b : BayNo) (s : State) : (refundEnded paid b s).still = s.still := by
  simp only [refundEnded]; (repeat' split) <;> simp

@[simp] theorem enterRefund_still (b : BayNo) (s : State) : (enterRefund b s).still = s.still := by
  unfold enterRefund; dsimp only
  split
  · split <;>
    · next h =>
      have k := congrArg (·.1.still) h
      rw [startPayout_still] at k
      simp only [← k, refundEnded_still]
      split <;> simp
  · split <;> simp

@[simp] theorem cancelWith_still (code : Code) (b : BayNo) (s : State) : (cancelWith code b s).still = s.still := by
  simp [cancelWith]

@[simp] theorem joinServer_still (b : BayNo) (s : State) : (joinServer b s).still = s.still := by rfl

@[simp] theorem receiptAdjust_still (by_ : AppendBy) (b : BayNo) (s : State) :
    (receiptAdjust by_ b s).still = s.still := by
  unfold receiptAdjust; split <;> simp

@[simp] theorem receiptTaken_still (o : ReceiptOutcome) (b : BayNo) (s : State) :
    (receiptTaken o b s).still = s.still := by
  unfold receiptTaken; (repeat' split) <;> simp

@[simp] theorem receiptTaken?_still (b : BayNo) (r : State × Option ReceiptOutcome) :
    (receiptTaken? b r).still = r.1.still := by
  unfold receiptTaken?; split <;> simp

@[simp] theorem enterPrint_still (b : BayNo) (s : State) : (enterPrint b s).still = s.still := by
  simp only [enterPrint]; (repeat' split) <;> simp

@[simp] theorem changeEnded_still (b : BayNo) (s : State) : (changeEnded b s).still = s.still := by
  simp only [changeEnded]; (repeat' split) <;> simp

@[simp] theorem payoutEnded_still (b : BayNo) (s : State) : (payoutEnded b s).still = s.still := by
  simp only [payoutEnded]; (repeat' split) <;> simp

@[simp] theorem payoutStep_still (b : BayNo) (r : State × Bool) : (payoutStep b r).still = r.1.still := by
  unfold payoutStep; split <;> simp

@[simp] theorem enterPayout_still (b : BayNo) (s : State) : (enterPayout b s).still = s.still := by
  simp [enterPayout]

@[simp] theorem enterCommit_still (b : BayNo) (s : State) : (enterCommit b s).still = s.still := by
  simp [enterCommit]

@[simp] theorem enterCardRead_still (b : BayNo) (s : State) : (enterCardRead b s).still = s.still := by
  simp [enterCardRead]

@[simp] theorem enterCardWrite_still (b : BayNo) (s : State) : (enterCardWrite b s).still = s.still := by
  simp [enterCardWrite]

@[simp] theorem enterTearWait_still (b : BayNo) (s : State) : (enterTearWait b s).still = s.still := by
  simp [enterTearWait]

@[simp] theorem writeUnknown_still (b : BayNo) (s : State) : (writeUnknown b s).still = s.still := by
  simp [writeUnknown]

@[simp] theorem enterPricing_still (b : BayNo) (s : State) : (enterPricing b s).still = s.still := by
  simp [enterPricing]

@[simp] theorem leavePriced_still (b : BayNo) (s : State) : (leavePriced b s).still = s.still := by
  simp only [leavePriced]; (repeat' split) <;> simp

@[simp] theorem takeSequence_still (q : Nat) (b : BayNo) (s : State) : (takeSequence q b s).still = s.still := by
  simp only [takeSequence]; (repeat' split) <;> simp

@[simp] theorem finishReset_still (b : BayNo) (s : State) : (finishReset b s).still = s.still := by
  simp only [finishReset]; split <;> simp

@[simp] theorem resetAdjust_still (reason : AdjustReason) (amount : Nat) (b : BayNo) (s : State) :
    (resetAdjust reason amount b s).still = s.still := by
  unfold resetAdjust; split <;> simp

@[simp] theorem resetReceipt_still (b : BayNo) (s : State) : (resetReceipt b s).still = s.still := by
  simp [resetReceipt]

@[simp] theorem resetEarly_still (b : BayNo) (s : State) : (resetEarly b s).still = s.still := by
  simp only [resetEarly]; (repeat' split) <;> simp

@[simp] theorem resetPayout_still (b : BayNo) (s : State) : (resetPayout b s).still = s.still := by
  unfold resetPayout; dsimp only; split <;> simp

@[simp] theorem resetPrint_still (b : BayNo) (s : State) : (resetPrint b s).still = s.still := by
  unfold resetPrint; dsimp only; split <;> simp

@[simp] theorem resetRefund_still (b : BayNo) (s : State) : (resetRefund b s).still = s.still := by
  unfold resetRefund; dsimp only; split <;> simp

@[simp] theorem bayReset_still (b : BayNo) (s : State) : (bayReset b s).still = s.still := by
  unfold bayReset; (repeat' split) <;> simp

@[simp] theorem saleDone_still (q : Nat) (b : BayNo) (s : State) : (saleDone q b s).still = s.still := by
  simp only [saleDone]; (repeat' split) <;> simp

@[simp] theorem adjustDone_still (b : BayNo) (s : State) : (adjustDone b s).still = s.still := by
  unfold adjustDone; split <;> simp

@[simp] theorem lostReaction_still (b : BayNo) (s : State) : (lostReaction b s).still = s.still := by
  simp only [lostReaction]; (repeat' split) <;> simp

@[simp] theorem causeReaction_still (k : Cause) (b : BayNo) (s : State) : (causeReaction k b s).still = s.still := by
  simp only [causeReaction]; (repeat' split) <;> simp

@[simp] theorem joinCause_still (k : Cause) (b : BayNo) (s : State) : (joinCause k b s).still = s.still := by
  unfold joinCause; split <;> simp

@[simp] theorem leaveCause_still (k : Cause) (b : BayNo) (s : State) : (leaveCause k b s).still = s.still := by rfl

@[simp] theorem testJamAll_still (b : BayNo) (s : State) : (testJamAll b s).still = s.still := by
  unfold testJamAll; split <;> simp

@[simp] theorem goodRead_still (v : CardValues) (b : BayNo) (s : State) : (goodRead v b s).still = s.still := by
  unfold goodRead; split <;> simp

@[simp] theorem goWrite_still (b : BayNo) (s : State) : (goWrite b s).still = s.still := by
  unfold goWrite; (repeat' split) <;> simp

@[simp] theorem requestAuth_still (r : WriteRequest) (v : CardValues) (b : BayNo) (s : State) :
    (requestAuth r v b s).still = s.still := by
  rfl

@[simp] theorem afterFresh_still (r : WriteRequest) (v : CardValues) (b : BayNo) (s : State) :
    (afterFresh r v b s).still = s.still := by
  simp only [afterFresh]; (repeat' split) <;> simp

@[simp] theorem freshRead_still (v : CardValues) (b : BayNo) (s : State) : (freshRead v b s).still = s.still := by
  simp only [freshRead]; (repeat' split) <;> simp

@[simp] theorem settleOwn_still (t : Tear) (v : CardValues) (b : BayNo) (s : State) :
    (settleOwn t v b s).still = s.still := by
  unfold settleOwn; (repeat' split) <;> simp

@[simp] theorem reapplyEntry_still (t : Tear) (v : CardValues) (b : BayNo) (s : State) :
    (reapplyEntry t v b s).still = s.still := by
  simp only [reapplyEntry]; (repeat' split) <;> simp

@[simp] theorem resolveEntry_still (t : Tear) (v : CardValues) (b : BayNo) (s : State) :
    (resolveEntry t v b s).still = s.still := by
  unfold resolveEntry; (repeat' split) <;> simp

@[simp] theorem purposeRead_still (v : CardValues) (b : BayNo) (s : State) : (purposeRead v b s).still = s.still := by
  unfold purposeRead; split <;> simp

@[simp] theorem entryRead_still (t : Tear) (v : CardValues) (b : BayNo) (s : State) :
    (entryRead t v b s).still = s.still := by
  unfold entryRead; (repeat' split) <;> simp

@[simp] theorem readTaken_still (v : CardValues) (b : BayNo) (s : State) : (readTaken v b s).still = s.still := by
  unfold readTaken; split <;> simp

@[simp] theorem lateRead_still (v : CardValues) (b : BayNo) (s : State) : (lateRead v b s).still = s.still := by
  unfold lateRead; (repeat' split) <;> simp

@[simp] theorem writeDone_still (balance : Nat) (b : BayNo) (s : State) :
    (writeDone balance b s).still = s.still := by
  simp [writeDone]

@[simp] theorem writeRefused_still (r : CardRefusal) (b : BayNo) (s : State) :
    (writeRefused r b s).still = s.still := by
  simp [writeRefused]

@[simp] theorem authFailed_still (code : Code) (b : BayNo) (s : State) : (authFailed code b s).still = s.still := by
  simp [authFailed]

@[simp] theorem authGranted_still (ref : BitVec 32) (b : BayNo) (s : State) :
    (authGranted ref b s).still = s.still := by
  simp [authGranted]

@[simp] theorem unhold_still (b : BayNo) (s : State) : (unhold b s).still = s.still := by
  unfold unhold; (repeat' split) <;> simp

@[simp] theorem endWaits_still (s : State) : (endWaits s).still = s.still := by
  unfold endWaits; apply forBays_still; intro b s; split <;> simp

@[simp] theorem linkOffline_still (s : State) : (linkOffline s).still = s.still := by simp [linkOffline]

@[simp] theorem linkOnline_still (s : State) : (linkOnline s).still = s.still := by simp [linkOnline]

@[simp] theorem rebuildBays_still (s : State) : (rebuildBays s).still = s.still := by rfl

@[simp] theorem clearRequested_still (s : State) : (clearRequested s).still = s.still := by rfl

@[simp] theorem askBoxes_still (s : State) : (askBoxes s).still = s.still := forBays_still _ askBox_still s

@[simp] theorem reconcileBox_still (b : BayNo) (s : State) : (reconcileBox b s).still = s.still := by
  simp only [reconcileBox]; (repeat' split) <;> simp

@[simp] theorem linkResetFinish_still (s : State) : (linkResetFinish s).still = s.still := by
  unfold linkResetFinish; dsimp only
  simp only [askBoxes_still, journalKick_still, clearRequested_still]
  have h : ∀ (t : State) (x : Bus), State.still { t with bus := x } = t.still := fun _ _ => rfl
  have h2 : ∀ (t : State) (x : List (List Byte)),
      State.still { t with tariff := t.tariff.restart, card := t.card.restart x } = t.still := fun _ _ => rfl
  rw [h, State.modLink_still, rebuildBays_still, h2]
  split <;> simp

@[simp] theorem linkResetContinue_still (s : State) : (linkResetContinue s).still = s.still := by
  unfold linkResetContinue; split <;> simp

@[simp] theorem linkResetRun_still (s : State) : (linkResetRun s).still = s.still := by
  unfold linkResetRun; dsimp only; rw [linkResetContinue_still]
  exact forBays_still _ (by intro b s; split <;> simp) _

@[simp] theorem dropHead_still (s : State) : (dropHead s).still = s.still := by rfl

theorem takeFrame_still (isKind : Frame → Bool) (act : Frame → State → State) (s : State)
    (h : ∀ f t, (act f t).still = t.still) : (takeFrame isKind act s).still = s.still := by
  unfold takeFrame; (repeat' split) <;> simp [h]

@[simp] theorem answer_still (f : Frame) (a : Answer) : (answer f a).still = a.state.still := rfl

theorem answerFrame_still (isKind : Frame → Bool) (act : Frame → State → Answer) (s : State)
    (h : ∀ f t, (act f t).state.still = t.still) : (answerFrame isKind act s).still = s.still := by
  unfold answerFrame; (repeat' split) <;> simp [h]

@[simp] theorem formatError_still (s : State) : (formatError s).still = s.still := by rfl

@[simp] theorem afterReply_still (a : AfterReply) (s : State) : (afterReply a s).still = s.still := by
  unfold afterReply; split <;> simp

@[simp] theorem heartbeat_still (phase : Bool) (s : State) : (heartbeat phase s).still = s.still := by
  simp only [heartbeat]; (repeat' split) <;> simp

@[simp] theorem authReply_still (ref : BitVec 16) (denied : Bool) (authRef : BitVec 32) (s : State) :
    (authReply ref denied authRef s).still = s.still := by
  unfold authReply; (repeat' split) <;> simp

@[simp] theorem absentChange_still (was is : Bool) (b : BayNo) (s : State) :
    (absentChange was is b s).still = s.still := by
  simp only [absentChange]; (repeat' split) <;> simp

@[simp] theorem passesOnlyChange_still (was is : Bool) (b : BayNo) (s : State) :
    (passesOnlyChange was is b s).still = s.still := by
  unfold passesOnlyChange; (repeat' split) <;> simp

@[simp] theorem siteChange_still (old new : List (List Byte)) (b : BayNo) (s : State) :
    (siteChange old new b s).still = s.still := by
  simp [siteChange]

@[simp] theorem priced_still (r : PriceRequest) (amount : Nat) (flags : EvalFlags) (plan : Option PassPlan) (s : State) :
    (priced r amount flags plan s).still = s.still := by
  simp only [priced]; (repeat' split) <;> simp

@[simp] theorem priceTaken_still (r : PriceRequest) (s : State) : (priceTaken r s).still = s.still := by
  unfold priceTaken; (repeat' split) <;> simp

@[simp] theorem coinOff_still (b : BayNo) (s : State) : (coinOff b s).still = s.still := by
  unfold coinOff; split <;> simp

@[simp] theorem coinOn_still (b : BayNo) (s : State) : (coinOn b s).still = s.still := by
  unfold coinOn; split <;> simp

@[simp] theorem rotationPoll_still (b : BayNo) (s : State) : (rotationPoll b s).still = s.still := by rfl

@[simp] theorem recoveryPoll_still (b : BayNo) (s : State) : (recoveryPoll b s).still = s.still := by rfl

@[simp] theorem lostCommand_still (c : Option CardSlot) (b : BayNo) (s : State) :
    (lostCommand c b s).still = s.still := by
  unfold lostCommand; (repeat' split) <;> simp

@[simp] theorem terminalLost_still (b : BayNo) (s : State) : (terminalLost b s).still = s.still := by
  simp [terminalLost]

@[simp] theorem miss_still (b : BayNo) (s : State) : (miss b s).still = s.still := by
  unfold miss; (repeat' split) <;> simp

@[simp] theorem endBusExchange_still (s : State) : (endBusExchange s).still = s.still := by rfl

@[simp] theorem countBadReply_still (s : State) : (countBadReply s).still = s.still := by rfl

@[simp] theorem terminalHeard_still (b : BayNo) (s : State) : (terminalHeard b s).still = s.still := by
  simp only [terminalHeard]; (repeat' split) <;> simp

@[simp] theorem goodReply_still (x : BusExchange) (r : BusReply) (s : State) : (goodReply x r s).still = s.still := by
  simp [goodReply]

theorem takeSection_still {α : Type} (f : ReplySection → Option α) (act : BayNo → α → State → State) (s : State)
    (h : ∀ b x t, (act b x t).still = t.still) : (takeSection f act s).still = s.still := by
  unfold takeSection; (repeat' split) <;> simp [h]

@[simp] theorem openTxn_still (p : Product) (q : Selection) (b : BayNo) (s : State) :
    (openTxn p q b s).still = s.still := by
  unfold openTxn; dsimp only; split <;> simp only [enterCardRead_still, enterPricing_still, enter_still] <;>
    cases s.tariff.active <;> rfl

@[simp] theorem select_still (q : Selection) (b : BayNo) (s : State) : (select q b s).still = s.still := by
  simp only [select]; (repeat' split) <;> simp

@[simp] theorem confirmed_still (p : Product) (m : Method) (wanted : Bool) (b : BayNo) (s : State) :
    (confirmed p m wanted b s).still = s.still := by
  simp only [confirmed]; (repeat' split) <;> simp

@[simp] theorem confirm_still (m : Method) (wanted : Bool) (b : BayNo) (s : State) :
    (confirm m wanted b s).still = s.still := by
  simp only [confirm]; (repeat' split) <;> simp

@[simp] theorem cancel_still (b : BayNo) (s : State) : (cancel b s).still = s.still := by
  simp only [cancel]; (repeat' split) <;> simp

@[simp] theorem reprint_still (b : BayNo) (s : State) : (reprint b s).still = s.still := by
  unfold reprint; (repeat' split) <;> simp

@[simp] theorem timeout_still (b : BayNo) (s : State) : (timeout b s).still = s.still := by
  unfold timeout; split <;> simp

@[simp] theorem commandExpired_still (c : CardSlot) (b : BayNo) (s : State) :
    (commandExpired c b s).still = s.still := by
  unfold commandExpired; split <;> simp

theorem answerSlot_still (m : Nat) (act : CardSlot → State → State) (b : BayNo) (s : State)
    (h : ∀ c t, (act c t).still = t.still) : (answerSlot m act b s).still = s.still := by
  unfold answerSlot; (repeat' split) <;> simp [h]

@[simp] theorem cardRead_still (v : CardValues) (b : BayNo) (c : CardSlot) (s : State) :
    (cardRead v b c s).still = s.still := by
  unfold cardRead; split <;> simp

@[simp] theorem writeOk_still (balance : Nat) (b : BayNo) (c : CardSlot) (s : State) :
    (writeOk balance b c s).still = s.still := by
  unfold writeOk; split <;> simp

@[simp] theorem writeNo_still (r : CardRefusal) (b : BayNo) (c : CardSlot) (s : State) :
    (writeNo r b c s).still = s.still := by
  unfold writeNo; split <;> simp

@[simp] theorem countCoin_still (c : Coin) (pulses : Nat) (malformed : Bool) (b : BayNo) (s : State) :
    (countCoin c pulses malformed b s).still = s.still := by
  unfold countCoin; (repeat' split) <;> rfl

@[simp] theorem creditCoin_still (c : Coin) (b : BayNo) (s : State) : (creditCoin c b s).still = s.still := by
  unfold creditCoin; split <;> simp

@[simp] theorem joinEscrow_still (c : Coin) (b : BayNo) (s : State) : (joinEscrow c b s).still = s.still := by
  simp only [joinEscrow]; (repeat' split) <;> simp

@[simp] theorem overflowCoin_still (c : Coin) (b : BayNo) (s : State) : (overflowCoin c b s).still = s.still := by
  rfl

@[simp] theorem placeCoin_still (c : Coin) (b : BayNo) (s : State) : (placeCoin c b s).still = s.still := by
  unfold placeCoin; split <;> simp

@[simp] theorem payIfComplete_still (c : Coin) (b : BayNo) (s : State) : (payIfComplete c b s).still = s.still := by
  unfold payIfComplete; (repeat' split) <;> simp

@[simp] theorem takeCoin_still (pulses : Nat) (malformed : Bool) (b : BayNo) (s : State) :
    (takeCoin pulses malformed b s).still = s.still := by
  simp [takeCoin]

@[simp] theorem declareFault_still (b : BayNo) (s : State) : (declareFault b s).still = s.still := by
  simp [declareFault]

@[simp] theorem endFault_still (b : BayNo) (s : State) : (endFault b s).still = s.still := by rfl

@[simp] theorem extraCoin_still (t : TubeNo) (b : BayNo) (s : State) : (extraCoin t b s).still = s.still := by
  simp [extraCoin]

@[simp] theorem payCoin_still (v : Nat) (b : BayNo) (s : State) : (payCoin v b s).still = s.still := by
  unfold payCoin; dsimp only; split <;> rfl

@[simp] theorem answerDrive_still (t : TubeNo) (b : BayNo) (s : State) : (answerDrive t b s).still = s.still := by
  simp only [answerDrive]; (repeat' split) <;> simp

@[simp] theorem jam_still (t : TubeNo) (b : BayNo) (s : State) : (jam t b s).still = s.still := by
  unfold jam; simp; rfl

@[simp] theorem setCause_still (k : Cause) (v : Bool) (b : BayNo) (s : State) :
    (setCause k v b s).still = s.still := by
  unfold setCause; split <;> simp

@[simp] theorem placed_still (r : Append) (s : State) : (placed r s).still = s.still := by
  unfold placed; split <;> simp

@[simp] theorem shiftQueue_still (s : State) : (shiftQueue s).still = s.still := by
  unfold shiftQueue; dsimp only; split <;> simp [State.modJournal_still]

@[simp] theorem boxDone_still (b : BayNo) (s : State) : (boxDone b s).still = s.still := by simp [boxDone]

@[simp] theorem complete_still (r : Append) (q : Nat) (s : State) : (complete r q s).still = s.still := by
  unfold complete; split <;> simp

@[simp] theorem releaseReset_still (b : BayNo) (s : State) : (releaseReset b s).still = s.still := by
  unfold releaseReset; split <;> simp

@[simp] theorem recordWritten_still (w : Writing) (s : State) : (recordWritten w s).still = s.still := by
  unfold recordWritten; dsimp only
  rw [linkResetContinue_still, forBays_still _ (by intro b s; simp)]
  simp only [forwardNext_still, journalKick_still]
  split <;> simp [State.modJournal_still]

@[simp] theorem eraseSucceeded_still (e : Erase) (s : State) : (eraseSucceeded e s).still = s.still := by
  unfold eraseSucceeded; simp [State.modJournal_still]

@[simp] theorem eraseFailed_still (e : Erase) (s : State) : (eraseFailed e s).still = s.still := by
  unfold eraseFailed; dsimp only; split <;> simp [State.modJournal_still]

@[simp] theorem delivered_still (mark : Nat) (carried : Option Nat) (b : BayNo) (s : State) :
    (delivered mark carried b s).still = s.still := by
  unfold delivered; split <;> simp

@[simp] theorem paperChanged_still (was is : Paper) (b : BayNo) (s : State) :
    (paperChanged was is b s).still = s.still := by
  simp only [paperChanged]; (repeat' split) <;> simp

@[simp] theorem statusAtJob_still (b : BayNo) (s : State) : (statusAtJob b s).still = s.still := by
  simp only [statusAtJob]; (repeat' split) <;> simp

@[simp] theorem printerStatus_still (paper : Paper) (headUp : Bool) (credit : Nat) (b : BayNo) (s : State) :
    (printerStatus paper headUp credit b s).still = s.still := by
  simp [printerStatus]

end Sys2Proof.Machine
end

