-- ==== Sys2Proof/Tests/Slice0.lean ====
section
/-! SUPPORT. Tests: the well-formedness checks refuse ill-formed commands; the manual's worked examples; and for each
statement with hypotheses a state and operands that meet them, clause by clause. -/

namespace Sys2Proof.Tests

/- Each test waits for the declarations before it; elaborating them one after another keeps the number of waiting
threads small when the package is compiled as one text. -/
set_option Elab.async false

open Sys2Proof Sys2Proof.Machine

/-! ### WellFormed: an ill-formed command for each check -/

/-- A start-up, to its end, of a part whose lines are all at rest and whose backup cell has not held the check. -/
def quiet : StartUp where
  areaCheck := some 0
  secondsOff := 0
  tornBytes := 0
  serviceDoorOpen := Vector.replicate 8 false
  boxDoorOpen := Vector.replicate 8 false
  boxPresent := Vector.replicate 8 true
  coinHigh := Vector.replicate 8 true
  supplyWarning := false
  auditSwitch := false
  cutAfter := none

theorem test_refuses_wrong_start_byte :
    (Instr.frameReceived [0x5A#8, 0, 0x13, 0, 0, 0, 0]).wellFormed = false := by decide
theorem test_refuses_long_body :
    (Instr.frameReceived (0xA5#8 :: 241#8 :: List.replicate 246 0#8)).wellFormed = false := by decide
theorem test_refuses_cut_frame : (Instr.frameReceived [0xA5#8, 1, 0x13, 0, 0, 0, 0]).wellFormed = false := by decide
theorem test_refuses_short_reply : (Instr.replyReceived [0, 0, 0, 0]).wellFormed = false := by decide
theorem test_refuses_long_reply : (Instr.replyReceived (List.replicate 52 0#8)).wellFormed = false := by decide
theorem test_refuses_torn_bytes : (Instr.powerOnReset { quiet with tornBytes := 129 }).wellFormed = false := by decide
theorem test_refuses_late_cut : (Instr.powerOnReset { quiet with cutAfter := some 13 }).wellFormed = false := by decide
theorem test_takes_whole_frame : (Instr.frameReceived [0xA5#8, 0, 0x13, 0, 0, 0, 0]).wellFormed = true := by decide

/-! ### Reset -/

/-- Right after reset the block is what a first power-on of a part as delivered leaves (notes/assumptions/3.md). -/
theorem test_power_on_gives_reset : exec (.powerOnReset quiet) State.reset = .next State.reset := by
  have lost : areaHeld quiet State.reset = false :=
    decide_eq_false fun h => absurd (h.trans reset_area_crc) (by decide)
  have steps : startBays ((startWrites quiet false).foldl (fun s f => f s) (losePower quiet State.reset))
      = State.reset := by decide +kernel
  show Host.Outcome.next { (startBays ((startWrites quiet (areaHeld quiet State.reset)).foldl (fun s f => f s)
    (losePower quiet State.reset))).seal with up := true } = _
  rw [lost, steps]
  exact congrArg (fun c => Host.Outcome.next { State.reset with check := c }) reset_area_crc

/-! ### The manual's check values and forms (section 9.9, R135) -/

/-- The digits 1 to 9. -/
def nine : List Byte := [0x31, 0x32, 0x33, 0x34, 0x35, 0x36, 0x37, 0x38, 0x39]

theorem test_crc16_check_value : crc16 nine = 0x29B1#16 := by decide +kernel
theorem test_crc32_check_value : crc32 nine = 0xCBF43926#32 := by decide +kernel
/-- 520 with two decimals and the currency text T is "T 5.20". -/
theorem test_amount_form : amountForm 2 [0x54] 520 = [0x54, 0x20, 0x35, 0x2E, 0x32, 0x30] := by decide +kernel

/-! ### The manual's worked cases (sections 2.7, 2.10, 5.2) -/

/-- The chain of section 2.7, its first entry at index 0: base 175, 65 a zone, 15 % more in band 1, half for class 2, to
the nearest 20, at most 900. -/
def workedRules : List (List Byte) :=
  [beBytes 1 0 ++ beBytes 3 175 ++ beBytes 3 0, beBytes 1 1 ++ beBytes 3 65 ++ beBytes 3 0,
   beBytes 1 7 ++ beBytes 1 2 ++ beBytes 1 0 ++ beBytes 3 1 ++ beBytes 1 1, beBytes 1 3 ++ beBytes 2 1500 ++ beBytes 4 0,
   beBytes 1 7 ++ beBytes 1 0 ++ beBytes 1 0 ++ beBytes 3 2 ++ beBytes 1 2,
   beBytes 1 3 ++ beBytes 2 60536 ++ beBytes 4 0, beBytes 1 4 ++ beBytes 2 20 ++ beBytes 1 2 ++ beBytes 3 0,
   beBytes 1 5 ++ beBytes 3 900 ++ beBytes 3 0, beBytes 1 9 ++ beBytes 6 0]

/-- ROUNDED alone. -/
def rounded : EvalFlags := { EvalFlags.empty with rounded := true }

theorem test_morning_fare :
    (runChain workedRules .halfUp ⟨2, 4, 1, 0, 2, 0, 0, 0⟩ 64 0 0 ⟨0, .empty⟩).map (finalPrice .passPrinted 2)
      = some (520, rounded) := by decide +kernel
theorem test_midday_fare :
    (runChain workedRules .halfUp ⟨2, 4, 2, 0, 2, 0, 0, 0⟩ 64 0 0 ⟨0, .empty⟩).map (finalPrice .passPrinted 2)
      = some (440, rounded) := by decide +kernel
/-- Section 2.10: slot 0 is renewed from the day after its valid_to. -/
theorem test_pass_renewed :
    chooseSlot #v[some ⟨21, 19995, 20003⟩, none, some ⟨9, 19960, 19990⟩, none] 21 20001 = some (0, 20004) := by
  decide +kernel
/-- Section 5.2.1: greedy fails at 160, and one step back at the 50 tube succeeds. -/
theorem test_change_by_backtrack : planFor [⟨2, 50, 6⟩, ⟨3, 20, 10⟩] 160 = some [⟨2, 2⟩, ⟨3, 3⟩] := by decide +kernel
/-- Section 5.2.2: the backtrack passes the first tube. -/
theorem test_change_past_first_tube :
    planFor [⟨0, 100, 2⟩, ⟨1, 50, 1⟩, ⟨2, 20, 5⟩] 260 = some [⟨0, 2⟩, ⟨2, 3⟩] := by decide +kernel

/-! ### States for the witnesses -/

/-- The count n on the millisecond clock. -/
def at_ (n : Nat) (s : State) : State := { s with time := { s.time with ms := BitVec.ofNat 32 n } }

/-- A downstream frame. -/
def frm (k : Byte) (body : List Byte) : Frame := ⟨k, 0x1234#16, body⟩

/-- The frame waits in the receive buffer. -/
def got (f : Frame) (s : State) : State := s.modLink fun l => { l with rxBuffer := [f] }

/-- The section of bay 3's last good reply waits to be handed on. -/
def told (x : ReplySection) (s : State) : State := s.modBus fun u => { u with inboxBay := 3, inbox := [x] }

/-- The link is ONLINE. -/
def onLink (s : State) : State := s.modLink fun l => { l with online := true, timer := some (0, 5000) }

/-- Coin kind k of a value, with its pulse count. -/
def kindRow (k v n : Nat) : List Byte := beBytes 1 2 ++ beBytes 1 k ++ beBytes 3 v ++ beBytes 1 n ++ beBytes 2 0

/-- Bay 3's tube t holds kind k. -/
def tubeRow (t k : Nat) : List Byte := beBytes 1 3 ++ beBytes 1 (12 + t) ++ beBytes 1 k ++ [100, 90, 10, 0, 0]

/-- Kinds 1 to 6 of the manual's worked sequences, and bay 3's tubes. -/
def siteRows : List (List Byte) :=
  [kindRow 1 10 1, kindRow 2 200 2, kindRow 3 50 3, kindRow 4 20 4, kindRow 5 100 5, kindRow 6 500 6,
   tubeRow 0 5, tubeRow 1 3, tubeRow 2 4, tubeRow 3 1]

/-- A PRODUCT entry: code, kind, methods, validity, uses_zones; every class allowed, the chain at 0. -/
def productRow (code kind methods validity usesZones : Nat) : List Byte :=
  beBytes 1 code ++ beBytes 1 kind ++ [0, 15] ++ beBytes 1 methods ++ [0] ++ beBytes 2 validity ++ beBytes 1 usesZones
  ++ [0] ++ beBytes 3 100 ++ beBytes 3 10000 ++ beBytes 3 100

/-- A valid table of version 8. -/
def tab (es : List (List Byte)) : Table := ⟨8, true, es.length, es, 0⟩

/-- Products 12 (printed pass), 21 (pass on card) and 30 (top-up), zones of ring 1, and the worked chain. -/
def bank : BankTables where
  product := tab [productRow 12 0 1 0 1, productRow 21 1 3 14 0, productRow 30 2 1 0 0]
  zone := tab (List.replicate 32 [1])
  calendar := tab [[0, 0]]
  rule := tab workedRules
  layout := tab (List.replicate 24 [6, 0, 0, 0])
  text := tab [[1, 0x41]]
  mode := .halfUp
  modeSent := none

/-- A part in operation: bank A loaded and active, the clock SET. -/
def shop : State :=
  { State.reset with
    tariff := { Tariff.reset with bankA := bank, site := { Table.emptyValid with entries := siteRows } }
    time := { State.reset.time with calendar := ⟨20000, 460, 0⟩, isSet := true } }

/-- Bay 3 of a part in operation changes under f, its escrow at rest and its tubes of the site's kinds. -/
def shopBay (f : Bay → Bay) : State :=
  shop.modBay 3 fun y => f { y with
    escrow := ⟨none, false⟩
    tubes := #v[⟨5, 100, 90, 10, 20, .ok, 0⟩, ⟨3, 100, 90, 10, 20, .ok, 0⟩, ⟨4, 100, 90, 10, 20, .ok, 0⟩,
                ⟨1, 100, 90, 10, 20, .ok, 0⟩]
    term := { y.term with state := .present } }

/-- A context with product p of bank A in a state. -/
def ctxIn (st : CtxState) (p : Nat) : Ctx :=
  { Ctx.reset with
    state := st, product := some p, cls := some 2, bank := some .a, openTime := some ⟨20000, 460, 0⟩
    origin := some 3, destination := some 17 }

/-- Bay 3 in a transaction of product p, with bank A pinned. -/
def sale (st : CtxState) (p : Nat) (f : Bay → Bay) : State :=
  let s := shopBay fun y => f { y with ctx := ctxIn st p }
  { s with tariff := { s.tariff with pinsA := 1 } }

/-- The selection of two class 2 passes without a card. -/
def picked : Selection := ⟨12, 2, 2, false, some (3, 17), none⟩

/-- A card read. -/
def cardVal : CardValues := ⟨40711902, 5000, 7, Vector.replicate 4 none⟩

/-- A command of the exchange in bay 3's card slot, sent at 0. -/
def slotOf (c : CardCommand) : CardSlot := ⟨c, 9, some 0, false, .exchange⟩

/-- A top-up of 1000 on the card. -/
def topUp : WriteRequest := ⟨.credit, 1000, none⟩

/-- The write command of the top-up. -/
def topUpWrite : CardCommand := .write .credit 40711902 1000 7 none

/-- The exchange of a write issued on the card's values. -/
def writingExch : Exchange := ⟨.writing, some .write, some topUp, none, some cardVal, none, none⟩

/-- The tear entry of the top-up. -/
def tearEntry (o : TearOwner) : Tear := ⟨40711902, 3, .credit, 1000, none, 7, 5000, ⟨20000, 460, 0⟩, o, false⟩

/-- A SALE request of bay 3's context. -/
def saleAsk : Append := ⟨.sale (shop.saleBody 3 []), some 3, .ctx 3⟩

/-- The snapshot of a receipt. -/
def snap : Snapshot :=
  ⟨[], 0, none, 520, none, none, none, 7, 20000, 460, 3, none, none, none, none, none, none, false, false, 2, []⟩

/-- A reprint job. -/
def reprintJob : Job := ⟨.reprint, .a, 0, snap, 1, false, false, 8, 8⟩

/-- The sequencer with a job in a state, n bytes sent. -/
def seqWith (j : Job) (st : SeqState) (n : Nat) : Sequencer := { Sequencer.reset with state := st, job := some j, sent := n }

/-! ### Witnesses: the whole part -/

theorem test_witness_IdleStepIsAMillisecond : State.reset.pending = [] := rfl
/-- A command that meets every exclusion of the statement. -/
theorem test_witness_KeptByOthers :
    (∃ t, exec .tearExpiry State.reset = .next t) ∧ (∀ env, Instr.tearExpiry ≠ .powerOnReset env)
    ∧ Instr.tearExpiry ≠ .setTime ∧ Instr.tearExpiry ≠ .clockSecond ∧ Instr.tearExpiry ≠ .ack
    ∧ Instr.tearExpiry ≠ .bankSwitch ∧ Instr.tearExpiry ≠ .scheduledSwitchDue
    ∧ (∀ x, Instr.tearExpiry ≠ .supplyWarningChange x) ∧ (∀ x, Instr.tearExpiry ≠ .auditSwitchChange x) :=
  ⟨⟨_, rfl⟩, nofun, nofun, nofun, nofun, nofun, nofun, nofun, nofun⟩
theorem test_witness_EventsKeepOtherContexts :
    (∃ t, exec (.escrowPulseEnd 3) (at_ 200 State.reset) = .next t)
    ∧ (at_ 200 State.reset).eventBay (.escrowPulseEnd 3) = some 3 := ⟨⟨_, rfl⟩, rfl⟩

/-- ONLINE, with a clock second waiting. -/
def ticking : State := { onLink State.reset with pending := [.clockSecond] }

theorem test_ticking_bay (b : BayNo) : ticking.bay b = Bay.reset := by revert b; decide +kernel
theorem test_witness_EveryStepKeepsBounds : ticking.Bounded ∧ ∃ t, step ticking = .next t :=
  ⟨{ bays := fun b => (test_ticking_bay b).symm ▸
        { (by constructor <;> first | decide | exact fun _ h => absurd h List.not_mem_nil : Bay.reset.Bounded) with }
     link := by constructor <;> decide
     journal := by constructor <;> decide
     tears := by decide +kernel
     serials := by decide +kernel
     lateReplies := by decide
     abandons := by decide
     denyEdits := by decide
     badReplies := by decide
     recoveries := by decide
     pins := ⟨fun k => by cases k <;> decide +kernel, by decide +kernel⟩ }, _, rfl⟩
theorem test_witness_EveryStepKeepsTubes : ticking.TubesHold ∧ ∃ t, step ticking = .next t :=
  ⟨⟨by decide +kernel, by decide +kernel, by decide +kernel, by decide +kernel, fun _ h => absurd h (by decide)⟩, _, rfl⟩
theorem test_witness_EveryStepKeepsRetainedCheck :
    ticking.areaGood ∧ (∀ env, ticking.pending.head? ≠ some (.powerOnReset env)) ∧ ∃ t, step ticking = .next t :=
  ⟨reset_area_crc.symm, fun _ h => (by cases h), _, rfl⟩

/-! ### Witnesses: reset, the depot link and its frames -/

theorem test_witness_PowerOnReset :
    quiet.cutAfter = none ∧ quiet.areaCheck.getD State.reset.check ≠ State.reset.retained.crc
    ∧ { quiet with areaCheck := none }.areaCheck.getD State.reset.check = State.reset.retained.crc := by
  rw [reset_area_crc]; decide
/-- A reset that cuts start-up leaves 115,200 baud, whatever the site table says (R177). -/
theorem test_cut_start_up_rate (s : State) : (goDark s).link.rate = 115200 := rfl
theorem test_witness_StartUpCut :
    { quiet with cutAfter := some 0 }.cutAfter = some 0 ∧ { quiet with cutAfter := some 5 }.cutAfter = some 5
    ∧ quiet.areaCheck.getD State.reset.check ≠ State.reset.retained.crc := by rw [reset_area_crc]; decide

/-- The units of a LINK record of a sequence. -/
def linkUnits (q : Nat) : List (List Byte) := cutUnits 9 (recordBytes q none (.link true ⟨0, 0, 0⟩ 1) ⟨0, 0, 0⟩ false)

/-- Block 1 FULL with records 1 and 2; block 0 ACTIVE with record 3, and a torn one or a whole one behind it. -/
def scanned (behind : List (List Byte)) : State :=
  State.reset.modJournal fun j => { j with
    store := (j.store.set 1 ⟨.good 1 1, some .full, linkUnits 1 ++ linkUnits 2⟩).set 0
      ⟨.good 2 3, some .active, linkUnits 3 ++ behind⟩ }

theorem test_witness_StartUpScansJournal :
    ((∀ i < 32, ((blockRecords 512 ((scanned [[1]]).journal.block i).units).1.map (·.1)).Pairwise (· < ·))
      ∧ ((scanned [[1]]).journal.block 0).classify = .active ∧ ((scanned [[1]]).journal.block 1).classify = .full
      ∧ (blockRecords 512 ((scanned [[1]]).journal.block 0).units).2 = true
      ∧ (blockRecords 512 ((scanned []).journal.block 0).units).2 = false
      ∧ (blockRecords 512 ((scanned []).journal.block 1).units).1.map (·.1) = [1, 2])
    ∧ (State.reset.journal.tear 0).block 0 = ⟨.good 1 1, some .active, []⟩ := by decide +kernel


/-- The receiver in HUNT, and in a frame with the bytes given. -/
def hunting : State := State.reset.modLink fun l => { l with rx := .hunt }
def framing (bs : List Byte) : State := State.reset.modLink fun l => { l with rx := .inFrame, rxBytes := bs }

/-- A LOAD_CLEAR frame. -/
def clearFrame : List Byte := frameBytes 0x13 0x1234 []

/-- A receive buffer with no room. -/
def rxFull (s : State) : State := s.modLink fun l => { l with rxBuffer := List.replicate 4 (frm 0x13 []) }

theorem test_witness_ReceiverFollowsItsTable :
    (State.reset.link.resetStage = .none ∧ State.reset.link.rx = .idleWait ∧ hunting.link.rx = .hunt)
    ∧ ((framing [0xA5]).link.rx = .inFrame ∧ (framing [0xA5]).link.rxBytes.length = 1 ∧ 240 < (241#8).toNat)
    ∧ ((framing (clearFrame.take 5)).link.rxBytes.length = 5
        ∧ (clearFrame.take 6).length ≠ frameLength (clearFrame.take 6))
    ∧ (clearFrame.length = frameLength clearFrame ∧ frameGood clearFrame = true
        ∧ (framing (clearFrame.take 6)).link.rxBuffer.length < 4
        ∧ 4 ≤ (rxFull (framing (clearFrame.take 6))).link.rxBuffer.length)
    ∧ frameGood (clearFrame.take 6 ++ [0]) = false
    ∧ (2 ≤ ((at_ 2 State.reset).time.ms - (at_ 2 State.reset).link.rxLast).toNat
        ∧ 2 ≤ ((at_ 2 (framing [0xA5])).time.ms - (at_ 2 (framing [0xA5])).link.rxLast).toNat) := by decide +kernel
theorem test_witness_ReceiverFollowsItsTable_wholeFrames :
    hunting.link.resetStage = .none ∧ hunting.link.rx = .hunt ∧ frameShaped clearFrame = true
    ∧ frameGood clearFrame = true ∧ hunting.link.rxBuffer.length < 4 ∧ 4 ≤ (rxFull hunting).link.rxBuffer.length
    ∧ frameShaped (clearFrame.take 6 ++ [0]) = true ∧ frameGood (clearFrame.take 6 ++ [0]) = false := by decide +kernel

/-- A frame of a source is on the upstream line. -/
def sending (src : Source) (s : State) : State := s.modLink fun l => { l with sending := some ⟨src, true⟩ }

/-- A reply stands at the head of the reply queue. -/
def replied (a : AfterReply) (s : State) : State := s.modLink fun l => { l with replies := [⟨1, .accepted, [], a⟩] }

/-- A message stands at the head of the message queue, and the start-up list is CLOSED. -/
def messaged (s : State) : State := s.modLink fun l => { l with messages := [.notice .timeUnset], listState := .closed }

theorem test_witness_SentFrameLeavesItsSource :
    ((sending .reply (replied .nothing State.reset)).link.sending = some ⟨.reply, true⟩
      ∧ (sending .reply (replied .nothing State.reset)).link.replies = ⟨1, .accepted, [], .nothing⟩ :: [])
    ∧ ((sending .message (messaged State.reset)).link.messages = .notice .timeUnset :: []
      ∧ (sending .message (messaged State.reset)).link.listState = .closed)
    ∧ ((sending .record State.reset).link.sending = some ⟨.record, true⟩
      ∧ (sending .record State.reset).link.online = false
      ∧ (sending .record (onLink State.reset)).link.online = true)
    ∧ ((sending .reply (replied (.changeRate 9600) State.reset)).link.replies = ⟨1, .accepted, [], .changeRate 9600⟩ :: []
      ∧ ((messaged State.reset).modLink fun l => { l with listState := .draining }).link.listState = .draining) := by
  decide +kernel

/-- A HEARTBEAT of a phase. -/
def beat (p : Byte) (s : State) : State := got (frm 0x01 [p]) s

theorem test_witness_HeartbeatActsByPhase :
    ((beat 1 State.reset).link.rxBuffer.head? = some (frm 0x01 [1]) ∧ (1#8).toNat ≤ 1
      ∧ (beat 1 State.reset).link.lastPhase ≠ some true ∧ (beat 1 State.reset).link.online = false)
    ∧ ((beat 0 (onLink State.reset)).link.rxBuffer.head? = some (frm 0x01 [0])
      ∧ (beat 0 (onLink State.reset)).link.lastPhase ≠ some false ∧ (beat 0 (onLink State.reset)).link.online = true)
    ∧ (beat 0 (State.reset.modLink fun l => { l with lastPhase := some false })).link.lastPhase = some false := by
  decide +kernel
theorem test_witness_AckMovesMarkUpToForward :
    (got (frm 0x02 [0, 0, 0, 1]) State.reset).link.rxBuffer.head? = some (frm 0x02 [0, 0, 0, 1])
    ∧ (frm 0x02 [0, 0, 0, 1]).body.length = 4
    ∧ ¬ beNat (frm 0x02 [0, 0, 0, 1]).body ≤ (got (frm 0x02 [0, 0, 0, 1]) State.reset).journal.acked := by
  decide +kernel

/-- Bay 3 waits for the authorisation of reference 0 of its top-up. -/
def waiting : State :=
  sale .cardWrite 30 fun y => { y with
    authWait := some ⟨0, 0⟩
    card := ⟨.authorising, some .write, some topUp, some 0, some cardVal, none, none⟩ }

/-- An AUTH_REPLY of reference 0. -/
def authBody (d : Byte) : List Byte := [0, 0, d, 0, 0, 0, 99]

theorem test_witness_AuthReplyGrantsDeniesOrIsLate :
    ((got (frm 0x03 (authBody 1)) waiting).link.rxBuffer.head? = some (frm 0x03 (authBody 1))
      ∧ field (authBody 1) 0 2 = (0#16).toNat ∧ field (authBody 1) 2 1 = (1#8).toNat
      ∧ field (authBody 1) 3 4 = (99#32).toNat ∧ (got (frm 0x03 (authBody 1)) waiting).waitOf 0 = some 3)
    ∧ ((onLink waiting).link.online = true ∧ (waiting.exch 3).request = some topUp
      ∧ (waiting.exch 3).fresh = some cardVal ∧ waiting.supplyLow = false ∧ waiting.writeBarred 3 = false
      ∧ (waiting.modCard fun c => { c with tears := [tearEntry .nobody] }).writeBarred 3 = true)
    ∧ State.reset.waitOf 0 = none := by decide +kernel

/-- Bay 3's AUTH_REQ waits in the message queue, and bay 4's request with the evaluator. -/
def asking : State :=
  let s := waiting.modBay 4 fun y => { y with ctx := ctxIn .pricing 12 }
  { s with
    link := { s.link with messages := [.authReq 0 3 40711902 1000 5000] }
    tariff := { s.tariff with evaluating := some (s.priceRequest 4) }
    pending := [.clockSecond] }

theorem test_witness_EveryStepKeepsQueuePlaces : asking.PlacesSuffice ∧ ∃ t, step asking = .next t :=
  ⟨⟨fun b => by
      have h : ∀ c : BayNo, (asking.bay c).term.cardSlot = none ∧
          ((asking.bay c).authWait.isSome = true → (asking.bay c).card.phase = .authorising)
          ∧ ((asking.bay c).card.phase ≠ .idle → (asking.bay c).ctx.state ∈ [.cardRead, .cardWrite, .tearWait]
              ∧ (asking.bay c).ctx.wait ≠ .places) := by decide +kernel
      exact ⟨(h b).2.1, (h b).2.2, fun c hc => by rw [(h b).1] at hc; cases hc⟩,
    fun p hp => by
      have one : asking.link.waitingAuths = [(0, 3)] := by decide +kernel
      rw [one] at hp
      cases List.mem_singleton.mp hp
      decide +kernel,
    by decide +kernel, by decide +kernel, by decide +kernel, by decide +kernel⟩, _, rfl⟩

/-- The bodies the frame witnesses carry. -/
def timeBody : List Byte := beBytes 2 20000 ++ beBytes 2 1439 ++ [59]

theorem test_witness_NoticeMaskAndSetTimeStored :
    ((got (frm 0x26 [31, 255]) State.reset).TakesNext (frm 0x26 [31, 255]) ∧ [31#8, 255].length = 2)
    ∧ ((got (frm 0x20 timeBody) State.reset).TakesNext (frm 0x20 timeBody) ∧ timeBody.length = 5
      ∧ field timeBody 2 2 ≤ 1439 ∧ field timeBody 4 1 ≤ 59 ∧ State.reset.tariff.scheduled = none)
    ∧ (1439 < field (beBytes 2 0 ++ beBytes 2 1440 ++ [0]) 2 2 ∧ 59 < field (beBytes 4 0 ++ [60]) 4 1) := by
  decide +kernel
theorem test_witness_MalformedFramesRefused :
    ((got (frm 0x27 [0]) State.reset).TakesNext (frm 0x27 [0]) ∧ (frm 0x27 [0]).body.length ≠ 0)
    ∧ ((got (frm 0x10 []) State.reset).TakesNext (frm 0x10 []) ∧ (frm 0x10 []).body.length ≠ 7)
    ∧ ((got (frm 0x01 []) State.reset).link.rxBuffer.head? = some (frm 0x01 []) ∧ (frm 0x01 []).body.length ≠ 1)
    ∧ ((beat 2 State.reset).link.rxBuffer.head? = some (frm 0x01 [2]) ∧ 1 < (2#8).toNat)
    ∧ ((got (frm 0x30 []) State.reset).TakesNext (frm 0x30 []) ∧ downKinds.contains (0x30#8).toNat = false)
    ∧ ((got (frm 0x21 [8, 0, 0]) State.reset).TakesNext (frm 0x21 [8, 0, 0]) ∧ 7 < (8#8).toNat)
    ∧ ((got (frm 0x22 [3, 5]) State.reset).TakesNext (frm 0x22 [3, 5]) ∧ 4 < (5#8).toNat) := by
  decide +kernel
theorem test_witness_QueriesAnswerAPage :
    (got (frm 0x21 [0, 3, 0]) State.reset).TakesNext (frm 0x21 [0, 3, 0]) ∧ (3#8).toNat = (3 : BayNo).val
    ∧ (got (frm 0x21 [2, 8, 0]) State.reset).TakesNext (frm 0x21 [2, 8, 0]) ∧ (2#8).toNat < 3 ∧ 7 < (8#8).toNat
    ∧ (queryRows.map fun q => q.2.1) = [0, 1, 2, 3, 4, 5, 6, 7]
    ∧ (0#8).toNat < max 1 ((State.reset.bayData 3).length + 236 / 237)
    ∧ max 1 (((State.reset.bayData 3).length + 236) / 237) ≤ (255#8).toNat := by decide +kernel

/-! ### Witnesses: table loading and the bank switch -/

/-- A TABLE_OPEN of bank B's zone table. -/
def openBody : List Byte := [1, 1, 0, 8, 0, 32, 0]

/-- A DENY stream of n entries, with some received. -/
def denyStream (n next : Nat) (es : List (List Byte)) : State :=
  { State.reset with tariff := { Tariff.reset with
      denyShadow := { Table.empty with entries := es }
      load := ⟨.stream, some ⟨.deny, none⟩, some 9, some n, none, next, some (crc32Run crc32Start es.flatten), .none,
        none, 0⟩ } }

/-- A TABLE_DATA of one serial at index i. -/
def dataBody (i : Byte) : List Byte := [0, i, 0, 0, 0, 5]

theorem test_witness_TableOpenAndDataFillStream :
    (got (frm 0x10 openBody) shop).TakesNext (frm 0x10 openBody) ∧ openBody.length = 7
    ∧ targetOf (field openBody 0 1) (field openBody 1 1) = some ⟨.zone, some .b⟩
    ∧ (got (frm 0x10 openBody) shop).tariff.openFailure ⟨.zone, some .b⟩ (field openBody 4 2) = none := by
  decide +kernel
theorem test_witness_TableOpenAndDataFillStream_data :
    (got (frm 0x11 (dataBody 0)) (denyStream 1 0 [])).TakesNext (frm 0x11 (dataBody 0))
    ∧ 3 ≤ (dataBody 0).length ∧ (denyStream 1 0 []).tariff.load.state = .stream
    ∧ (denyStream 1 0 []).tariff.load.target = some ⟨.deny, none⟩
    ∧ splitEntries .deny ((dataBody 0).length - 2) ((dataBody 0).drop 2) = some [[0, 0, 0, 5]]
    ∧ field (dataBody 1) 0 2 ≠ (denyStream 1 0 []).tariff.load.next
    ∧ (denyStream 0 0 []).tariff.load.count.getD 0 < field (dataBody 0) 0 2 + 1
    ∧ field (dataBody 0) 0 2 + 1 ≤ (denyStream 1 0 []).tariff.load.count.getD 0 := by decide +kernel

/-- The check of the one-serial stream. -/
def closeBody : List Byte := beBytes 4 (crc32 [0, 0, 0, 5]).toNat

/-- The one-serial stream with a TABLE_CLOSE of its check. -/
def closing : State := got (frm 0x12 closeBody) (denyStream 1 1 [[0, 0, 0, 5]])

theorem test_witness_TableCloseReplacesDeny :
    (closing.TakesNext (frm 0x12 closeBody) ∧ closeBody.length = 4 ∧ closing.tariff.load.state = .stream
      ∧ closing.tariff.load.target = some ⟨.deny, none⟩
      ∧ closing.tariff.load.next = closing.tariff.load.count.getD 0
      ∧ closing.tariff.load.crc.map crc32End = some (BitVec.ofNat 32 (beNat closeBody))
      ∧ closing.validate ⟨.deny, none⟩ = none)
    ∧ closing.tariff.load.crc.map crc32End ≠ some (BitVec.ofNat 32 (beNat [0#8, 0, 0, 0]))
    ∧ ((got (frm 0x13 []) (denyStream 1 0 [])).TakesNext (frm 0x13 [])
      ∧ (denyStream 1 0 []).tariff.load.target.isSome = true) := by decide +kernel

theorem test_four_bytes_carry_number (i : Nat) (h : i < 2 ^ 32) : beNat (beBytes 4 i) = i := by
  simp [beNat, beBytes]; omega

/-- A stream of g that has brought its n entries, with a TABLE_CLOSE of their check. -/
def closed (g : Target) (es : List (List Byte)) (s : State) : State :=
  got (frm 0x12 (beBytes 4 (crc32 es.flatten).toNat)) { s with tariff := { s.tariff with
    siteShadow := { Table.empty with entries := es }
    load := ⟨.stream, some g, some 9, some es.length, none, es.length, some (crc32Run crc32Start es.flatten), .none,
      none, 0⟩ } }

/-- A site table that marks bay 5 ABSENT; the tubes' coins of `shopBay` under other kinds. -/
def absentRows : List (List Byte) := siteRows ++ [[13, 0, 32, 0, 0, 0, 0, 0]]
def zoneStream : State := closed ⟨.zone, some .b⟩ (List.replicate 32 [1])
  { shop with tariff := { shop.tariff with bankB := { bank with zone := { bank.zone with valid := false } } } }
def siteStream (es : List (List Byte)) : State := closed ⟨.site, none⟩ es (shopBay id)

/-- The check that the TABLE_CLOSE carries matches. -/
theorem test_witness_TableCloseFillsBankOrSite_check (g : Target) (es : List (List Byte)) (s : State) :
    (closed g es s).tariff.load.crc.map crc32End = some (BitVec.ofNat 32 (beNat (beBytes 4 (crc32 es.flatten).toNat))) := by
  rw [test_four_bytes_carry_number _ (BitVec.isLt _), BitVec.ofNat_toNat, BitVec.setWidth_eq]; rfl
theorem test_witness_TableCloseFillsBankOrSite :
    (zoneStream.tariff.load.state = .stream ∧ zoneStream.tariff.load.next = zoneStream.tariff.load.count.getD 0
      ∧ zoneStream.validate ⟨.zone, some .b⟩ = none ∧ TableName.zone ∈ bankedTables
      ∧ zoneStream.tariff.load.crc.map crc32End ≠ some 0)
    ∧ ((siteStream absentRows).validate ⟨.site, none⟩ = none
      ∧ siteAbsent (siteStream absentRows).site 5 = false ∧ siteAbsent absentRows 5 = true
      ∧ ((siteStream absentRows).ctx 5).state.isOpen = false)
    ∧ ((siteStream (siteRows.take 6)).validate ⟨.site, none⟩ = some (.site, 6)
      ∧ (siteStream (siteRows.take 6 ++ [tubeRow 1 5, tubeRow 0 5])).validate ⟨.site, none⟩ = some (.site, 6))
    ∧ (field (tubeRow 0 9) 0 1 = 3 ∧ 8 < field (tubeRow 0 9) 2 1) := by decide +kernel

/-- A live deny table of the serials given. -/
def denying (es : List (List Byte)) : State :=
  { State.reset with tariff := { Tariff.reset with deny := { Table.emptyValid with entries := es } } }

/-- A deny table of the serials 0 to n - 1. -/
def denyRange (n : Nat) : State := denying ((List.range n).map fun i => beBytes 4 i)

theorem test_witness_DenyEditsChangeOneSerial :
    ((got (frm 0x15 [0, 0, 0, 6]) (denying [[0, 0, 0, 5]])).TakesNext (frm 0x15 [0, 0, 0, 6])
      ∧ (denying [[0, 0, 0, 5]]).tariff.deny.entries.Pairwise (fun a b => beNat a < beNat b)
      ∧ (denying [[0, 0, 0, 5]]).tariff.deny.valid = true
      ∧ ¬ ∃ e ∈ (denying [[0, 0, 0, 5]]).tariff.deny.entries, beNat e = beNat [0#8, 0, 0, 6])
    ∧ ((got (frm 0x16 [0, 0, 0, 5]) (denying [[0, 0, 0, 5]])).TakesNext (frm 0x16 [0, 0, 0, 5])
      ∧ ∃ e ∈ (denying [[0, 0, 0, 5]]).tariff.deny.entries, beNat e = beNat [0#8, 0, 0, 5])
    ∧ ((denyStream 1 0 []).tariff.load.state = .stream ∧ (denyStream 1 0 []).tariff.load.target = some ⟨.deny, none⟩)
    ∧ { Tariff.reset with deny := .empty }.deny.valid = false := by decide +kernel
theorem test_serials_rise (n : Nat) (hn : n ≤ 4096) :
    ((List.range n).map fun i => beBytes 4 i).Pairwise (fun a b => beNat a < beNat b) := by
  refine List.pairwise_map.mpr (List.pairwise_lt_range.imp_of_mem fun ha hb h => ?_)
  have hb' := List.mem_range.mp hb
  rw [test_four_bytes_carry_number _ (by omega), test_four_bytes_carry_number _ (by omega)]
  exact h
theorem test_serials_below (n x : Nat) (hn : n ≤ 4096) (hx : n ≤ x) :
    ¬ ∃ e ∈ ((List.range n).map fun i => beBytes 4 i), beNat e = x := by
  rintro ⟨e, he, h⟩
  obtain ⟨i, hi, rfl⟩ := List.mem_map.mp he
  have := List.mem_range.mp hi
  rw [test_four_bytes_carry_number _ (by omega)] at h
  omega
/-- At n = 4096 the deny table is full. -/
theorem test_witness_DenyEditsChangeOneSerial_full (n : Nat) (hn : n = 4096) :
    (denyRange n).tariff.deny.entries.Pairwise (fun a b => beNat a < beNat b)
    ∧ 4096 ≤ (denyRange n).tariff.deny.entries.length
    ∧ ¬ ∃ e ∈ (denyRange n).tariff.deny.entries, beNat e = beNat [0#8, 1, 0, 0] :=
  ⟨test_serials_rise n (by omega), by simp [denyRange, denying, hn],
    test_serials_below n _ (by omega) (by simp [beNat, hn])⟩

/-- Bank B loaded beside bank A. -/
def twoBanks : State := { shop with tariff := { shop.tariff with bankB := bank } }

/-- A BANK_SWITCH to bank B at once, of the versions all v. -/
def switchBody (v : Nat) : List Byte := [1] ++ (List.replicate 6 (beBytes 2 v)).flatten ++ [0] ++ beBytes 4 0

/-- A BANK_SWITCH to bank B at minute m of day 20,000. -/
def laterBody (m : Nat) : List Byte :=
  [1] ++ (List.replicate 6 (beBytes 2 8)).flatten ++ [1] ++ beBytes 2 20000 ++ beBytes 2 m

theorem test_witness_BankSwitchActivatesSchedulesOrRefuses :
    (got (frm 0x14 (switchBody 8)) twoBanks).TakesNext (frm 0x14 (switchBody 8)) ∧ (switchBody 8).length = 18
    ∧ Bank.ofCode (field (switchBody 8) 0 1) = some .b ∧ field (switchBody 8) 13 1 = 0
    ∧ twoBanks.tariff.switchFailure .b (versionsOf (switchBody 8)) = none
    ∧ twoBanks.tariff.switchFailure .b (versionsOf (switchBody 7)) = some .versionMismatch
    ∧ (field (laterBody 461) 13 1 = 1 ∧ field (laterBody 461) 14 2 = 20000 ∧ field (laterBody 461) 16 2 = 461
      ∧ twoBanks.time.calendar.minute = 460 ∧ twoBanks.time.isSet = true ∧ State.reset.time.isSet = false) := by
  decide +kernel

/-- A switch to bank B scheduled for minute m of day 20,000. -/
def scheduled (v m : Nat) : State :=
  { twoBanks with tariff := { twoBanks.tariff with scheduled := some ⟨.b, ⟨v, v, v, v, v, v⟩, 20000, m⟩ } }

theorem test_witness_BankSwitchActivatesSchedulesOrRefuses_due :
    (scheduled 8 460).tariff.scheduled = some ⟨.b, ⟨8, 8, 8, 8, 8, 8⟩, 20000, 460⟩
    ∧ (scheduled 8 460).time.calendar.minute = 460 ∧ (scheduled 8 461).time.calendar.minute < 461
    ∧ (scheduled 8 460).tariff.switchFailure .b ⟨8, 8, 8, 8, 8, 8⟩ = none
    ∧ (scheduled 7 460).tariff.switchFailure .b ⟨7, 7, 7, 7, 7, 7⟩ = some .versionMismatch := by decide +kernel

/-! ### Witnesses: service frames -/

/-- A BAY_CONTROL of an action for bay 3. -/
def control (a : Byte) (s : State) : State := got (frm 0x22 [3, a]) s

/-- Bay 3 out of service by the server, and by its door. -/
def outBy (c : Causes) : State := shopBay fun y => { y with ctx := { y.ctx with state := .outOfService, causes := c } }

theorem test_witness_BayControlMovesServerOrRefuses :
    ((control 0 (outBy { Causes.empty with server := true })).TakesNext (frm 0x22 [BitVec.ofNat 8 (3 : BayNo).val, 0])
      ∧ siteAbsent shop.site 3 = false
      ∧ ((outBy { Causes.empty with server := true }).ctx 3).causes.onlyServer = true
      ∧ ((outBy { Causes.empty with server := true, serviceDoor := true }).ctx 3).causes.onlyServer = false)
    ∧ ((control 1 (shopBay id)).TakesNext (frm 0x22 [BitVec.ofNat 8 (3 : BayNo).val, 1])
      ∧ ((shopBay id).ctx 3).causes.server = false ∧ ((shopBay id).ctx 3).state = .idle) := by decide +kernel

/-- The site marks bay 3 ABSENT. -/
def absent3 : State :=
  { State.reset with tariff := { Tariff.reset with
      site := { Table.emptyValid with entries := [[13, 0, 8, 0, 0, 0, 0, 0]] } } }

theorem test_witness_BayControlMovesServerOrRefuses_bay :
    (got (frm 0x22 [8, 2]) State.reset).TakesNext (frm 0x22 [8, 2]) ∧ 7 < (8#8).toNat
    ∧ (got (frm 0x22 [3, 2]) absent3).TakesNext (frm 0x22 [3, 2]) ∧ (3#8).toNat = (3 : BayNo).val
    ∧ siteAbsent absent3.site 3 = true := by decide +kernel
theorem test_witness_BayResetReturnsOrIsHeld :
    ((control 2 (shopBay id)).TakesNext (frm 0x22 [BitVec.ofNat 8 (3 : BayNo).val, 2])
      ∧ siteAbsent shop.site 3 = false ∧ ((shopBay id).ctx 3).wait ≠ .places
      ∧ ((shopBay id).ctx 3).state = .idle ∧ ((shopBay id).bay 3).escrow.pulse = none)
    ∧ ((sale .commit 12 id).ctx 3).state = .commit
    ∧ (((sale .priced 12 id).ctx 3).state = .priced ∧ ((sale .priced 12 id).ctx 3).overflowValue = 0
      ∧ ((sale .priced 12 id).bay 3).authWait = none ∧ ((sale .priced 12 id).bay 3).card.phase = .idle
      ∧ (sale .priced 12 id).journal.waitsFor 3 = false ∧ ((sale .priced 12 id).ctx 3).bank = some .a)
    ∧ (((sale .print 12 id).ctx 3).state = .print ∧ (sale .print 12 id).journal.waitsFor 3 = false
      ∧ (sale .print 12 id).journal.queue.length < 16 ∧ ((sale .print 12 id).ctx 3).wait ≠ .adjust
      ∧ ((sale .cardRead 30 id).ctx 3).state.isOpen = true) := by
  decide +kernel

/-- Bay 3 with a train in progress. -/
def pulsing : State := shopBay fun y => { y with coin := { y.coin with capture := .inPulse, lastEdge := some 0 } }

/-- Bay 3 with coin_off. -/
def offBay : State := shopBay fun y => { y with coin := { y.coin with coinOff := true } }

theorem test_witness_CoinAndTubeFramesAct :
    ((control 3 pulsing).TakesNext (frm 0x22 [BitVec.ofNat 8 (3 : BayNo).val, 3]) ∧ siteAbsent shop.site 3 = false
      ∧ (pulsing.bay 3).coin.coinOff = false ∧ (pulsing.bay 3).coin.capture ≠ .idle
      ∧ ((shopBay id).bay 3).coin.capture = .idle ∧ (offBay.bay 3).coin.coinOff = true)
    ∧ (control 4 offBay).TakesNext (frm 0x22 [BitVec.ofNat 8 (3 : BayNo).val, 4]) := by decide +kernel

/-- Bay 3 open for service. -/
def servicing : State :=
  shopBay fun y => { y with
    ctx := { y.ctx with state := .outOfService, causes := { Causes.empty with serviceDoor := true } }
    lines := { y.lines with serviceDoor := ⟨true, true⟩ } }

/-- A TUBE_SET of tube 1 above its capacity. -/
def tubeBody : List Byte := [3, 1, 255, 0]

theorem test_witness_CoinAndTubeFramesAct_tube :
    (got (frm 0x23 tubeBody) servicing).TakesNext (frm 0x23 tubeBody)
    ∧ tubeBody = [BitVec.ofNat 8 (3 : BayNo).val, BitVec.ofNat 8 (1 : TubeNo).val, 255,
        if TubeState.ok = .ok then 0 else 2]
    ∧ (servicing.ctx 3).state = .outOfService ∧ (servicing.bay 3).lines.serviceDoor.accepted = true
    ∧ ((shopBay id).ctx 3).state ≠ .outOfService := by decide +kernel

/-- A journal whose blocks 1 to n are FULL, with holds. -/
def fullBlocks (n : Nat) (holds : List Nat) : State :=
  State.reset.modJournal fun j =>
    { j with
      rows := Vector.ofFn fun i =>
        if i.val = 0 then ⟨.active, some 1, some 1, none, none, some 1, 0⟩
        else if i.val ≤ n then ⟨.full, some (i.val + 1), some i.val, some i.val, some i.val, none, 0⟩ else .erased
      holdList := holds }

theorem test_witness_HoldsChangeNamedBlocksOnly :
    ((got (frm 0x24 [2, 0, 1]) (fullBlocks 1 [])).TakesNext (frm 0x24 [2, 0, 1]) ∧ blocksOf [2, 0, 1] = some [0, 1]
      ∧ [0, 1].all (fullBlocks 1 []).journal.holdable = true
      ∧ (withHolds (fullBlocks 1 []).journal.holdList [0, 1]).length ≤ 8)
    ∧ ([1, 9].all (fullBlocks 9 [1, 2, 3, 4, 5, 6, 7, 8]).journal.holdable = true
      ∧ 8 < (withHolds (fullBlocks 9 [1, 2, 3, 4, 5, 6, 7, 8]).journal.holdList [1, 9]).length)
    ∧ [31].all (fullBlocks 1 []).journal.holdable = false
    ∧ ((got (frm 0x25 [1, 1]) (fullBlocks 1 [1])).TakesNext (frm 0x25 [1, 1]) ∧ blocksOf [1, 1] = some [1]
      ∧ (fullBlocks 1 [1]).time.audit.accepted = false) := by decide +kernel
theorem test_witness_LinkResetKeepsLastingState :
    ((got (frm 0x27 []) State.reset).TakesNext (frm 0x27 []) ∧ (frm 0x27 []).body = [])
    ∧ ((sending .reply (replied .linkReset shop)).link.sending = some ⟨.reply, true⟩
      ∧ (sending .reply (replied .linkReset shop)).link.replies = ⟨1, .accepted, [], .linkReset⟩ :: []
      ∧ ∀ b, (shop.ctx b).state.isOpen = false ∧ (shop.ctx b).resetHeld = false ∧ (shop.ctx b).wait = .none) := by
  decide +kernel
theorem test_witness_SupervisionExpiryTakesLinkOffline :
    (onLink State.reset).link.timer = some (0, 5000)
    ∧ 5000 ≤ ((at_ 5000 (onLink State.reset)).time.ms - 0).toNat ∧ (onLink State.reset).link.sending = none
    ∧ ∀ b, (State.reset.bay b).authWait = none := by decide +kernel

/-! ### Witnesses: the bay bus and key events -/

/-- Bay 3's terminal is LOST, its recovery start at 0. -/
def lostBay : State :=
  State.reset.modBay 3 fun y => { y with term := { y.term with state := .lost, recoveryStart := some 0 } }

/-- Bay 3 is polled next, with a card command in its slot. -/
def polling : State := (shopBay fun y => { y with term := { y.term with cardSlot := some (slotOf .read) } }).modBus
  fun u => { u with next := 3 }

/-- Bay 3's ring holds 100 bytes to print, and four of them are in flight under mark 5. -/
def filled : State :=
  polling.modBay 3 fun y => { y with ring := List.replicate 100 65#8, printer := ⟨.ok, false, 200⟩ }
def inFlight : State := filled.modBay 3 fun y => { y with inFlight := 4, chunkMark := some 5 }

theorem test_witness_PollsCarryWhatIsPending :
    (polling.busReady = true ∧ polling.dueBay = none ∧ polling.nextBay = some 3
      ∧ polling.slot 3 = some (slotOf .read) ∧ (slotOf .read).taken = false ∧ { slotOf .read with taken := true }.taken = true
      ∧ (polling.bay 3).inFlight = 0 ∧ (polling.bay 3).ring = []
      ∧ (shopBay id).slot 3 = none ∧ (shopBay id).busReady = true ∧ (shopBay id).dueBay = none)
    ∧ ((filled.bay 3).seq.paperOut = false ∧ (filled.bay 3).seq.headUp = false ∧ filled.busReady = true
      ∧ 0 < min (filled.bay 3).printer.credit (min 64 (filled.bay 3).ring.length)
      ∧ 0 < (inFlight.bay 3).inFlight ∧ (inFlight.bay 3).chunkMark = some 5 ∧ inFlight.nextBay = some 3)
    ∧ ((at_ 1000 lostBay).busReady = true ∧ (at_ 1000 lostBay).dueBay = some 3) := by decide +kernel

/-- A poll of bay 3 stands on the line. -/
def polled (s : State) : State :=
  s.modBus fun u => { u with exchange := some ⟨⟨3, none, none, none, none⟩, false, 0⟩ }

/-- Bay 3's terminal has missed n polls. -/
def missed (n : Nat) : State :=
  polled (shopBay fun y => { y with term := { y.term with state := .missing, misses := n } })

theorem test_witness_PollEndsGoodOrMissed :
    ((polled (shopBay id)).bus.exchange = some ⟨⟨3, none, none, none, none⟩, false, 0⟩
      ∧ 5 ≤ ((at_ 5 (polled (shopBay id))).time.ms - 0).toNat ∧ ((shopBay id).bay 3).term.state = .present)
    ∧ ((missed 1).bay 3).term.misses < 2 ∧ 2 ≤ ((missed 2).bay 3).term.misses
    ∧ ((missed 2).bay 3).term.state = .missing ∧ siteAbsent (missed 2).site 3 = false
    ∧ parseReply [] = none := by decide +kernel

/-- The third miss of bay 3 with product 30 in a state, its exchange in a phase. -/
def losing (st : CtxState) (ph : Phase) : State :=
  polled (sale st 30 fun y => { y with
    term := { y.term with state := .missing, misses := 2 }
    reserved := true
    card := { y.card with phase := ph, request := some topUp, fresh := some cardVal } })

theorem test_witness_PollEndsGoodOrMissed_lost :
    (∀ st ∈ [CtxState.idle, .tender, .cardWrite, .commit, .tearWait],
      ((losing st .presenting).ctx 3).state = st ∧ ((losing st .presenting).ctx 3).causes.terminalLost = false
      ∧ ((losing st .presenting).ctx 3).wait ≠ .places ∧ ((losing st .presenting).bay 3).term.state = .missing
      ∧ 2 ≤ ((losing st .presenting).bay 3).term.misses ∧ siteAbsent (losing st .presenting).site 3 = false
      ∧ ((losing st .presenting).exch 3).phase ≠ .writing)
    ∧ ((losing .cardWrite .writing).exch 3).phase = .writing ∧ (losing .cardWrite .writing).retrying 3 = false
    ∧ ((losing .cardWrite .writing).bay 3).reserved = true
    ∧ (losing .cardWrite .writing).tearOf cardVal.serial = none := by decide +kernel
/-- Bay 3 loses its terminal while the exchange's own write stands in the card slot. -/
theorem test_witness_PollEndsGoodOrMissed_write :
    let s := (losing .cardWrite .writing).modTerm 3 fun y => { y with cardSlot := some (slotOf (topUp.command cardVal)) }
    ((s.ctx 3).state = .cardWrite ∧ (s.exch 3).phase = .writing ∧ (s.bay 3).term.state = .missing
    ∧ 2 ≤ (s.bay 3).term.misses ∧ siteAbsent s.site 3 = false ∧ (s.ctx 3).causes.terminalLost = false
    ∧ (s.ctx 3).wait ≠ .places ∧ (s.exch 3).request = some topUp ∧ (s.exch 3).fresh = some cardVal
    ∧ s.retrying 3 = false ∧ (s.bay 3).reserved = true ∧ s.tearOf cardVal.serial = none
    ∧ s.slot 3 = some (slotOf (topUp.command cardVal)))
    ∧ ∀ c, s.slot 3 = some c → c.owner = .exchange :=
  ⟨by decide +kernel, fun _ h => by cases h; rfl⟩
/-- Bay 3 prints a SALE's receipt. -/
theorem test_witness_PollEndsGoodOrMissed_print :
    let s := (losing .print .idle).modBay 3 fun y => { y with
      ctx := { y.ctx with wait := .receipt }, seq := seqWith { reprintJob with kind := .sale } .expanding 0 }
    (s.ctx 3).state = .print ∧ (s.ctx 3).wait = .receipt ∧ 2 ≤ (s.bay 3).term.misses
    ∧ (s.bay 3).seq.job = some { reprintJob with kind := .sale } := by decide +kernel

/-- The reply of bay 3 without a section: address, kind, mask and check. -/
def emptyReply : List Byte := [3, 2, 0] ++ beBytes 2 (crc16 [3, 2, 0]).toNat

theorem test_witness_PollEndsGoodOrMissed_good :
    (missed 2).bus.exchange = some ⟨⟨3, none, none, none, none⟩, false, 0⟩
    ∧ (parseReply emptyReply).isSome = true ∧ (parseReply emptyReply).map BusReply.address = some (3 : BayNo).val
    ∧ (missed 2).bus.dropKey = false ∧ ((missed 2).bay 3).term.state = .missing := by decide +kernel
theorem test_witness_HeldLineIsBrokenThenWaits :
    (State.reset.up = true ∧ State.reset.bus.exchange = none ∧ State.reset.bus.recovery = .none)
    ∧ 2 ≤ ((at_ 2 State.reset).time.ms - 0).toNat ∧ 10 ≤ ((at_ 10 State.reset).time.ms - 0).toNat
    ∧ (State.reset.modBus fun u => { u with recovery := .breaking 0 }).bus.recovery = .breaking 0
    ∧ (State.reset.modBus fun u => { u with recovery := .waiting 0 }).bus.recovery = .waiting 0 := by decide +kernel
theorem test_witness_SelectRefusedOrOpens :
    (told (.key (.select picked)) (shopBay id)).HandsOn 3 (.key (.select picked))
    ∧ ((outBy Causes.empty).ctx 3).state = .outOfService ∧ ((sale .priced 12 id).ctx 3).state.isOpen = true
    ∧ ((told (.key (.select picked)) State.reset).ctx 3).state = .idle
    ∧ (told (.key (.select picked)) State.reset).openGate 3 picked = .inl .timeUnset := by decide +kernel
theorem test_witness_SelectRefusedOrOpens_gate :
    (fullBlocks 30 []).journal.erasedCount < 2 ∧ 2 ≤ shop.journal.erasedCount ∧ State.reset.time.isSet = false
    ∧ shop.time.isSet = true ∧ shop.supplyLow = false ∧ (shop.tariff.bank shop.tariff.active).allValid = true
    ∧ (State.reset.tariff.bank State.reset.tariff.active).allValid = false
    ∧ shop.offered { picked with product := 13 } = none ∧ (shop.offered picked).isSome = true
    ∧ (shop.offered picked).map (Product.fits · picked) = some true
    ∧ (shop.offered picked).map (Product.fits · { picked with quantity := 5 }) = some false
    ∧ (shop.offered picked).map Product.kind = some .passPrinted ∧ (shop.bay 3).printer.paper ≠ .out
    ∧ shop.card.tears.length + shop.reservations < 16 := by decide +kernel

/-- The products of the bank. -/
def printedPass : Product := ⟨12, .passPrinted, 0, 15, 1, 0, 0, true, 0, 100, 10000, 100⟩
def topUpProduct : Product := ⟨30, .topup, 0, 15, 1, 0, 0, false, 0, 100, 10000, 100⟩

/-- The selection of a top-up of 1000. -/
def pickedTopUp : Selection := ⟨30, 0, 1, true, none, some 1000⟩

theorem test_witness_SelectRefusedOrOpens_opens :
    ((told (.key (.select picked)) (shopBay id)).HandsOn 3 (.key (.select picked))
      ∧ ((shopBay id).ctx 3).state = .idle ∧ (shopBay id).openGate 3 picked = .inr printedPass
      ∧ printedPass.withCard picked = false)
    ∧ ((shopBay id).openGate 3 pickedTopUp = .inr topUpProduct ∧ topUpProduct.withCard pickedTopUp = true
      ∧ topUpProduct.usesZones = false ∧ topUpProduct.kind = .topup ∧ printedPass.usesZones = true) := by decide +kernel

/-- Bay 3 priced at 520 for COINS. -/
def pricedBay : State :=
  sale .priced 12 fun y => { y with ctx := { y.ctx with price := some 520, priceMethod := some .coins } }

theorem test_witness_ConfirmRefusesOrLeadsOn :
    (told (.key (.confirm .coins false)) pricedBay).HandsOn 3 (.key (.confirm .coins false))
    ∧ (pricedBay.ctx 3).state = .priced ∧ (pricedBay.ctx 3).wait = .none
    ∧ pricedBay.product 3 = some printedPass ∧ pricedBay.confirmFailure 3 printedPass .coins = none
    ∧ pricedBay.confirmFailure 3 printedPass .purse = some .methodRefused
    ∧ (pricedBay.ctx 3).priceMethod = some .coins ∧ 0 < (pricedBay.ctx 3).price.getD 0
    ∧ ((pricedBay.modCtx 3 fun c => { c with priceMethod := some .purse }).ctx 3).priceMethod ≠ some .coins := by
  decide +kernel

/-- Bay 3 priced for PURSE at p, its card read; product 12 sold by either method. -/
def pricedPurse (p : Nat) : State :=
  let s := sale .priced 12 fun y => { y with
    ctx := { y.ctx with price := some p, priceMethod := some .purse, card := some cardVal } }
  { s with tariff := { s.tariff with bankA := { bank with product := tab [productRow 12 0 3 0 1] } } }

theorem test_witness_ConfirmRefusesOrLeadsOn_purse :
    (pricedPurse 520).confirmFailure 3 { printedPass with methods := 3 } .purse = none
    ∧ (pricedPurse 520).product 3 = some { printedPass with methods := 3 }
    ∧ ((pricedPurse 5001).ctx 3).card.map CardValues.balance = some 5000
    ∧ (pricedPurse 5001).confirmFailure 3 { printedPass with methods := 3 } .purse = none
    ∧ (pricedPurse 0).confirmFailure 3 { printedPass with methods := 3 } .purse = none := by decide +kernel
theorem test_witness_CancelClosesWaitsOrIsIgnored :
    (told (.key .cancel) pricedBay).HandsOn 3 (.key .cancel) ∧ (pricedBay.ctx 3).wait = .none
    ∧ (pricedBay.ctx 3).state ∈ [.cardRead, .pricing, .priced] ∧ (pricedBay.ctx 3).coins = []
    ∧ (pricedBay.ctx 3).tendered = 0 ∧ siteAbsent pricedBay.site 3 = false ∧ (pricedBay.ctx 3).bank = some .a
    ∧ ((sale .tearWait 30 id).ctx 3).state = .tearWait
    ∧ ((sale .commit 12 fun y => { y with ctx := { y.ctx with wait := .sale } }).ctx 3).state
        ∈ [.commit, .payout, .print, .refund]
    ∧ ((sale .commit 12 fun y => { y with ctx := { y.ctx with wait := .sale } }).ctx 3).wait ≠ .places
    ∧ ((shopBay id).ctx 3).state = .idle ∧ ((shopBay id).ctx 3).wait ≠ .places
    ∧ 0 < ((sale .tender 12 fun y => { y with ctx := { y.ctx with tendered := 50 } }).ctx 3).overflowValue := by decide +kernel

/-- Bay 3 with a receipt printed at 0. -/
def printed : State := shopBay fun y => { y with lastReceipt := some ⟨7, .a, 0, 8, 8, snap, 0⟩ }

theorem test_witness_ReprintRefusesOrStartsJob :
    (told (.key .reprint) printed).HandsOn 3 (.key .reprint) ∧ (printed.ctx 3).state = .idle
    ∧ ((shopBay id).bay 3).lastReceipt = none ∧ (printed.bay 3).lastReceipt = some ⟨7, .a, 0, 8, 8, snap, 0⟩
    ∧ 60000 ≤ ((at_ 60000 printed).time.ms - 0).toNat ∧ ((at_ 59999 printed).time.ms - 0).toNat < 60000
    ∧ (printed.bay 3).printer.paper ≠ .out ∧ printed.unchanged ⟨7, .a, 0, 8, 8, snap, 0⟩ = true
    ∧ (printed.bay 3).seq.state = .idle ∧ (printed.bay 3).seq.waiting = none
    ∧ (printed.bay 3).term.state ≠ .lost := by decide +kernel

/-! ### Witnesses: card work and evaluation -/

/-- Bay 3 presents a READ for a purpose, with a write request where it has one. -/
def reading (st : CtxState) (p : Purpose) (r : Option WriteRequest) (c : Option CardValues) : State :=
  sale st 30 fun y => { y with
    ctx := { y.ctx with card := c, topupAmount := some 1000, price := some 1000 }
    card := ⟨.presenting, some p, r, some 0, none, none, none⟩
    term := { y.term with cardSlot := some (slotOf .read) } }

theorem test_witness_CardAnswersNeedTheSlotMark :
    (reading .cardRead .read none none).slot 3 = some (slotOf .read)
    ∧ (told (.taken 9) (reading .cardRead .read none none)).HandsOn 3 (.taken 9)
    ∧ (told (.answer 9 .noCard) (reading .cardRead .read none none)).HandsOn 3 (.answer 9 .noCard)
    ∧ (slotOf .read).mark = 9 ∧ (slotOf .read).mark ≠ 8 ∧ (slotOf .read).owner ≠ .reapplication
    ∧ ((reading .cardRead .read none none).exch 3).phase = .presenting := by decide +kernel
theorem test_witness_GoodReadPricesDeniedCancels :
    (told (.answer 9 (.card cardVal)) (reading .cardRead .read none none)).HandsOn 3
        (.answer (slotOf .read).mark (.card cardVal))
    ∧ (slotOf .read).command = .read ∧ (slotOf .read).owner = .exchange
    ∧ ((reading .cardRead .read none none).exch 3).purpose = some .read
    ∧ (reading .cardRead .read none none).tearOf cardVal.serial = none
    ∧ shop.tariff.deny.valid = true ∧ (∀ e ∈ shop.tariff.deny.entries, beNat e ≠ cardVal.serial.toNat)
    ∧ (∃ e ∈ [beBytes 4 40711902], beNat e = cardVal.serial.toNat) := by decide +kernel
theorem test_witness_FreshReadIssuesWithinPurse :
    let s := reading .cardWrite .write (some topUp) (some cardVal)
    ((onLink (told (.answer 9 (.card cardVal)) s)).HandsOn 3 (.answer (slotOf .read).mark (.card cardVal))
      ∧ (s.exch 3).phase = .presenting ∧ (s.exch 3).purpose = some .write ∧ (s.exch 3).request = some topUp
      ∧ s.tearOf cardVal.serial = none)
    ∧ ((s.ctx 3).cardIs cardVal.serial = true ∧ s.freshFailure 3 topUp cardVal = none ∧ s.supplyLow = false
      ∧ (onLink s).link.online = true ∧ topUp.amount ≤ siteThreshold s.site
      ∧ (∀ d, d ≠ 3 → s.writingTo d cardVal.serial = false)
      ∧ (s.modBay 4 fun y => { y with card := writingExch }).writingTo 4 cardVal.serial = true)
    ∧ (s.ctx 3).cardIs 1 = false := by decide +kernel

/-- Bay 3's write of the top-up is issued. -/
def writing (o : Option Tear) : State :=
  (sale .cardWrite 30 fun y => { y with
    ctx := { y.ctx with card := some cardVal, topupAmount := some 1000, price := some 1000, method := some .coins,
                        tendered := 1000 }
    card := writingExch
    reserved := true
    term := { y.term with cardSlot := some (slotOf topUpWrite) } }).modCard fun c => { c with tears := o.toList }

theorem test_witness_WriteAnsweredOrLost :
    (writing none).slot 3 = some (slotOf topUpWrite) ∧ (slotOf topUpWrite).command ≠ .read
    ∧ (told (.answer 9 (.ok 6000 8)) (writing none)).HandsOn 3 (.answer (slotOf topUpWrite).mark (.ok 6000 8))
    ∧ (told (.answer 9 (.refused .balance)) (writing none)).HandsOn 3
        (.answer (slotOf topUpWrite).mark (.refused .balance)) := by decide +kernel
theorem test_witness_WriteAnsweredOrLost_lost :
    (slotOf topUpWrite).firstSent = some 0 ∧ 500 ≤ ((at_ 500 (writing none)).time.ms - 0).toNat
    ∧ (slotOf .read).owner = .exchange ∧ ((writing none).exch 3).request = some topUp
    ∧ ((writing none).exch 3).fresh = some cardVal ∧ ((writing none).bay 3).authWait = none
    ∧ (writing none).retrying 3 = false ∧ ((writing none).bay 3).reserved = true
    ∧ (writing none).tearOf cardVal.serial = none := by decide +kernel

/-- Bay 3 waits in TEAR_WAIT for the card of its own entry. -/
def tearWaiting : State :=
  (reading .tearWait .retrn none (some cardVal)).modCard fun c => { c with tears := [tearEntry .openTxn] }

theorem test_witness_OwnTearSettled :
    (told (.answer 9 (.card cardVal)) tearWaiting).HandsOn 3 (.answer (slotOf .read).mark (.card cardVal))
    ∧ (tearWaiting.exch 3).purpose = some .retrn ∧ tearWaiting.tearOf cardVal.serial = some (tearEntry .openTxn)
    ∧ (tearEntry .openTxn).judge { cardVal with balance := 6000, pseq := 8 } = .applied
    ∧ (tearEntry .openTxn).judge cardVal = .notApplied ∧ (tearWaiting.ctx 3).writeRetried = false
    ∧ (tearEntry .openTxn).judge { cardVal with pseq := 9 } = .conflict := by decide +kernel
theorem test_witness_LimitsAndExpiryEndTheirWaits :
    (((reading .cardWrite .write (some topUp) none).exch 3).limitStart = some 0
      ∧ ((reading .cardWrite .write (some topUp) none).exch 3).phase.limited = true
      ∧ 20000 ≤ ((at_ 20000 shop).time.ms - 0).toNat)
    ∧ ((waiting.bay 3).authWait = some ⟨0, 0⟩ ∧ 3000 ≤ ((at_ 3000 shop).time.ms - 0).toNat)
    ∧ ((tearWaiting.ctx 3).wait = .none ∧ (tearWaiting.ctx 3).lastChange = 0
      ∧ ((reading .cardRead .read none none).ctx 3).state = .cardRead ∧ 30000 ≤ ((at_ 30000 shop).time.ms - 0).toNat
      ∧ (pricedBay.ctx 3).state = .priced ∧ 60000 ≤ ((at_ 60000 shop).time.ms - 0).toNat
      ∧ ((sale .tender 12 id).ctx 3).state = .tender ∧ 90000 ≤ ((at_ 90000 shop).time.ms - 0).toNat) := by
  decide +kernel

/-- An entry without an owner whose window of 15 minutes has just passed. -/
def expiring : State :=
  { shop with
    card := { shop.card with tears := [tearEntry .nobody] }
    time := { shop.time with calendar := ⟨20000, 475, 0⟩ } }

theorem test_witness_LimitsAndExpiryEndTheirWaits_tear :
    State.reset.time.isSet = false ∧ expiring.up = true ∧ expiring.card.tears.find? expiring.expired = some (tearEntry .nobody) := by
  decide +kernel

/-- Bay 3's request is with the evaluator. -/
def pricing (w : Bool) (p : Nat) : State :=
  let s := sale .pricing p id
  { s with tariff := { s.tariff with evaluating := some { s.priceRequest 3 with withdrawn := w } } }

theorem test_witness_EvaluationResultPricesOrEnds :
    (pricing true 12).tariff.evaluating = some { (sale .pricing 12 id).priceRequest 3 with withdrawn := true }
    ∧ (pricing false 12).tariff.evaluating = some ((sale .pricing 12 id).priceRequest 3)
    ∧ ((pricing false 12).ctx 3).state = .pricing ∧ ((pricing false 12).ctx 3).wait = .none
    ∧ ((pricing false 12).ctx 3).method = none ∧ (∀ q ∈ (pricing false 12).tariff.queue, q.bay ≠ 3)
    ∧ bank.evaluate ((sale .pricing 12 id).priceRequest 3) = .price 120 .empty none
    ∧ bank.evaluate ((sale .pricing 99 id).priceRequest 3) = .runaway := by decide +kernel
/-- Price and flags of a result stand on the display of PRICED (R19, R41). -/
theorem test_priced_display_has_flags :
    ∃ t, exec .evaluationEnd (pricing false 12) = .next t ∧ (t.bay 3).term.screen.amounts = [120]
      ∧ (t.bay 3).term.screen.flags = some .empty := ⟨_, rfl, by decide +kernel⟩
/-- With all four slots held for longer, a card pass finds no slot. -/
theorem test_witness_EvaluationResultPricesOrEnds_noSlot :
    bank.evaluate { (sale .pricing 21 id).priceRequest 3 with slots := some (Vector.replicate 4 (some ⟨9, 0, 30000⟩)) }
      = .noSlot := by decide +kernel

/-- A CONFIRM came before the result; the card's balance is 5000. -/
def pricingWith (m : Method) : State :=
  (pricing false 12).modCtx 3 fun c => { c with method := some m, card := some cardVal }

theorem test_witness_EvaluationResultPricesOrEnds_confirmed :
    ((pricingWith .coins).ctx 3).method = some .coins ∧ (0 : Nat) < 120 ∧ cardVal.balance = 5000
    ∧ ((pricingWith .purse).ctx 3).method = some .purse ∧ ((pricingWith .purse).ctx 3).card = some cardVal := by
  decide +kernel
theorem test_witness_FareChainRunsToPrice :
    ((workedRules[0]?.bind decodeRule) = some (.base 175) ∧ (workedRules[1]?.bind decodeRule) = some (.perZone 65)
      ∧ (workedRules[2]?.bind decodeRule) = some (.test .band .eq 1 1) ∧ 2 + 1 < workedRules.length
      ∧ (workedRules[8]?.bind decodeRule) = some .finish ∧ ([beBytes 1 8 ++ [3] ++ beBytes 5 0][0]?.bind decodeRule)
          = some (.goto 3))
    ∧ ((bank.findProduct 12).map Product.kind = some .passPrinted ∧ (bank.findProduct 30).map Product.kind = some .topup
      ∧ (bank.findProduct 21).map (fun p => passPlanOf p { (sale .pricing 21 id).priceRequest 3 with
          slots := some (Vector.replicate 4 none) }) = some (some ⟨0, 20000, 20013⟩)) := by decide +kernel
/-- The arithmetic of a fare that is odd, at the most, and under negative and positive entries. -/
theorem test_witness_FareArithmetic :
    (999999 : Nat) ≤ 999999 ∧ (-10000 : Int) ≤ -10000 ∧ ¬ 10000 ∣ 333 * (10000 + (-5000 : Int)).toNat
    ∧ (∀ a, (RuleEntry.cap 5) = .floor a → a ≤ 999999) := by
  refine ⟨by omega, by omega, by decide, fun a h => by cases h⟩

/-- A calendar table of eight starts and the holiday 20,000. -/
def eightStarts : BankTables :=
  { bank with calendar := tab ([0, 60, 120, 180, 240, 300, 360, 420, 20000].map (beBytes 2)) }

theorem test_witness_DerivedFieldsAndPassPlans :
    let start (i : Nat) : Nat := field ((eightStarts.calendar.entries[i]?).getD []) 0 2
    (8 ≤ eightStarts.calendar.entries.length ∧ start 0 = 0 ∧ (∀ i < 7, start i < start (i + 1)) ∧ start 8 = 20000)
    ∧ (∀ i, 8 ≤ i → i < bank.calendar.entries.length → False)
    ∧ (printedPass.usesZones = true ∧ topUpProduct.usesZones = false
      ∧ ((sale .pricing 12 id).priceRequest 3).origin = some 3
      ∧ ((sale .pricing 12 id).priceRequest 3).destination = some 17) := by
  refine ⟨by decide +kernel, fun i h h' => ?_, by decide +kernel⟩
  have : bank.calendar.entries.length = 1 := rfl
  omega

/-! ### Witnesses: coins, payout and cabinet lines -/

/-- Bay 3's receiver changes under f. -/
def coinBay (f : CoinLine → CoinLine) : State := shopBay fun y => { y with coin := f y.coin }

theorem test_witness_CoinEdgesCountPulses :
    (shop.up = true ∧ ((coinBay id).bay 3).coin.rawHigh ≠ false)
    ∧ ((at_ 4 (coinBay fun c => { c with rawHigh := false })).edgeDue 3 false = true
      ∧ ((coinBay id).bay 3).coin.capture = .idle)
    ∧ (at_ 124 (coinBay fun c => { c with filteredHigh := false, capture := .inPulse, lastEdge := some 4 })).edgeDue 3
        true = true := by decide +kernel

/-- A train of n pulses has ended on bay 3's line. -/
def trained (n : Nat) (s : State) : State :=
  at_ 100 (s.modBay 3 fun y => { y with coin := { y.coin with capture := .inGap, pulses := n, lastEdge := some 0 } })

/-- Bay 3 in TENDER at price p with t tendered. -/
def tender (p t : Nat) : State :=
  sale .tender 12 fun y => { y with
    ctx := { y.ctx with price := some p, method := some .coins, tendered := t, coins := [⟨2, .credited, t⟩] } }

theorem test_witness_CoinIsCreditedStrayOrUnvalued :
    ((trained 2 (tender 520 200)).trainDue 3 = true ∧ ((trained 2 (tender 520 200)).bay 3).coin.malformed = false
      ∧ kindOf shop.site 2 = some (2, 200) ∧ ((tender 520 200).ctx 3).coins.length < 16
      ∧ ((tender 520 200).ctx 3).wait = .none ∧ ((tender 520 200).ctx 3).state = .tender)
    ∧ (200 + 200 ≤ 999999 ∧ 200 + 200 < ((tender 520 200).ctx 3).price.getD 0)
    ∧ (((tender 400 200).ctx 3).price.getD 0 ≤ 200 + 200 ∧ (tender 400 200).writesCard 3 = false)
    ∧ (sale .tender 30 id).writesCard 3 = true
    ∧ (((trained 2 (shopBay id)).ctx 3).state = .idle ∧ ((shopBay id).bay 3).escrow.pulse = none) := by decide +kernel
/-- Nine pulses are of no kind; 999,799 and 200 are the most that is tendered; sixteen coins fill the escrow list. -/
theorem test_witness_CoinIsCreditedStrayOrUnvalued_edges :
    kindOf shop.site 9 = none ∧ ¬ 999999 < 999799 + 200 ∧ 999999 < 999800 + 200
    ∧ 16 ≤ (List.replicate 16 (⟨2, .credited, 200⟩ : Coin)).length
    ∧ ((sale .payout 12 fun y => { y with ctx := { y.ctx with wait := .payout } }).ctx 3).wait ≠ .places := by
  decide +kernel
theorem test_witness_CoinFaultsAndReturnPulseEnd :
    let low := coinBay fun c => { c with filteredHigh := false, stuckFrom := some 0 }
    let bad := coinBay fun c => { c with fault := true, recoveryStart := some 0 }
    ((low.bay 3).coin.lowSince = some 0 ∧ (low.bay 3).coin.filteredHigh = false ∧ (low.bay 3).coin.fault = false
      ∧ 400 ≤ ((at_ 400 low).time.ms - 0).toNat)
    ∧ ((bad.bay 3).coin.recoveryStart = some 0 ∧ 1000 ≤ ((at_ 1000 bad).time.ms - 0).toNat)
    ∧ ((State.reset.bay 3).escrow.pulse = some 0 ∧ 200 ≤ ((at_ 200 State.reset).time.ms - 0).toNat
      ∧ (State.reset.bay 3).escrow.pending = false) := by decide +kernel

/-- Bay 3 pays out 60 with three coins of tube 2. -/
def paying : State :=
  sale .payout 12 fun y => { y with
    ctx := { y.ctx with wait := .payout, changeDue := some 60 }
    payout := ⟨true, .payout, 60, 0, [⟨2, 3⟩], some (2, 0)⟩ }

/-- Bay 3 drives tube 2 for a requester, an amount and a plan; tube 3 is in a state. -/
def paysOut (by_ : Requester) (amount : Nat) (plan : List PlanEntry) (last : TubeState) : State :=
  sale (if by_ = .payout then .payout else .refund) 12 fun y => { y with
    ctx := { y.ctx with wait := .payout, changeDue := some amount, refundOwed := amount }
    tubes := y.tubes.set 3 { y.tubes[3] with state := last }
    payout := ⟨true, by_, amount, 0, plan, some (2, 0)⟩ }

theorem test_witness_SensePaysOrIsExtraCoin :
    (paying.up = true ∧ (paying.bay 3).payout.drive = some (2, 0) ∧ (paying.bay 3).payout.requester = .payout
      ∧ (paying.bay 3).payout.plan = ⟨2, 3⟩ :: [] ∧ 0 + kindValue paying.site ((paying.bay 3).tubes[2]).kind < 60
      ∧ ((paying.bay 3).tubes[2]).state = .ok ∧ 1 < ((paying.bay 3).tubes[2]).count)
    ∧ ((shopBay id).bay 3).payout.drive = none
    ∧ ((paysOut .payout 20 [⟨2, 1⟩] .ok).bay 3).payout.amount ≤ 0 + kindValue paying.site 4
    ∧ ((paysOut .refund 20 [⟨2, 1⟩] .ok).ctx 3).state = .refund ∧ ((paysOut .refund 20 [⟨2, 1⟩] .ok).ctx 3).wait = .payout
    ∧ 400 ≤ ((at_ 400 paying).time.ms - 0).toNat := by decide +kernel
/-- An entry used up: the next tube is driven, or, jammed, leaves no plan for 10 but one for 20 over tube 2. -/
theorem test_witness_SensePaysOrIsExtraCoin_left :
    (∃ t, exec (.payoutSense 3 2) (paysOut .payout 30 [⟨2, 1⟩, ⟨3, 1⟩] .ok) = .next t
      ∧ ((t.bay 3).tubes[3]).state = .ok ∧ 0 < ((t.bay 3).tubes[3]).count)
    ∧ (∃ t, exec (.payoutSense 3 2) (paysOut .payout 30 [⟨2, 1⟩, ⟨3, 1⟩] .jammed) = .next t
      ∧ ((t.bay 3).tubes[3]).state ≠ .ok ∧ t.changePlan 3 (30 - 20) = none)
    ∧ (∃ t, exec (.payoutSense 3 2) (paysOut .payout 40 [⟨2, 1⟩, ⟨3, 2⟩] .jammed) = .next t
      ∧ ((t.bay 3).tubes[3]).state ≠ .ok ∧ t.changePlan 3 (40 - 20) = some [⟨2, 1⟩]) :=
  ⟨⟨_, rfl, by decide +kernel⟩, ⟨_, rfl, by decide +kernel⟩, ⟨_, rfl, by decide +kernel⟩⟩
/-- After the jam of tube 2 the coins of tube 3 pay 60, and with tube 3 jammed too nothing does. -/
theorem test_witness_SensePaysOrIsExtraCoin_jam :
    (∃ t, exec (.driveTimeout 3) (at_ 400 (paysOut .payout 60 [⟨2, 3⟩] .ok)) = .next t
      ∧ t.changePlan 3 60 = some [⟨1, 1⟩, ⟨3, 1⟩])
    ∧ (∃ t, exec (.driveTimeout 3) (at_ 400 (paysOut .payout 60 [⟨2, 3⟩] .jammed)) = .next t
      ∧ t.changePlan 3 60 = none) :=
  ⟨⟨_, rfl, by decide +kernel⟩, ⟨_, rfl, by decide +kernel⟩⟩
theorem test_witness_CabinetLinesBoxesAndSecondAct :
    State.reset.up = true ∧ (State.reset.bay 3).lines.serviceDoor.accepted ≠ true ∧ (servicing.bay 3).lines.serviceDoor.accepted ≠ false
    ∧ (State.reset.bay 3).lines.boxDoor.accepted ≠ true ∧ State.reset.time.supply.accepted = false
    ∧ State.reset.time.calendar.day ≤ 65535 ∧ State.reset.time.calendar.minute ≤ 1439
    ∧ State.reset.time.calendar.second ≤ 59 := by decide +kernel

/-- Bay 3 without its box, one coin held. -/
def boxOut : State :=
  shopBay fun y => { y with
    box := { y.box with present := false, holds := (Vector.replicate 9 0).set 2 1 }
    lines := { y.lines with boxPresent := ⟨false, false⟩ }
    ctx := { y.ctx with state := .outOfService, causes := { Causes.empty with boxAbsent := true } } }

theorem test_witness_CabinetLinesBoxesAndSecondAct_box :
    (((shopBay id).bay 3).lines.boxPresent.accepted = true ∧ ((shopBay id).bay 3).box.present = true
      ∧ ((shopBay id).bay 3).box.slot = [] ∧ (shopBay id).journal.queue.length < 16
      ∧ ∀ q ∈ (shopBay id).journal.waitList, q.requester ≠ .box 3)
    ∧ (((shopBay id).ctx 3).causes.boxAbsent = false ∧ ((shopBay id).ctx 3).state = .idle
      ∧ (pricedBay.bay 3).lines.boxPresent.accepted = true ∧ (pricedBay.ctx 3).causes.boxAbsent = false
      ∧ (pricedBay.ctx 3).wait ≠ .places ∧ (pricedBay.ctx 3).state ∈ [.opening, .cardRead, .pricing, .priced, .tender]
      ∧ ((sale .tearWait 30 id).ctx 3).causes.boxAbsent = false
      ∧ ((sale .tearWait 30 id).ctx 3).state ∈ [.cardWrite, .tearWait, .commit, .payout, .print, .refund])
    ∧ ((boxOut.bay 3).lines.boxPresent.accepted = false ∧ (boxOut.bay 3).box.present = false) := by decide +kernel

/-! ### Witnesses: the journal engine and printing -/

/-- The engine writes the head of the queue. -/
def journalling (q : List Append) (s : State) : State :=
  s.modJournal fun j => { j with queue := q, writing := some ⟨List.replicate 48 0, 1⟩ }

/-- Bay 3 waits in COMMIT for its SALE, with change due. -/
def committing (due : Nat) : State :=
  journalling [saleAsk] (sale .commit 12 fun y => { y with
    ctx := { y.ctx with wait := .sale, changeDue := some due, price := some 520 } })

/-- Bay 3 waits for its ADJUST in a state. -/
def adjusting (st : CtxState) : State :=
  journalling [⟨.adjust .shortPay 10 none, some 3, .ctx 3⟩] (sale st 12 fun y => { y with
    ctx := { y.ctx with wait := .adjust } })

/-- A TEAR of the card's entry is written, and bay 3 waits for it. -/
def tearing : State :=
  (journalling [⟨.tear .expired 40711902 .credit 1000 none none .none, none, .tear 40711902⟩]
    (sale .cardRead 30 fun y => { y with
      card := ⟨.resolving, some .read, none, some 0, none, none, some 40711902⟩ })).modCard
    fun c => { c with tears := [{ tearEntry .nobody with closing := true }] }

/-- A BOX record is written, and a second closure waits in bay 3's slot. -/
def boxRecord (p : BitVec 32) : BoxRecord := ⟨p, Vector.replicate 9 0, 0, false⟩
def boxing : State :=
  journalling [⟨.box (boxRecord 0), some 3, .box 3⟩] (shopBay fun y => { y with
    box := { y.box with slot := [⟨boxRecord 0, true⟩, ⟨boxRecord 1, false⟩] } })

/-- A TABLE record is written. -/
def tableAsk : Append := ⟨.table .a ⟨8, 8, 8, 8, 8, 8⟩ ⟨20000, 460, 0⟩, none, .tariff⟩

theorem test_witness_RecordWriteCompletesItsRequest :
    ((journalling [tableAsk] shop).journal.writing = some ⟨List.replicate 48 0, 1⟩
      ∧ (journalling [tableAsk] shop).journal.queue = tableAsk :: [] ∧ tableAsk.requester = .tariff
      ∧ (journalling [tableAsk] shop).journal.lowest .active = some 0 ∧ (List.replicate 48 0#8).length = 16 * 3
      ∧ (journalling [tableAsk] shop).link.resetStage = .none
      ∧ ((journalling [tableAsk] shop).journal.row 1).state = .erased)
    ∧ ((committing 30).journal.queue = saleAsk :: [] ∧ ((committing 30).ctx 3).state = .commit
      ∧ ((committing 30).ctx 3).wait = .sale ∧ ((committing 30).ctx 3).resetHeld = false
      ∧ (∀ b, ((committing 30).ctx b).wait ≠ .places) ∧ 0 < ((committing 30).ctx 3).changeDue.getD 0
      ∧ (committing 30).changePlan 3 30 = some (⟨2, 1⟩ :: [⟨3, 1⟩])) := by decide +kernel
theorem test_witness_RecordWriteCompletesItsRequest_others :
    (((adjusting .payout).ctx 3).state = .payout ∧ ((adjusting .print).ctx 3).state = .print
      ∧ ((adjusting .refund).ctx 3).wait = .adjust ∧ ∀ b, ((adjusting .refund).ctx b).wait ≠ .places)
    ∧ (tearing.tearOf 40711902 = some { tearEntry .nobody with closing := true }
      ∧ (tearing.exch 3).phase = .resolving ∧ (tearing.exch 3).resolving = some 40711902)
    ∧ (((boxing.bay 3).box.slot.drop 1).head? = some ⟨boxRecord 1, false⟩) := by decide +kernel

/-- Behind a record nobody waits for, a TABLE waits; n units of block 0 are free. -/
def writingOn (free : Nat) (erased : Bool) : State :=
  journalling [{ tableAsk with requester := .nobody }, tableAsk] (shop.modJournal fun j => { j with
    rows := (if erased then j.rows else Vector.replicate 32 ⟨.full, some 1, some 1, none, none, none, 0⟩).set 0
      ⟨.active, some 1, some 1, none, none, some free, 0⟩ })

theorem test_witness_WriterTakesNextBlock :
    ((writingOn 1 true).journal.queue = { tableAsk with requester := .nobody } :: tableAsk :: []
      ∧ (writingOn 1 true).journal.waitList = [] ∧ (writingOn 1 true).link.resetStage = .none ∧ (writingOn 1 true).journal.full = false
      ∧ (writingOn 1 true).journal.lowest .active = some 0 ∧ ((writingOn 1 true).journal.row 0).nextFree = some 1
      ∧ 1 + 3 + tableAsk.body.units ≤ 512 ∧ (∀ b, ((writingOn 1 true).ctx b).wait ≠ .places))
    ∧ (512 < 508 + 3 + tableAsk.body.units ∧ (writingOn 508 true).journal.lowest .erased = some 1
      ∧ (writingOn 508 false).journal.lowest .erased = none ∧ (writingOn 508 false).link.online = false
      ∧ (writingOn 508 false).link.listState = .isOpen ∧ (writingOn 508 false).link.noticeList.length < 24) := by
  decide +kernel

/-- So it is behind a SALE that its context waits for. -/
theorem test_witness_WriterTakesNextBlock_sale :
    let s := (committing 30).modJournal fun j => { j with queue := j.queue ++ [tableAsk] }
    s.journal.writing = some ⟨List.replicate 48 0, 1⟩ ∧ s.journal.queue = saleAsk :: tableAsk :: []
    ∧ s.journal.full = false ∧ s.journal.lowest .active = some 0 ∧ (s.journal.row 0).nextFree = some 1
    ∧ (List.replicate 48 (0 : Byte)).length = 16 * 3 ∧ s.link.resetStage = .none := by decide +kernel

/-- Block i is FULL and acknowledged; an erase of it is under way, its failures n. -/
def erasing (n : Nat) : State :=
  (fullBlocks 2 []).modJournal fun j =>
    { j with
      rows := j.rows.set 1 ⟨.erasing, some 2, some 1, some 1, some 1, none, n⟩
      erase := some ⟨1, false, 0, 0⟩, acked := 2 }

theorem test_witness_EraseEndsErasedRetriedOrBad :
    (State.reset.up = true ∧ ((fullBlocks 2 []).modJournal fun j => { j with acked := 2 }).journal.canErase false = true
      ∧ ((fullBlocks 2 []).modJournal fun j => { j with acked := 2 }).journal.nextErase = some 1)
    ∧ ((erasing 0).journal.erase = some ⟨1, false, 0, 0⟩ ∧ 80 ≤ 0 + ((at_ 80 (erasing 0)).time.ms - 0).toNat
      ∧ (erasing 0).journal.full = false ∧ ((erasing 0).modJournal fun j => { j with full := true }).journal.full = true ∧ ((erasing 0).journal.row 1).failures = 0
      ∧ ((erasing 1).journal.row 1).failures ≠ 0) := by decide +kernel

/-- Bay 3 prints: n bytes in the ring, k of them in flight under mark 5. -/
def printing (n k sent : Nat) : State :=
  shopBay fun y => { y with
    ring := List.replicate n 65#8, inFlight := k, chunkMark := some 5, seq := seqWith reprintJob .draining sent
    printer := ⟨.ok, false, 200⟩ }

theorem test_witness_PrintingStatusChunksAndLimit :
    ((told (.status .out false 9) (shopBay id)).HandsOn 3 (.status .out false 9) ∧ ((shopBay id).bay 3).seq.job = none)
    ∧ ((told (.delivered 5 (some 5)) (printing 10 4 0)).HandsOn 3 (.delivered 5 (some 5))
      ∧ ((printing 10 4 0).bay 3).chunkMark = some 5 ∧ 0 < ((printing 10 4 0).bay 3).inFlight
      ∧ ((printing 10 4 0).bay 3).seq.state = .draining ∧ ((printing 10 4 0).bay 3).seq.job.isSome = true
      ∧ ((printing 10 4 0).bay 3).inFlight < ((printing 10 4 0).bay 3).ring.length)
    ∧ (((printing 10 4 0).bay 3).seq.job = some reprintJob ∧ reprintJob.kind = .reprint
      ∧ ((printing 10 4 0).bay 3).seq.waiting = none
      ∧ 10000 ≤ ((at_ 10000 (printing 10 4 0)).time.ms - ((printing 10 4 0).bay 3).seq.lastProgress).toNat
      ∧ ((printing 10 4 7).bay 3).seq.sent ≠ 0) := by decide +kernel

/-- Bay 3's context waits in PRINT for the SALE job the sequencer drains: n bytes in the ring, all in flight. -/
def printingSale (n sent : Nat) : State :=
  sale .print 12 fun y => { y with
    ctx := { y.ctx with wait := .receipt }
    ring := List.replicate n 65#8, inFlight := n, chunkMark := some 5
    seq := seqWith { reprintJob with kind := .sale } .draining sent, printer := ⟨.ok, false, 200⟩ }

theorem test_witness_ReceiptEndsPrintedOrAdjusted :
    (((printingSale 4 0).bay 3).seq.job = some { reprintJob with kind := .sale }
      ∧ ((printingSale 4 0).ctx 3).state = .print ∧ ((printingSale 4 0).ctx 3).wait = .receipt)
    ∧ ((told (.status .out false 9) (printingSale 4 7)).HandsOn 3 (.status .out false 9)
      ∧ 0 < ((printingSale 4 7).bay 3).seq.sent ∧ ((printingSale 4 0).bay 3).seq.sent = 0)
    ∧ 10000 ≤ ((at_ 10000 (printingSale 4 0)).time.ms - ((printingSale 4 0).bay 3).seq.lastProgress).toNat
    ∧ ((told (.delivered 5 (some 5)) (printingSale 4 0)).HandsOn 3 (.delivered 5 (some 5))
      ∧ ((printingSale 4 0).bay 3).chunkMark = some 5 ∧ 0 < ((printingSale 4 0).bay 3).inFlight
      ∧ ((printingSale 4 0).bay 3).inFlight = ((printingSale 4 0).bay 3).ring.length
      ∧ ((printingSale 4 0).bay 3).seq.state = .draining) := by decide +kernel

end Sys2Proof.Tests
end

/-! PROOFS. DENY_ADD and DENY_REMOVE (R62). -/

namespace Sys2Proof.Proofs

open Sys2Proof Sys2Proof.Machine Sys2Proof.Laws

/-! ### Answers whose owner changes the tariff unit alone -/

/-- The owner's rule, acting in s, has changed the tariff unit alone, and nothing follows its REPLY. -/
structure TariffOnly (s : State) (a : Answer) : Prop where
  state : a.state = { s with tariff := a.state.tariff }
  after : a.after = .nothing

theorem accept_tariffOnly (s : State) : TariffOnly s (accept s) := ⟨rfl, rfl⟩

theorem refusal_tariffOnly (code : Code) (s : State) : TariffOnly s (refusal code s) := ⟨rfl, rfl⟩

theorem accept_modTariff_tariffOnly (g : Tariff → Tariff) (s : State) : TariffOnly s (accept (s.modTariff g)) :=
  ⟨rfl, rfl⟩

theorem refuseOr_tariffOnly (code : Option Code) {act : State → Answer} (h : ∀ s, TariffOnly s (act s)) (s : State) :
    TariffOnly s (refuseOr code act s) := by
  cases code with
  | some c => exact refusal_tariffOnly c s
  | none => exact h s

theorem TariffOnly.outside {s : State} {a : Answer} (f : Frame) (h : TariffOnly (dropHead s) a) :
    answer f a = { s with link := (answer f a).link, tariff := (answer f a).tariff } :=
  calc answer f a
      _ = { a.state with link := (answer f a).link } := answer_outside f a
      _ = { ({ dropHead s with tariff := a.state.tariff } : State) with link := (answer f a).link } := by rw [← h.state]
      _ = { s with link := (answer f a).link, tariff := (answer f a).tariff } := rfl

theorem TariffOnly.link {s : State} {a : Answer} (h : TariffOnly s a) : a.state.link = s.link := by
  rw [h.state]

theorem TariffOnly.replied {s : State} {a : Answer} (f : Frame) (h : TariffOnly (dropHead s) a) :
    Replied s (answer f a) f a.status a.data := by
  constructor
  · rw [answer_rxBuffer, h.link]; rfl
  · rw [answer_replies, h.link, h.after]; rfl

/-! ### Serials and ascending lists of them -/

/-- The entries' serials rise strictly. -/
abbrev Ascending (es : List (List Byte)) : Prop := es.Pairwise fun a b => beNat a < beNat b

/-- Some entry carries the serial x. -/
abbrev Listed (es : List (List Byte)) (x : Nat) : Prop := ∃ e ∈ es, beNat e = x

theorem listed_iff (es : List (List Byte)) (x : Nat) : listed es x = true ↔ Listed es x := by
  simp [listed]

theorem beNat_lt_of_length_four {bs : List Byte} (h : bs.length = 4) : beNat bs < 2 ^ 32 := by
  obtain ⟨a, b, c, d, rfl⟩ := List.length_eq_four.mp h
  simp only [beNat, List.foldl_cons, List.foldl_nil]
  omega

theorem beNat_beBytes_four {x : Nat} (h : x < 2 ^ 32) : beNat (beBytes 4 x) = x := by
  simp only [beNat, beBytes, List.foldl_cons, List.foldl_nil, BitVec.toNat_ofNat]
  omega

theorem listed_filter (es : List (List Byte)) (p : Nat → Prop) [DecidablePred p] (x : Nat) :
    Listed (es.filter fun e => decide (p (beNat e))) x ↔ Listed es x ∧ p x := by
  constructor
  · rintro ⟨e, he, rfl⟩
    obtain ⟨hmem, hp⟩ := List.mem_filter.mp he
    exact ⟨⟨e, hmem, rfl⟩, of_decide_eq_true hp⟩
  · rintro ⟨⟨e, he, rfl⟩, hp⟩
    exact ⟨e, List.mem_filter.mpr ⟨he, decide_eq_true hp⟩, rfl⟩

theorem listed_append (es fs : List (List Byte)) (x : Nat) : Listed (es ++ fs) x ↔ Listed es x ∨ Listed fs x := by
  simp only [Listed, List.mem_append, or_and_right, exists_or]

/-- An entry of the serial q itself falls to neither half, and the new one takes its place. -/
theorem listed_insertSerial {q : Nat} (hq : q < 2 ^ 32) (es : List (List Byte)) (x : Nat) :
    Listed (insertSerial q es) x ↔ Listed es x ∨ x = q := by
  have hmid : Listed [beBytes 4 q] x ↔ x = q := by simp [Listed, beNat_beBytes_four hq, eq_comm]
  rw [insertSerial, listed_append, listed_append, listed_filter es (· < q), listed_filter es (q < ·), hmid]
  rcases Nat.lt_trichotomy x q with hlt | heq | hgt
  · simp [hlt, hlt.ne, hlt.le]
  · simp [heq]
  · simp [hgt, hgt.ne', hgt.le]

theorem ascending_insertSerial {q : Nat} (hq : q < 2 ^ 32) {es : List (List Byte)} (h : Ascending es) :
    Ascending (insertSerial q es) := by
  have hself := beNat_beBytes_four hq
  have below : ∀ a ∈ es.filter fun e => decide (beNat e < q), beNat a < q := fun a ha =>
    of_decide_eq_true (List.mem_filter.mp ha).2
  have above : ∀ b ∈ es.filter fun e => decide (q < beNat e), q < beNat b := fun b hb =>
    of_decide_eq_true (List.mem_filter.mp hb).2
  have hlow : Ascending ((es.filter fun e => decide (beNat e < q)) ++ [beBytes 4 q]) := by
    refine List.pairwise_append.mpr ⟨h.filter _, List.pairwise_singleton _ _, fun a ha b hb => ?_⟩
    rw [List.mem_singleton.mp hb, hself]
    exact below a ha
  refine List.pairwise_append.mpr ⟨hlow, h.filter _, fun a ha b hb => ?_⟩
  rcases List.mem_append.mp ha with ha | ha
  · exact (below a ha).trans (above b hb)
  · rw [List.mem_singleton.mp ha, hself]
    exact above b hb

/-! ### The checks before an edit -/

/-- A DENY stream is open. -/
abbrev DenyStreamOpen (t : Tariff) : Prop := t.load.state = .stream ∧ t.load.target = some ⟨.deny, none⟩

theorem denyFailure_of_open {t : Tariff} (h : DenyStreamOpen t) : t.denyFailure = some .denyBusy := by
  obtain ⟨hstate, htarget⟩ := h
  simp [Tariff.denyFailure, firstFailure, hstate, htarget]

theorem denyFailure_of_not_open {t : Tariff} (h : ¬ DenyStreamOpen t) :
    t.denyFailure = if t.deny.valid then none else some .notValid := by
  have hpass : (!(decide (t.load.state = .stream) && decide (t.load.target = some ⟨.deny, none⟩))) = true := by
    simpa [imp_iff_not_or] using h
  rw [Tariff.denyFailure, firstFailure, if_pos hpass]
  cases t.deny.valid <;> rfl

/-! ### What a DENY_ADD and a DENY_REMOVE do once the checks have passed -/

/-- What a DENY_ADD of serial q does past the checks. -/
def addSerial (q : Nat) (s : State) : Answer :=
  if listed s.tariff.deny.entries q then accept s
  else if Config.denyPlaces ≤ s.tariff.deny.entries.length then refusal .tableFull s
  else accept (s.modTariff (·.editDeny (insertSerial q s.tariff.deny.entries)))

/-- What a DENY_REMOVE of serial q does past the checks. -/
def removeSerial (q : Nat) (s : State) : Answer :=
  if listed s.tariff.deny.entries q then
    accept (s.modTariff (·.editDeny (s.tariff.deny.entries.filter fun e => decide (beNat e ≠ q))))
  else accept s

theorem addSerial_of_listed {q : Nat} (s : State) (h : Listed s.tariff.deny.entries q) : addSerial q s = accept s :=
  if_pos ((listed_iff _ _).mpr h)

theorem addSerial_of_full {q : Nat} (s : State) (h : ¬ Listed s.tariff.deny.entries q)
    (hfull : 4096 ≤ s.tariff.deny.entries.length) : addSerial q s = refusal .tableFull s := by
  rw [← listed_iff] at h
  exact (if_neg h).trans (if_pos hfull)

theorem addSerial_of_new {q : Nat} (s : State) (h : ¬ Listed s.tariff.deny.entries q)
    (hroom : s.tariff.deny.entries.length < 4096) :
    addSerial q s = accept (s.modTariff (·.editDeny (insertSerial q s.tariff.deny.entries))) := by
  rw [← listed_iff] at h
  exact (if_neg h).trans (if_neg (Nat.not_le.mpr hroom))

theorem removeSerial_of_listed {q : Nat} (s : State) (h : Listed s.tariff.deny.entries q) :
    removeSerial q s
      = accept (s.modTariff (·.editDeny (s.tariff.deny.entries.filter fun e => decide (beNat e ≠ q)))) :=
  if_pos ((listed_iff _ _).mpr h)

theorem removeSerial_of_not_listed {q : Nat} (s : State) (h : ¬ Listed s.tariff.deny.entries q) :
    removeSerial q s = accept s := by
  rw [← listed_iff] at h
  exact if_neg h

theorem addSerial_tariffOnly (q : Nat) (s : State) : TariffOnly s (addSerial q s) := by
  unfold addSerial
  split
  · exact accept_tariffOnly s
  · split
    · exact refusal_tariffOnly .tableFull s
    · exact accept_modTariff_tariffOnly _ s

theorem removeSerial_tariffOnly (q : Nat) (s : State) : TariffOnly s (removeSerial q s) := by
  unfold removeSerial
  split
  · exact accept_modTariff_tariffOnly _ s
  · exact accept_tariffOnly s

/-! ### The two frames taken and answered -/

/-- The state after a deny edit's frame f: the checks, then what the edit does. -/
def denyEdited (act : State → Answer) (f : Frame) (s : State) : State :=
  answer f (refuseOr s.tariff.denyFailure act (dropHead s))

theorem exec_denyAdd {s : State} {f : Frame} (h : s.TakesNext f) (hk : f.kind = 0x15#8) (hlen : f.body.length = 4) :
    exec .denyAdd s = .next (denyEdited (addSerial (beNat f.body)) f s) := by
  show Host.Outcome.next (answerFrame _ _ s) = _
  rw [answerFrame_eq _ h (by simp [Frame.is, hk, kDenyAdd]), ofLength, if_pos hlen]
  rfl

theorem exec_denyRemove {s : State} {f : Frame} (h : s.TakesNext f) (hk : f.kind = 0x16#8)
    (hlen : f.body.length = 4) : exec .denyRemove s = .next (denyEdited (removeSerial (beNat f.body)) f s) := by
  show Host.Outcome.next (answerFrame _ _ s) = _
  rw [answerFrame_eq _ h (by simp [Frame.is, hk, kDenyRemove]), ofLength, if_pos hlen]
  rfl

section
variable {act : State → Answer} (f : Frame) {s : State}

theorem denyEdited_outside (hact : ∀ s, TariffOnly s (act s)) :
    denyEdited act f s = { s with link := (denyEdited act f s).link, tariff := (denyEdited act f s).tariff } :=
  (refuseOr_tariffOnly _ hact _).outside f

theorem denyEdited_of_failure {code : Code} (h : s.tariff.denyFailure = some code) :
    (denyEdited act f s).tariff = s.tariff ∧ Replied s (denyEdited act f s) f code [] := by
  rw [denyEdited, h]
  exact ⟨rfl, (refusal_tariffOnly code _).replied f⟩

theorem denyEdited_of_open (h : DenyStreamOpen s.tariff) :
    (denyEdited act f s).tariff = s.tariff ∧ Replied s (denyEdited act f s) f .denyBusy [] :=
  denyEdited_of_failure f (denyFailure_of_open h)

theorem denyEdited_of_invalid (h : ¬ DenyStreamOpen s.tariff) (hv : s.tariff.deny.valid = false) :
    (denyEdited act f s).tariff = s.tariff ∧ Replied s (denyEdited act f s) f .notValid [] :=
  denyEdited_of_failure f (by simp [denyFailure_of_not_open h, hv])

theorem denyEdited_of_checked (h : ¬ DenyStreamOpen s.tariff) (hv : s.tariff.deny.valid = true) :
    denyEdited act f s = answer f (act (dropHead s)) := by
  rw [denyEdited, denyFailure_of_not_open h, if_pos hv]
  rfl

end

/-- An edit's marks in the tariff unit: rising serials, the count and check of the new list, the version kept, the
table still valid, one edit more (R62). -/
theorem editDeny_marks {t : Tariff} {es : List (List Byte)} (hv : t.deny.valid = true) (h : Ascending es) :
    Ascending (t.editDeny es).deny.entries
    ∧ (t.editDeny es).deny.count = (t.editDeny es).deny.entries.length
    ∧ (t.editDeny es).deny.check = crc32 (t.editDeny es).deny.entries.flatten
    ∧ (t.editDeny es).deny.version = t.deny.version ∧ (t.editDeny es).deny.valid = true
    ∧ (t.editDeny es).denyEdits = min (t.denyEdits + 1) 65535 :=
  ⟨h, rfl, rfl, rfl, hv, rfl⟩

/-- Settles O26, by the checks' order and then the list's cases: the serial listed, new at a full table, new with
room. -/
theorem denyEditsChangeOneSerial : Obligations.DenyEditsChangeOneSerial := by
  unfold Obligations.DenyEditsChangeOneSerial
  intro c s f htake hlen hc hasc q on es busy edited
  rcases hc with ⟨rfl, hk⟩ | ⟨rfl, hk⟩
  case inl =>
    refine ⟨denyEdited (addSerial q) f s, exec_denyAdd htake hk hlen, denyEdited_outside f (addSerial_tariffOnly q),
      denyEdited_of_open f, denyEdited_of_invalid f, fun hopen hv _ => ?_, nofun⟩
    rw [denyEdited_of_checked f hopen hv]
    refine ⟨fun hon => ?_, fun hoff hfull => ?_, fun hoff hroom => ?_⟩
    · rw [addSerial_of_listed (dropHead s) hon]
      exact ⟨rfl, (accept_tariffOnly _).replied f⟩
    · rw [addSerial_of_full (dropHead s) hoff hfull]
      exact ⟨rfl, (refusal_tariffOnly _ _).replied f⟩
    · have hq : q < 2 ^ 32 := beNat_lt_of_length_four hlen
      rw [addSerial_of_new (dropHead s) hoff hroom]
      exact ⟨(accept_modTariff_tariffOnly _ _).replied f, editDeny_marks hv (ascending_insertSerial hq hasc),
        listed_insertSerial hq es⟩
  case inr =>
    refine ⟨denyEdited (removeSerial q) f s, exec_denyRemove htake hk hlen,
      denyEdited_outside f (removeSerial_tariffOnly q), denyEdited_of_open f, denyEdited_of_invalid f,
      nofun, fun hopen hv _ => ?_⟩
    rw [denyEdited_of_checked f hopen hv]
    refine ⟨fun hoff => ?_, fun hon => ?_⟩
    · rw [removeSerial_of_not_listed (dropHead s) hoff]
      exact ⟨rfl, (accept_tariffOnly _).replied f⟩
    · rw [removeSerial_of_listed (dropHead s) hon]
      exact ⟨(accept_modTariff_tariffOnly _ _).replied f, editDeny_marks hv (hasc.filter _),
        listed_filter es (· ≠ q)⟩

end Sys2Proof.Proofs

/-! PROOFS. The coin line's filter and the capture of pulses (R69 to R71). -/

namespace Sys2Proof.Proofs

open Sys2Proof Sys2Proof.Machine

/-! ### Steps that change one bay's receiver alone -/

/-- From s to t nothing but bay b's coin line receiver changes. -/
structure ReceiverOnly (b : BayNo) (s t : State) : Prop where
  others : OtherBays b s t
  outside : t = { s with bays := t.bays }
  bay : t.bay b = { s.bay b with coin := (t.bay b).coin }

theorem ReceiverOnly.refl (b : BayNo) (s : State) : ReceiverOnly b s s := ⟨fun _ _ => rfl, rfl, rfl⟩

@[simp] theorem coin_modCoin_self (s : State) (b : BayNo) (f : CoinLine → CoinLine) :
    ((s.modCoin b f).bay b).coin = f (s.bay b).coin := by
  simp [State.modCoin]

theorem modCoin_receiverOnly (s : State) (b : BayNo) (f : CoinLine → CoinLine) : ReceiverOnly b s (s.modCoin b f) where
  others := fun _ h => s.bay_modBay_ne h _
  outside := rfl
  bay := by simp [State.modCoin]

/-! ### What an edge does to the receiver -/

@[simp] theorem fall_filteredHigh (c : CoinLine) (now : Ms) (site : List (List Byte)) :
    (c.fall now site).filteredHigh = false := by
  unfold CoinLine.fall CoinLine.captureFall
  cases c.fault <;> cases c.coinOff <;> cases c.capture <;> rfl

/-- A receiver that captures begins a train in IDLE (R70). -/
theorem fall_of_idle {c : CoinLine} (now : Ms) (site : List (List Byte)) (hidle : c.capture = .idle)
    (hfault : c.fault = false) (hon : c.coinOff = false) :
    (c.fall now site).capture = .inPulse ∧ (c.fall now site).pulses = 0 ∧ (c.fall now site).malformed = false
    ∧ (c.fall now site).lastEdge = some now := by
  simp [CoinLine.fall, CoinLine.captureFall, hidle, hfault, hon]

@[simp] theorem rise_filteredHigh (c : CoinLine) (now : Ms) : (c.rise now).filteredHigh = true := by
  unfold CoinLine.rise CoinLine.pulseEnd
  cases c.fault <;> cases c.capture <;> rfl

/-- A pulse that began at m ends: the rising edge is the pulse's end, its width the time from m (R71). -/
theorem rise_of_inPulse {c : CoinLine} {m : Ms} (now : Ms) (hpulse : c.capture = .inPulse) (hfault : c.fault = false)
    (hm : c.lastEdge = some m) :
    c.rise now
      = { c with filteredHigh := true, waitHigh := false, stuckFrom := none }.pulseEnd now (elapsed now m) := by
  simp [CoinLine.rise, hpulse, hfault, hm]

theorem pulseEnd_malformed (c : CoinLine) (now : Ms) (width : Nat) :
    (c.pulseEnd now width).malformed = true
      ↔ c.malformed = true ∨ width < 10 ∨ 120 < width ∨ min (c.pulses + 1) 9 = 9 := by
  simp only [CoinLine.pulseEnd, Bool.or_eq_true, decide_eq_true_eq, or_assoc]

/-! ### The three commands at the state -/

theorem exec_coinLineChange_same {s : State} {b : BayNo} {high : Bool} (h : (s.bay b).coin.rawHigh = high) :
    exec (.coinLineChange b high) s = .next s :=
  congrArg _ (if_pos h)

theorem exec_coinLineChange_new {s : State} {b : BayNo} {high : Bool} (h : (s.bay b).coin.rawHigh ≠ high) :
    exec (.coinLineChange b high) s
      = .next (s.modCoin b fun c => { c with rawHigh := high, rawSince := s.now }) :=
  congrArg _ (if_neg h)

theorem exec_filteredFallingEdge_due {s : State} {b : BayNo} (hup : s.up = true) (hdue : s.edgeDue b false = true) :
    exec (.filteredFallingEdge b) s = .next (s.modCoin b fun c => c.fall s.now s.site) :=
  congrArg _ ((State.whenUp_of_up hup _).trans (if_pos hdue))

theorem exec_filteredRisingEdge_due {s : State} {b : BayNo} (hup : s.up = true) (hdue : s.edgeDue b true = true) :
    exec (.filteredRisingEdge b) s = .next (s.modCoin b fun c => c.rise s.now) :=
  congrArg _ ((State.whenUp_of_up hup _).trans (if_pos hdue))

/-- Settles O51: each command leaves s or changes bay b's receiver alone, and the receiver's own lemmas say how. -/
theorem coinEdgesCountPulses : Obligations.CoinEdgesCountPulses := by
  unfold Obligations.CoinEdgesCountPulses
  intro s b
  refine ⟨fun high => ?change, fun hup hdue => ?fall, fun hup hdue => ?rise⟩
  case change =>
    by_cases hraw : (s.bay b).coin.rawHigh = high
    · obtain ⟨hothers, houtside, hbay⟩ := ReceiverOnly.refl b s
      exact ⟨s, exec_coinLineChange_same hraw, hothers, houtside, hbay, hraw, fun hne => absurd hraw hne⟩
    · obtain ⟨hothers, houtside, hbay⟩ :=
        modCoin_receiverOnly s b fun c => { c with rawHigh := high, rawSince := s.now }
      exact ⟨_, exec_coinLineChange_new hraw, hothers, houtside, hbay, by simp, fun _ => by simp [State.now]⟩
  case fall =>
    obtain ⟨hothers, houtside, hbay⟩ := modCoin_receiverOnly s b fun c => c.fall s.now s.site
    refine ⟨_, exec_filteredFallingEdge_due hup hdue, hothers, houtside, hbay, by simp, fun hidle hfault hon => ?_⟩
    rw [coin_modCoin_self]
    exact fall_of_idle s.now s.site hidle hfault hon
  case rise =>
    obtain ⟨hothers, houtside, hbay⟩ := modCoin_receiverOnly s b fun c => c.rise s.now
    refine ⟨_, exec_filteredRisingEdge_due hup hdue, hothers, houtside, hbay, by simp, fun m hpulse hfault hm => ?_⟩
    rw [coin_modCoin_self, rise_of_inPulse s.now hpulse hfault hm]
    exact ⟨rfl, rfl, rfl, pulseEnd_malformed _ _ _⟩

end Sys2Proof.Proofs

/-! PROOFS. ACK and the acknowledged mark (R167), which is the one item of the retained area it can change (R205). -/

namespace Sys2Proof.Proofs

open Sys2Proof Sys2Proof.Machine Sys2Proof.Laws

/-! ### The mark after an acknowledgement -/

/-- R167's three cases: at or below the acknowledged mark, up to the forward mark, beyond it. -/
theorem ack_eq (j : Journal) (forward q : Nat) :
    j.ack forward q =
      if q ≤ j.acked then j
      else if q ≤ forward then { j with acked := q }
      else { j with acked := forward, ackClamp := min (j.ackClamp + 1) 65535 } :=
  rfl

/-! ### The retained area's check after a change of the Journal Unit -/

/-- Of the retained items the Journal Unit holds the acknowledged mark alone. -/
theorem modJournal_retained_eq_iff (s : State) (g : Journal → Journal) :
    (s.modJournal g).retained = s.retained ↔ (g s.journal).acked = s.journal.acked := by
  simp [State.retained, State.modJournal]

/-- A frame is taken and the Journal Unit changes: the check is written anew exactly with a change of the mark. -/
theorem reseal_modJournal_dropHead (s : State) (g : Journal → Journal) :
    s.reseal ((dropHead s).modJournal g)
      = { s with
          check := if (g s.journal).acked = s.journal.acked then s.check
            else ((dropHead s).modJournal g).retained.crc
          link := { s.link with rxBuffer := s.link.rxBuffer.drop 1 }
          journal := g s.journal } := by
  have hcheck : ((dropHead s).modJournal g).retained = s.retained ↔ (g s.journal).acked = s.journal.acked :=
    modJournal_retained_eq_iff (dropHead s) g
  simp only [State.reseal, hcheck]
  rfl

/-- A well-formed ACK at the head of the buffer is taken. -/
theorem exec_ack {s : State} {f : Frame} (h : s.link.rxBuffer.head? = some f) (hk : f.kind = 0x02#8)
    (hlen : f.body.length = 4) :
    exec .ack s = .next (s.reseal ((dropHead s).modJournal (·.ack s.link.forward (beNat f.body)))) := by
  show done s (takeFrame _ _ s) = _
  rw [takeFrame_eq _ h (by simp [Frame.is, hk, kAck]), if_pos hlen]
  rfl

/-- Settles O18: the ACK is taken, the mark follows R167's three cases, and the check is resealed with the mark alone. -/
theorem ackMovesMarkUpToForward : Obligations.AckMovesMarkUpToForward := by
  unfold Obligations.AckMovesMarkUpToForward
  intro s f hhead hkind hlen q
  refine ⟨_, exec_ack hhead hkind hlen, ?_⟩
  simp only [ack_eq]
  exact reseal_modJournal_dropHead s _

end Sys2Proof.Proofs

/-! PROOFS. The depot link receiver: characters, gaps and whole frames (R177 to R179). -/

namespace Sys2Proof.Proofs

open Sys2Proof Sys2Proof.Machine

/-! ### A character at the receiver, by the receiver's state -/

section
variable {l : Link} (now : Ms) {c : Byte}

theorem receive_of_idleWait (hr : l.resetStage = .none) (hx : l.rx = .idleWait) :
    l.receive now c = { l with rxLast := now } := by
  simp [Link.receive, hr, hx]

theorem receive_start (hr : l.resetStage = .none) (hx : l.rx = .hunt) (hc : c = 0xA5#8) :
    l.receive now c = { l with rx := .inFrame, rxBytes := [0xA5#8], rxLast := now } := by
  simp [Link.receive, hr, hx, hc, startByte]

theorem receive_not_start (hr : l.resetStage = .none) (hx : l.rx = .hunt) (hc : c ≠ 0xA5#8) :
    l.receive now c = l.idleWait now := by
  simp [Link.receive, hr, hx, hc, startByte]

theorem receive_of_inFrame (hr : l.resetStage = .none) (hx : l.rx = .inFrame) :
    l.receive now c = l.inFrame now (l.rxBytes ++ [c]) := by
  simp [Link.receive, hr, hx]

end

/-! ### A frame being received -/

/-- The length byte is the second one, whatever follows it. -/
theorem frameLength_cons_cons (a b : Byte) (cs : List Byte) : frameLength (a :: b :: cs) = b.toNat + 7 := by
  simp [frameLength, field, beNat]

section
variable {l : Link} {now : Ms} {bs : List Byte}

theorem inFrame_bad_length {a c : Byte} (hc : 240 < c.toNat) :
    l.inFrame now [a, c] =
      (l.modCounters fun k => { k with badLength := min (k.badLength + 1) 65535 }).idleWait now :=
  if_pos ⟨rfl, by simpa [field, beNat] using hc⟩

theorem inFrame_good_length {a b : Byte} (hb : b.toNat ≤ 240) :
    l.inFrame now [a, b] = { l with rxBytes := [a, b], rxLast := now } := by
  have hfits : ¬ ([a, b].length = 2 ∧ 240 < field [a, b] 1 1) := by simpa [field, beNat] using hb
  have hmore : ¬ (2 ≤ [a, b].length ∧ [a, b].length = frameLength [a, b]) := by
    rw [frameLength_cons_cons, List.length_cons, List.length_singleton]; omega
  exact (if_neg hfits).trans (if_neg hmore)

/-- Behind the length byte the frame's own length decides. -/
theorem inFrame_past_length (h : 2 < bs.length) :
    l.inFrame now bs =
      if bs.length = frameLength bs then
        if frameGood bs then { l.offer (frameOf bs) with rx := .hunt, rxBytes := [], rxLast := now }
        else (l.modCounters fun k => { k with badCrc := min (k.badCrc + 1) 65535 }).idleWait now
      else { l with rxBytes := bs, rxLast := now } := by
  have hlong : ¬ (bs.length = 2 ∧ 240 < field bs 1 1) := fun ⟨h2, _⟩ => h.ne' h2
  rw [Link.inFrame, if_neg hlong]
  simp only [h.le, true_and]
  rfl

theorem inFrame_short (h : 2 < bs.length) (hlen : bs.length ≠ frameLength bs) :
    l.inFrame now bs = { l with rxBytes := bs, rxLast := now } := by
  rw [inFrame_past_length h, if_neg hlen]

/-- A frame whose check does not match is dropped and counted. -/
theorem inFrame_bad_check (h : 2 < bs.length) (hlen : bs.length = frameLength bs) (hbad : frameGood bs = false) :
    l.inFrame now bs = (l.modCounters fun k => { k with badCrc := min (k.badCrc + 1) 65535 }).idleWait now := by
  rw [inFrame_past_length h, if_pos hlen, hbad]
  rfl

theorem inFrame_good (h : 2 < bs.length) (hlen : bs.length = frameLength bs) (hgood : frameGood bs = true) :
    l.inFrame now bs = { l.offer (frameOf bs) with rx := .hunt, rxBytes := [], rxLast := now } := by
  rw [inFrame_past_length h, if_pos hlen, if_pos hgood]

end

/-! ### A good frame at the receive buffer -/

theorem offer_of_room {l : Link} (f : Frame) (h : l.rxBuffer.length < 4) :
    l.offer f = { l with rxBuffer := l.rxBuffer ++ [f] } :=
  if_pos h

theorem offer_of_full {l : Link} (f : Frame) (h : 4 ≤ l.rxBuffer.length) :
    l.offer f = l.modCounters fun k => { k with overrun := min (k.overrun + 1) 65535 } :=
  if_neg h.not_gt

/-- R178, R179: the last byte of a frame bs, arriving at the port l, has left the port l'. -/
structure FrameEnds (l l' : Link) (bs : List Byte) : Prop where
  good : frameGood bs = true → l'.rx = .hunt
    ∧ (l.rxBuffer.length < 4 → l'.rxBuffer = l.rxBuffer ++ [frameOf bs] ∧ l'.counters = l.counters)
    ∧ (4 ≤ l.rxBuffer.length → l'.rxBuffer = l.rxBuffer
        ∧ l'.counters = { l.counters with overrun := min (l.counters.overrun + 1) 65535 })
  bad : frameGood bs = false → l'.rx = .idleWait ∧ l'.rxBuffer = l.rxBuffer
    ∧ l'.counters = { l.counters with badCrc := min (l.counters.badCrc + 1) 65535 }
  sources : l'.replies = l.replies ∧ l'.messages = l.messages ∧ l'.record = l.record

theorem inFrame_frameEnds (l : Link) (now : Ms) {bs : List Byte} (h : 2 < bs.length)
    (hlen : bs.length = frameLength bs) : FrameEnds l (l.inFrame now bs) bs where
  good hgood := by
    rw [inFrame_good h hlen hgood]
    refine ⟨rfl, fun hroom => ?_, fun hfull => ?_⟩
    · rw [offer_of_room _ hroom]; exact ⟨rfl, rfl⟩
    · rw [offer_of_full _ hfull]; exact ⟨rfl, rfl⟩
  bad hbad := by
    rw [inFrame_bad_check h hlen hbad]
    exact ⟨rfl, rfl, rfl⟩
  sources := by
    cases hcheck : frameGood bs with
    | false => rw [inFrame_bad_check h hlen hcheck]; exact ⟨rfl, rfl, rfl⟩
    | true =>
      rw [inFrame_good h hlen hcheck]
      rcases Nat.lt_or_ge l.rxBuffer.length 4 with hroom | hfull
      · rw [offer_of_room _ hroom]; exact ⟨rfl, rfl, rfl⟩
      · rw [offer_of_full _ hfull]; exact ⟨rfl, rfl, rfl⟩

/-! ### The characters of a frame one behind the other -/

/-- The port l with bs received of a frame, the last of them now. -/
def framing (l : Link) (now : Ms) (bs : List Byte) : Link := { l with rx := .inFrame, rxBytes := bs, rxLast := now }

section
variable {l : Link} (now : Ms)

theorem receive_framing (hr : l.resetStage = .none) (bs : List Byte) (c : Byte) :
    (framing l now bs).receive now c = (framing l now bs).inFrame now (bs ++ [c]) :=
  receive_of_inFrame now hr rfl

/-- A length byte of at most 240 is taken. -/
theorem receive_length_byte (hr : l.resetStage = .none) (a : Byte) {b : Byte} (hb : b.toNat ≤ 240) :
    (framing l now [a]).receive now b = framing l now [a, b] := by
  rw [receive_framing now hr]
  exact inFrame_good_length hb

/-- Short of the frame's length the characters behind the length byte are kept. -/
theorem foldl_receive_framing (hr : l.resetStage = .none) (a b : Byte) (cs : List Byte) :
    ∀ got, got.length + cs.length < b.toNat + 5 →
      cs.foldl (fun m c => m.receive now c) (framing l now (a :: b :: got))
        = framing l now (a :: b :: (got ++ cs)) := by
  induction cs with
  | nil => intro got _; rw [List.append_nil]; rfl
  | cons c cs ih =>
    intro got hshort
    rw [List.length_cons] at hshort
    have hlen : (a :: b :: (got ++ [c])).length ≠ frameLength (a :: b :: (got ++ [c])) := by
      rw [frameLength_cons_cons]
      simp only [List.length_cons, List.length_append, List.length_nil]
      omega
    have hstep : (framing l now (a :: b :: got)).receive now c = framing l now (a :: b :: (got ++ [c])) := by
      rw [receive_framing now hr]
      exact inFrame_short (by simp) hlen
    rw [List.foldl_cons, hstep, ih (got ++ [c]) (by simp; omega), List.append_assoc, List.singleton_append]

/-- The start byte, a length byte, and as many bytes as it asks for with kind, tag and check, the last one apart. -/
theorem frameShaped_cases {bytes : List Byte} (h : frameShaped bytes = true) :
    ∃ b mid c, bytes = 0xA5#8 :: b :: (mid ++ [c]) ∧ b.toNat ≤ 240 ∧ mid.length = b.toNat + 4 := by
  match bytes, h with
  | a :: b :: rest, h =>
    simp only [frameShaped, Bool.and_eq_true, decide_eq_true_eq, List.length_cons] at h
    obtain ⟨⟨rfl, hb⟩, hlen⟩ := h
    rcases List.eq_nil_or_concat' rest with rfl | ⟨mid, c, rfl⟩
    · simp only [List.length_nil] at hlen; omega
    · rw [List.length_append, List.length_singleton] at hlen
      exact ⟨b, mid, c, rfl, hb, by omega⟩

/-- In HUNT the characters of a frame bring its end. -/
theorem foldl_receive_frameEnds {bytes : List Byte} (hr : l.resetStage = .none) (hx : l.rx = .hunt)
    (h : frameShaped bytes = true) : FrameEnds l (bytes.foldl (fun m c => m.receive now c) l) bytes := by
  obtain ⟨b, mid, c, rfl, hb, hmid⟩ := frameShaped_cases h
  have hbegun : l.receive now 0xA5#8 = framing l now [0xA5#8] := receive_start now hr hx rfl
  have hall : (0xA5#8 :: b :: (mid ++ [c])).foldl (fun m c => m.receive now c) l
      = (framing l now (0xA5#8 :: b :: mid)).inFrame now (0xA5#8 :: b :: (mid ++ [c])) := by
    rw [List.foldl_cons, hbegun, List.foldl_cons, receive_length_byte now hr _ hb, List.foldl_append,
      foldl_receive_framing now hr _ b mid [] (by simp [hmid])]
    exact receive_framing now hr _ c
  have hwhole : (0xA5#8 :: b :: (mid ++ [c])).length = frameLength (0xA5#8 :: b :: (mid ++ [c])) := by
    rw [frameLength_cons_cons]; simp [hmid]
  rw [hall]
  obtain ⟨hgood, hbad, hsources⟩ :=
    inFrame_frameEnds (framing l now (0xA5#8 :: b :: mid)) now (by simp) hwhole
  exact ⟨hgood, hbad, hsources⟩

end

/-! ### The commands at the state -/

theorem exec_characterReceived (c : Byte) (s : State) :
    exec (.characterReceived c) s = .next { s with link := s.link.receive s.now c } :=
  rfl

theorem exec_frameReceived (bytes : List Byte) (s : State) :
    exec (.frameReceived bytes) s = .next { s with link := bytes.foldl (fun l c => l.receive s.now c) s.link } :=
  rfl

theorem truncate_of_inFrame {l : Link} (h : l.rx = .inFrame) :
    l.truncate = l.modCounters fun k => { k with truncated := min (k.truncated + 1) 65535 } := by
  simp only [Link.truncate, h]
  rfl

section
variable {s : State} (hr : s.link.resetStage = .none)
include hr

theorem exec_idleGapExpiry_due (hx : s.link.rx = .idleWait) (hquiet : 2 ≤ (s.time.ms - s.link.rxLast).toNat) :
    exec .idleGapExpiry s = .next { s with link := { s.link with rx := .hunt } } :=
  congrArg Host.Outcome.next (if_pos ⟨hx, hr, decide_eq_true hquiet⟩)

theorem exec_frameGapExpiry_due (hx : s.link.rx = .inFrame) (hquiet : 2 ≤ (s.time.ms - s.link.rxLast).toNat) :
    exec .frameGapExpiry s = .next { s with link := { s.link.truncate with rx := .hunt, rxBytes := [] } } :=
  congrArg Host.Outcome.next (if_pos ⟨hx, hr, decide_eq_true hquiet⟩)

theorem exec_characterWithoutStopBit_listening :
    exec .characterWithoutStopBit s = .next { s with link := s.link.truncate.idleWait s.now } :=
  congrArg (fun l : Link => (.next { s with link := l } : Out)) (if_pos hr)

end

/-- Settles O15: the receiver's table row by row for a character and a gap, and for a whole frame by the induction
over its characters. -/
theorem receiverFollowsItsTable : Obligations.ReceiverFollowsItsTable := by
  unfold Obligations.ReceiverFollowsItsTable
  refine ⟨⟨fun s c hr => ?character, fun s hr => ⟨fun hx hquiet => ?idleGap, fun hx hquiet => ?frameGap,
    fun hx => ?noStopBit⟩⟩, fun s bytes hr hx hshaped => ?frame⟩
  case character =>
    refine ⟨_, exec_characterReceived c s, rfl, fun hx => receive_of_idleWait s.now hr hx,
      fun hx hc => receive_start s.now hr hx hc, fun hx hc => receive_not_start s.now hr hx hc,
      fun hx hone hc => ?_, fun hx htwo => ?_⟩
    · obtain ⟨a, ha⟩ := List.length_eq_one_iff.mp hone
      rw [receive_of_inFrame s.now hr hx, ha, List.singleton_append, inFrame_bad_length hc]
      exact ⟨rfl, rfl, rfl⟩
    · intro bs
      have hpast : 2 < bs.length := by simp only [bs, List.length_append, List.length_singleton]; omega
      rw [receive_of_inFrame s.now hr hx]
      exact ⟨inFrame_short hpast, fun hlen => (inFrame_frameEnds s.link s.now hpast hlen).bad,
        fun hlen => (inFrame_frameEnds s.link s.now hpast hlen).good⟩
  case idleGap => exact exec_idleGapExpiry_due hr hx hquiet
  case frameGap => rw [exec_frameGapExpiry_due hr hx hquiet, truncate_of_inFrame hx]; rfl
  case noStopBit => rw [exec_characterWithoutStopBit_listening hr, truncate_of_inFrame hx]; rfl
  case frame =>
    obtain ⟨hgood, hbad, hsources⟩ := foldl_receive_frameEnds s.now hr hx hshaped
    exact ⟨_, exec_frameReceived bytes s, rfl, hgood, hbad, hsources⟩

end Sys2Proof.Proofs

/-! PROOFS. A heartbeat by its phase, and the link becoming ONLINE (R188, R190). -/

namespace Sys2Proof.Proofs

open Sys2Proof Sys2Proof.Machine Sys2Proof.Laws

/-! ### What sending and notices leave of the port -/

/-- The port's supervision and receive buffer, which the transmitter and the notices do not touch. -/
structure Supervision where
  online      : Bool
  lastPhase   : Option Bool
  timer       : Option (Ms × Nat)
  transitions : Nat
  rxBuffer    : List Frame

/-- The supervision of a port. -/
def supervision (l : Link) : Supervision := ⟨l.online, l.lastPhase, l.timer, l.transitions, l.rxBuffer⟩

theorem kick_supervision (l : Link) : supervision l.kick = supervision l := by
  unfold Link.kick; split <;> rfl

theorem drain_supervision (l : Link) : supervision l.drain = supervision l := by
  unfold Link.drain; split <;> rfl

theorem dropNotices_supervision (l : Link) (n : Nat) : supervision (l.dropNotices n) = supervision l := rfl

theorem listNotice_supervision (l : Link) (n : Notice) : supervision (l.listNotice n) = supervision l := by
  unfold Link.listNotice; split <;> rfl

theorem link_notify_supervision (l : Link) (n : Notice) : supervision (l.notify n) = supervision l := by
  unfold Link.notify
  split
  · exact listNotice_supervision l n
  · rw [kick_supervision, drain_supervision, listNotice_supervision]
  · split
    · split
      · exact kick_supervision _
      · exact dropNotices_supervision l 1
    · rfl
  · rfl

/-- Becoming ONLINE sets the link state and starts the timer (R190). -/
theorem goOnline_supervision (l : Link) (now : Ms) (limit acked : Nat) :
    supervision (l.goOnline now limit acked) = { supervision l with online := true, timer := some (now, limit) } := by
  unfold Link.goOnline
  rw [kick_supervision]
  dsimp only
  split
  · exact drain_supervision _
  · rfl

/-! ### What an append leaves of the state -/

/-- The parts that an append and the forwarding of records leave: the other units, and the port's supervision. -/
structure Beside where
  bays   : Vector Bay 8
  tariff : Tariff
  card   : CardUnit
  bus    : Bus
  time   : Time
  port   : Supervision

/-- Those parts of a state. -/
def beside (s : State) : Beside := ⟨s.bays, s.tariff, s.card, s.bus, s.time, supervision s.link⟩

theorem modLink_beside (s : State) {f : Link → Link} (h : supervision (f s.link) = supervision s.link) :
    beside (s.modLink f) = beside s := by
  simp [beside, h]

theorem modJournal_beside (s : State) (f : Journal → Journal) : beside (s.modJournal f) = beside s := rfl

theorem notify_beside (n : Notice) (s : State) : beside (notify n s) = beside s :=
  modLink_beside s (link_notify_supervision s.link n)

theorem notify?_beside (n : Option Notice) (s : State) : beside (notify? n s) = beside s := by
  cases n with
  | some n => exact notify_beside n s
  | none => rfl

theorem engineTake_beside (s : State) : beside (engineTake s) = beside s := by
  unfold engineTake
  dsimp only
  split
  · split
    · rfl
    · split
      · rfl
      · split
        · exact notify?_beside _ _
        · exact notify_beside _ _
  · rfl

theorem appendLink_beside (online : Bool) (s : State) : beside (appendLink online s) = beside s := by
  simp only [appendLink, append, journalKick, settleErase, modJournal_beside, engineTake_beside]

theorem forwardNext_beside (s : State) : beside (forwardNext s) = beside s := by
  unfold forwardNext
  split
  · split
    · exact modLink_beside s (kick_supervision _)
    · rfl
  · rfl

theorem countTransition_beside (s : State) :
    beside (s.modLink (·.countTransition)) =
      { beside s with
        port := { (beside s).port with transitions := min ((beside s).port.transitions + 1) 65535 } } :=
  rfl

/-! ### A heartbeat by its phase and the link's state -/

/-- R190: the link state, the timer, the offline total and the transition counted. -/
theorem linkOnline_beside (s : State) :
    beside (linkOnline s) =
      { beside s with
        card := { s.card with offlineTotal := 0 }
        port := { supervision s.link with
          online := true
          timer := some (s.now, s.supervisionLimit)
          transitions := min (s.link.transitions + 1) 65535 } } := by
  rw [linkOnline, countTransition_beside, appendLink_beside, forwardNext_beside]
  have hport := goOnline_supervision s.link s.now s.supervisionLimit s.journal.acked
  simp only [beside, State.modCard_link, State.modLink_link, hport]
  rfl

section
variable {s : State} {phase : Bool}

theorem heartbeat_same_phase (h : s.link.lastPhase = some phase) :
    heartbeat phase s
      = s.modLink (·.modCounters fun k => { k with samePhase := min (k.samePhase + 1) 65535 }) :=
  if_pos h

theorem heartbeat_online (h : s.link.lastPhase ≠ some phase) (hon : s.link.online = true) :
    heartbeat phase s
      = s.modLink fun l => { l with lastPhase := some phase, timer := some (s.now, s.supervisionLimit) } :=
  (if_neg h).trans (if_pos hon)

theorem heartbeat_offline (h : s.link.lastPhase ≠ some phase) (hoff : s.link.online = false) :
    heartbeat phase s = linkOnline (s.modLink fun l => { l with lastPhase := some phase }) :=
  (if_neg h).trans (if_neg (ne_true_of_eq_false hoff))

/-- A well-formed HEARTBEAT at the head of the buffer is taken. -/
theorem exec_heartbeat {f : Frame} {p : Byte} (h : s.link.rxBuffer.head? = some f) (hk : f.kind = 0x01#8)
    (hbody : f.body = [p]) (hp : p.toNat ≤ 1) :
    exec .heartbeat s = .next (s.reseal (heartbeat (decide (p.toNat = 1)) (dropHead s))) := by
  show done s (takeFrame _ _ s) = _
  rw [takeFrame_eq _ h (by simp [Frame.is, hk, kHeartbeat]), hbody]
  exact congrArg (done s) (if_pos hp)

end

/-- Settles O17, by the last accepted phase and then the link's state. -/
theorem heartbeatActsByPhase : Obligations.HeartbeatActsByPhase := by
  unfold Obligations.HeartbeatActsByPhase
  intro s f p hhead hkind hbody hp phase
  refine ⟨_, exec_heartbeat hhead hkind hbody hp, ?_⟩
  by_cases hsame : s.link.lastPhase = some phase
  case pos =>
    rw [heartbeat_same_phase (s := dropHead s) hsame]
    exact ⟨rfl, rfl, rfl, rfl, rfl, hsame, fun _ => ⟨rfl, rfl, rfl⟩, fun hnew => absurd hsame hnew⟩
  case neg =>
    cases hlink : s.link.online with
    | true =>
      rw [heartbeat_online (s := dropHead s) hsame hlink]
      exact ⟨rfl, rfl, rfl, rfl, rfl, rfl, fun h => absurd h hsame,
        fun _ => ⟨hlink, rfl, fun _ => ⟨rfl, rfl⟩, nofun⟩⟩
    | false =>
      rw [heartbeat_offline (s := dropHead s) hsame hlink]
      have hbeside := linkOnline_beside ((dropHead s).modLink fun l => { l with lastPhase := some phase })
      simp only [beside, supervision, Beside.mk.injEq, Supervision.mk.injEq] at hbeside
      obtain ⟨hbays, htariff, hcard, hbus, htime, honline, hphase, htimer, htransitions, hbuffer⟩ := hbeside
      exact ⟨hbays, htariff, hbus, htime, hbuffer, hphase, fun h => absurd h hsame,
        fun _ => ⟨honline, htimer, nofun, fun _ => ⟨hcard, htransitions⟩⟩⟩

end Sys2Proof.Proofs

/-! PROOFS. What holds of the part as a whole: steps, the waiting queue, owners, the bays' contexts and the reset values. -/

namespace Sys2Proof.Proofs

open Sys2Proof Sys2Proof.Machine Sys2Proof.Laws

/-- Settles O1: a step takes the front of the queue. -/
theorem stepTakesFront : Obligations.StepTakesFront := by
  unfold Obligations.StepTakesFront
  intro c rest s
  rfl

/-- Settles O2: the idle step is the tick, which wraps. -/
theorem idleStepIsAMillisecond : Obligations.IdleStepIsAMillisecond := by
  unfold Obligations.IdleStepIsAMillisecond
  intro s h
  refine ⟨s.tick, by simp [step, h], rfl, ?_⟩
  simp [State.tick, BitVec.toNat_add]

/-- Settles O11, by evaluation. -/
theorem resetValues : Obligations.ResetValues := by
  unfold Obligations.ResetValues
  decide +kernel

/-! ### What the commands other than an owner's leave -/

/-- The parts that one owner alone changes (R167, R203 to R207, R66), with the waiting queue. -/
structure Owned where
  pending : List Instr
  time    : Time
  acked   : Nat
  active  : Bank

/-- Those parts of a state. -/
def owned (s : State) : Owned := ⟨s.pending, s.time, s.journal.acked, s.tariff.active⟩

theorem owned_of_still {s t : State} (h : t.still = s.still) : owned t = owned s := by
  simp only [State.still, Still.mk.injEq] at h
  simp [owned, h]

/-- A command that answers a next state and leaves the owned parts. -/
def Leaves (c : Instr) (s : State) : Prop := ∃ t, exec c s = .next t ∧ owned t = owned s


section
variable {c : Instr} {s t : State}

theorem Leaves.next (e : exec c s = .next t) (h : owned t = owned s) : Leaves c s := ⟨t, e, h⟩

theorem Leaves.done (e : exec c s = done s t) (h : owned t = owned s) : Leaves c s := ⟨s.reseal t, e, h⟩

theorem Leaves.next_still (e : exec c s = .next t) (h : t.still = s.still) : Leaves c s := .next e (owned_of_still h)

theorem Leaves.done_still (e : exec c s = Machine.done s t) (h : t.still = s.still) : Leaves c s := .done e (owned_of_still h)

theorem Leaves.frame {isKind : Frame → Bool} {act : Frame → State → Answer}
    (e : exec c s = .next (answerFrame isKind act s)) (h : ∀ f u, owned (act f u).state = owned u) : Leaves c s :=
  .next e (answerFrame_keeps owned (fun _ _ => rfl) isKind act h s)

theorem Leaves.frameDone {isKind : Frame → Bool} {act : Frame → State → Answer}
    (e : exec c s = Machine.done s (answerFrame isKind act s)) (h : ∀ f u, owned (act f u).state = owned u) : Leaves c s :=
  .done e (answerFrame_keeps owned (fun _ _ => rfl) isKind act h s)

theorem Leaves.unanswered {isKind : Frame → Bool} {act : Frame → State → State}
    (e : exec c s = Machine.done s (takeFrame isKind act s)) (h : ∀ f u, (act f u).still = u.still) : Leaves c s :=
  .done_still e (takeFrame_still isKind act s h)

theorem Leaves.handsOn {α : Type} {f : ReplySection → Option α} {act : BayNo → α → State → State}
    (e : exec c s = Machine.done s (takeSection f act s)) (h : ∀ b x u, (act b x u).still = u.still) : Leaves c s :=
  .done_still e (takeSection_still f act s h)
end

theorem page_owned (n : Nat) (data : List Byte) (s : State) : owned (page n data s).state = owned s := by
  unfold page; split <;> rfl

theorem bayQuery_owned (data : State → BayNo → List Byte) (f : Frame) (s : State) :
    owned (bayQuery data f s).state = owned s := by
  unfold bayQuery
  split
  · split
    · exact page_owned _ _ _
    · rfl
  · rfl

theorem unitQuery_owned (data : State → List Byte) (f : Frame) (s : State) :
    owned (unitQuery data f s).state = owned s := by
  unfold unitQuery
  split
  · exact page_owned _ _ _
  · rfl

theorem modTariff_owned (s : State) (g : Tariff → Tariff) (h : (g s.tariff).active = s.tariff.active) :
    owned (s.modTariff g) = owned s := by
  simp [owned, h]

/-! ### Which table operations keep the active bank -/

theorem modBank_active (t : Tariff) (k : Bank) (f : BankTables → BankTables) : (t.modBank k f).active = t.active := by
  cases k <;> rfl

theorem modTarget_active (t : Tariff) (g : Target) (f : Table → Table) : (t.modTarget g f).active = t.active := by
  unfold Tariff.modTarget
  split <;> simp [modBank_active]

theorem spoil_active (t : Tariff) (g : Target) : (t.spoil g).active = t.active := by
  unfold Tariff.spoil
  split <;> simp [modTarget_active]

theorem abandon_active (t : Tariff) : t.abandon.active = t.active := by
  unfold Tariff.abandon
  split <;> simp [spoil_active]

theorem openStream_active (t : Tariff) (g : Target) (version count : Nat) (mode : Option PercentMode) :
    (t.openStream g version count mode).active = t.active := by
  unfold Tariff.openStream
  dsimp only
  split <;> simp [modTarget_active, modBank_active]

theorem store_active (t : Tariff) (g : Target) (es : List (List Byte)) : (t.store g es).active = t.active :=
  modTarget_active t g _

theorem loadError_owned (e : LoadError) (p : Option Place) (s : State) : owned (loadError e p s) = owned s := by
  unfold loadError
  dsimp only
  split
  · exact modTariff_owned s _ (spoil_active _ _)
  · rfl

theorem streamData_owned (g : Target) (start : Nat) (bytes : List Byte) (s : State) :
    owned (streamData g start bytes s).state = owned s := by
  unfold streamData
  split
  · rfl
  · split
    · rfl
    · split
      · exact loadError_owned _ _ s
      · split
        · exact loadError_owned _ _ s
        · exact modTariff_owned s _ (store_active _ _ _)

theorem replaceSite_owned (t : Table) (s : State) : owned (replaceSite t s) = owned s :=
  (owned_of_still (forBays_still _ (fun b s => siteChange_still _ _ b s) _)).trans (modTariff_owned s _ rfl)

theorem completeStream_owned (g : Target) (check : BitVec 32) (s : State) :
    owned (completeStream g check s) = owned s := by
  unfold completeStream
  dsimp only
  split
  · rfl
  · exact replaceSite_owned _ _
  · exact modTariff_owned _ _ (modBank_active _ _ _)
  · exact modTariff_owned _ _ (modTarget_active _ _ _)

theorem closeStream_owned (g : Target) (check : BitVec 32) (s : State) :
    owned (closeStream g check s).state = owned s := by
  unfold closeStream
  dsimp only
  split
  · exact loadError_owned _ _ s
  · split
    · exact loadError_owned _ _ s
    · split
      · exact loadError_owned _ _ s
      · exact completeStream_owned g check s

theorem evalStart_still (s : State) : (s.modTariff Tariff.evalStart).still = s.still := by
  unfold State.modTariff Tariff.evalStart
  split <;> rfl

/-! ### Each command and the owned parts -/

/-- The owner commands: those that may change a clock, a shared sampler, the acknowledged mark or the active bank. -/
def isOwner : Instr → Bool
  | .powerOnReset _ | .setTime | .clockSecond | .supplyWarningChange _ | .auditSwitchChange _ | .ack | .bankSwitch
  | .scheduledSwitchDue => true
  | _ => false

theorem tableOpen_leaves (s : State) : Leaves .tableOpen s := by
  refine .frame rfl fun f u => ofLength_keeps owned _ _ (fun body u => ?_) f u
  split
  · rfl
  · exact refuseOr_keeps owned _ _ (fun u => modTariff_owned u _ (by rw [openStream_active, abandon_active])) u

theorem tableData_leaves (s : State) : Leaves .tableData s := by
  refine .frame rfl fun f u => ?_
  split
  · rfl
  · split
    · exact streamData_owned _ _ _ u
    · rfl
    · rfl

theorem tableClose_leaves (s : State) : Leaves .tableClose s := by
  refine .frameDone rfl fun f u => ofLength_keeps owned _ _ (fun body u => ?_) f u
  split
  · exact closeStream_owned _ _ u
  · rfl
  · rfl

theorem loadClear_leaves (s : State) : Leaves .loadClear s := by
  refine .frame rfl fun f u => ofLength_keeps owned _ _ (fun body u => ?_) f u
  unfold accept
  dsimp only
  split
  · exact modTariff_owned u _ (abandon_active _)
  · rfl
  · rfl

theorem denyAdd_leaves (s : State) : Leaves .denyAdd s := by
  refine .frame rfl fun f u => ofLength_keeps owned _ _ (fun body u => refuseOr_keeps owned _ _ (fun u => ?_) u) f u
  dsimp only
  split
  · rfl
  · split <;> rfl

theorem denyRemove_leaves (s : State) : Leaves .denyRemove s := by
  refine .frame rfl fun f u => ofLength_keeps owned _ _ (fun body u => refuseOr_keeps owned _ _ (fun u => ?_) u) f u
  dsimp only
  split <;> rfl

theorem tubeSet_leaves (s : State) : Leaves .tubeSet s := by
  refine .frameDone rfl fun f u => ofLength_keeps owned _ _ (fun body u => ?_) f u
  split
  · rfl
  · split
    · exact owned_of_still (by simp [tubeSet])
    · rfl
  · rfl

theorem hold_leaves (s : State) : Leaves .hold s := by
  refine .frame rfl fun f u => ?_
  dsimp only
  split
  · rfl
  · split
    · split <;> rfl
    · rfl

theorem releaseHold_leaves (s : State) : Leaves .releaseHold s := by
  refine .frame rfl fun f u => ?_
  split
  · rfl
  · split <;> rfl

theorem bayControl_leaves {c : Instr} {s : State} {isKind : Frame → Bool} {act : BayNo → State → Answer}
    (e : exec c s = Machine.done s (answerFrame isKind (bayControl act) s))
    (h : ∀ b u, (act b u).state.still = u.still) : Leaves c s :=
  .frameDone e fun f u => bayControl_keeps owned act (fun b u => owned_of_still (h b u)) f u

theorem inService_still (b : BayNo) (s : State) : (inService b s).state.still = s.still := by
  unfold inService
  dsimp only
  split
  · unfold accept
    split <;> simp
  · rfl

theorem answerSlot_handsOn_leaves {c : Instr} {s : State} {α : Type} {f : ReplySection → Option (Nat × α)}
    {act : α → BayNo → CardSlot → State → State}
    (e : exec c s = Machine.done s (takeSection f (fun b p s => answerSlot p.1 (act p.2 b) b s) s))
    (h : ∀ x b k u, (act x b k u).still = u.still) : Leaves c s :=
  .handsOn e fun b p u => answerSlot_still _ _ b u fun k v => h p.2 b k v

/-- What a guard lets through or leaves. -/
theorem ite_still {p : Prop} [Decidable p] {s t : State} (h : t.still = s.still) :
    (if p then t else s).still = s.still := by
  split
  · exact h
  · rfl

theorem whenUp_still {s t : State} (h : t.still = s.still) : (s.whenUp t).still = s.still := ite_still h

theorem exec_leaves (c : Instr) (s : State) (h : isOwner c = false) : Leaves c s := by
  cases c
  case powerOnReset => cases h
  case setTime => cases h
  case clockSecond => cases h
  case supplyWarningChange => cases h
  case auditSwitchChange => cases h
  case ack => cases h
  case bankSwitch => cases h
  case scheduledSwitchDue => cases h
  case tableOpen => exact tableOpen_leaves s
  case tableData => exact tableData_leaves s
  case tableClose => exact tableClose_leaves s
  case loadClear => exact loadClear_leaves s
  case denyAdd => exact denyAdd_leaves s
  case denyRemove => exact denyRemove_leaves s
  case tubeSet => exact tubeSet_leaves s
  case hold => exact hold_leaves s
  case releaseHold => exact releaseHold_leaves s
  case frameReceived => exact .next rfl rfl
  case characterReceived => exact .next rfl rfl
  case characterWithoutStopBit => exact .next rfl rfl
  case idleGapExpiry => exact .next_still rfl (ite_still rfl)
  case frameGapExpiry => exact .next_still rfl (ite_still rfl)
  case badKind => exact .frame rfl fun _ _ => rfl
  case heartbeat =>
    refine .unanswered rfl fun f u => ?_
    split
    · split <;> simp
    · rfl
  case authReply =>
    refine .unanswered rfl fun f u => ?_
    split <;> simp
  case noticeMask => exact .frame rfl (ofLength_keeps owned _ _ fun _ _ => rfl)
  case linkReset => exact .frame rfl (ofLength_keeps owned _ _ fun _ _ => rfl)
  case queryBay => exact .frame rfl (bayQuery_owned _)
  case queryTubes => exact .frame rfl (bayQuery_owned _)
  case queryBox => exact .frame rfl (bayQuery_owned _)
  case queryLoad => exact .frame rfl (unitQuery_owned _)
  case queryJournal => exact .frame rfl (unitQuery_owned _)
  case queryTear => exact .frame rfl (unitQuery_owned _)
  case queryLink => exact .frame rfl (unitQuery_owned _)
  case queryIdent => exact .frame rfl (unitQuery_owned _)
  case bayControlInService => exact bayControl_leaves rfl inService_still
  case bayControlOutOfService => exact bayControl_leaves rfl fun b u => joinCause_still .server b u
  case bayControlReset => exact bayControl_leaves rfl fun b u => bayReset_still b u
  case coinOff => exact bayControl_leaves rfl fun b u => coinOff_still b u
  case coinOn => exact bayControl_leaves rfl fun b u => coinOn_still b u
  case frameSent =>
    refine .done_still rfl ?_
    split <;> simp
  case supervisionExpiry =>
    refine .done_still rfl ?_
    split
    · exact ite_still (linkOffline_still s)
    · rfl
  case pollStart =>
    refine .next_still rfl ?_
    split <;> simp
  case recoveryPollDue =>
    refine .next_still rfl ?_
    split <;> simp
  case replyReceived =>
    refine .done_still rfl ?_
    split
    · split
      · split <;> simp
      · simp
    · rfl
  case replyWindowExpiry =>
    refine .done_still rfl ?_
    split
    · exact ite_still (by simp)
    · rfl
  case replyGapExpiry =>
    refine .done_still rfl ?_
    split <;> simp
  case lineHeld =>
    refine .next_still rfl (whenUp_still ?_)
    split <;> rfl
  case breakEnd =>
    refine .next_still rfl ?_
    split
    · exact ite_still rfl
    · rfl
  case recoveryWaitEnd =>
    refine .next_still rfl ?_
    split
    · exact ite_still rfl
    · rfl
  case select => exact .handsOn rfl fun b q u => select_still q b u
  case confirm => exact .handsOn rfl fun b p u => confirm_still _ _ b u
  case cancel => exact .handsOn rfl fun b _ u => cancel_still b u
  case reprint =>
    refine .handsOn rfl fun b _ u => ?_
    dsimp only
    split <;> simp
  case cardCommandTaken => exact .next_still rfl (takeSection_still _ _ s fun _ _ _ => rfl)
  case cardAnswerCard => exact answerSlot_handsOn_leaves rfl fun v b k u => cardRead_still v b k u
  case cardAnswerNoCard =>
    exact .handsOn rfl fun b m u => answerSlot_still m _ b u fun k v => commandExpired_still k b v
  case writeAnswerOk => exact answerSlot_handsOn_leaves rfl fun v b k u => writeOk_still v b k u
  case writeAnswerRefused => exact answerSlot_handsOn_leaves rfl fun r b k u => writeNo_still r b k u
  case cardCommandTimeout =>
    refine .done_still rfl ?_
    split
    · split
      · exact ite_still (by simp)
      · rfl
    · rfl
  case presentationLimitExpiry =>
    refine .done_still rfl ?_
    split
    · exact ite_still (by simp)
    · rfl
  case authWaitExpiry =>
    refine .done_still rfl ?_
    split
    · exact ite_still (by simp)
    · rfl
  case tearExpiry =>
    refine .done_still rfl (whenUp_still ?_)
    split <;> simp
  case contextTimeout =>
    refine .done_still rfl ?_
    split
    · exact ite_still (by simp)
    · rfl
  case evaluationEnd =>
    refine .done_still rfl ?_
    split
    · show State.still (State.modTariff (priceTaken _ _) Tariff.evalStart) = _
      rw [evalStart_still, priceTaken_still]
      rfl
    · rfl
  case coinLineChange =>
    refine .next_still rfl ?_
    split <;> rfl
  case filteredFallingEdge => exact .next_still rfl (whenUp_still (ite_still rfl))
  case filteredRisingEdge => exact .next_still rfl (whenUp_still (ite_still rfl))
  case trainEnd => exact .done_still rfl (ite_still ((takeCoin_still _ _ _ _).trans rfl))
  case lineStuck =>
    refine .done_still rfl (whenUp_still ?_)
    split
    · exact ite_still (by simp)
    · rfl
  case faultEnd =>
    refine .done_still rfl (whenUp_still ?_)
    split
    · exact ite_still (by simp)
    · rfl
  case escrowPulseEnd =>
    refine .done_still rfl ?_
    split
    · refine ite_still ?_
      split <;> rfl
    · rfl
  case payoutSense =>
    refine .done_still rfl (whenUp_still ?_)
    split
    · split <;> simp
    · simp
  case driveTimeout =>
    refine .done_still rfl ?_
    split
    · exact ite_still (by simp)
    · rfl
  case serviceDoorChange =>
    refine .done_still rfl (whenUp_still ?_)
    split
    · rfl
    · rw [notify_still, setCause_still]; rfl
  case boxDoorChange =>
    refine .next_still rfl (whenUp_still ?_)
    split <;> rfl
  case boxRemoved =>
    refine .done_still rfl (whenUp_still (ite_still ?_))
    rw [recomputeMask_still, joinCause_still]
    split
    · rw [removeBox_still]; rfl
    · rfl
  case boxInserted =>
    refine .done_still rfl (whenUp_still ?_)
    split
    · rfl
    · rw [leaveCause_still]
      split <;> rfl
  case recordWriteEnd =>
    refine .done_still rfl ?_
    split <;> simp
  case eraseBegin =>
    refine .next_still rfl (whenUp_still ?_)
    split
    · exact s.modJournal_still _ (Journal.beginErase_acked ..)
    · rfl
  case eraseEnd =>
    refine .next_still rfl ?_
    split
    · refine ite_still ?_
      split <;> simp
    · rfl
  case printDelivered => exact .handsOn rfl fun b p u => delivered_still _ _ b u
  case printerStatus => exact .handsOn rfl fun b p u => printerStatus_still _ _ _ b u
  case noProgressLimit => exact .done_still rfl (ite_still (by simp))

/-! ### A power-on reset and the owners -/

/-- The waiting queue and the active bank, which a power-on reset keeps (R66). -/
def queueAndBank (s : State) : List Instr × Bank := (s.pending, s.tariff.active)

theorem queueAndBank_of_still {s t : State} (h : t.still = s.still) : queueAndBank t = queueAndBank s := by
  simp only [State.still, Still.mk.injEq] at h
  simp [queueAndBank, h]

/-- What each function of a list keeps, their run one behind the other keeps. -/
theorem foldl_keeps {α β : Type} (p : α → β) (fs : List (α → α)) (h : ∀ f ∈ fs, ∀ s, p (f s) = p s) (s : α) :
    p (fs.foldl (fun s f => f s) s) = p s := by
  induction fs generalizing s with
  | nil => rfl
  | cons f fs ih =>
    rw [List.foldl_cons, ih (fun g hg => h g (List.mem_cons_of_mem f hg)), h f List.mem_cons_self]

theorem notify_queueAndBank (n : Notice) (s : State) : queueAndBank (notify n s) = queueAndBank s := rfl

theorem ite_keeps {α β : Type} (p : α → β) {c : Prop} [Decidable c] {a b : α} {x : β} (ha : p a = x) (hb : p b = x) :
    p (if c then a else b) = x := by
  split
  · exact ha
  · exact hb

theorem forBays_modBay_queueAndBank (f : BayNo → Bay → Bay) (s : State) :
    queueAndBank (forBays (fun b s => s.modBay b (f b)) s) = queueAndBank s :=
  forBays_keeps queueAndBank _ (fun _ _ => rfl) s

theorem loseArea_queueAndBank (s : State) : queueAndBank (loseArea s) = queueAndBank s := by
  unfold loseArea
  rw [notify_queueAndBank, forBays_modBay_queueAndBank]
  rfl

theorem startRetained_queueAndBank (held : Bool) (s : State) :
    queueAndBank (startRetained held s) = queueAndBank s := by
  unfold startRetained
  refine ite_keeps queueAndBank ?_ ?_
  · exact ite_keeps queueAndBank rfl (loseArea_queueAndBank s)
  · exact ite_keeps queueAndBank rfl (loseArea_queueAndBank s)

theorem startJournal_queueAndBank (held : Bool) (s : State) :
    queueAndBank (startJournal held s) = queueAndBank s := by
  unfold startJournal
  refine ite_keeps queueAndBank ?_ ?_
  · rw [notify_queueAndBank, queueAndBank_of_still (notify?_still _ _)]; rfl
  · rw [queueAndBank_of_still (notify?_still _ _)]; rfl

theorem startStore_queueAndBank (env : StartUp) (held : Bool) (s : State) :
    queueAndBank (startStore env held s) = queueAndBank s := by
  unfold startStore
  dsimp only
  refine ite_keeps queueAndBank ?_ ?_
  · rw [queueAndBank_of_still (clearRequested_still _), forBays_modBay_queueAndBank]; rfl
  · rw [forBays_modBay_queueAndBank fun _ => Bay.boxFromLine, forBays_modBay_queueAndBank]; rfl

theorem startBox_queueAndBank (held : Bool) (b : BayNo) (s : State) :
    queueAndBank (startBox held b s) = queueAndBank s := by
  cases held
  · rfl
  · exact queueAndBank_of_still (reconcileBox_still b s)

theorem startWrites_queueAndBank (env : StartUp) (held : Bool) :
    ∀ f ∈ startWrites env held, ∀ s, queueAndBank (f s) = queueAndBank s := by
  simp only [startWrites, List.mem_append, List.mem_cons, List.mem_map, List.not_mem_nil, or_false]
  rintro f ((rfl | rfl | rfl | rfl) | ⟨b, -, rfl⟩)
  · exact startRetained_queueAndBank held
  · exact fun _ => rfl
  · exact startJournal_queueAndBank held
  · exact startStore_queueAndBank env held
  · exact startBox_queueAndBank held b

theorem startBays_queueAndBank (s : State) : queueAndBank (startBays s) = queueAndBank s :=
  queueAndBank_of_still ((askBoxes_still _).trans (rebuildBays_still s))

theorem goDark_queueAndBank (s : State) : queueAndBank (goDark s) = queueAndBank s :=
  forBays_modBay_queueAndBank (fun _ => Bay.dark) s

/-- What a power-on reset leaves once some writes of its start-up are done (R208). -/
def afterWrites (fs : List (State → State)) (env : StartUp) (s : State) : State :=
  fs.foldl (fun s f => f s) (losePower env s)

section
variable {env : StartUp} (s : State)

/-- A start-up that runs to its end. -/
theorem powerOn_whole (h : env.cutAfter = none) :
    powerOn env s = { (startBays (afterWrites (startWrites env (areaHeld env s)) env s)).seal with up := true } := by
  unfold powerOn
  rw [h]
  rfl

/-- A start-up cut before its first write. -/
theorem powerOn_cut_zero (h : env.cutAfter = some 0) :
    powerOn env s = goDark { losePower env s with check := env.areaCheck.getD s.check } := by
  unfold powerOn
  rw [h]
  rfl

/-- A start-up cut behind some of its writes. -/
theorem powerOn_cut {n : Nat} (hn : 0 < n) (h : env.cutAfter = some n) :
    powerOn env s = (goDark (afterWrites ((startWrites env (areaHeld env s)).take n) env s)).seal := by
  obtain ⟨m, rfl⟩ := Nat.exists_eq_succ_of_ne_zero hn.ne'
  unfold powerOn
  rw [h]
  rfl

end

theorem afterWrites_queueAndBank {env : StartUp} {held : Bool} {fs : List (State → State)}
    (h : fs ⊆ startWrites env held) (s : State) : queueAndBank (afterWrites fs env s) = queueAndBank s :=
  foldl_keeps queueAndBank fs (fun f hf => startWrites_queueAndBank env held f (h hf)) _

theorem queueAndBank_seal (s : State) : queueAndBank s.seal = queueAndBank s := rfl

theorem queueAndBank_seal_up (s : State) : queueAndBank { s.seal with up := true } = queueAndBank s := rfl

theorem powerOn_queueAndBank (env : StartUp) (s : State) : queueAndBank (powerOn env s) = queueAndBank s := by
  cases h : env.cutAfter with
  | none =>
    rw [powerOn_whole s h, queueAndBank_seal_up, startBays_queueAndBank, afterWrites_queueAndBank (List.Subset.refl _)]
  | some n =>
    cases n with
    | zero => rw [powerOn_cut_zero s h, goDark_queueAndBank]; rfl
    | succ n =>
      rw [powerOn_cut s n.succ_pos h, queueAndBank_seal, goDark_queueAndBank,
        afterWrites_queueAndBank (List.take_subset _ _)]

/-! ### Which parts each owner changes -/

/-- What command c leaves of the parts that one owner alone changes. -/
def OwnersAlone (c : Instr) (s t : State) : Prop :=
  ((∀ env, c ≠ .powerOnReset env) →
    t.time.ms = s.time.ms
    ∧ (c ≠ .setTime → c ≠ .clockSecond → t.time.calendar = s.time.calendar)
    ∧ (c ≠ .setTime → t.time.isSet = s.time.isSet)
    ∧ ((∀ x, c ≠ .supplyWarningChange x) → t.time.supply = s.time.supply)
    ∧ ((∀ x, c ≠ .auditSwitchChange x) → t.time.audit = s.time.audit)
    ∧ (c ≠ .ack → t.journal.acked = s.journal.acked))
  ∧ (c ≠ .bankSwitch → c ≠ .scheduledSwitchDue → c ≠ .setTime → t.tariff.active = s.tariff.active)

/-- A command that answers a next state, keeps the waiting queue, and changes of the owned parts only its own. -/
def Owns (c : Instr) (s : State) : Prop := ∃ t, exec c s = .next t ∧ t.pending = s.pending ∧ OwnersAlone c s t

theorem Leaves.owns {c : Instr} {s : State} (h : Leaves c s) : Owns c s := by
  obtain ⟨t, e, hk⟩ := h
  simp only [owned, Owned.mk.injEq] at hk
  obtain ⟨hpending, htime, hacked, hactive⟩ := hk
  exact ⟨t, e, hpending, by simp [OwnersAlone, htime, hacked, hactive]⟩

theorem powerOnReset_owns (env : StartUp) (s : State) : Owns (.powerOnReset env) s := by
  have h := powerOn_queueAndBank env s
  simp only [queueAndBank, Prod.mk.injEq] at h
  exact ⟨_, rfl, h.1, fun hne => absurd rfl (hne env), fun _ _ _ => h.2⟩

theorem clockSecond_owns (s : State) : Owns .clockSecond s :=
  ⟨_, rfl, rfl, fun _ => ⟨rfl, fun _ h => absurd rfl h, fun _ => rfl, fun _ => rfl, fun _ => rfl, fun _ => rfl⟩,
    fun _ _ _ => rfl⟩

/-- The waiting queue, the clocks' set, and the acknowledged mark. -/
def queueTimeMark (s : State) : List Instr × Time × Nat := (s.pending, s.time, s.journal.acked)

theorem queueTimeMark_of_still {s t : State} (h : t.still = s.still) : queueTimeMark t = queueTimeMark s := by
  simp only [State.still, Still.mk.injEq] at h
  simp [queueTimeMark, h]

theorem performSwitch_queueTimeMark (k : Bank) (s : State) : queueTimeMark (performSwitch k s) = queueTimeMark s :=
  (queueTimeMark_of_still (append_still _ (s.modTariff fun t => { t with active := k }))).trans rfl

/-- A scheduled switch that falls due changes the Tariff Unit and the append queue. -/
theorem switchDue_queueTimeMark (s : State) : queueTimeMark (switchDue s) = queueTimeMark s := by
  unfold switchDue
  split
  · refine ite_keeps queueTimeMark ?_ rfl
    dsimp only
    split
    · rfl
    · exact performSwitch_queueTimeMark _ _
  · rfl

theorem bankSwitch_queueTimeMark (k : Bank) (v : Versions) (time : Option (Nat × Nat)) (s : State) :
    queueTimeMark (bankSwitch k v time s).state = queueTimeMark s := by
  unfold bankSwitch
  split
  · rfl
  · exact performSwitch_queueTimeMark k _
  · split
    · split
      · exact performSwitch_queueTimeMark k _
      · rfl
    · rfl

theorem Owns.switching {c : Instr} {s t : State} (e : exec c s = .next t) (h : queueTimeMark t = queueTimeMark s)
    (hc : c = .bankSwitch ∨ c = .scheduledSwitchDue) : Owns c s := by
  simp only [queueTimeMark, Prod.mk.injEq] at h
  obtain ⟨hpending, htime, hacked⟩ := h
  refine ⟨t, e, hpending, fun _ => ?_, fun hbank hdue => ?_⟩
  · simp [htime, hacked]
  · exact absurd hc (not_or.mpr ⟨hbank, hdue⟩)

theorem bankSwitch_owns (s : State) : Owns .bankSwitch s := by
  refine .switching rfl (answerFrame_keeps queueTimeMark (fun _ _ => rfl) _ _ (fun f u =>
    ofLength_keeps queueTimeMark _ _ (fun body u => ?_) f u) s) (.inl rfl)
  split
  · exact bankSwitch_queueTimeMark _ _ _ u
  · exact bankSwitch_queueTimeMark _ _ _ u
  · rfl

theorem scheduledSwitchDue_owns (s : State) : Owns .scheduledSwitchDue s :=
  .switching rfl (switchDue_queueTimeMark s) (.inr rfl)

/-- What SET_TIME leaves: the queue, the count, the shared samplers and the mark. -/
def besideCalendar (s : State) : List Instr × Ms × Sampler × Sampler × Nat :=
  (s.pending, s.time.ms, s.time.supply, s.time.audit, s.journal.acked)

theorem setTime_besideCalendar (c : Calendar) (s : State) : besideCalendar (setTime c s) = besideCalendar s := by
  have h := switchDue_queueTimeMark { s with time := { s.time with calendar := c, isSet := true } }
  simp only [queueTimeMark, Prod.mk.injEq] at h
  obtain ⟨hpending, htime, hacked⟩ := h
  simp [besideCalendar, setTime, hpending, htime, hacked]

theorem setTime_owns (s : State) : Owns .setTime s := by
  have h := answerFrame_keeps besideCalendar (fun _ _ => rfl) (Frame.is kSetTime) _ (fun f u =>
    ofLength_keeps besideCalendar 5 (fun body s =>
      if field body 2 2 ≤ 1439 ∧ field body 4 1 ≤ 59 then
        accept (setTime ⟨field body 0 2, field body 2 2, field body 4 1⟩ s)
      else refusal .badRequest s) (fun body u => by
        split
        · exact setTime_besideCalendar _ u
        · rfl) f u) s
  simp only [besideCalendar, Prod.mk.injEq] at h
  obtain ⟨hpending, hms, hsupply, haudit, hacked⟩ := h
  exact ⟨_, rfl, hpending, fun _ => ⟨hms, fun h => absurd rfl h, fun h => absurd rfl h, fun _ => hsupply,
    fun _ => haudit, fun _ => hacked⟩, fun _ _ h => absurd rfl h⟩

theorem auditSwitchChange_owns (asserted : Bool) (s : State) : Owns (.auditSwitchChange asserted) s := by
  refine ⟨_, rfl, ?_, fun _ => ⟨?_, fun _ _ => ?_, fun _ => ?_, fun _ => ?_, fun h => absurd rfl (h asserted),
    fun _ => ?_⟩, fun _ _ _ => ?_⟩
  all_goals unfold State.whenUp; split <;> rfl

/-- What the supply warning leaves: the queue, the count, the calendar, its mark, the audit switch, the acknowledged mark
and the active bank. -/
def besideSupply (s : State) : (List Instr × Ms × Calendar × Bool) × Sampler × Nat × Bank :=
  ((s.pending, s.time.ms, s.time.calendar, s.time.isSet), s.time.audit, s.journal.acked, s.tariff.active)

theorem besideSupply_of_still {s t : State} (h : t.still = s.still) : besideSupply t = besideSupply s := by
  simp only [State.still, Still.mk.injEq] at h
  simp [besideSupply, h]

theorem forBays_unhold_still (s : State) : (forBays unhold s).still = s.still := forBays_still _ unhold_still s

theorem forBays_recomputeMask_still (s : State) : (forBays recomputeMask s).still = s.still :=
  forBays_still _ recomputeMask_still s

theorem supplyWarningChange_owns (asserted : Bool) (s : State) : Owns (.supplyWarningChange asserted) s := by
  have hturn : ∀ u : State, besideSupply (settleErase (forBays recomputeMask u)) = besideSupply u := fun u =>
    besideSupply_of_still (by rw [settleErase_still, forBays_recomputeMask_still])
  obtain ⟨t, e, h⟩ : ∃ t, exec (.supplyWarningChange asserted) s = .next t ∧ besideSupply t = besideSupply s := by
    refine ⟨_, rfl, ?_⟩
    show besideSupply (s.whenUp _) = besideSupply s
    refine ite_keeps besideSupply (ite_keeps besideSupply rfl ?_) rfl
    refine ite_keeps besideSupply (hturn _) ?_
    rw [besideSupply_of_still (forBays_unhold_still _)]
    exact hturn _
  simp only [besideSupply, Prod.mk.injEq] at h
  obtain ⟨⟨hpending, hms, hcal, hset⟩, haudit, hacked, hactive⟩ := h
  exact ⟨t, e, hpending, fun _ => ⟨hms, fun _ _ => hcal, fun _ => hset, fun h => absurd rfl (h asserted),
    fun _ => haudit, fun _ => hacked⟩, fun _ _ _ => hactive⟩

/-- What an ACK leaves: the queue, the clocks and the active bank. -/
def besideMark (s : State) : List Instr × Time × Bank := (s.pending, s.time, s.tariff.active)

theorem ack_owns (s : State) : Owns .ack s := by
  obtain ⟨t, e, h⟩ : ∃ t, exec .ack s = .next t ∧ besideMark t = besideMark s := by
    refine ⟨_, rfl, takeFrame_keeps besideMark (fun _ _ => rfl) _ _ (fun f u => ?_) s⟩
    split <;> rfl
  simp only [besideMark, Prod.mk.injEq] at h
  obtain ⟨hpending, htime, hactive⟩ := h
  exact ⟨t, e, hpending, by simp [OwnersAlone, htime, hactive]⟩

theorem exec_owns (c : Instr) (s : State) : Owns c s := by
  by_cases h : isOwner c = true
  · cases c
    case powerOnReset env => exact powerOnReset_owns env s
    case setTime => exact setTime_owns s
    case clockSecond => exact clockSecond_owns s
    case supplyWarningChange asserted => exact supplyWarningChange_owns asserted s
    case auditSwitchChange asserted => exact auditSwitchChange_owns asserted s
    case ack => exact ack_owns s
    case bankSwitch => exact bankSwitch_owns s
    case scheduledSwitchDue => exact scheduledSwitchDue_owns s
    all_goals cases h
  · exact (exec_leaves c s (Bool.eq_false_iff.mpr h)).owns

/-- Settles O3: every command answers a next state, with the waiting queue as it was. -/
theorem commandsKeepQueue : Obligations.CommandsKeepQueue := by
  unfold Obligations.CommandsKeepQueue
  intro c s
  obtain ⟨t, e, hpending, -⟩ := exec_owns c s
  exact ⟨t, e, hpending⟩

/-- Settles O4: each command changes of the owned parts only its own. -/
theorem keptByOthers : Obligations.KeptByOthers := by
  unfold Obligations.KeptByOthers
  intro c s t e
  obtain ⟨u, eu, -, h⟩ := exec_owns c s
  cases eu.symm.trans e
  exact h

end Sys2Proof.Proofs

/-! PROOFS. An event of one bay changes no other bay's context (chapter 1). -/

namespace Sys2Proof.Proofs

open Sys2Proof Sys2Proof.Machine Sys2Proof.Laws

/-- An event of bay b answers a state in which every other bay has its context. -/
def KeepsPeers (c : Instr) (s : State) (b : BayNo) : Prop := ∃ t, exec c s = .next t ∧ t.peers b = s.peers b

section
variable {c : Instr} {s t : State} {b : BayNo}

theorem KeepsPeers.next (e : exec c s = .next t) (h : t.peers b = s.peers b) : KeepsPeers c s b := ⟨t, e, h⟩

theorem KeepsPeers.done (e : exec c s = Machine.done s t) (h : t.peers b = s.peers b) : KeepsPeers c s b :=
  ⟨s.reseal t, e, h⟩

theorem takeSection_peers {α : Type} (f : ReplySection → Option α) {act : BayNo → α → State → State} (s : State)
    (h : ∀ b x u, (act b x u).peers b = u.peers b) :
    (takeSection f act s).peers s.bus.inboxBay = s.peers s.bus.inboxBay := by
  unfold takeSection
  split
  · split
    · exact h _ _ _
    · rfl
  · rfl

/-- A section handed on is an event of the inbox's bay. -/
theorem KeepsPeers.handsOn {α : Type} {f : ReplySection → Option α} {act : BayNo → α → State → State}
    (e : exec c s = Machine.done s (takeSection f act s)) (h : ∀ b x u, (act b x u).peers b = u.peers b) :
    KeepsPeers c s s.bus.inboxBay :=
  .done e (takeSection_peers f s h)

theorem ite_peers {p : Prop} [Decidable p] (h : t.peers b = s.peers b) : (if p then t else s).peers b = s.peers b := by
  split
  · exact h
  · rfl

theorem whenUp_peers (h : t.peers b = s.peers b) : (s.whenUp t).peers b = s.peers b := ite_peers h
end

theorem answerSlot_peers (m : Nat) {act : CardSlot → State → State} (b : BayNo) (s : State)
    (h : ∀ k u, (act k u).peers b = u.peers b) : (answerSlot m act b s).peers b = s.peers b := by
  unfold answerSlot
  split
  · exact ite_peers ((h _ _).trans (emptySlot_peers b s b))
  · rfl

theorem goodReply_peers (x : BusExchange) (r : BusReply) (s : State) :
    (goodReply x r s).peers x.poll.bay = s.peers x.poll.bay := by
  simp [goodReply]

theorem exec_keepsPeers (c : Instr) (s : State) (b : BayNo) (h : s.eventBay c = some b) : KeepsPeers c s b := by
  cases c
  case cardCommandTimeout =>
    cases h
    refine .done rfl ?_
    split
    · split
      · exact ite_peers (by simp)
      · rfl
    · rfl
  case presentationLimitExpiry =>
    cases h
    refine .done rfl ?_
    split
    · exact ite_peers (by simp)
    · rfl
  case authWaitExpiry =>
    cases h
    refine .done rfl ?_
    split
    · exact ite_peers (by simp)
    · rfl
  case contextTimeout =>
    cases h
    refine .done rfl ?_
    split
    · exact ite_peers (by simp)
    · rfl
  case coinLineChange =>
    cases h
    refine .next rfl ?_
    split
    · rfl
    · simp
  case filteredFallingEdge => cases h; exact .next rfl (whenUp_peers (ite_peers (by simp)))
  case filteredRisingEdge => cases h; exact .next rfl (whenUp_peers (ite_peers (by simp)))
  case trainEnd => cases h; exact .done rfl (ite_peers (by simp))
  case lineStuck =>
    cases h
    refine .done rfl (whenUp_peers ?_)
    split
    · exact ite_peers (by simp)
    · rfl
  case faultEnd =>
    cases h
    refine .done rfl (whenUp_peers ?_)
    split
    · exact ite_peers (by simp)
    · rfl
  case escrowPulseEnd =>
    cases h
    refine .done rfl ?_
    split
    · refine ite_peers ?_
      split <;> simp
    · rfl
  case payoutSense =>
    cases h
    refine .done rfl (whenUp_peers ?_)
    split
    · split <;> simp
    · simp
  case driveTimeout =>
    cases h
    refine .done rfl ?_
    split
    · exact ite_peers (by simp)
    · rfl
  case serviceDoorChange =>
    cases h
    refine .done rfl (whenUp_peers ?_)
    split
    · rfl
    · simp
  case boxDoorChange =>
    cases h
    refine .next rfl (whenUp_peers ?_)
    split
    · rfl
    · simp
  case boxRemoved =>
    cases h
    refine .done rfl (whenUp_peers (ite_peers ?_))
    rw [recomputeMask_peers, joinCause_peers]
    split <;> simp
  case boxInserted =>
    cases h
    refine .done rfl (whenUp_peers ?_)
    split
    · rfl
    · rw [leaveCause_peers]
      split <;> simp
  case noProgressLimit => cases h; exact .done rfl (ite_peers (by simp))
  case select => cases h; exact .handsOn rfl fun b q u => select_peers q b u
  case confirm => cases h; exact .handsOn rfl fun b p u => confirm_peers _ _ b u
  case cancel => cases h; exact .handsOn rfl fun b _ u => cancel_peers b u
  case reprint =>
    cases h
    refine .handsOn rfl fun b _ u => ?_
    dsimp only
    split <;> simp
  case cardCommandTaken => cases h; exact .next rfl (takeSection_peers _ s fun b m u => u.modTerm_peers b b _)
  case cardAnswerCard =>
    cases h
    exact .handsOn rfl fun b p u => answerSlot_peers _ b u fun k v => cardRead_peers p.2 b k v
  case cardAnswerNoCard =>
    cases h
    exact .handsOn rfl fun b m u => answerSlot_peers _ b u fun k v => commandExpired_peers k b v
  case writeAnswerOk =>
    cases h
    exact .handsOn rfl fun b p u => answerSlot_peers _ b u fun k v => writeOk_peers p.2 b k v
  case writeAnswerRefused =>
    cases h
    exact .handsOn rfl fun b p u => answerSlot_peers _ b u fun k v => writeNo_peers p.2 b k v
  case printDelivered => cases h; exact .handsOn rfl fun b p u => delivered_peers _ _ b u
  case printerStatus => cases h; exact .handsOn rfl fun b p u => printerStatus_peers _ _ _ b u
  case replyReceived bytes =>
    obtain ⟨x, hx, rfl⟩ := Option.map_eq_some_iff.mp h
    refine .done rfl ?_
    rw [hx]
    dsimp only
    split
    · split
      · exact goodReply_peers x _ s
      · simp
    · simp
  case replyWindowExpiry =>
    obtain ⟨x, hx, rfl⟩ := Option.map_eq_some_iff.mp h
    refine .done rfl ?_
    rw [hx]
    exact ite_peers (by simp)
  case replyGapExpiry =>
    obtain ⟨x, hx, rfl⟩ := Option.map_eq_some_iff.mp h
    refine .done rfl ?_
    rw [hx]
    simp
  all_goals cases h

/-- Settles O5: an event at one bay leaves every other bay's context. -/
theorem eventsKeepOtherContexts : Obligations.EventsKeepOtherContexts := by
  unfold Obligations.EventsKeepOtherContexts
  intro c b s t e h d hd
  obtain ⟨u, eu, hu⟩ := exec_keepsPeers c s b h
  cases eu.symm.trans e
  exact State.ctx_of_peers hu hd

end Sys2Proof.Proofs

/-! PROOFS. The check of the retained area agrees with its items after every step (R205). -/

namespace Sys2Proof.Proofs

open Sys2Proof Sys2Proof.Machine Sys2Proof.Laws

/-! ### What leaves the retained area and its check -/

/-- The retained items and the check stored beside them. -/
def area (s : State) : BitVec 32 × Retained := (s.check, s.retained)

theorem areaGood_of_area {s t : State} (h : area t = area s) (hs : s.areaGood) : t.areaGood := by
  simp only [area, Prod.mk.injEq] at h
  show t.check = t.retained.crc
  rw [h.1, h.2]
  exact hs

/-- An update of a bay that keeps its tubes and its box record. -/
theorem modBay_area (s : State) (b : BayNo) (f : Bay → Bay) (htubes : ∀ y, (f y).tubes = y.tubes)
    (hbox : ∀ y, (f y).box = y.box) : area (s.modBay b f) = area s := by
  have hmap : ∀ {α : Type} (g : Bay → α), (∀ y, g (f y) = g y) → (s.modBay b f).bays.map g = s.bays.map g := by
    intro α g hg
    ext i hi
    simp only [State.modBay, Vector.getElem_map, Vector.getElem_set, Fin.getElem_fin]
    split
    · next e => subst e; exact hg _
    · rfl
  simp only [area, State.retained, hmap _ htubes, hmap _ hbox]
  rfl

theorem modTerm_area (s : State) (b : BayNo) (f : Terminal → Terminal) : area (s.modTerm b f) = area s :=
  modBay_area s b _ (fun _ => rfl) (fun _ => rfl)

/-- The engine and the notices leave the retained items. -/
theorem area_of_beside {s t : State} (hb : beside t = beside s) (hs : t.still = s.still) : area t = area s := by
  simp only [beside, Beside.mk.injEq, State.still, Still.mk.injEq] at hb hs
  obtain ⟨hbays, -, hcard, -, htime, -⟩ := hb
  obtain ⟨-, hcheck, -, -, -, -, -, -, -, -, hacked⟩ := hs
  simp [area, State.retained, hbays, hcard, htime, hcheck, hacked]

theorem journalKick_beside (s : State) : beside (journalKick s) = beside s := by
  simp only [journalKick, settleErase, modJournal_beside, engineTake_beside]

theorem append_beside (r : Append) (s : State) : beside (append r s) = beside s := by
  simp only [append, journalKick_beside, modJournal_beside]

theorem append_area (r : Append) (s : State) : area (append r s) = area s :=
  area_of_beside (append_beside r s) (append_still r s)

theorem performSwitch_area (k : Bank) (s : State) : area (performSwitch k s) = area s :=
  (append_area _ (s.modTariff fun t => { t with active := k })).trans rfl

theorem switchDue_area (s : State) : area (switchDue s) = area s := by
  unfold switchDue
  split
  · refine ite_keeps area ?_ rfl
    dsimp only
    split
    · rfl
    · exact performSwitch_area _ _
  · rfl

theorem bankSwitch_area (k : Bank) (v : Versions) (time : Option (Nat × Nat)) (s : State) :
    area (bankSwitch k v time s).state = area s := by
  unfold bankSwitch
  split
  · rfl
  · exact performSwitch_area k _
  · split
    · split
      · exact performSwitch_area k _
      · rfl
    · rfl

theorem loadError_area (e : LoadError) (p : Option Place) (s : State) : area (loadError e p s) = area s := by
  unfold loadError
  dsimp only
  split <;> rfl

theorem streamData_area (g : Target) (start : Nat) (bytes : List Byte) (s : State) :
    area (streamData g start bytes s).state = area s := by
  unfold streamData
  split
  · rfl
  · split
    · rfl
    · split
      · exact loadError_area _ _ s
      · split
        · exact loadError_area _ _ s
        · rfl

theorem page_area (n : Nat) (data : List Byte) (s : State) : area (page n data s).state = area s := by
  unfold page; split <;> rfl

theorem bayQuery_area (data : State → BayNo → List Byte) (f : Frame) (s : State) :
    area (bayQuery data f s).state = area s := by
  unfold bayQuery
  split
  · split
    · exact page_area _ _ _
    · rfl
  · rfl

theorem unitQuery_area (data : State → List Byte) (f : Frame) (s : State) :
    area (unitQuery data f s).state = area s := by
  unfold unitQuery
  split
  · exact page_area _ _ _
  · rfl

theorem offer_tubes_box (y : Bay) : y.offer.1.tubes = y.tubes ∧ y.offer.1.box = y.box := by
  unfold Bay.offer
  split
  · exact ⟨rfl, rfl⟩
  · split
    · exact ⟨rfl, rfl⟩
    · exact ⟨rfl, rfl⟩

/-- A bay's record replaced by one with the same tubes and box record. -/
theorem setBay_area (s : State) (b : BayNo) {y : Bay} (htubes : y.tubes = (s.bay b).tubes)
    (hbox : y.box = (s.bay b).box) : area (s.modBay b fun _ => y) = area s := by
  have h : (s.modBay b fun _ => y) = s.modBay b fun x => { y with tubes := x.tubes, box := x.box } := by
    unfold State.modBay
    congr 2
    show y = { y with tubes := (s.bay b).tubes, box := (s.bay b).box }
    rw [← htubes, ← hbox]
  rw [h]
  exact modBay_area s b _ (fun _ => rfl) (fun _ => rfl)

theorem rotationPoll_area (b : BayNo) (s : State) : area (rotationPoll b s) = area s := by
  obtain ⟨htubes, hbox⟩ := offer_tubes_box (s.bay b)
  exact setBay_area s b htubes hbox

theorem recoveryPoll_area (b : BayNo) (s : State) : area (recoveryPoll b s) = area s := by
  show area (s.modTerm b fun t => { t.polled false s.now with recoveryStart := some s.now }) = area s
  exact modTerm_area s b _

theorem notify_area (n : Notice) (s : State) : area (notify n s) = area s := rfl

theorem modJournal_area (s : State) {f : Journal → Journal} (h : (f s.journal).acked = s.journal.acked) :
    area (s.modJournal f) = area s :=
  area_of_beside (modJournal_beside s f) (s.modJournal_still f h)

theorem leaveFull_beside (s : State) : beside (leaveFull s) = beside s := by
  unfold leaveFull
  split
  · dsimp only
    rw [notify_beside, journalKick_beside]
    split <;> rfl
  · rfl

theorem eraseSucceeded_area (e : Erase) (s : State) : area (eraseSucceeded e s) = area s := by
  refine area_of_beside ?_ (eraseSucceeded_still e s)
  unfold eraseSucceeded
  dsimp only
  rw [leaveFull_beside, notify?_beside, modJournal_beside]

theorem eraseFailed_area (e : Erase) (s : State) : area (eraseFailed e s) = area s := by
  refine area_of_beside ?_ (eraseFailed_still e s)
  unfold eraseFailed
  dsimp only
  split
  · rw [notify_beside, modJournal_beside]
  · rw [modJournal_beside]

/-! ### Each command and the check -/

/-- A command that answers a state with a good check, from a state with one. -/
def KeepsCheck (c : Instr) (s : State) : Prop := ∃ t, exec c s = .next t ∧ (s.areaGood → t.areaGood)

section
variable {c : Instr} {s t : State}

theorem KeepsCheck.done (e : exec c s = Machine.done s t) : KeepsCheck c s :=
  ⟨_, e, fun h => State.reseal_areaGood h t⟩

theorem KeepsCheck.next (e : exec c s = .next t) (h : area t = area s) : KeepsCheck c s :=
  ⟨t, e, areaGood_of_area h⟩

theorem KeepsCheck.frame {isKind : Frame → Bool} {act : Frame → State → Answer}
    (e : exec c s = .next (answerFrame isKind act s)) (h : ∀ f u, area (act f u).state = area u) : KeepsCheck c s :=
  .next e (answerFrame_keeps area (fun _ _ => rfl) isKind act h s)

end

theorem seal_up_areaGood (s : State) : ({ s.seal with up := true } : State).areaGood := rfl

theorem tear_acked (j : Journal) (n : Nat) : (j.tear n).acked = j.acked := by
  unfold Journal.tear
  split
  · exact Journal.modBlock_acked _ _ _
  · rfl

/-- A loss of supply, before start-up has written anything, leaves the retained items (R205). -/
theorem losePower_retained (env : StartUp) (s : State) : (losePower env s).retained = s.retained := by
  simp [State.retained, losePower, Journal.losePower, tear_acked, Time.start]

theorem goDark_area (s : State) : area (goDark s) = area s := by
  have h : area (forBays (fun b s => s.modBay b Bay.dark) s) = area s :=
    forBays_keeps area _ (fun b u => modBay_area u b Bay.dark (fun _ => rfl) (fun _ => rfl)) s
  rw [← h]
  rfl

/-- A power-on reset leaves a good check, unless it is cut before its first write and the check read is another. -/
theorem powerOn_areaGood (env : StartUp) (s : State) (hs : s.areaGood) (h : env.cutAfter = some 0 → env.areaCheck = none) :
    (powerOn env s).areaGood := by
  cases hc : env.cutAfter with
  | none =>
    rw [powerOn_whole s hc]
    exact seal_up_areaGood _
  | some n =>
    cases n with
    | zero =>
      rw [powerOn_cut_zero s hc, h hc]
      refine areaGood_of_area (goDark_area _) ?_
      show s.check = (losePower env s).retained.crc
      rw [losePower_retained]
      exact hs
    | succ n =>
      rw [powerOn_cut s n.succ_pos hc]
      exact State.seal_areaGood _

theorem exec_keepsCheck (c : Instr) (s : State)
    (h : ∀ env, c = .powerOnReset env → env.cutAfter = some 0 → env.areaCheck = none) : KeepsCheck c s := by
  cases c
  case powerOnReset env => exact ⟨_, rfl, fun hs => powerOn_areaGood env s hs (h env rfl)⟩
  case frameReceived => exact .next rfl rfl
  case characterReceived => exact .next rfl rfl
  case characterWithoutStopBit => exact .next rfl rfl
  case idleGapExpiry => exact .next rfl (ite_keeps area rfl rfl)
  case frameGapExpiry => exact .next rfl (ite_keeps area rfl rfl)
  case badKind => exact .frame rfl fun _ _ => rfl
  case tableOpen =>
    refine .frame rfl fun f u => ofLength_keeps area _ _ (fun body u => ?_) f u
    split
    · rfl
    · exact refuseOr_keeps area _ _ (fun u => rfl) u
  case tableData =>
    refine .frame rfl fun f u => ite_keeps (fun a : Answer => area a.state) rfl ?_
    split
    · exact streamData_area _ _ _ u
    · rfl
    · rfl
  case loadClear =>
    refine .frame rfl fun f u => ofLength_keeps area _ _ (fun body u => ?_) f u
    unfold accept
    split <;> rfl
  case bankSwitch =>
    refine .frame rfl fun f u => ofLength_keeps area _ _ (fun body u => ?_) f u
    split
    · exact bankSwitch_area _ _ _ u
    · exact bankSwitch_area _ _ _ u
    · rfl
  case scheduledSwitchDue => exact .next rfl (switchDue_area s)
  case denyAdd =>
    refine .frame rfl fun f u => ofLength_keeps area _ _ (fun body u => refuseOr_keeps area _ _ (fun u => ?_) u) f u
    dsimp only
    split
    · rfl
    · split <;> rfl
  case denyRemove =>
    refine .frame rfl fun f u => ofLength_keeps area _ _ (fun body u => refuseOr_keeps area _ _ (fun u => ?_) u) f u
    dsimp only
    split <;> rfl
  case clockSecond => exact .next rfl rfl
  case queryBay => exact .frame rfl (bayQuery_area _)
  case queryTubes => exact .frame rfl (bayQuery_area _)
  case queryBox => exact .frame rfl (bayQuery_area _)
  case queryLoad => exact .frame rfl (unitQuery_area _)
  case queryJournal => exact .frame rfl (unitQuery_area _)
  case queryTear => exact .frame rfl (unitQuery_area _)
  case queryLink => exact .frame rfl (unitQuery_area _)
  case queryIdent => exact .frame rfl (unitQuery_area _)
  case hold =>
    refine .frame rfl fun f u => ?_
    split
    · rfl
    · split
      · dsimp only
        split <;> rfl
      · rfl
  case releaseHold =>
    refine .frame rfl fun f u => ?_
    split
    · rfl
    · split <;> rfl
  case noticeMask => exact .frame rfl (ofLength_keeps area _ _ fun _ _ => rfl)
  case linkReset => exact .frame rfl (ofLength_keeps area _ _ fun _ _ => rfl)
  case pollStart =>
    refine .next rfl ?_
    split
    · exact rotationPoll_area _ s
    · rfl
  case recoveryPollDue =>
    refine .next rfl ?_
    split
    · exact recoveryPoll_area _ s
    · rfl
  case lineHeld =>
    refine .next rfl (ite_keeps area ?_ rfl)
    split <;> rfl
  case breakEnd =>
    refine .next rfl ?_
    split
    · exact ite_keeps area rfl rfl
    · rfl
  case recoveryWaitEnd =>
    refine .next rfl ?_
    split
    · exact ite_keeps area rfl rfl
    · rfl
  case cardCommandTaken =>
    exact .next rfl (takeSection_keeps area (fun _ _ => rfl) _ _
      (fun b m u => modTerm_area u b _) s)
  case coinLineChange bay high =>
    exact .next rfl (ite_keeps area rfl (modBay_area s bay _ (fun _ => rfl) (fun _ => rfl)))
  case filteredFallingEdge bay =>
    exact .next rfl (ite_keeps area (ite_keeps area (modBay_area s bay _ (fun _ => rfl) (fun _ => rfl)) rfl) rfl)
  case filteredRisingEdge bay =>
    exact .next rfl (ite_keeps area (ite_keeps area (modBay_area s bay _ (fun _ => rfl) (fun _ => rfl)) rfl) rfl)
  case boxDoorChange bay isOpen =>
    refine .next rfl (ite_keeps area (ite_keeps area rfl ?_) rfl)
    rw [notify_area]
    exact modBay_area s bay _ (fun _ => rfl) (fun _ => rfl)
  case auditSwitchChange => exact .next rfl (ite_keeps area rfl rfl)
  case eraseBegin =>
    refine .next rfl (ite_keeps area ?_ rfl)
    split
    · exact modJournal_area s (Journal.beginErase_acked ..)
    · rfl
  case eraseEnd =>
    refine .next rfl ?_
    split
    · exact ite_keeps area (ite_keeps area (eraseSucceeded_area _ s) (eraseFailed_area _ s)) rfl
    · rfl
  all_goals exact .done rfl

/-- Settles O9: most commands reseal the area, the others leave it and its check, and a power-on reset writes the check
with the items. -/
theorem everyStepKeepsRetainedCheck : Obligations.EveryStepKeepsRetainedCheck := by
  unfold Obligations.EveryStepKeepsRetainedCheck
  intro s t hs henv e
  unfold step at e
  cases hp : s.pending with
  | nil =>
    rw [hp] at e
    cases e
    exact hs
  | cons c rest =>
    rw [hp] at e
    obtain ⟨u, eu, hu⟩ := exec_keepsCheck c { s with pending := rest } fun env hc => henv env (by rw [hp, hc]; rfl)
    cases eu.symm.trans e
    exact hu hs

end Sys2Proof.Proofs

/-! PROOFS. The four invariants of the part hold right after reset. -/

namespace Sys2Proof.Proofs

open Sys2Proof Sys2Proof.Machine Sys2Proof.Laws

theorem reset_bay (b : BayNo) : State.reset.bay b = Bay.reset := by
  simp [State.bay, State.reset]

theorem reset_bayBounded : Bay.reset.Bounded := by
  constructor
  case records => exact fun _ h => absurd h List.not_mem_nil
  all_goals decide

theorem reset_bounded : State.reset.Bounded where
  bays b := by rw [reset_bay]; exact reset_bayBounded
  link := by constructor <;> decide
  journal := by constructor <;> decide
  tears := by decide +kernel
  serials := by decide
  lateReplies := by decide
  abandons := by decide
  denyEdits := by decide
  badReplies := by decide
  recoveries := by decide
  pins := ⟨fun k => by cases k <;> decide +kernel, by decide +kernel⟩

theorem reset_tubesHold : State.reset.TubesHold where
  settings := by decide +kernel
  levels := by decide +kernel
  counts := by decide +kernel
  site := by decide +kernel
  stream _ h := absurd h (by decide)

theorem reset_placesSuffice : State.reset.PlacesSuffice where
  cardWork b := by
    rw [reset_bay]
    exact ⟨fun h => absurd h (by decide), fun h => absurd rfl h, fun c h => nomatch h⟩
  auths _ h := absurd h List.not_mem_nil
  oneAuth := List.nodup_nil
  notices _ h := absurd h List.not_mem_nil
  requests _ h := absurd h List.not_mem_nil
  oneRequest := List.nodup_nil

/-- Settles O10: the four invariants, each by the values of the reset state. -/
theorem resetMeetsInvariants : Obligations.ResetMeetsInvariants := by
  unfold Obligations.ResetMeetsInvariants
  exact ⟨reset_bounded, reset_tubesHold, reset_placesSuffice, reset_area_crc.symm⟩

end Sys2Proof.Proofs

/-! PROOFS. Fare arithmetic (R37 to R40). -/

namespace Sys2Proof.Proofs

open Sys2Proof Sys2Proof.Machine Sys2Proof.Laws

/-! ### Saturation, rounding flags and quotients -/

/-- F takes an exact result saturated at 0 and 999,999, with the flag of the bound it passes (R37). -/
theorem take_eq (fare : Fare) (x : Int) :
    fare.take x = ⟨(max 0 (min x 999999)).toNat, { fare.flags with
      clampLow := fare.flags.clampLow || decide (x < 0)
      clampHigh := fare.flags.clampHigh || decide (999999 < x) }⟩ := by
  unfold Fare.take
  rw [show (Config.maxAmount : Int) = 999999 from rfl, show Config.maxAmount = 999999 from rfl]
  split
  case isTrue hneg =>
    have hhigh : ¬ (999999 : Int) < x := by omega
    simp [hneg, hhigh]
    omega
  case isFalse hneg =>
    split
    case isTrue hhigh =>
      simp [hneg, hhigh]
      omega
    case isFalse hhigh =>
      simp [hneg, hhigh]
      omega

/-- A result that is not negative passes the upper bound alone. -/
theorem take_nat (fare : Fare) (q : Nat) :
    fare.take (q : Int) = ⟨min q 999999, { fare.flags with
      clampHigh := fare.flags.clampHigh || decide (999999 < q) }⟩ := by
  have hneg : ¬ (q : Int) < 0 := by omega
  rw [take_eq]
  simp only [hneg, decide_false, Bool.or_false]
  congr 1
  · omega
  · simp only [EvalFlags.mk.injEq, true_and, and_true]
    congr 2
    exact propext (by omega)

theorem take_le (fare : Fare) (x : Int) : (fare.take x).f ≤ 999999 := by
  rw [take_eq]
  dsimp only
  omega

theorem mark_eq (fare : Fare) (rounded : Bool) :
    fare.mark rounded = ⟨fare.f, { fare.flags with rounded := fare.flags.rounded || rounded }⟩ := by
  cases rounded <;> simp [Fare.mark]

theorem percentOf_down (x : Nat) : 10000 * percentOf .down x ≤ x ∧ x < 10000 * (percentOf .down x + 1) := by
  simp only [percentOf]
  omega

theorem percentOf_up (x : Nat) : x ≤ 10000 * percentOf .up x ∧ 10000 * percentOf .up x < x + 10000 := by
  simp only [percentOf, bit]
  by_cases h : x % 10000 = 0
  · simp only [h, ne_eq, not_true_eq_false, decide_false, Bool.false_eq_true, if_false]
    omega
  · simp only [h, ne_eq, not_false_eq_true, decide_true, if_true]
    omega

theorem percentOf_halfUp (x : Nat) :
    10000 * percentOf .halfUp x ≤ x + 5000 ∧ x + 5000 < 10000 * (percentOf .halfUp x + 1) := by
  simp only [percentOf]
  omega

/-! ### Multiples of a unit -/

section
variable {u : Nat} (f : Nat) (hu : 0 < u)
include hu

/-- The multiple below F and the one above it. -/
theorem unit_bounds : f / u * u ≤ f ∧ f < f / u * u + u ∧ f / u * u + f % u = f ∧ (f / u + 1) * u = f / u * u + u := by
  have hdiv := Nat.div_add_mod f u
  have hmod := Nat.mod_lt f hu
  rw [Nat.mul_comm] at hdiv
  rw [Nat.succ_mul]
  omega

theorem roundTo_down : u ∣ roundTo .down u f ∧ roundTo .down u f ≤ f ∧ f < roundTo .down u f + u := by
  have := unit_bounds f hu
  exact ⟨Nat.dvd_mul_left _ _, by simp only [roundTo]; omega⟩

theorem roundTo_up : u ∣ roundTo .up u f ∧ f ≤ roundTo .up u f ∧ roundTo .up u f < f + u := by
  have := unit_bounds f hu
  simp only [roundTo]
  split
  · exact ⟨Nat.dvd_mul_left _ _, by omega⟩
  · exact ⟨Nat.dvd_mul_left _ _, by omega⟩

theorem roundTo_nearest :
    u ∣ roundTo .nearest u f ∧ 2 * roundTo .nearest u f ≤ 2 * f + u ∧ 2 * f < 2 * roundTo .nearest u f + u := by
  have := unit_bounds f hu
  simp only [roundTo]
  split
  · exact ⟨Nat.dvd_mul_left _ _, by omega⟩
  · exact ⟨Nat.dvd_mul_left _ _, by omega⟩

theorem unit_dvd_roundTo (m : RoundMode) : u ∣ roundTo m u f := by
  cases m with
  | up => exact (roundTo_up f hu).1
  | down => exact (roundTo_down f hu).1
  | nearest => exact (roundTo_nearest f hu).1

end

/-- An entry keeps a fare within 999,999; a FLOOR does where its bound is within it. -/
theorem act_le {e : RuleEntry} (mode : PercentMode) (d : Derived) {fare : Fare} (hf : fare.f ≤ 999999)
    (he : ∀ a, e = .floor a → a ≤ 999999) : (e.act mode d fare).f ≤ 999999 := by
  cases e with
  | base _ | perZone _ | add _ | percent _ | round _ _ => exact take_le _ _
  | cap a =>
    simp only [RuleEntry.act]
    split
    · dsimp only
      omega
    · exact hf
  | floor a =>
    simp only [RuleEntry.act]
    split
    · exact he a rfl
    · exact hf
  | test _ _ _ _ | goto _ | finish => exact hf

/-- Settles O49: an entry's exact result is taken by `take_eq` and marked by `mark_eq`. -/
theorem fareArithmetic : Obligations.FareArithmetic := by
  unfold Obligations.FareArithmetic
  intro mode d f flags hf
  refine ⟨fun a ha => ?_, fun a => take_eq _ _, fun a => take_eq _ _, fun p hp => ?_, fun u m hu => ?_, fun a => ?_,
    fun a => ?_, fun e he => act_le mode d hf he⟩
  case refine_1 =>
    have hhigh : ¬ 999999 < a := by omega
    show Fare.take _ ((a : Nat) : Int) = _
    rw [take_nat, Nat.min_eq_left ha]
    simp [hhigh]
  case refine_2 =>
    refine ⟨percentOf mode (f * (10000 + p).toNat), ?_, ?_, ?_, ?_⟩
    · show Fare.take (Fare.mark _ _) _ = _
      rw [mark_eq, take_nat]
      simp [Nat.dvd_iff_mod_eq_zero]
    · rintro rfl
      exact percentOf_down _
    · rintro rfl
      exact percentOf_up _
    · rintro rfl
      exact percentOf_halfUp _
  case refine_3 =>
    refine ⟨roundTo m u f, ?_, unit_dvd_roundTo f hu m, ?_, ?_, ?_⟩
    · show Fare.take (Fare.mark _ _) _ = _
      rw [mark_eq, take_nat]
    · rintro rfl
      exact (roundTo_down f hu).2
    · rintro rfl
      exact (roundTo_up f hu).2
    · rintro rfl
      exact (roundTo_nearest f hu).2
  case refine_4 =>
    show (if a < f then _ else _) = _
    split
    case isTrue h => simp [h, Nat.min_eq_right h.le]
    case isFalse h => simp [h, Nat.min_eq_left (not_lt.mp h)]
  case refine_5 =>
    show (if f < a then _ else _) = _
    split
    case isTrue h => simp [Nat.max_eq_right h.le]
    case isFalse h => simp [Nat.max_eq_left (not_lt.mp h)]

end Sys2Proof.Proofs

/-! PROOFS. The run of a fare chain and its price (R32 to R36, R41, R42, R47). -/

namespace Sys2Proof.Proofs

open Sys2Proof Sys2Proof.Machine Sys2Proof.Laws

/-! ### The run of a chain -/

/-- The entry at an index of a chain's table. -/
def ruleAt (rules : List (List Byte)) (i : Nat) : Option RuleEntry := rules[i]?.bind decodeRule

/-- An arithmetic entry, CAP or FLOOR: it neither ends nor branches. -/
def Straight (e : RuleEntry) : Prop :=
  e ≠ .finish ∧ (∀ g, e ≠ .goto g) ∧ ∀ f c v n, e ≠ .test f c v n

section
variable {rules : List (List Byte)} {mode : PercentMode} {d : Derived} {steps i : Nat} {fare : Fare}

theorem runChain_no_steps : runChain rules mode d 0 i 0 fare = none := rfl

theorem runChain_past (h : rules.length ≤ i) : runChain rules mode d steps i 0 fare = none := by
  cases steps with
  | zero => rfl
  | succ steps => simp only [runChain, List.getElem?_eq_none h]

/-- A step at an entry that is not skipped. -/
theorem runChain_entry {e : RuleEntry} (h : ruleAt rules i = some e) :
    runChain rules mode d (steps + 1) i 0 fare = match e with
      | .finish => some fare
      | .goto t => runChain rules mode d steps t 0 fare
      | .test f c v n => runChain rules mode d steps (i + 1) (if c.holds (d.get f) v then 0 else n) fare
      | e => runChain rules mode d steps (i + 1) 0 (e.act mode d fare) := by
  obtain ⟨raw, hraw, hdecode⟩ := Option.bind_eq_some_iff.mp h
  simp only [runChain, hraw, hdecode]
  cases e <;> rfl

theorem runChain_straight {e : RuleEntry} (h : ruleAt rules i = some e) (he : Straight e) :
    runChain rules mode d (steps + 1) i 0 fare = runChain rules mode d steps (i + 1) 0 (e.act mode d fare) := by
  obtain ⟨hfinish, hgoto, htest⟩ := he
  rw [runChain_entry h]
  cases e with
  | finish => exact absurd rfl hfinish
  | goto g => exact absurd rfl (hgoto g)
  | test f c v n => exact absurd rfl (htest f c v n)
  | _ => rfl

/-- Entries skipped within the table count a step each (R35). -/
theorem runChain_skip (k : Nat) (h : i + k ≤ rules.length) :
    runChain rules mode d (steps + k) i k fare = runChain rules mode d steps (i + k) 0 fare := by
  induction k generalizing i with
  | zero => rfl
  | succ k ih =>
    have hi : rules[i]? = some rules[i] := List.getElem?_eq_getElem (by omega)
    rw [← Nat.add_assoc, runChain, hi]
    dsimp only
    rw [ih (by omega), Nat.add_assoc i 1 k, Nat.add_comm 1 k]

/-- Straight entries act in their order, a step each (R34). -/
theorem runChain_straights (es : List RuleEntry) (h : ∀ k (hk : k < es.length), ruleAt rules (i + k) = some es[k])
    (hes : ∀ e ∈ es, Straight e) :
    runChain rules mode d (steps + es.length) i 0 fare
      = runChain rules mode d steps (i + es.length) 0 (es.foldl (fun x e => e.act mode d x) fare) := by
  induction es generalizing i fare with
  | nil => rfl
  | cons e es ih =>
    have hhead : ruleAt rules i = some e := h 0 (Nat.zero_lt_succ _)
    have htail : ∀ k (hk : k < es.length), ruleAt rules (i + 1 + k) = some es[k] := by
      intro k hk
      rw [Nat.add_assoc, Nat.add_comm 1 k]
      exact h (k + 1) (Nat.succ_lt_succ hk)
    rw [List.length_cons, ← Nat.add_assoc, runChain_straight hhead (hes e List.mem_cons_self),
      ih htail fun e he => hes e (List.mem_cons_of_mem _ he), List.foldl_cons, Nat.add_assoc i 1, Nat.add_comm 1]

theorem runChain_test {f : TestField} {c : Comparison} {v n : Nat} (h : ruleAt rules i = some (.test f c v n))
    (hin : i + n < rules.length) :
    runChain rules mode d (steps + 1 + n) i 0 fare
      = if c.holds (d.get f) v then runChain rules mode d (steps + n) (i + 1) 0 fare
        else runChain rules mode d steps (i + 1 + n) 0 fare := by
  rw [Nat.add_right_comm, runChain_entry h]
  dsimp only
  split
  · rfl
  · exact runChain_skip n (by omega)

end

/-! ### The price -/

/-- The price of a fare: the fare itself for a top-up, and else the fare times the quantity, saturated (R41, R42). -/
theorem finalPrice_eq (kind : ProductKind) (qty : Nat) (fare : Fare) :
    finalPrice kind qty fare =
      let sum := if kind = .topup then fare.f else fare.f * qty
      let price := if kind = .topup then sum else min sum 999999
      (price, { fare.flags with
        clampHigh := fare.flags.clampHigh || decide (kind ≠ .topup ∧ 999999 < sum)
        zero := decide (price = 0) }) := by
  unfold finalPrice
  split
  case isTrue h => simp [h]
  case isFalse h => rw [take_nat]; simp [h]

section
variable {t : BankTables} {r : PriceRequest} {p : Product} (hp : t.findProduct r.product = some p)
include hp

theorem evaluate_runaway
    (h : runChain t.rule.entries t.mode (t.derive p r) 64 p.chainStart 0 ⟨(t.derive p r).amount, .empty⟩ = none) :
    t.evaluate r = .runaway := by
  simp only [BankTables.evaluate, hp, show Config.chainSteps = 64 from rfl, h]

theorem evaluate_fare {fare : Fare}
    (h : runChain t.rule.entries t.mode (t.derive p r) 64 p.chainStart 0 ⟨(t.derive p r).amount, .empty⟩ = some fare) :
    t.evaluate r = if p.kind = .passOnCard then
        (passPlanOf p r).elim .noSlot fun plan =>
          .price (finalPrice p.kind r.quantity fare).1 (finalPrice p.kind r.quantity fare).2 (some plan)
      else .price (finalPrice p.kind r.quantity fare).1 (finalPrice p.kind r.quantity fare).2 none := by
  simp only [BankTables.evaluate, hp, show Config.chainSteps = 64 from rfl, h]
  cases passPlanOf p r <;> rfl

end

/-- Settles O48: `runChain_straights`, `runChain_test` and `runChain_entry` for the run, `finalPrice_eq` for the price. -/
theorem fareChainRunsToPrice : Obligations.FareChainRunsToPrice := by
  unfold Obligations.FareChainRunsToPrice
  refine ⟨fun rules mode d steps i fare => ⟨fun es h hes => runChain_straights es h hes,
    fun f c v n h hin => runChain_test h hin, fun g h => runChain_entry h, fun h => runChain_entry h,
    fun h => runChain_past h, rfl⟩, fun t r p hp => ⟨evaluate_runaway hp, fun fare h => ?_⟩⟩
  have hfare := evaluate_fare hp h
  rw [finalPrice_eq] at hfare
  refine ⟨fun hk => ?_, fun plan hk hplan => ?_, fun hk hplan => ?_⟩
  · rw [hfare, if_neg hk]
  · rw [hfare, if_pos hk, hplan]
    rfl
  · rw [hfare, if_pos hk, hplan]
    rfl

end Sys2Proof.Proofs

/-! PROOFS. The derived fields of a pricing request, and its pass plan (R27 to R30, R43 to R45). -/

namespace Sys2Proof.Proofs

open Sys2Proof Sys2Proof.Machine Sys2Proof.Laws

/-! ### The band of a minute -/

/-- In a rising list the numbers up to m stand in front of those above it. -/
theorem filter_le_of_rising (m : Nat) (l : List Nat) (h : l.Pairwise (· < ·)) :
    (∀ i (hi : i < l.length), i < (l.filter fun x => decide (x ≤ m)).length → l[i] ≤ m)
    ∧ ∀ i (hi : i < l.length), (l.filter fun x => decide (x ≤ m)).length ≤ i → m < l[i] := by
  induction l with
  | nil => exact ⟨nofun, nofun⟩
  | cons a l ih =>
    obtain ⟨hlow, hhigh⟩ := ih (List.Pairwise.of_cons h)
    have habove : ∀ x ∈ l, a < x := fun _ => List.rel_of_pairwise_cons h
    by_cases ha : a ≤ m
    · rw [List.filter_cons_of_pos (by simpa using ha)]
      constructor
      · rintro (_ | i) hi hlt
        · exact ha
        · exact hlow i (Nat.lt_of_succ_lt_succ hi) (Nat.lt_of_succ_lt_succ hlt)
      · rintro (_ | i) hi hle
        · exact absurd hle (Nat.not_succ_le_zero _)
        · exact hhigh i (Nat.lt_of_succ_lt_succ hi) (Nat.le_of_succ_le_succ hle)
    · have hnone : (l.filter fun x => decide (x ≤ m)) = [] := by
        rw [List.filter_eq_nil_iff]
        intro x hx
        have := habove x hx
        simp only [decide_eq_true_eq]
        omega
      rw [List.filter_cons_of_neg (by simpa using ha), hnone]
      constructor
      · intro i hi hlt
        exact absurd hlt (Nat.not_lt_zero i)
      · rintro (_ | i) hi -
        · exact not_le.mp ha
        · have := habove _ (List.getElem_mem (Nat.lt_of_succ_lt_succ hi))
          rw [List.getElem_cons_succ]
          omega

/-- The start of an entry of a CALENDAR table (R27). -/
def calendarStart (t : BankTables) (i : Nat) : Nat := field ((t.calendar.entries[i]?).getD []) 0 2

section
variable {t : BankTables}

/-- The starts of the eight bands. -/
theorem bandStarts_eq (h8 : 8 ≤ t.calendar.entries.length) :
    (t.calendar.entries.take 8).map (fun e => field e 0 2) = (List.range 8).map (calendarStart t) := by
  refine List.ext_getElem (by simp [h8]) fun i hi hi' => ?_
  have hlt : i < t.calendar.entries.length := by
    simp only [List.length_map, List.length_range] at hi'
    omega
  simp [calendarStart, List.getElem?_eq_getElem hlt]

theorem bandOf_spec (h8 : 8 ≤ t.calendar.entries.length) (h0 : calendarStart t 0 = 0)
    (hrise : ∀ i < 7, calendarStart t i < calendarStart t (i + 1)) (m : Nat) :
    t.bandOf m < 8 ∧ calendarStart t (t.bandOf m) ≤ m ∧ (t.bandOf m < 7 → m < calendarStart t (t.bandOf m + 1)) := by
  have hpairs : ((List.range 8).map (calendarStart t)).Pairwise (· < ·) := by
    rw [List.pairwise_map, ← List.isChain_iff_pairwise (R := fun i j => calendarStart t i < calendarStart t j)]
    rw [List.isChain_iff_getElem]
    intro i hi
    simpa using hrise i (by simp at hi; omega)
  obtain ⟨hlow, hhigh⟩ := filter_le_of_rising m _ hpairs
  have hcount : ((t.calendar.entries.take 8).filter fun e => decide (field e 0 2 ≤ m)).length
      = (((List.range 8).map (calendarStart t)).filter fun x => decide (x ≤ m)).length := by
    rw [← bandStarts_eq h8, List.filter_map, List.length_map]
    rfl
  unfold BankTables.bandOf
  rw [hcount]
  generalize hn : (((List.range 8).map (calendarStart t)).filter fun x => decide (x ≤ m)).length = n at hlow hhigh
  have hle : n ≤ 8 := by
    rw [← hn]
    exact (List.length_filter_le _ _).trans (by simp)
  have hpos : 0 < n := by
    by_contra hzero
    have := hhigh 0 (by simp) (by omega)
    simp only [List.getElem_map, List.getElem_range, h0] at this
    omega
  refine ⟨by omega, ?_, fun hlt => ?_⟩
  · have := hlow (n - 1) (by simp; omega) (by omega)
    rwa [List.getElem_map, List.getElem_range] at this
  · have := hhigh (n - 1 + 1) (by simp; omega) (by omega)
    rwa [List.getElem_map, List.getElem_range] at this

/-! ### The day type, and a slot that holds the product -/

theorem holiday_iff (t : BankTables) (day : Nat) :
    ((t.calendar.entries.drop 8).any fun e => decide (field e 0 2 = day)) = true
      ↔ ∃ i, 8 ≤ i ∧ i < t.calendar.entries.length ∧ calendarStart t i = day := by
  simp only [List.any_eq_true, decide_eq_true_eq, List.mem_iff_getElem, calendarStart]
  constructor
  · rintro ⟨e, ⟨i, hi, rfl⟩, hday⟩
    rw [List.length_drop] at hi
    refine ⟨8 + i, by omega, by omega, ?_⟩
    rw [List.getElem?_eq_getElem (by omega)]
    simpa using hday
  · rintro ⟨i, h8, hi, hday⟩
    rw [List.getElem?_eq_getElem hi] at hday
    refine ⟨_, ⟨i - 8, by rw [List.length_drop]; omega, rfl⟩, ?_⟩
    simpa [show 8 + (i - 8) = i by omega] using hday

theorem dayTypeOf_holiday {day : Nat}
    (h : ∃ i, 8 ≤ i ∧ i < t.calendar.entries.length ∧ calendarStart t i = day) : t.dayTypeOf day = 2 := by
  rw [BankTables.dayTypeOf, if_pos ((holiday_iff t day).mpr h)]

theorem dayTypeOf_weekday {day : Nat}
    (h : ∀ i, 8 ≤ i → i < t.calendar.entries.length → calendarStart t i ≠ day) :
    t.dayTypeOf day = if day % 7 ≤ 4 then 0 else if day % 7 = 5 then 1 else 2 := by
  rw [BankTables.dayTypeOf, if_neg fun hday => ?_]
  obtain ⟨i, h8, hi, heq⟩ := (holiday_iff t day).mp hday
  exact h i h8 hi heq

end

/-- A slot renews the product: it holds it to today or later (R30, R43). -/
def Renews (v : Vector (Option PassSlot) 4) (product today : Nat) (i : Nat) (x : PassSlot) : Prop :=
  v.toList.getD i none = some x ∧ x.product = product ∧ today ≤ x.validTo

theorem toList_getD (v : Vector (Option PassSlot) 4) (i : Fin 4) : v.toList.getD i.val none = v[i] := by
  simp [List.getD_eq_getElem?_getD]

theorem renewable_iff (product today : Nat) (o : Option PassSlot) :
    renewable product today o = true ↔ ∃ x, o = some x ∧ x.product = product ∧ today ≤ x.validTo := by
  cases o <;> simp [renewable]

theorem ranOut_iff (today : Nat) (o : Option PassSlot) :
    (o.any fun x => decide (x.validTo < today)) = true ↔ ∃ x, o = some x ∧ x.validTo < today := by
  cases o <;> simp

theorem holds_iff (r : PriceRequest) :
    r.holds = 1 ↔ ∃ v, r.slots = some v
      ∧ ∃ i : Fin 4, ∃ x, v[i] = some x ∧ x.product = r.product ∧ r.openTime.day ≤ x.validTo := by
  unfold PriceRequest.holds
  cases r.slots with
  | none => simp
  | some v =>
    have hany : v.toList.any (renewable r.product r.openTime.day) = true
        ↔ ∃ i : Fin 4, ∃ x, v[i] = some x ∧ x.product = r.product ∧ r.openTime.day ≤ x.validTo := by
      simp only [List.any_eq_true, renewable_iff, List.mem_iff_getElem]
      constructor
      · rintro ⟨o, ⟨i, hi, rfl⟩, x, hx⟩
        exact ⟨⟨i, by simpa using hi⟩, x, by simpa using hx⟩
      · rintro ⟨i, x, hx⟩
        exact ⟨v[i], ⟨i, by simp, by simp⟩, x, hx⟩
    simp only [Option.some.injEq, exists_eq_left', ← hany, bit]
    cases v.toList.any (renewable r.product r.openTime.day) <;> simp

theorem holds_le_one (r : PriceRequest) : r.holds ≤ 1 := by
  unfold PriceRequest.holds bit
  split
  · split <;> omega
  · omega

/-! ### The slot of a pass plan -/

/-- Of the slots looked at, the renewable one that lasts longest, the lowest of equals, or none (R43). -/
def BestOf (v : Vector (Option PassSlot) 4) (product today : Nat) (is : List Nat) (best : Option (Nat × PassSlot)) : Prop :=
  (∀ i p, best = some (i, p) → i ∈ is ∧ Renews v product today i p ∧ ∀ j ∈ is, ∀ q, Renews v product today j q →
      q.validTo ≤ p.validTo ∧ (q.validTo = p.validTo → i ≤ j))
  ∧ (best = none → ∀ j ∈ is, ∀ q, ¬ Renews v product today j q)

section
variable {v : Vector (Option PassSlot) 4} {product today : Nat}

/-- One more slot, behind those looked at. -/
theorem laterSlot_best {is : List Nat} {best : Option (Nat × PassSlot)} (k : Nat) (hk : ∀ i ∈ is, i < k)
    (h : BestOf v product today is best) :
    BestOf v product today (is ++ [k]) (laterSlot v product today best k) := by
  obtain ⟨hsome, hnone⟩ := h
  have hkeep : (∀ q, ¬ Renews v product today k q) → BestOf v product today (is ++ [k]) best := by
    intro hout
    refine ⟨fun i p hp => ?_, fun hn j hj q hq => ?_⟩
    · obtain ⟨hmem, hrenews, hmax⟩ := hsome i p hp
      refine ⟨List.mem_append_left _ hmem, hrenews, fun j hj q hq => ?_⟩
      rcases List.mem_append.mp hj with hj | hj
      · exact hmax j hj q hq
      · rw [List.mem_singleton.mp hj] at hq
        exact absurd hq (hout q)
    · rcases List.mem_append.mp hj with hj | hj
      · exact hnone hn j hj q hq
      · rw [List.mem_singleton.mp hj] at hq
        exact hout q hq
  unfold laterSlot
  split
  case h_2 heq =>
    refine hkeep fun q hq => ?_
    rw [hq.1] at heq
    cases heq
  case h_1 p heq =>
    have hone : ∀ q, Renews v product today k q → q = p := fun q hq => Option.some.inj (hq.1.symm.trans heq)
    split
    case isFalse hp =>
      refine hkeep fun q hq => hp ?_
      rw [← hone q hq]
      exact hq.2
    case isTrue hp =>
      split
      case h_2 =>
        refine ⟨fun i q hq => ?_, nofun⟩
        cases hq
        refine ⟨by simp, ⟨heq, hp⟩, fun j hj q hq => ?_⟩
        rcases List.mem_append.mp hj with hj | hj
        · exact absurd hq (hnone rfl j hj q)
        · rw [List.mem_singleton.mp hj] at hq ⊢
          rw [hone q hq]
          exact ⟨le_rfl, fun _ => le_rfl⟩
      case h_1 i₀ p₀ =>
        obtain ⟨hmem, hrenews, hmax⟩ := hsome i₀ p₀ rfl
        split
        case isTrue hlt =>
          refine ⟨fun i q hq => ?_, nofun⟩
          cases hq
          refine ⟨by simp, ⟨heq, hp⟩, fun j hj q hq => ?_⟩
          rcases List.mem_append.mp hj with hj | hj
          · have := (hmax j hj q hq).1
            exact ⟨by omega, by omega⟩
          · rw [List.mem_singleton.mp hj] at hq ⊢
            rw [hone q hq]
            exact ⟨le_rfl, fun _ => le_rfl⟩
        case isFalse hge =>
          refine ⟨fun i q hq => ?_, nofun⟩
          cases hq
          refine ⟨List.mem_append_left _ hmem, hrenews, fun j hj q hq => ?_⟩
          rcases List.mem_append.mp hj with hj | hj
          · exact hmax j hj q hq
          · rw [List.mem_singleton.mp hj] at hq ⊢
            rw [hone q hq]
            exact ⟨not_lt.mp hge, fun _ => (hk _ hmem).le⟩

theorem foldl_laterSlot_best :
    BestOf v product today [0, 1, 2, 3] ([0, 1, 2, 3].foldl (laterSlot v product today) none) := by
  have hempty : BestOf v product today [] none := ⟨nofun, fun _ => nofun⟩
  exact laterSlot_best 3 (by simp) (laterSlot_best 2 (by simp) (laterSlot_best 1 (by simp)
    (laterSlot_best 0 (by simp) hempty)))

/-- The best renewable slot is renewed from the day after (R43). -/
theorem chooseSlot_of_renews {i : Fin 4} {x : PassSlot} (h : Renews v product today i x)
    (hbest : ∀ (j : Fin 4) y, Renews v product today j y → y.validTo ≤ x.validTo ∧ (y.validTo = x.validTo → i ≤ j)) :
    chooseSlot v product today = some (i.val, x.validTo + 1) := by
  have hmem : ∀ j : Fin 4, j.val ∈ [0, 1, 2, 3] := by decide
  obtain ⟨hsome, hnone⟩ := foldl_laterSlot_best (v := v) (product := product) (today := today)
  unfold chooseSlot
  split
  case h_1 j q heq =>
    obtain ⟨hj, hrenews, hmax⟩ := hsome j q heq
    have hj4 : j < 4 := by simp at hj; omega
    obtain ⟨hle, htie⟩ := hmax i (hmem i) x h
    obtain ⟨hle', htie'⟩ := hbest ⟨j, hj4⟩ q hrenews
    have hval : q.validTo = x.validTo := by omega
    have hij : j = i.val := Nat.le_antisymm (htie hval.symm) (htie' hval)
    rw [hij, hval]
  case h_2 heq => exact absurd h (hnone heq i (hmem i) x)

/-- The slots that have run out, by `Option.any`. -/
theorem find?_ranOut {is : List Nat} {o : Option Nat} {p : Nat → Bool}
    (hp : ∀ i, p i = (v.toList.getD i none).any fun x => decide (x.validTo < today)) (h : is.find? p = o) :
    is.find? (fun i => (v.toList.getD i none).any fun x => decide (x.validTo < today)) = o := by
  rw [← funext hp, h]

/-- With no slot to renew, the lowest empty one is taken, and else the lowest one that has run out (R43). -/
theorem chooseSlot_of_none (h : ∀ (i : Fin 4) x, ¬ Renews v product today i x) :
    chooseSlot v product today =
      (([0, 1, 2, 3].find? fun i => (v.toList.getD i none).isNone).or
        ([0, 1, 2, 3].find? fun i => (v.toList.getD i none).any fun x => decide (x.validTo < today))).map (·, today) := by
  obtain ⟨hsome, -⟩ := foldl_laterSlot_best (v := v) (product := product) (today := today)
  unfold chooseSlot
  split
  case h_1 j q heq =>
    obtain ⟨hj, hrenews, -⟩ := hsome j q heq
    have hj4 : j < 4 := by simp at hj; omega
    exact absurd hrenews (h ⟨j, hj4⟩ q)
  case h_2 =>
    split
    case h_1 heq => rw [heq]; rfl
    case h_2 heq =>
      rw [heq, Option.none_or]
      split
      case h_1 i heq' =>
        rw [find?_ranOut (fun i => by cases v.toList.getD i none <;> rfl) heq']
        rfl
      case h_2 heq' =>
        rw [find?_ranOut (fun i => by cases v.toList.getD i none <;> rfl) heq']
        rfl

theorem find?_lowest {p : Nat → Bool} {i : Fin 4} (hi : p i = true) (hmin : ∀ j : Fin 4, p j = true → i ≤ j) :
    [0, 1, 2, 3].find? p = some i.val := by
  refine (List.find?_range_eq_some (n := 4)).mpr ⟨hi, List.mem_range.mpr i.isLt, fun j hj => ?_⟩
  rw [Bool.not_eq_true', ← Bool.not_eq_true]
  intro hp
  have := hmin ⟨j, by omega⟩ hp
  exact absurd hj (not_lt.mpr this)

theorem find?_none {p : Nat → Bool} (h : ∀ j : Fin 4, p j = false) : [0, 1, 2, 3].find? p = none :=
  (List.find?_range_eq_none (n := 4)).mpr fun j hj => by simpa using h ⟨j, hj⟩

end

/-- The period of a plan for a slot and a start (R44). -/
theorem passPlanOf_some {p : Product} {r : PriceRequest} {v : Vector (Option PassSlot) 4} (hv : r.slots = some v)
    {i start : Nat} (h : chooseSlot v r.product r.openTime.day = some (i, start)) :
    passPlanOf p r = some ⟨i, min start 65535,
      min (start + (if p.validity = 0 then 1 else p.validity) * r.quantity - 1) 65535⟩ := by
  simp only [passPlanOf, hv, Option.getD_some, h]
  rfl

theorem passPlanOf_none {p : Product} {r : PriceRequest} {v : Vector (Option PassSlot) 4} (hv : r.slots = some v)
    (h : chooseSlot v r.product r.openTime.day = none) : passPlanOf p r = none := by
  simp only [passPlanOf, hv, Option.getD_some, h]

/-- Settles O50: `bandOf_spec` and `holds_iff` for the derived fields, `chooseSlot_of_renews` and `chooseSlot_of_none` for
the slot of a plan. -/
theorem derivedFieldsAndPassPlans : Obligations.DerivedFieldsAndPassPlans := by
  unfold Obligations.DerivedFieldsAndPassPlans
  refine ⟨fun t p r => ⟨rfl, rfl, ?method, rfl, fun hz => ?plain, fun o e hz ho he => ?rings,
    fun h8 h0 hrise => bandOf_spec h8 h0 hrise _, dayTypeOf_holiday, dayTypeOf_weekday, holds_iff r, holds_le_one r⟩,
    fun p r v hv => ⟨fun i x hx hbest => ?renewed, fun hnone => ?fresh⟩, fun p today hday => ?printed⟩
  case method => cases h : r.method <;> simp [BankTables.derive, Method.toNat, h]
  case plain => simp [BankTables.derive, BankTables.zonesOf, hz]
  case rings =>
    simp only [BankTables.derive, BankTables.zonesOf, hz, ho, he, Option.getD_some, absDiff, if_true]
    omega
  case renewed =>
    refine passPlanOf_some hv (chooseSlot_of_renews ?_ fun j y hy => hbest j y ?_)
    · rwa [Renews, toList_getD]
    · rwa [Renews, toList_getD] at hy
  case fresh =>
    have hchoose := chooseSlot_of_none (v := v) (product := r.product) (today := r.openTime.day) fun i x hx =>
      hnone i x (by rwa [Renews, toList_getD] at hx)
    refine ⟨fun i hi hmin => ?_, fun hfull => ?_⟩
    · rw [find?_lowest (i := i) (by rw [toList_getD]; simpa using hi) fun j hj => hmin j (by
        rw [toList_getD] at hj; simpa using hj)] at hchoose
      exact passPlanOf_some hv hchoose
    · have hnoneEmpty : ∀ j : Fin 4, (v.toList.getD j.val none).isNone = false := fun j => by
        rw [toList_getD]
        exact Option.isNone_eq_false_iff.mpr (Option.isSome_iff_ne_none.mpr (hfull j))
      rw [find?_none hnoneEmpty, Option.none_or] at hchoose
      refine ⟨fun i hi hmin => ?_, fun hlast => ?_⟩
      · rw [find?_lowest (i := i) (by rw [toList_getD, ranOut_iff]; exact hi) fun j hj => hmin j (by
          rwa [toList_getD, ranOut_iff] at hj)] at hchoose
        exact passPlanOf_some hv hchoose
      · rw [find?_none fun j => by rw [toList_getD]; exact Bool.eq_false_iff.mpr (mt (ranOut_iff _ _).mp (hlast j))] at hchoose
        exact passPlanOf_none hv hchoose
  case printed => exact Prod.ext (Nat.min_eq_left hday) rfl

end Sys2Proof.Proofs

/-! PROOFS. Frames whose answer changes the port alone: refusals, NOTICE_MASK and queries; and SET_TIME (R180, R181, R187,
R204). -/

namespace Sys2Proof.Proofs

open Sys2Proof Sys2Proof.Machine Sys2Proof.Laws

/-! ### Answers of the port alone -/

/-- A command answers frame f with a status and data, and changes nothing but the port. -/
def PortReply (out : Out) (s : State) (f : Frame) (status : Code) (data : List Byte) : Prop :=
  ∃ t, out = .next t ∧ t = { s with link := t.link } ∧ Replied s t f status data

section
variable {s : State} {f : Frame} {isKind : Frame → Bool} {act : Frame → State → Answer} {out : Out}

/-- An answer whose owner has changed nothing stands in the reply queue alone. -/
theorem replied_of_unchanged (s : State) (f : Frame) (status : Code) (data : List Byte) :
    Replied s (answer f ⟨dropHead s, status, data, .nothing⟩) f status data :=
  ⟨by rw [answer_rxBuffer]; rfl, by rw [answer_replies]; rfl⟩

theorem portReply_next {status : Code} {data : List Byte} (hnext : s.TakesNext f) (hk : isKind f = true)
    (ha : act f (dropHead s) = ⟨dropHead s, status, data, .nothing⟩) (he : out = .next (answerFrame isKind act s)) :
    PortReply out s f status data := by
  rw [he, answerFrame_eq act hnext hk, ha]
  exact ⟨_, rfl, rfl, replied_of_unchanged s f status data⟩

/-- With the retained items and the check kept, no check is written. -/
theorem reseal_of_retained {s t : State} (h : t.retained = s.retained) (hc : t.check = s.check) : s.reseal t = t := by
  rw [State.reseal, if_pos h, ← hc]

theorem reseal_of_link (s : State) (l : Link) : s.reseal { s with link := l } = { s with link := l } :=
  reseal_of_retained rfl rfl

theorem portReply_done {status : Code} {data : List Byte} (hnext : s.TakesNext f) (hk : isKind f = true)
    (ha : act f (dropHead s) = ⟨dropHead s, status, data, .nothing⟩)
    (he : out = Machine.done s (answerFrame isKind act s)) : PortReply out s f status data := by
  refine portReply_next (isKind := isKind) (act := act) hnext hk ha ?_
  rw [he, answerFrame_eq act hnext hk, ha]
  exact congrArg _ (reseal_of_link s _)

theorem ofLength_bad {n : Nat} {act : List Byte → State → Answer} (h : f.body.length ≠ n) (s : State) :
    ofLength n act f s = refusal .badRequest s := if_neg h

theorem ofLength_good {n : Nat} {act : List Byte → State → Answer} (h : f.body.length = n) (s : State) :
    ofLength n act f s = act f.body s := if_pos h

theorem frame_is {k : Byte} (hk : f.kind = k) : Frame.is k.toNat f = true := by
  rw [Frame.is, hk, beq_self_eq_true]

theorem queries_of_length {n : Nat} (hk : f.kind = 0x21#8) (h : f.body.length ≠ 3) : f.queries n = true := by
  simp [Frame.queries, show f.is kQuery = true from frame_is hk, h]

theorem controls_of_length {n : Nat} (hk : f.kind = 0x22#8) (h : f.body.length ≠ 2) : f.controls n = true := by
  simp [Frame.controls, show f.is kBayControl = true from frame_is hk, h]

end

/-! ### Malformed frames (R180) -/

theorem badLength_refused (c : Instr) (k : Byte) (n : Nat)
    (h : (c, k, n) ∈ [(Instr.tableOpen, 0x10#8, 7), (.tableClose, 0x12#8, 4), (.loadClear, 0x13#8, 0),
      (.bankSwitch, 0x14#8, 18), (.denyAdd, 0x15#8, 4), (.denyRemove, 0x16#8, 4), (.setTime, 0x20#8, 5),
      (.queryBay, 0x21#8, 3), (.bayControlReset, 0x22#8, 2), (.tubeSet, 0x23#8, 4), (.noticeMask, 0x26#8, 2),
      (.linkReset, 0x27#8, 0)])
    (s : State) (f : Frame) (hnext : s.TakesNext f) (hk : f.kind = k) (hlen : f.body.length ≠ n) :
    PortReply (exec c s) s f .badRequest [] := by
  simp only [List.mem_cons, Prod.mk.injEq, List.not_mem_nil, or_false] at h
  rcases h with ⟨rfl, rfl, rfl⟩ | ⟨rfl, rfl, rfl⟩ | ⟨rfl, rfl, rfl⟩ | ⟨rfl, rfl, rfl⟩ | ⟨rfl, rfl, rfl⟩ | ⟨rfl, rfl, rfl⟩
    | ⟨rfl, rfl, rfl⟩ | ⟨rfl, rfl, rfl⟩ | ⟨rfl, rfl, rfl⟩ | ⟨rfl, rfl, rfl⟩ | ⟨rfl, rfl, rfl⟩ | ⟨rfl, rfl, rfl⟩
  · exact portReply_next hnext (frame_is hk) (ofLength_bad hlen _) rfl
  · exact portReply_done hnext (frame_is hk) (ofLength_bad hlen _) rfl
  · exact portReply_next hnext (frame_is hk) (ofLength_bad hlen _) rfl
  · exact portReply_next hnext (frame_is hk) (ofLength_bad hlen _) rfl
  · exact portReply_next hnext (frame_is hk) (ofLength_bad hlen _) rfl
  · exact portReply_next hnext (frame_is hk) (ofLength_bad hlen _) rfl
  · exact portReply_done hnext (frame_is hk) (ofLength_bad hlen _) rfl
  · exact portReply_next hnext (queries_of_length hk hlen) (if_neg fun hb => hlen hb.1) rfl
  · exact portReply_done hnext (controls_of_length hk hlen) (if_neg fun hb => hlen hb.1) rfl
  · exact portReply_done hnext (frame_is hk) (ofLength_bad hlen _) rfl
  · exact portReply_next hnext (frame_is hk) (ofLength_bad hlen _) rfl
  · exact portReply_next hnext (frame_is hk) (ofLength_bad hlen _) rfl

/-- A malformed frame without an answer is dropped and counted (R180). -/
theorem formatError_done {s : State} {f : Frame} {isKind : Frame → Bool} {act : Frame → State → State} {out : Out}
    (h : s.link.rxBuffer.head? = some f) (hk : isKind f = true) (ha : act f (dropHead s) = formatError (dropHead s))
    (he : out = Machine.done s (takeFrame isKind act s)) :
    out = .next { s with link := { s.link with
      rxBuffer := s.link.rxBuffer.drop 1
      counters := { s.link.counters with formatError := min (s.link.counters.formatError + 1) 65535 } } } := by
  rw [he, takeFrame_eq act h hk, ha]
  exact congrArg _ (reseal_of_link s _)

theorem badLength_dropped (c : Instr) (k : Byte) (n : Nat)
    (h : (c, k, n) ∈ [(Instr.heartbeat, 0x01#8, 1), (.ack, 0x02#8, 4), (.authReply, 0x03#8, 7)])
    (s : State) (f : Frame) (hnext : s.link.rxBuffer.head? = some f) (hk : f.kind = k) (hlen : f.body.length ≠ n) :
    exec c s = .next { s with link := { s.link with
      rxBuffer := s.link.rxBuffer.drop 1
      counters := { s.link.counters with formatError := min (s.link.counters.formatError + 1) 65535 } } } := by
  simp only [List.mem_cons, Prod.mk.injEq, List.not_mem_nil, or_false] at h
  rcases h with ⟨rfl, rfl, rfl⟩ | ⟨rfl, rfl, rfl⟩ | ⟨rfl, rfl, rfl⟩
  · refine formatError_done hnext (frame_is hk) ?_ rfl
    split
    next hbody => exact absurd (congrArg List.length hbody) hlen
    next => rfl
  · exact formatError_done hnext (frame_is hk) (if_neg hlen) rfl
  · exact formatError_done hnext (frame_is hk) (if_neg fun hb => hlen hb.1) rfl

theorem field_byte (x : Byte) (xs : List Byte) : field (x :: xs) 0 1 = x.toNat := by
  simp [field, beNat]

theorem field_second_byte (x y : Byte) (xs : List Byte) : field (x :: y :: xs) 1 1 = y.toNat := by
  simp [field, beNat]

theorem field_third_byte (x y z : Byte) (xs : List Byte) : field (x :: y :: z :: xs) 2 1 = z.toNat := by
  simp [field, beNat]

/-- Settles O21: by the kind of the frame, each row's checks before its owner's rule. -/
theorem malformedFramesRefused : Obligations.MalformedFramesRefused := by
  unfold Obligations.MalformedFramesRefused
  refine ⟨badLength_refused, badLength_dropped, fun s f p h hk hbody hp => ?phase, fun s f hnext =>
    ⟨fun hk => ?kind, fun x y z hk hbody hx => ?query, fun x y hk hbody hy => ?control⟩⟩
  case phase =>
    refine formatError_done h (frame_is hk) ?_ rfl
    rw [hbody]
    exact if_neg (by omega)
  case kind => exact portReply_next hnext (by simpa using hk) rfl rfl
  case query =>
    have hcode : field f.body 0 1 = x.toNat := by rw [hbody, field_byte]
    refine portReply_next hnext ?_ (if_neg fun hb => ?_) rfl
    · simp [Frame.queries, show f.is kQuery = true from frame_is hk, hcode, hx]
    · omega
  case control =>
    have hcode : field f.body 1 1 = y.toNat := by rw [hbody, field_second_byte]
    refine portReply_done hnext ?_ (if_neg fun hb => ?_) rfl
    · simp [Frame.controls, show f.is kBayControl = true from frame_is hk, hcode, hy]
    · omega

/-! ### Queries (R181) -/

theorem page_refused {n : Nat} {data : List Byte} (h : pageCount data ≤ n) (s : State) :
    page n data s = ⟨s, .noPage, [], .nothing⟩ := if_pos h

theorem page_given {n : Nat} {data : List Byte} (h : n < pageCount data) (s : State) :
    page n data s
      = ⟨s, .accepted, beBytes 1 n ++ beBytes 1 (pageCount data) ++ (data.drop (n * 237)).take 237, .nothing⟩ :=
  if_neg (by omega)

/-- A page of the data that act forms, as the statement has it. -/
theorem page_portReply {s : State} {f : Frame} {isKind : Frame → Bool} {act : Frame → State → Answer} {out : Out}
    {n : Nat} {d : List Byte} (hnext : s.TakesNext f) (hk : isKind f = true)
    (ha : act f (dropHead s) = page n d (dropHead s)) (he : out = .next (answerFrame isKind act s)) :
    ∃ t, out = .next t ∧ t = { s with link := t.link }
      ∧ (n < pageCount d → Replied s t f .accepted
          (beBytes 1 n ++ beBytes 1 (pageCount d) ++ (d.drop (n * 237)).take 237))
      ∧ (pageCount d ≤ n → Replied s t f .noPage []) := by
  rcases Nat.lt_or_ge n (pageCount d) with hin | hout
  · rw [page_given hin] at ha
    obtain ⟨t, hout, ht, hreply⟩ := portReply_next hnext hk ha he
    exact ⟨t, hout, ht, fun _ => hreply, fun h => by omega⟩
  · rw [page_refused hout] at ha
    obtain ⟨t, hnextState, ht, hreply⟩ := portReply_next hnext hk ha he
    exact ⟨t, hnextState, ht, fun h => by omega, fun _ => hreply⟩

theorem bayOf_val (b : BayNo) : bayOf b.val = some b := dif_pos b.isLt

theorem bayOf_high {n : Nat} (h : 7 < n) : bayOf n = none := dif_neg (by omega)

section
variable {f : Frame} {n x p : Byte} (hbody : f.body = [n, x, p])
include hbody

theorem queries_of_target (hk : f.kind = 0x21#8) : f.queries n.toNat = true := by
  simp [Frame.queries, show f.is kQuery = true from frame_is hk, hbody, field_byte]

theorem bayQuery_page (data : State → BayNo → List Byte) {b : BayNo} (hn : n.toNat ≤ 7) (hx : x.toNat = b.val) (s : State) :
    bayQuery data f s = page p.toNat (data s b) s := by
  rw [bayQuery, if_pos (by simpa [hbody, field_byte] using hn), hbody, field_second_byte, field_third_byte, hx, bayOf_val]

theorem bayQuery_badBay (data : State → BayNo → List Byte) (hn : n.toNat ≤ 7) (hx : 7 < x.toNat) (s : State) :
    bayQuery data f s = refusal .badBay s := by
  rw [bayQuery, if_pos (by simpa [hbody, field_byte] using hn), hbody, field_second_byte, bayOf_high hx]

theorem unitQuery_page (data : State → List Byte) (hn : n.toNat ≤ 7) (s : State) :
    unitQuery data f s = page p.toNat (data s) s := by
  rw [unitQuery, if_pos (by simpa [hbody, field_byte] using hn), hbody, field_third_byte]

end

/-- A QUERY of a target that names a bay by its selector: a page of the bay's data, or BAD_BAY. -/
theorem bayQuery_answers {c : Instr} {n : Byte} (data : State → BayNo → List Byte)
    (he : ∀ s, exec c s = .next (answerFrame (Frame.queries n.toNat) (bayQuery data) s)) (hn : n.toNat < 3)
    (s : State) (f : Frame) (x p : Byte) (hnext : s.TakesNext f) (hk : f.kind = 0x21#8) (hbody : f.body = [n, x, p]) :
    (∀ b : BayNo, (n.toNat < 3 → x.toNat = b.val) →
      ∃ t, exec c s = .next t ∧ t = { s with link := t.link }
        ∧ (p.toNat < pageCount (data (dropHead s) b) → Replied s t f .accepted
            (beBytes 1 p.toNat ++ beBytes 1 (pageCount (data (dropHead s) b))
              ++ ((data (dropHead s) b).drop (p.toNat * 237)).take 237))
        ∧ (pageCount (data (dropHead s) b) ≤ p.toNat → Replied s t f .noPage []))
    ∧ (n.toNat < 3 → 7 < x.toNat → PortReply (exec c s) s f .badBay []) :=
  ⟨fun _ hx => page_portReply hnext (queries_of_target hbody hk) (bayQuery_page hbody data (by omega) (hx hn) _) (he s),
    fun _ hx => portReply_next hnext (queries_of_target hbody hk) (bayQuery_badBay hbody data (by omega) hx _) (he s)⟩

/-- A QUERY of a target whose selector is not read: a page of its data. -/
theorem unitQuery_answers {c : Instr} {n : Byte} (data : State → List Byte)
    (he : ∀ s, exec c s = .next (answerFrame (Frame.queries n.toNat) (unitQuery data) s)) (hn : n.toNat ≤ 7)
    (hunit : ¬ n.toNat < 3)
    (s : State) (f : Frame) (x p : Byte) (hnext : s.TakesNext f) (hk : f.kind = 0x21#8) (hbody : f.body = [n, x, p]) :
    (∀ b : BayNo, (n.toNat < 3 → x.toNat = b.val) →
      ∃ t, exec c s = .next t ∧ t = { s with link := t.link }
        ∧ (p.toNat < pageCount (data (dropHead s)) → Replied s t f .accepted
            (beBytes 1 p.toNat ++ beBytes 1 (pageCount (data (dropHead s)))
              ++ ((data (dropHead s)).drop (p.toNat * 237)).take 237))
        ∧ (pageCount (data (dropHead s)) ≤ p.toNat → Replied s t f .noPage []))
    ∧ (n.toNat < 3 → 7 < x.toNat → PortReply (exec c s) s f .badBay []) :=
  ⟨fun _ _ => page_portReply hnext (queries_of_target hbody hk) (unitQuery_page hbody data hn _) (he s),
    fun h => absurd h hunit⟩

/-- Settles O22: three targets name a bay, five read no selector. -/
theorem queriesAnswerAPage : Obligations.QueriesAnswerAPage := by
  unfold Obligations.QueriesAnswerAPage
  intro c n data h
  simp only [queryRows, List.mem_cons, Prod.mk.injEq, List.not_mem_nil, or_false] at h
  rcases h with ⟨rfl, rfl, rfl⟩ | ⟨rfl, rfl, rfl⟩ | ⟨rfl, rfl, rfl⟩ | ⟨rfl, rfl, rfl⟩ | ⟨rfl, rfl, rfl⟩ | ⟨rfl, rfl, rfl⟩
    | ⟨rfl, rfl, rfl⟩ | ⟨rfl, rfl, rfl⟩
  · exact bayQuery_answers _ (fun _ => rfl) (by decide)
  · exact bayQuery_answers _ (fun _ => rfl) (by decide)
  · exact bayQuery_answers _ (fun _ => rfl) (by decide)
  · exact unitQuery_answers _ (fun _ => rfl) (by decide) (by decide)
  · exact unitQuery_answers _ (fun _ => rfl) (by decide) (by decide)
  · exact unitQuery_answers _ (fun _ => rfl) (by decide) (by decide)
  · exact unitQuery_answers _ (fun _ => rfl) (by decide) (by decide)
  · exact unitQuery_answers (c := .queryIdent) (n := 7) (fun _ => identData) (fun _ => rfl) (by decide) (by decide)

/-! ### NOTICE_MASK and SET_TIME (R187, R204) -/

/-- An answer leaves the messages and the notice mask. -/
theorem kick_noticeMask (l : Link) : l.kick.noticeMask = l.noticeMask := by
  unfold Link.kick
  split <;> rfl

theorem answer_messages (f : Frame) (a : Answer) : (answer f a).link.messages = a.state.link.messages := by
  show (Link.reply _ _ _ _ _).messages = _
  unfold Link.reply
  exact (kick_sources _).2.1

theorem answer_noticeMask (f : Frame) (a : Answer) : (answer f a).link.noticeMask = a.state.link.noticeMask := by
  show (Link.reply _ _ _ _ _).noticeMask = _
  unfold Link.reply
  exact kick_noticeMask _

theorem setTime_of_none {s : State} (c : Calendar) (h : s.tariff.scheduled = none) :
    setTime c s = { s with time := { s.time with calendar := c, isSet := true } } := by
  unfold setTime switchDue
  rw [h]

/-- With no scheduled switch, SET_TIME changes the clock and its mark, and the check with the mark. -/
theorem reseal_setTime {s : State} (f : Frame) (c : Calendar) (h : s.tariff.scheduled = none) :
    s.reseal (answer f (accept (setTime c (dropHead s)))) =
      { s with
        check := if s.time.isSet = true then s.check else (answer f (accept (setTime c (dropHead s)))).retained.crc
        link := (answer f (accept (setTime c (dropHead s)))).link
        time := { s.time with calendar := c, isSet := true } } := by
  have hset := setTime_of_none (s := dropHead s) c h
  have hretained : (answer f (accept (setTime c (dropHead s)))).retained = s.retained ↔ s.time.isSet = true := by
    rw [hset]
    refine ⟨fun h => (congrArg Retained.isSet h).symm, fun h => ?_⟩
    show (⟨_, _, _, _, _, true⟩ : Retained) = ⟨_, _, _, _, _, s.time.isSet⟩
    rw [h]
    rfl
  rw [State.reseal, if_congr hretained rfl rfl, hset]
  rfl

/-- Settles O20: a frame in range is answered with its owner's change, and a time out of range refused. -/
theorem noticeMaskAndSetTimeStored : Obligations.NoticeMaskAndSetTimeStored := by
  unfold Obligations.NoticeMaskAndSetTimeStored
  refine fun s f hnext => ⟨fun hk hlen => ?mask, fun hk hlen hminute hsecond hsched => ?set, fun hk hlen hout => ?refused⟩
  case mask =>
    have he : exec .noticeMask s = .next (answer f (accept ((dropHead s).modLink fun l =>
        { l with noticeMask := BitVec.ofNat 13 (beNat f.body) }))) := by
      show Host.Outcome.next (answerFrame _ _ s) = _
      rw [answerFrame_eq (isKind := Frame.is kNoticeMask) _ hnext (frame_is hk), ofLength_good hlen]
    refine ⟨_, he, rfl, ⟨?_, ?_⟩, ?_, fun i hi => ?_⟩
    · rw [answer_rxBuffer]; rfl
    · rw [answer_replies]; rfl
    · rw [answer_messages]; rfl
    · rw [answer_noticeMask]
      show (BitVec.ofNat 13 (beNat f.body)).getLsbD i = _
      rw [BitVec.getLsbD_ofNat, decide_eq_true hi, Bool.true_and]
  case set =>
    have he : exec .setTime s = .next (s.reseal (answer f (accept (setTime
        ⟨field f.body 0 2, field f.body 2 2, field f.body 4 1⟩ (dropHead s))))) := by
      show Machine.done s (answerFrame _ _ s) = _
      rw [answerFrame_eq (isKind := Frame.is kSetTime) _ hnext (frame_is hk), ofLength_good hlen, if_pos ⟨hminute, hsecond⟩]
      rfl
    have hstate := reseal_setTime f ⟨field f.body 0 2, field f.body 2 2, field f.body 4 1⟩ hsched
    have hset := setTime_of_none (s := dropHead s) ⟨field f.body 0 2, field f.body 2 2, field f.body 4 1⟩ hsched
    refine ⟨_, he, ⟨?_, ?_⟩, hstate⟩
    · rw [State.reseal_link, answer_rxBuffer, accept, hset]
      rfl
    · rw [State.reseal_link, answer_replies, accept, hset]
      rfl
  case refused =>
    refine portReply_done hnext (frame_is hk) ?_ rfl
    rw [ofLength_good hlen, if_neg (by omega)]
    rfl

end Sys2Proof.Proofs

/-! PROOFS. What the units' shared operations can do to a bay, the port and the Journal Unit: the small steps of which every
operation at a bay is made. -/

namespace Sys2Proof.Proofs

open Sys2Proof Sys2Proof.Machine Sys2Proof.Laws

/-! ### A step of one bay's record -/

/-- The context is in IDLE or OUT_OF_SERVICE. -/
def resting (c : Ctx) : Prop := c.state = .idle ∨ c.state = .outOfService

/-- The site fields of a tube (R88). -/
def setting (u : Tube) : Nat × Nat × Nat × Nat := (u.kind, u.capacity, u.fullLevel, u.lowLevel)

/-- A step of a tube that leaves its site fields and keeps its count within its capacity. -/
structure TubeStep (u u' : Tube) : Prop where
  setting : setting u' = setting u
  extra   : u.extra ≤ Config.counterMax → u'.extra ≤ Config.counterMax
  count   : u.fullLevel ≤ u.capacity → u.count ≤ u.capacity → u'.count ≤ u.capacity

/-- The five coin counters stay at their highest value (R81). -/
structure CountersWithin (k : CoinCounters) : Prop where
  unvalued : k.unvalued ≤ Config.counterMax
  stray    : k.stray ≤ Config.counterMax
  overflow : k.overflow ≤ Config.counterMax
  aborted  : k.aborted ≤ Config.counterMax
  fault    : k.fault ≤ Config.counterMax

/-- A box record within bounds (R101 to R103). -/
structure BoxWithin (x : Box) : Prop where
  counts   : ∀ k : Fin 9, x.counts[k] ≤ Config.counterMax
  holds    : ∀ k : Fin 9, x.holds[k] ≤ Config.counterMax
  closures : x.slot.length ≤ 2
  records  : ∀ c ∈ x.slot, c.record.Bounded

/-- A mark lies within 1 to 255 (R198, R199). -/
def markWithin (m : Nat) : Prop := 1 ≤ m ∧ m ≤ 255

/-- A step of a bay's record that keeps each of its places within bounds, its tubes under their settings and within their
capacity, and takes no reservation. -/
structure BayKeeps (y y' : Bay) : Prop where
  coins     : y.ctx.coins.length ≤ Config.escrowPlaces → y'.ctx.coins.length ≤ Config.escrowPlaces := by exact id
  tendered  : y.ctx.tendered ≤ Config.maxAmount → y'.ctx.tendered ≤ Config.maxAmount := by exact id
  ring      : y.ring.length ≤ Config.ringBytes → y'.ring.length ≤ Config.ringBytes := by exact id
  counters  : CountersWithin y.counters → CountersWithin y'.counters := by exact id
  tubes     : ∀ n : TubeNo, TubeStep y.tubes[n] y'.tubes[n] := by exact fun _ => ⟨rfl, id, fun _ h => h⟩
  box       : BoxWithin y.box → BoxWithin y'.box := by exact id
  misses    : y.term.misses ≤ 3 → y'.term.misses ≤ 3 := by exact id
  cardMark  : markWithin y.term.nextCardMark → markWithin y'.term.nextCardMark := by exact id
  chunkMark : markWithin y.term.nextChunkMark → markWithin y'.term.nextChunkMark := by exact id
  reserved  : y'.reserved = true → y.reserved = true := by exact id

/-- Such a step that also keeps the context's pinned bank, and comes to rest from rest alone. -/
structure BayStep (y y' : Bay) : Prop extends BayKeeps y y' where
  bank    : y'.ctx.bank = y.ctx.bank ∨ resting y.ctx ∧ y'.ctx.bank = none := by exact .inl rfl
  resting : resting y'.ctx → resting y.ctx := by exact id

/-- The parts of a bay that such a step speaks of. -/
structure Stock where
  coins     : List Coin
  tendered  : Nat
  ring      : List Byte
  counters  : CoinCounters
  tubes     : Vector Tube 4
  box       : Box
  misses    : Nat
  cardMark  : Nat
  chunkMark : Nat
  reserved  : Bool
  bank      : Option Bank
  state     : CtxState

/-- Those parts of a bay. -/
def stock (y : Bay) : Stock :=
  ⟨y.ctx.coins, y.ctx.tendered, y.ring, y.counters, y.tubes, y.box, y.term.misses, y.term.nextCardMark,
    y.term.nextChunkMark, y.reserved, y.ctx.bank, y.ctx.state⟩

section
variable {u u' u'' : Tube} {y y' y'' : Bay}

theorem TubeStep.refl (u : Tube) : TubeStep u u := ⟨rfl, id, fun _ h => h⟩

theorem TubeStep.trans (h : TubeStep u u') (h' : TubeStep u' u'') : TubeStep u u'' := by
  obtain ⟨-, hcapacity, hfull, -⟩ : u'.kind = u.kind ∧ u'.capacity = u.capacity ∧ u'.fullLevel = u.fullLevel
      ∧ u'.lowLevel = u.lowLevel := by simpa [Proofs.setting] using h.setting
  refine ⟨h'.setting.trans h.setting, fun he => h'.extra (h.extra he), fun hl hc => ?_⟩
  have := h'.count
  rw [hcapacity, hfull] at this
  exact this hl (h.count hl hc)

theorem BayKeeps.refl (y : Bay) : BayKeeps y y := {}

theorem BayKeeps.trans (h : BayKeeps y y') (h' : BayKeeps y' y'') : BayKeeps y y'' where
  coins hy := h'.coins (h.coins hy)
  tendered hy := h'.tendered (h.tendered hy)
  ring hy := h'.ring (h.ring hy)
  counters hy := h'.counters (h.counters hy)
  tubes n := (h.tubes n).trans (h'.tubes n)
  box hy := h'.box (h.box hy)
  misses hy := h'.misses (h.misses hy)
  cardMark hy := h'.cardMark (h.cardMark hy)
  chunkMark hy := h'.chunkMark (h.chunkMark hy)
  reserved hy := h.reserved (h'.reserved hy)

theorem BayStep.refl (y : Bay) : BayStep y y := {}

theorem BayStep.trans (h : BayStep y y') (h' : BayStep y' y'') : BayStep y y'' where
  toBayKeeps := h.toBayKeeps.trans h'.toBayKeeps
  resting hr := h.resting (h'.resting hr)
  bank := by
    rcases h'.bank with e | ⟨hr, e⟩
    · rcases h.bank with e' | ⟨hr, e'⟩
      · exact .inl (e.trans e')
      · exact .inr ⟨hr, e.trans e'⟩
    · exact .inr ⟨h.resting hr, e⟩

/-- A step that leaves those parts. -/
theorem BayStep.of_stock (h : stock y' = stock y) : BayStep y y' where
  coins := by rw [show y'.ctx.coins = _ from congrArg Stock.coins h]; exact id
  tendered := by rw [show y'.ctx.tendered = _ from congrArg Stock.tendered h]; exact id
  ring := by rw [show y'.ring = _ from congrArg Stock.ring h]; exact id
  counters := by rw [show y'.counters = _ from congrArg Stock.counters h]; exact id
  tubes n := by rw [show y'.tubes = y.tubes from congrArg Stock.tubes h]; exact .refl _
  box := by rw [show y'.box = _ from congrArg Stock.box h]; exact id
  misses := by rw [show y'.term.misses = _ from congrArg Stock.misses h]; exact id
  cardMark := by rw [show y'.term.nextCardMark = _ from congrArg Stock.cardMark h]; exact id
  chunkMark := by rw [show y'.term.nextChunkMark = _ from congrArg Stock.chunkMark h]; exact id
  reserved hr := (congrArg Stock.reserved h).symm.trans hr
  bank := .inl (congrArg Stock.bank h)
  resting := by
    unfold Proofs.resting
    rw [show y'.ctx.state = _ from congrArg Stock.state h]
    exact id

theorem BayKeeps.bounded (h : BayKeeps y y') (hy : y.Bounded) : y'.Bounded := by
  have hcounters := h.counters ⟨hy.unvalued, hy.stray, hy.overflow, hy.aborted, hy.fault⟩
  have hbox := h.box ⟨hy.boxCounts, hy.holds, hy.closures, hy.records⟩
  exact
    { escrow := h.coins hy.escrow, tendered := h.tendered hy.tendered, ring := h.ring hy.ring
      unvalued := hcounters.unvalued, stray := hcounters.stray, overflow := hcounters.overflow
      aborted := hcounters.aborted, fault := hcounters.fault, extras := fun n => (h.tubes n).extra (hy.extras n)
      boxCounts := hbox.counts, holds := hbox.holds, closures := hbox.closures, records := hbox.records
      misses := h.misses hy.misses, cardMark := h.cardMark hy.cardMark, chunkMark := h.chunkMark hy.chunkMark }

end

/-! ### A step of the port -/

/-- The parts of the port that the works of the bays leave: all but the transmitter, the messages, the record place, the
notice list and the notices dropped. -/
structure Rim where
  online      : Bool
  lastPhase   : Option Bool
  timer       : Option (Ms × Nat)
  noticeMask  : BitVec 13
  rate        : Nat
  rx          : RxState
  rxBytes     : List Byte
  rxLast      : Ms
  rxBuffer    : List Frame
  replies     : List Reply
  transitions : Nat
  counters    : PortCounters
  resetStage  : ResetStage

/-- Those parts of a port, the notices dropped masked. -/
def rim (l : Link) : Rim :=
  ⟨l.online, l.lastPhase, l.timer, l.noticeMask, l.rate, l.rx, l.rxBytes, l.rxLast, l.rxBuffer, l.replies, l.transitions,
    { l.counters with dropped := 0 }, l.resetStage⟩

/-- A step of the port that leaves its rim and keeps its notice list and its count of dropped notices within bounds. -/
structure LinkKeeps (l l' : Link) : Prop where
  rim        : rim l' = rim l
  noticeList : l.noticeList.length ≤ Config.noticeListPlaces → l'.noticeList.length ≤ Config.noticeListPlaces
  dropped    : l.counters.dropped ≤ Config.counterMax → l'.counters.dropped ≤ Config.counterMax

/-- Beyond its first 8 places the message queue holds AUTH_REQs alone (R184). -/
def noticesFirst (ms : List Message) : Prop := ∀ m ∈ ms.drop Config.noticeRoom, m.authOf.isSome = true

/-- Such a step that also places no AUTH_REQ, and notices within their room alone. -/
structure LinkStep (l l' : Link) : Prop extends LinkKeeps l l' where
  auths   : l'.waitingAuths.Sublist l.waitingAuths
  notices : noticesFirst l.messages → noticesFirst l'.messages

section
variable {l l' l'' : Link}

theorem LinkKeeps.trans (h : LinkKeeps l l') (h' : LinkKeeps l' l'') : LinkKeeps l l'' :=
  ⟨h'.rim.trans h.rim, fun hl => h'.noticeList (h.noticeList hl), fun hd => h'.dropped (h.dropped hd)⟩

theorem LinkStep.trans (h : LinkStep l l') (h' : LinkStep l' l'') : LinkStep l l'' :=
  ⟨h.toLinkKeeps.trans h'.toLinkKeeps, h'.auths.trans h.auths, fun hn => h'.notices (h.notices hn)⟩

/-- A step that leaves the messages and the transmitter as well. -/
theorem LinkStep.of_messages (h : LinkKeeps l l') (hm : l'.messages = l.messages) (hs : l'.sending = l.sending) :
    LinkStep l l' where
  toLinkKeeps := h
  auths := by rw [Link.waitingAuths, Link.waitingAuths, hm, hs]
  notices hn := by rw [hm]; exact hn

theorem LinkStep.refl (l : Link) : LinkStep l l := .of_messages ⟨rfl, id, id⟩ rfl rfl

end

/-- The transmitter begins a frame: an AUTH_REQ it takes waits no more. -/
theorem kick_step (l : Link) : LinkStep l l.kick := by
  unfold Link.kick
  split
  next src hsending hpick =>
    refine ⟨⟨rfl, id, id⟩, ?_, id⟩
    have hwaiting : l.waitingAuths = l.messages.filterMap Message.authOf := by
      simp [Link.waitingAuths, hsending]
    rw [hwaiting]
    unfold Link.waitingAuths
    dsimp only
    split
    · exact (List.drop_sublist 1 _).filterMap _
    · exact List.Sublist.refl _
  · exact .refl l

theorem noticesFirst_append_notice {ms : List Message} {n : Notice} (h : ms.length < Config.noticeRoom) :
    noticesFirst (ms ++ [.notice n]) := by
  intro m hm
  rw [List.drop_eq_nil_of_le (by simp; omega)] at hm
  cases hm

/-- Draining adds notices behind the messages, each while they are fewer than 8. -/
theorem drainInto_messages (keep : Notice → Bool) (ns : List Notice) (ms : List Message) :
    (∃ given, ns = given ++ (drainInto keep ns ms).1
      ∧ (drainInto keep ns ms).2 = ms ++ (given.filter keep).map Message.notice)
    ∧ (noticesFirst ms → noticesFirst (drainInto keep ns ms).2) := by
  induction ns generalizing ms with
  | nil => exact ⟨⟨[], rfl, by simp [drainInto]⟩, id⟩
  | cons n ns ih =>
    unfold drainInto
    split
    case isTrue hroom =>
      obtain ⟨⟨given, hns, hms⟩, hfirst⟩ := ih (if keep n then ms ++ [.notice n] else ms)
      refine ⟨⟨n :: given, by rw [List.cons_append, ← hns], ?_⟩, fun hf => hfirst ?_⟩
      · rw [hms, List.filter_cons]
        split <;> simp
      · split
        · exact noticesFirst_append_notice hroom
        · exact hf
    case isFalse => exact ⟨⟨[], rfl, by simp⟩, id⟩

/-- Notices are no AUTH_REQs. -/
theorem filterMap_authOf_notices (ns : List Notice) : (ns.map Message.notice).filterMap Message.authOf = [] := by
  induction ns with
  | nil => rfl
  | cons n ns ih => simp [Message.authOf]

theorem waitingAuths_append_notices (l : Link) (ns : List Notice) :
    Link.waitingAuths { l with messages := l.messages ++ ns.map Message.notice } = l.waitingAuths := by
  have hdrop : ∀ n, ((l.messages ++ ns.map Message.notice).drop n).filterMap Message.authOf
      = (l.messages.drop n).filterMap Message.authOf := by
    intro n
    rw [List.drop_append, List.filterMap_append, ← List.map_drop, filterMap_authOf_notices, List.append_nil]
  unfold Link.waitingAuths
  dsimp only
  split
  · exact hdrop 1
  · exact hdrop 0

theorem dropNotices_step (l : Link) (n : Nat) : LinkStep l (l.dropNotices n) :=
  .of_messages ⟨rfl, id, fun _ => Nat.min_le_right _ _⟩ rfl rfl

theorem listNotice_step (l : Link) (n : Notice) : LinkStep l (l.listNotice n) := by
  unfold Link.listNotice
  split
  case isTrue hroom =>
    exact .of_messages ⟨rfl, fun _ => by simpa using hroom, id⟩ rfl rfl
  case isFalse => exact dropNotices_step l 1

theorem drain_step (l : Link) : LinkStep l l.drain := by
  unfold Link.drain
  split
  · obtain ⟨⟨given, hns, hms⟩, hfirst⟩ := drainInto_messages l.inMask l.noticeList l.messages
    refine ⟨⟨rfl, fun h => ?_, id⟩, ?_, hfirst⟩
    · have hlen := congrArg List.length hns
      rw [List.length_append] at hlen
      exact Nat.le_trans (by dsimp only; omega) h
    · dsimp only
      rw [hms]
      exact (waitingAuths_append_notices l _).symm ▸ List.Sublist.refl _
  · exact .refl l

/-- A notice joins the messages while they are fewer than 8. -/
theorem append_notice_step (l : Link) (n : Notice) (h : l.messages.length < Config.noticeRoom) :
    LinkStep l { l with messages := l.messages ++ [.notice n] } :=
  ⟨⟨rfl, id, id⟩, (waitingAuths_append_notices l [n]).symm ▸ List.Sublist.refl _, fun _ => noticesFirst_append_notice h⟩

theorem link_notify_step (l : Link) (n : Notice) : LinkStep l (l.notify n) := by
  unfold Link.notify
  split
  · exact listNotice_step l n
  · exact ((listNotice_step l n).trans (drain_step _)).trans (kick_step _)
  · split
    · split
      case isTrue hroom => exact (append_notice_step l n hroom).trans (kick_step _)
      case isFalse => exact dropNotices_step l 1
    · exact .refl l
  · exact .refl l

/-- Messages leave the queue. -/
theorem thin_step (l : Link) {ms : List Message} (h : ms.Sublist l.messages) : LinkStep l { l with messages := ms } := by
  refine ⟨⟨rfl, id, id⟩, ?_, fun hn m hm => hn m ((h.drop _).subset hm)⟩
  unfold Link.waitingAuths
  dsimp only
  split
  · exact (h.drop 1).filterMap _
  · exact h.filterMap _

theorem dropAuth_step (l : Link) (reference : BitVec 16) : LinkStep l (l.dropAuth reference) := by
  unfold Link.dropAuth
  split
  next m ms hsending hmessages =>
    exact ((thin_step l (hmessages ▸ List.filter_sublist.cons_cons m)).trans (drain_step _)).trans (kick_step _)
  · exact ((thin_step l List.filter_sublist).trans (drain_step _)).trans (kick_step _)

/-! ### A step of the Journal Unit -/

/-- What the Journal Unit holds beside its blocks, its requests and its engine. -/
def ledger (j : Journal) : Nat × List Nat × Nat × Nat × Nat × Nat :=
  (j.acked, j.holdList, j.torn, j.ackClamp, j.eraseFail, j.badBlock)

/-- A step of the Journal Unit that leaves its marks and counters and keeps the append queue within its places. -/
structure JournalStep (j j' : Journal) : Prop where
  ledger : ledger j' = ledger j
  queue  : j.queue.length ≤ Config.appendPlaces → j'.queue.length ≤ Config.appendPlaces

section
variable {j j' j'' : Journal}

theorem JournalStep.refl (j : Journal) : JournalStep j j := ⟨rfl, id⟩

theorem JournalStep.trans (h : JournalStep j j') (h' : JournalStep j' j'') : JournalStep j j'' :=
  ⟨h'.ledger.trans h.ledger, fun hq => h'.queue (h.queue hq)⟩

end

theorem modRow_step (j : Journal) (i : Nat) (f : Row → Row) : JournalStep j (j.modRow i f) := by
  unfold Journal.modRow
  split <;> exact ⟨rfl, id⟩

theorem modBlock_step (j : Journal) (i : Nat) (f : Block → Block) : JournalStep j (j.modBlock i f) := by
  unfold Journal.modBlock
  split <;> exact ⟨rfl, id⟩

/-- A request takes a place of the queue where one is free (R155). -/
theorem enqueue_step (j : Journal) (r : Append) :
    JournalStep j (if j.queue.length < Config.appendPlaces then { j with queue := j.queue ++ [r] }
      else { j with waitList := j.waitList ++ [r] }) := by
  split
  case isTrue hroom => exact ⟨rfl, fun _ => by simpa using hroom⟩
  case isFalse => exact ⟨rfl, id⟩

theorem request_step (j : Journal) (r : Append) : JournalStep j (j.request r) := by
  unfold Journal.request
  split
  · split
    · exact ⟨rfl, id⟩
    · exact enqueue_step j r
  · split
    · exact ⟨rfl, id⟩
    · exact enqueue_step j r
  · exact enqueue_step j r

theorem closeActive_step (j : Journal) : JournalStep j j.closeActive := by
  unfold Journal.closeActive
  split
  · exact (modBlock_step _ _ _).trans (modRow_step _ _ _)
  · exact .refl j

theorem activate_step {j k : Journal} (h : j.activate = some k) : JournalStep j k := by
  unfold Journal.activate at h
  split at h
  · cases h
    exact ((modBlock_step _ _ _).trans (modRow_step _ _ _)).trans ⟨rfl, id⟩
  · cases h

theorem settleErase_step (j : Journal) (now : Ms) (low : Bool) : JournalStep j (j.settleErase now low) := by
  unfold Journal.settleErase
  split
  · split
    · split <;> exact ⟨rfl, id⟩
    · split <;> exact ⟨rfl, id⟩
  · exact .refl j

theorem program_step (j : Journal) (w : Writing) : JournalStep j (j.program w) := by
  unfold Journal.program
  dsimp only
  split
  · exact ((modBlock_step _ _ _).trans (modRow_step _ _ _)).trans ⟨rfl, id⟩
  · exact ⟨rfl, id⟩

theorem shift_step (j : Journal) : JournalStep j j.shift := by
  unfold Journal.shift
  split
  · refine ⟨rfl, fun h => ?_⟩
    simp only [Config.appendPlaces, List.length_append, List.length_drop, List.length_cons, List.length_nil] at *
    omega
  · refine ⟨rfl, fun h => ?_⟩
    simp only [List.length_drop]
    omega

theorem syncBox_step (j : Journal) (b : BayNo) (r : BoxRecord) : JournalStep j (j.syncBox b r) := ⟨rfl, id⟩

theorem orphan_step (j : Journal) (b : BayNo) : JournalStep j (j.orphan b) :=
  ⟨rfl, fun h => by simpa [Journal.orphan] using h⟩

end Sys2Proof.Proofs

/-! PROOFS. Works: the operations of the units, each made of small steps at the bays it is about. -/

namespace Sys2Proof.Proofs

open Sys2Proof Sys2Proof.Machine Sys2Proof.Laws

/-! ### Works -/

/-- What the places of the message queue and of the pricing queue depend on in a bay (R46, R184): its authorisation wait,
its exchange's phase, its context's state and whether a bay reset waits there, and its card slot. -/
def desk (y : Bay) : Option AuthWait × Phase × CtxState × Bool × Option CardSlot :=
  (y.authWait, y.card.phase, y.ctx.state, decide (y.ctx.wait = .places), y.term.cardSlot)

/-- The exchange's part of the desk is kept: the authorisation wait, the phase, and no command of an exchange placed in
the card slot. -/
structure PostKept (y y' : Bay) : Prop where
  wait  : y'.authWait = y.authWait
  phase : y'.card.phase = y.card.phase
  slot  : ∀ c, y'.term.cardSlot = some c → c.owner = .exchange → y.term.cardSlot = some c

/-- How much of a bay's desk a work keeps: all of it, the exchange's part, or none of it. -/
inductive Mode where | calm | mild | free
  deriving DecidableEq

/-- What a work of a mode keeps of a bay. -/
def kept : Mode → Bay → Bay → Prop
  | .calm, y, y' => desk y' = desk y
  | .mild, y, y' => PostKept y y'
  | .free, _, _ => True

section
variable {m : Mode} {y y' : Bay}

theorem PostKept.of_desk (h : desk y' = desk y) : PostKept y y' := by
  simp only [desk, Prod.mk.injEq] at h
  obtain ⟨hauth, hphase, -, -, hslot⟩ := h
  exact ⟨hauth, hphase, fun c hc _ => hslot ▸ hc⟩

theorem kept_of_desk (h : desk y' = desk y) : kept m y y' := by
  cases m with
  | calm => exact h
  | mild => exact .of_desk h
  | free => trivial

theorem kept_of_post (hm : m ≠ .calm) (h : PostKept y y') : kept m y y' := by
  cases m with
  | calm => exact absurd rfl hm
  | mild => exact h
  | free => trivial

end

/-- A work at the bays of P: small steps of these bays, of the port and of the Journal Unit, where it is not calm of the
tear table and of the pins as well, and where it is free of the pricing queue and the AUTH_REQs too. -/
inductive Work (m : Mode) (P : BayNo → Prop) : State → State → Prop
  | refl (s : State) : Work m P s s
  | trans {s t u : State} : Work m P s t → Work m P t u → Work m P s u
  | bay {s : State} {b : BayNo} {f : Bay → Bay} (hb : P b) (h : BayStep (s.bay b) (f (s.bay b)))
      (hd : kept m (s.bay b) (f (s.bay b))) : Work m P s (s.modBay b f)
  | port {s : State} {f : Link → Link} (h : LinkKeeps s.link (f s.link))
      (hc : m ≠ .free → LinkStep s.link (f s.link)) : Work m P s (s.modLink f)
  | journal {s : State} {f : Journal → Journal} (h : JournalStep s.journal (f s.journal)) :
      Work m P s (s.modJournal f)
  | requests {s : State} {q : List PriceRequest} {e : Option PriceRequest} (hm : m = .free) :
      Work m P s { s with tariff := { s.tariff with queue := q, evaluating := e } }
  | tears {s : State} {f : CardUnit → CardUnit} (hm : m ≠ .calm)
      (ht : ((f s.card).tears.map Tear.serial).Sublist (s.card.tears.map Tear.serial))
      (hl : (f s.card).lateReplies = s.card.lateReplies) : Work m P s (s.modCard f)
  | newTear {s : State} {b : BayNo} {e : Tear} (hm : m ≠ .calm) (hb : P b) (hr : (s.bay b).reserved = true)
      (he : s.tearOf e.serial = none) :
      Work m P s ((s.modBay b fun y => { y with reserved := false }).modCard fun k =>
        { k with tears := k.tears ++ [e] })
  | close {s : State} {b : BayNo} {f : Bay → Bay} (hm : m ≠ .calm) (hb : P b)
      (h : BayKeeps (s.bay b) (f (s.bay b))) (hbank : (f (s.bay b)).ctx.bank = none)
      (hd : kept m (s.bay b) (f (s.bay b))) : Work m P s ((unpinBank b s).modBay b f)

section
variable {m : Mode} {P : BayNo → Prop} {b : BayNo} {s t : State}

/-- Works one behind the other, the later one first. -/
theorem Work.after {u : State} (h' : Work m P t u) (h : Work m P s t) : Work m P s u := h.trans h'

/-- A step of a bay that leaves its stock and its desk. -/
theorem Work.harmless {f : Bay → Bay} (hb : P b) (h : stock (f (s.bay b)) = stock (s.bay b))
    (hd : desk (f (s.bay b)) = desk (s.bay b)) : Work m P s (s.modBay b f) :=
  .bay hb (.of_stock h) (kept_of_desk hd)

/-- A step of a bay that leaves its stock. -/
theorem Work.stocked {f : Bay → Bay} (hb : P b) (h : stock (f (s.bay b)) = stock (s.bay b)) :
    Work .free P s (s.modBay b f) :=
  .bay hb (.of_stock h) trivial

theorem Work.portStep {f : Link → Link} (h : LinkStep s.link (f s.link)) : Work m P s (s.modLink f) :=
  .port h.toLinkKeeps fun _ => h

theorem Work.ite {p : Prop} [Decidable p] {u : State} (ht : p → Work m P s t) (hu : ¬p → Work m P s u) :
    Work m P s (if p then t else u) := by
  split
  · next h => exact ht h
  · next h => exact hu h

theorem Work.iteSelf {p : Prop} [Decidable p] (ht : p → Work m P s t) : Work m P s (if p then t else s) :=
  .ite ht fun _ => .refl s

/-- A work stays one where more is allowed. -/
theorem Work.mono {Q : BayNo → Prop} (hPQ : ∀ b, P b → Q b) (h : Work m P s t) : Work .free Q s t := by
  induction h with
  | refl s => exact .refl s
  | trans _ _ h₁ h₂ => exact h₁.trans h₂
  | bay hb h _ => exact .bay (hPQ _ hb) h trivial
  | port h _ => exact .port h fun hm => absurd rfl hm
  | journal h => exact .journal h
  | requests _ => exact .requests rfl
  | tears _ ht hl => exact .tears nofun ht hl
  | newTear _ hb hr he => exact .newTear nofun (hPQ _ hb) hr he
  | close _ hb h hbank _ => exact .close nofun (hPQ _ hb) h hbank trivial

/-- A loop over the bays whose turns are works. -/
theorem Work.forBays {f : BayNo → State → State} (h : ∀ b s, Work m P s (f b s)) (s : State) :
    Work m P s (forBays f s) := by
  simp only [Machine.forBays, allBays, List.foldl_cons, List.foldl_nil]
  exact (h _ _).trans ((h _ _).trans ((h _ _).trans ((h _ _).trans ((h _ _).trans ((h _ _).trans ((h _ _).trans
    (h _ _)))))))

end

/-! ### Notices and the journal engine -/

section
variable {m : Mode} {P : BayNo → Prop}

theorem notify_work (n : Notice) (s : State) : Work m P s (notify n s) := .portStep (link_notify_step _ n)

theorem notify?_work (n : Option Notice) (s : State) : Work m P s (notify? n s) := by
  cases n with
  | none => exact .refl s
  | some n => exact notify_work n s

/-- The port changes by a step, and an idle transmitter begins a frame. -/
theorem Work.portKick {s : State} {f : Link → Link} (h : LinkStep s.link (f s.link)) :
    Work m P s (s.modLink fun l => (f l).kick) :=
  .portStep (h.trans (kick_step _))

theorem forwardNext_work (s : State) : Work m P s (forwardNext s) := by
  unfold forwardNext
  split
  · split
    · exact .portKick (.of_messages ⟨rfl, id, id⟩ rfl rfl)
    · exact .refl s
  · exact .refl s

theorem settleErase_work (s : State) : Work m P s (settleErase s) := .journal (settleErase_step _ _ _)

/-- The Journal Unit's record replaced. -/
theorem Work.setJournal {s : State} {j : Journal} (h : JournalStep s.journal j) : Work m P s { s with journal := j } :=
  .journal (f := fun _ => j) h

theorem engineTake_work (s : State) : Work m P s (engineTake s) := by
  unfold engineTake
  dsimp only
  split
  · refine .ite (fun _ => .refl s) fun _ => .ite (fun _ => .setJournal ⟨rfl, id⟩) fun _ => ?_
    split
    · next hactivate =>
      have hstep := (closeActive_step s.journal).trans (activate_step hactivate)
      exact (notify?_work _ _).after (.setJournal (hstep.trans ⟨rfl, id⟩))
    · exact (notify_work _ _).after (.setJournal ⟨rfl, id⟩)
  · exact .refl s

theorem journalKick_work (s : State) : Work m P s (journalKick s) := (engineTake_work s).trans (settleErase_work _)

theorem append_work (r : Append) (s : State) : Work m P s (append r s) :=
  .trans (.journal (request_step _ r)) (journalKick_work _)

theorem appendLink_work (online : Bool) (s : State) : Work m P s (appendLink online s) := append_work _ s

theorem leaveFull_work (s : State) : Work m P s (leaveFull s) := by
  unfold leaveFull
  refine .iteSelf fun _ => (notify_work _ _).after ((journalKick_work _).after (.setJournal ?_))
  have hleft : JournalStep s.journal { s.journal with full := false } := ⟨rfl, id⟩
  split
  · exact hleft
  · cases h : Journal.activate { s.journal with full := false } with
    | none => exact hleft
    | some k => exact hleft.trans (activate_step h)

end

/-! ### Displays and tones -/

section
variable {m : Mode} {P : BayNo → Prop} {b : BayNo} (hb : P b)
include hb

theorem show_work (s : State) (sc : Screen) (h : HoldCause) :
    Work m P s (s.modBay b fun y => { y with term := y.term.show sc h }) := by
  refine .harmless hb ?_ ?_
  all_goals
    unfold Terminal.show
    split <;> rfl

theorem refresh_work (s : State) : Work m P s (refresh b s) := (show_work hb _ _ _).after (.harmless hb rfl rfl)

theorem sound_work (x : Tone) (s : State) : Work m P s (sound x b s) := .harmless hb rfl rfl

theorem refuse_work (code : Code) (s : State) : Work m P s (refuse code b s) :=
  (refresh_work hb _).after ((sound_work hb _ _).after (.harmless hb rfl rfl))

theorem clearOverlay_work (s : State) : Work m P s (clearOverlay b s) :=
  (refresh_work hb _).after (.harmless hb rfl rfl)

end

end Sys2Proof.Proofs

/-! PROOFS. Works of the Cash Unit: tubes, escrow return, the cash box and the payout executor. -/

namespace Sys2Proof.Proofs

open Sys2Proof Sys2Proof.Machine Sys2Proof.Laws

/-! ### Counts, closures and boxes within bounds -/

theorem satInc_le (n : Nat) : satInc n ≤ Config.counterMax := Nat.min_le_right _ _

theorem bump_within {v : Vector Nat 9} (j : Nat) (h : ∀ k : Fin 9, v[k] ≤ Config.counterMax) (k : Fin 9) :
    (bump v j)[k] ≤ Config.counterMax := by
  unfold bump
  split
  · rw [Fin.getElem_fin, Vector.getElem_set]
    split
    · exact satInc_le _
    · exact h k
  · exact h k

theorem addCounts_within (v w : Vector Nat 9) (k : Fin 9) : (addCounts v w)[k] ≤ Config.counterMax := by
  simp [addCounts]

theorem zeroCounts_within (k : Fin 9) : (Vector.replicate 9 0)[k] ≤ Config.counterMax := by
  simp

theorem put_within {x : Box} (k : Nat) (h : BoxWithin x) : BoxWithin (x.put k) := by
  unfold Box.put
  split
  · exact { h with counts := bump_within k h.counts }
  · exact { h with holds := bump_within k h.holds }

theorem satAmount_le (n : Nat) : satAmount n ≤ Config.maxAmount := Nat.min_le_right _ _

theorem merge_bounded (r new : BoxRecord) : (r.merge new).Bounded := ⟨addCounts_within _ _, satAmount_le _⟩

/-- A closure joins the slot, which keeps its two places (R103). -/
theorem addClosure_within {slot : List Closure} {new : BoxRecord} (hnew : new.Bounded) (hlen : slot.length ≤ 2)
    (h : ∀ c ∈ slot, c.record.Bounded) :
    (addClosure slot new).length ≤ 2 ∧ ∀ c ∈ addClosure slot new, c.record.Bounded := by
  unfold addClosure
  split
  · exact ⟨by simp, fun c hc => by rw [List.mem_singleton.mp hc]; exact hnew⟩
  · next c =>
    split
    · refine ⟨by simp, fun d hd => ?_⟩
      rcases List.mem_cons.mp hd with rfl | hd
      · exact h d List.mem_cons_self
      · rw [List.mem_singleton.mp hd]; exact hnew
    · exact ⟨by simp, fun d hd => by rw [List.mem_singleton.mp hd]; exact merge_bounded _ _⟩
  · next c d rest =>
    refine ⟨hlen, fun e he => ?_⟩
    rcases List.mem_cons.mp he with rfl | he
    · exact h e List.mem_cons_self
    · rcases List.mem_cons.mp he with rfl | he
      · exact merge_bounded _ _
      · exact h e (List.mem_cons_of_mem _ (List.mem_cons_of_mem _ he))

/-! ### Tubes filled and emptied -/

/-- A step of a bay that also leaves its desk. -/
structure CalmStep (y y' : Bay) : Prop extends BayStep y y' where
  desk : desk y' = desk y := by exact rfl

theorem CalmStep.trans {y y' y'' : Bay} (h : CalmStep y y') (h' : CalmStep y' y'') : CalmStep y y'' :=
  ⟨h.toBayStep.trans h'.toBayStep, h'.desk.trans h.desk⟩

theorem CalmStep.refl (y : Bay) : CalmStep y y := {}

theorem Work.calmly {m : Mode} {P : BayNo → Prop} {b : BayNo} {s : State} {f : Bay → Bay} (hb : P b)
    (h : CalmStep (s.bay b) (f (s.bay b))) : Work m P s (s.modBay b f) :=
  .bay hb h.toBayStep (kept_of_desk h.desk)

theorem setTube_step {y : Bay} {t : TubeNo} {u : Tube} (h : TubeStep y.tubes[t] u) (n : TubeNo) :
    TubeStep y.tubes[n] (y.tubes.set t u)[n] := by
  rw [Fin.getElem_fin (y.tubes.set t u), Vector.getElem_set]
  split
  · next e =>
    have : t = n := Fin.ext e
    subst this
    exact h
  · exact .refl _

theorem setTube_calm {y : Bay} {t : TubeNo} {u : Tube} (h : TubeStep y.tubes[t] u) :
    CalmStep y { y with tubes := y.tubes.set t u } :=
  { tubes := setTube_step h }

theorem fillTube_below {tubes : Vector Tube 4} {k : Nat} {level : Tube → Nat} {t : TubeNo}
    (h : fillTube tubes k level = some t) : tubes[t].count < level tubes[t] := by
  have := List.find?_some h
  simp only [Bool.and_eq_true, decide_eq_true_eq] at this
  exact this.2

/-- A coin joins a tube below its full level or its capacity. -/
theorem fill_calm {y : Bay} {t : TubeNo} (h : y.tubes[t].fullLevel ≤ y.tubes[t].capacity →
    y.tubes[t].count < y.tubes[t].capacity) : CalmStep y (y.fill t) :=
  setTube_calm ⟨rfl, id, fun hl _ => h hl⟩

theorem putBox_calm (y : Bay) (k : Nat) : CalmStep y { y with box := y.box.put k } := { box := put_within k }

theorem route_calm (y : Bay) (c : Coin) : CalmStep y (y.route c) := by
  have hfull : ∀ {t}, fillTube y.tubes c.kind Tube.fullLevel = some t → CalmStep y (y.fill t) := fun h =>
    fill_calm fun hl => Nat.lt_of_lt_of_le (fillTube_below h) hl
  unfold Bay.route
  split
  · split
    · split
      · next h => exact hfull h
      · exact putBox_calm y _
    · exact putBox_calm y _
  · split
    · exact putBox_calm y _
    · split
      · next h => exact hfull h
      · split
        · next h => exact fill_calm fun _ => fillTube_below h
        · exact putBox_calm y _

theorem foldl_route_calm (cs : List Coin) (y : Bay) : CalmStep y (cs.foldl Bay.route y) := by
  induction cs generalizing y with
  | nil => exact .refl y
  | cons c cs ih => exact (route_calm y c).trans (ih _)

/-- The escrow list is emptied. -/
theorem emptyEscrow_calm (y : Bay) : CalmStep y { y with ctx := { y.ctx with coins := [] } } :=
  { coins := fun _ => Nat.zero_le _ }

/-! ### The Cash Unit's operations -/

section
variable {m : Mode} {P : BayNo → Prop} {b : BayNo} (hb : P b)
include hb

theorem recomputeMask_work (s : State) : Work m P s (recomputeMask b s) := by
  unfold recomputeMask
  exact .harmless hb rfl rfl

theorem changeTube_work (t : TubeNo) (f : Tube → Tube) {s : State} (h : TubeStep (s.tube b t) (f (s.tube b t))) :
    Work m P s (changeTube b t f s) :=
  (recomputeMask_work hb _).after ((notify?_work _ _).after (.calmly hb (setTube_calm h)))

theorem startPulse_work (s : State) : Work m P s (startPulse b s) :=
  .calmly hb { coins := fun _ => Nat.zero_le _ }

theorem requestReturn_work (s : State) : Work m P s (requestReturn b s) := by
  unfold requestReturn
  split
  · exact startPulse_work hb s
  · exact .harmless hb rfl rfl

theorem routeEscrow_work (s : State) : Work m P s (routeEscrow b s) :=
  (recomputeMask_work hb _).after (.calmly hb ((foldl_route_calm _ _).trans (emptyEscrow_calm _)))

theorem askBox_work (s : State) : Work m P s (askBox b s) := by
  unfold askBox
  split
  next c rest hslot =>
    refine .ite (fun _ => .refl s) fun _ => .ite (fun _ => .journal (syncBox_step _ _ _)) fun _ => ?_
    refine (append_work _ _).after (.calmly hb { box := fun h => ?_ })
    have hlen := h.closures
    have hrec := h.records
    rw [hslot] at hlen hrec
    refine { h with closures := hlen, records := fun d hd => ?_ }
    rcases List.mem_cons.mp hd with rfl | hd
    · exact hrec c List.mem_cons_self
    · exact hrec d (List.mem_cons_of_mem _ hd)
  · exact .refl s

theorem closePeriod_work (s : State) : Work m P s (closePeriod b s) := by
  unfold closePeriod
  refine .calmly hb { box := fun h => ?_ }
  have hnew := addClosure_within (new := ⟨(s.bay b).box.period, (s.bay b).box.counts,
    totalValue s.site (s.bay b).box.counts, false⟩) ⟨h.counts, satAmount_le _⟩ h.closures h.records
  exact ⟨zeroCounts_within, h.holds, hnew.1, hnew.2⟩

theorem removeBox_work (s : State) : Work m P s (removeBox b s) :=
  (askBox_work hb _).after ((notify_work _ _).after (closePeriod_work hb s))

theorem insertBox_work (s : State) : Work m P s (insertBox b s) :=
  (notify_work _ _).after (.calmly hb { box := fun h =>
    { h with counts := addCounts_within _ _, holds := zeroCounts_within } })

theorem modPayout_work (s : State) (f : Executor → Executor) : Work m P s (s.modPayout b f) := .harmless hb rfl rfl

theorem stopPayout_work (s : State) : Work m P s (stopPayout b s) := modPayout_work hb s _

theorem planPayout_work (s : State) : Work m P s (planPayout b s).1 := by
  unfold planPayout
  dsimp only
  split
  · dsimp only
    exact modPayout_work hb s _
  · exact stopPayout_work hb s

theorem nextDrive_work (s : State) : Work m P s (nextDrive b s).1 := by
  unfold nextDrive
  split
  · split
    · dsimp only
      exact modPayout_work hb s _
    · exact planPayout_work hb s
  · exact planPayout_work hb s

theorem startPayout_work (r : Requester) (amount : Nat) (s : State) : Work m P s (startPayout b r amount s).1 :=
  (planPayout_work hb _).after (modPayout_work hb s _)

end

end Sys2Proof.Proofs

/-! PROOFS. Works of the Receipt Unit and of the transaction engine. -/

namespace Sys2Proof.Proofs

open Sys2Proof Sys2Proof.Machine Sys2Proof.Laws

/-! ### The print ring -/

/-- A step of a bay at its ring and its sequencer alone. -/
structure RingStep (y y' : Bay) : Prop where
  beside : { y' with ring := y.ring, seq := y.seq } = y
  ring   : y.ring.length ≤ Config.ringBytes → y'.ring.length ≤ Config.ringBytes

section
variable {y y' y'' : Bay}

theorem RingStep.refl (y : Bay) : RingStep y y := ⟨rfl, id⟩

theorem RingStep.trans (h : RingStep y y') (h' : RingStep y' y'') : RingStep y y'' := by
  refine ⟨?_, fun hy => h'.ring (h.ring hy)⟩
  calc ({ y'' with ring := y.ring, seq := y.seq } : Bay)
      _ = { ({ y'' with ring := y'.ring, seq := y'.seq } : Bay) with ring := y.ring, seq := y.seq } := rfl
      _ = { y' with ring := y.ring, seq := y.seq } := by rw [h'.beside]
      _ = y := h.beside

/-- The sequencer's record changes. -/
theorem RingStep.seq (y : Bay) (q : Sequencer) : RingStep y { y with seq := q } := ⟨rfl, id⟩

theorem push_step {bs : List Byte} (h : y.ringRoom bs.length = true) : RingStep y (y.push bs) := by
  refine ⟨rfl, fun _ => ?_⟩
  have hroom := of_decide_eq_true h
  simp only [Bay.push, List.length_append]
  omega

theorem endCopy_step (y : Bay) (j : Job) : RingStep y (y.endCopy j) := by
  unfold Bay.endCopy
  split
  · exact .seq _ _
  · split <;> exact .seq _ _

theorem expandRun_step (t : BankTables) (fuel : Nat) (y : Bay) : RingStep y (expandRun t fuel y) := by
  induction fuel generalizing y with
  | zero => exact .refl y
  | succ fuel ih =>
    unfold expandRun
    split
    · split
      · exact .refl y
      · split
        · split
          · split
            next hroom => exact (push_step hroom).trans (ih _)
            next => exact .seq _ _
          · exact .seq _ _
        · split
          · exact (endCopy_step _ _).trans (ih _)
          · split
            · exact (RingStep.seq _ _).trans (ih _)
            · split
              · exact (endCopy_step _ _).trans (ih _)
              · exact (RingStep.seq _ _).trans (ih _)
              · dsimp only
                split
                next hroom => exact (push_step hroom).trans (ih _)
                next => exact .seq _ _
    · exact .refl y

theorem RingStep.calm (h : RingStep y y') : CalmStep y y' := by
  obtain ⟨hbeside, hring⟩ := h
  have part : ∀ {α : Type} (p : Bay → α) (_ : ∀ y r q, p { y with ring := r, seq := q } = p y), p y' = p y := by
    intro α p hp
    exact (hp y' y.ring y.seq).symm.trans (congrArg p hbeside)
  exact
    { coins := by rw [part (·.ctx) fun _ _ _ => rfl]; exact id
      tendered := by rw [part (·.ctx) fun _ _ _ => rfl]; exact id
      ring := hring
      counters := by rw [part (·.counters) fun _ _ _ => rfl]; exact id
      tubes := fun n => by rw [part (·.tubes) fun _ _ _ => rfl]; exact .refl _
      box := by rw [part (·.box) fun _ _ _ => rfl]; exact id
      misses := by rw [part (·.term) fun _ _ _ => rfl]; exact id
      cardMark := by rw [part (·.term) fun _ _ _ => rfl]; exact id
      chunkMark := by rw [part (·.term) fun _ _ _ => rfl]; exact id
      reserved := by rw [part (·.reserved) fun _ _ _ => rfl]; exact id
      bank := .inl (by rw [part (·.ctx) fun _ _ _ => rfl])
      resting := by rw [part (·.ctx) fun _ _ _ => rfl]; exact id
      desk := part desk fun _ _ _ => rfl }

theorem clearJob_calm (y : Bay) : CalmStep y y.clearJob := { ring := fun _ => Nat.zero_le _ }

end

/-! ### Jobs -/

section
variable {m : Mode} {P : BayNo → Prop} {b : BayNo} (hb : P b)
include hb

theorem runJob_work (s : State) : Work m P s (runJob b s).1 := by
  unfold runJob
  dsimp only
  split
  · exact .refl s
  · split
    · exact .refl s
    next j _ _ =>
      have hcalm := (expandRun_step (s.tariff.bank j.bank) expandFuel (s.bay b)).calm
      generalize expandRun (s.tariff.bank j.bank) expandFuel (s.bay b) = y at *
      exact .calmly (f := fun _ => y) hb hcalm

theorem startJob_work (j : Job) (s : State) : Work m P s (startJob b j s).1 := by
  unfold startJob
  dsimp only
  split
  · dsimp only
    exact .harmless hb rfl rfl
  · exact (runJob_work hb _).after (.harmless hb rfl rfl)

theorem keepReceipt_work (j : Job) (o : ReceiptOutcome) (s : State) : Work m P s (keepReceipt b j o s) := by
  unfold keepReceipt
  exact .iteSelf fun _ => .harmless hb rfl rfl

theorem clearJob_work (s : State) : Work m P s (s.modBay b Bay.clearJob) := .calmly hb (clearJob_calm _)

theorem finishJob_work (o : ReceiptOutcome) (s : State) : Work m P s (finishJob b o s).1 := by
  unfold finishJob
  split
  · exact .refl s
  next j hj =>
    dsimp only
    split
    · exact (keepReceipt_work hb _ _ _).after (clearJob_work hb s)
    · have hwaiting : Work m P s ((s.modBay b Bay.clearJob).modBay b fun y =>
          { y with seq := { y.seq with lastReprint := o, waiting := none } }) :=
        Work.after (.harmless hb rfl rfl) (clearJob_work hb s)
      split
      · exact hwaiting
      next w hw =>
        have hstarted := startJob_work (m := m) hb w ((s.modBay b Bay.clearJob).modBay b fun y =>
          { y with seq := { y.seq with lastReprint := o, waiting := none } })
        split
        next t o' heq =>
          rw [heq] at hstarted
          exact (keepReceipt_work hb _ _ _).after ((clearJob_work hb _).after (hwaiting.trans hstarted))
        next t heq =>
          rw [heq] at hstarted
          exact hwaiting.trans hstarted

theorem driveJob_work (s : State) : Work m P s (driveJob b s).1 := by
  have h := runJob_work (m := m) hb s
  unfold driveJob
  split
  next t o heq =>
    rw [heq] at h
    exact (finishJob_work hb o t).after h
  next t heq =>
    rw [heq] at h
    exact h

theorem requestJob_work (j : Job) (s : State) : Work m P s (requestJob b j s).1 := by
  unfold requestJob
  split
  · have h := startJob_work (m := m) hb j s
    split
    next t o heq =>
      rw [heq] at h
      exact (finishJob_work hb o t).after h
    next t heq =>
      rw [heq] at h
      exact h
  · dsimp only
    exact .harmless hb rfl rfl

theorem abortJob_work (s : State) : Work m P s (abortJob b s) := by
  refine .calmly hb ?_
  dsimp only
  split
  · split
    · exact { ring := fun _ => Nat.zero_le _ }
    · exact {}
  · exact {}

theorem cutJob_work (s : State) : Work m P s (cutJob b s).1 := finishJob_work hb _ s

end

/-! ### State entries and the close -/

/-- A change of a context's state, wait and values that keeps its coins, what is tendered and its bank, into an open state
or from rest. -/
theorem ctx_bayStep {y : Bay} {c : Ctx} (hcoins : c.coins = y.ctx.coins) (htendered : c.tendered = y.ctx.tendered)
    (hbank : c.bank = y.ctx.bank) (hrest : resting c → resting y.ctx) : BayStep y { y with ctx := c } :=
  { coins := by rw [show ({ y with ctx := c } : Bay).ctx.coins = _ from hcoins]; exact id
    tendered := by rw [show ({ y with ctx := c } : Bay).ctx.tendered = _ from htendered]; exact id
    bank := .inl hbank
    resting := hrest }

theorem ctx_postKept (y : Bay) (c : Ctx) : PostKept y { y with ctx := c } := ⟨rfl, rfl, fun _ h _ => h⟩

/-- An open state is no rest. -/
theorem not_resting_of_open {c : Ctx} (h : c.state.isOpen = true) : ¬ resting c := by
  rintro (he | he) <;> rw [he] at h <;> cases h

/-- Two changes of a bay are one. -/
theorem modBay_modBay (s : State) (b : BayNo) (f g : Bay → Bay) :
    (s.modBay b f).modBay b g = s.modBay b fun y => g (f y) := by
  simp [State.modBay]

theorem appendAdjust_work {m : Mode} {P : BayNo → Prop} (reason : AdjustReason) (amount : Nat) (by_ : AppendBy)
    (b : BayNo) (s : State) : Work m P s (appendAdjust reason amount by_ b s) := append_work _ s

section
variable {m : Mode} {P : BayNo → Prop} {b : BayNo} (hb : P b)
include hb

theorem entryTone_work (was st : CtxState) (s : State) : Work m P s (entryTone was st b s) := by
  unfold entryTone
  exact .ite (fun _ => sound_work hb _ s) fun _ => .iteSelf fun _ => sound_work hb _ s

theorem makeAbsent_work (s : State) : Work m P s (makeAbsent b s) :=
  (notify_work _ _).after (.calmly (b := b) hb { misses := fun _ => Nat.zero_le _ })

theorem settleAbsent_work (s : State) : Work m P s (settleAbsent b s) := .iteSelf fun _ => makeAbsent_work hb s

theorem chirpFrom_work (was : CtxState) (s : State) : Work m P s (chirpFrom was b s) :=
  .iteSelf fun _ => sound_work hb _ s

variable (hm : m ≠ .calm)
include hm

/-- The context's values change within an open state, or at rest. -/
theorem modCtx_work {s : State} {f : Ctx → Ctx} (hcoins : (f (s.ctx b)).coins = (s.ctx b).coins)
    (htendered : (f (s.ctx b)).tendered = (s.ctx b).tendered) (hbank : (f (s.ctx b)).bank = (s.ctx b).bank)
    (hrest : resting (f (s.ctx b)) → resting (s.ctx b)) : Work m P s (s.modCtx b f) :=
  .bay hb (ctx_bayStep hcoins htendered hbank hrest) (kept_of_post hm (ctx_postKept _ _))

theorem enter_work {st : CtxState} {s : State} (h : st.isOpen = true ∨ resting (s.ctx b)) :
    Work m P s (enter st b s) := by
  refine (refresh_work hb _).after ((recomputeMask_work hb _).after ((entryTone_work hb _ _ _).after
    (modCtx_work hb hm rfl rfl rfl fun hr => ?_)))
  rcases h with hopen | hrest
  · exact absurd hr (not_resting_of_open hopen)
  · exact hrest

theorem enterOpen_work {st : CtxState} (h : st.isOpen = true) (s : State) : Work m P s (enter st b s) :=
  enter_work hb hm (.inl h)

theorem await_work (w : Wait) (s : State) : Work m P s (await w b s) :=
  (refresh_work hb _).after (modCtx_work hb hm rfl rfl rfl id)

/-- The bank is unpinned, the reservation released and the context cleared. -/
theorem clear_work (st : CtxState) (now : Ms) (s : State) :
    Work m P s (((unpinBank b s).modBay b fun y => { y with reserved := false }).modCtx b fun c => c.clear st now) := by
  rw [State.modCtx, modBay_modBay]
  refine .close hm hb ?_ rfl (kept_of_post hm ⟨rfl, rfl, fun _ h _ => h⟩)
  exact { coins := fun _ => Nat.zero_le _, tendered := fun _ => Nat.zero_le _, reserved := nofun }

theorem closeTxn_work (s : State) : Work m P s (closeTxn b s) := by
  refine (chirpFrom_work hb _ _).after ((settleAbsent_work hb _).after ?_)
  refine (refresh_work hb _).after ((recomputeMask_work hb _).after ((entryTone_work hb _ _ _).after ?_))
  have hreturn : Work m P s (if (s.ctx b).coins = [] then s else requestReturn b s) :=
    .ite (fun _ => .refl s) fun _ => requestReturn_work hb s
  exact (clear_work hb hm _ _ _).after hreturn

theorem adjustAndWait_work (reason : AdjustReason) (amount : Nat) (s : State) :
    Work m P s (adjustAndWait reason amount b s) :=
  (await_work hb hm _ _).after (append_work _ s)

theorem refundEnded_work (paid : Nat) (s : State) : Work m P s (refundEnded paid b s) :=
  .ite (fun _ => adjustAndWait_work hb hm _ _ s) fun _ => closeTxn_work hb hm s

theorem joinServer_work (s : State) : Work m P s (joinServer b s) := modCtx_work hb hm rfl rfl rfl id

theorem receiptAdjust_work (by_ : AppendBy) (s : State) : Work m P s (receiptAdjust by_ b s) := by
  unfold receiptAdjust
  exact .ite (fun _ => (joinServer_work hb hm _).after (append_work _ s)) fun _ => append_work _ s

theorem receiptTaken_work (o : ReceiptOutcome) (s : State) : Work m P s (receiptTaken o b s) := by
  unfold receiptTaken
  refine .iteSelf fun _ => ?_
  have hset : Work m P s (s.modCtx b fun c => { c with receiptOutcome := o }) := modCtx_work hb hm rfl rfl rfl id
  cases o with
  | partly | failed => exact (await_work hb hm _ _).after ((receiptAdjust_work hb hm _ _).after hset)
  | _ => exact (closeTxn_work hb hm _).after hset

theorem receiptTaken?_work {s : State} {r : State × Option ReceiptOutcome} (h : Work m P s r.1) :
    Work m P s (receiptTaken? b r) := by
  obtain ⟨t, _ | o⟩ := r
  · exact h
  · exact (receiptTaken_work hb hm o t).after h

theorem enterPrint_work (s : State) : Work m P s (enterPrint b s) := by
  have hentered : Work m P s ((enter .print b s).modBay b fun y => { y with lastReceipt := none }) :=
    Work.after (.harmless hb rfl rfl) (enterOpen_work hb hm rfl s)
  refine Work.after ?_ hentered
  unfold enterPrint
  dsimp only
  generalize ((enter .print b s).modBay b fun y => { y with lastReceipt := none }) = u
  split
  · exact (closeTxn_work hb hm _).after (modCtx_work hb hm rfl rfl rfl id)
  · split
    · exact receiptTaken?_work hb hm ((requestJob_work hb _ _).after (await_work hb hm _ u))
    · exact (receiptTaken_work hb hm _ _).after (await_work hb hm _ u)

theorem changeEnded_work (s : State) : Work m P s (changeEnded b s) := by
  have hset : Work m P s (s.modCtx b fun c => { c with shortPay := c.changeDue.getD 0 - c.changePaid }) :=
    modCtx_work hb hm rfl rfl rfl id
  refine Work.after ?_ hset
  exact .ite (fun _ => adjustAndWait_work hb hm _ _ _) fun _ => enterPrint_work hb hm _

theorem payoutEnded_work (s : State) : Work m P s (payoutEnded b s) := by
  unfold payoutEnded
  dsimp only
  split
  · exact changeEnded_work hb hm s
  · exact refundEnded_work hb hm _ s
  · exact .refl s

theorem payoutStep_work {s : State} {r : State × Bool} (h : Work m P s r.1) : Work m P s (payoutStep b r) := by
  obtain ⟨t, _ | _⟩ := r
  · exact h
  · exact (payoutEnded_work hb hm t).after h

theorem enterPayout_work (s : State) : Work m P s (enterPayout b s) :=
  payoutStep_work hb hm ((startPayout_work hb _ _ _).after ((await_work hb hm _ _).after (enterOpen_work hb hm rfl s)))

end

end Sys2Proof.Proofs

/-! PROOFS. Works of the Card Unit, of commit, refund and the bay reset, and of the causes. -/

namespace Sys2Proof.Proofs

open Sys2Proof Sys2Proof.Machine Sys2Proof.Laws

/-! ### The pending tear table -/

theorem free_loud : Mode.free ≠ .calm := nofun

section
variable {m : Mode} {P : BayNo → Prop} (hm : m ≠ .calm)
include hm

/-- The Card Unit's record changes outside the tear table and the late replies. -/
theorem modCard_work {s : State} {f : CardUnit → CardUnit} (ht : (f s.card).tears = s.card.tears)
    (hl : (f s.card).lateReplies = s.card.lateReplies) : Work m P s (s.modCard f) :=
  .tears hm (by rw [ht]) hl

theorem removeTear_work (serial : BitVec 32) (s : State) : Work m P s (removeTear serial s) :=
  .tears hm (List.filter_sublist.map _) rfl

theorem dropOwnEntry_work (b : BayNo) (s : State) : Work m P s (dropOwnEntry b s) :=
  .tears hm (List.filter_sublist.map _) rfl

/-- Entries change and keep their serials. -/
theorem mapTears_work {s : State} {f : Tear → Tear} (h : ∀ t, (f t).serial = t.serial) :
    Work m P s (s.modCard fun c => { c with tears := c.tears.map f }) := by
  refine .tears hm ?_ rfl
  rw [List.map_map, show Tear.serial ∘ f = Tear.serial from funext h]

theorem changeOwner_work (b : BayNo) (o : TearOwner) (s : State) : Work m P s (changeOwner b o s) :=
  mapTears_work hm fun t => by split <;> rfl

theorem modTear_work (serial : BitVec 32) {f : Tear → Tear} (h : ∀ t, (f t).serial = t.serial) (s : State) :
    Work m P s (s.modTear serial f) :=
  mapTears_work hm fun t => by
    split
    · exact h t
    · rfl

theorem closeTear_work (t : Tear) (resolution : Resolution) (resolver : Option BayNo) (reason : TearReason) (s : State) :
    Work m P s (closeTear t resolution resolver reason s) :=
  (append_work _ _).after (modTear_work (f := fun t => { t with closing := true }) hm _ (fun _ => rfl) s)

theorem formTear_work {b : BayNo} (hb : P b) (s : State) : Work m P s (formTear b s) := by
  unfold formTear
  split
  next r v hr hv =>
    split
    · exact mapTears_work hm fun t => by split <;> rfl
    · split
      · exact .bay hb { reserved := nofun } (kept_of_desk rfl)
      next hfree =>
        obtain ⟨hnone, hreserved⟩ := not_or.mp hfree
        exact (notify_work _ _).after (.newTear hm hb (by simpa using hreserved) (by simpa using hnone))
  · exact .refl s

end

/-! ### The card slot and the exchange -/

theorem nextMark_within {k : Nat} (h : markWithin k) : markWithin (nextMark k) := by
  unfold nextMark markWithin at *
  split <;> omega

theorem hand_bayStep (y : Bay) (cmd : CardCommand) (owner : CommandOwner) :
    BayStep y { y with term := y.term.hand cmd owner } :=
  { cardMark := nextMark_within }

section
variable {m : Mode} {P : BayNo → Prop} {b : BayNo} (hb : P b)
include hb

theorem handCommand_work (cmd : CardCommand) (owner : CommandOwner) (s : State) :
    Work .free P s (handCommand cmd owner b s) := by
  unfold handCommand State.modTerm
  exact .bay hb (hand_bayStep _ _ _) trivial

theorem modExch_work (s : State) (f : Exchange → Exchange) : Work .free P s (s.modExch b f) := by
  unfold State.modExch
  exact .stocked hb rfl

theorem emptySlot_work (hm : m ≠ .calm) (s : State) : Work m P s (emptySlot b s) := by
  unfold emptySlot State.modTerm
  exact .bay hb (.of_stock rfl) (kept_of_post hm ⟨rfl, rfl, fun _ h => by cases h⟩)

theorem presentRead_work (s : State) : Work .free P s (presentRead b s) := by
  unfold presentRead
  split
  · exact handCommand_work hb _ _ s
  · exact .refl s

theorem startExchange_work (p : Purpose) (req : Option WriteRequest) (s : State) :
    Work .free P s (startExchange p req b s) :=
  (presentRead_work hb _).after (modExch_work hb s _)

theorem endAuth_work (s : State) : Work .free P s (endAuth b s) := by
  unfold endAuth
  split
  · exact Work.after (.portStep (dropAuth_step _ _)) (.stocked hb rfl)
  · exact .refl s

theorem endExchange_work (s : State) : Work .free P s (endExchange b s) :=
  (endAuth_work hb _).after (.stocked hb rfl)

theorem issueWrite_work (s : State) : Work .free P s (issueWrite b s) := by
  unfold issueWrite
  split
  · exact (handCommand_work hb _ _ _).after (Work.after (by unfold State.modCtx; exact .stocked hb rfl) (modExch_work hb s _))
  · exact .refl s

theorem issueReapplication_work (hm : m ≠ .calm) (t : Tear) (v : CardValues) (s : State) :
    Work m P s (issueReapplication t v b s) := by
  unfold issueReapplication handCommand State.modTerm
  refine Work.after (.bay hb (hand_bayStep _ _ _) (kept_of_post hm ⟨rfl, rfl, ?_⟩)) (.harmless hb rfl rfl)
  rintro c hc howner
  cases hc
  cases howner

theorem resolve_work (serial : BitVec 32) (s : State) : Work .free P s (resolve serial b s) := modExch_work hb s _

theorem presentAgain_work (s : State) : Work .free P s (presentAgain b s) :=
  (presentRead_work hb _).after (.stocked hb rfl)

theorem resumeAt_work (serial : BitVec 32) (s : State) : Work .free P s (resumeAt serial b s) :=
  .iteSelf fun _ => presentAgain_work hb s

theorem reapplyUnknown_work (s : State) : Work .free P s (reapplyUnknown b s) := by
  have hnone : Work .free P s (s.modBay b fun y => { y with reapply := none }) := .stocked hb rfl
  unfold reapplyUnknown
  split
  next r _ =>
    dsimp only
    refine Work.after ?_ hnone
    split
    · refine .ite (fun _ => .refl _) fun _ => ?_
      exact (resumeAt_work hb _ _).after (modTear_work
        (f := fun t => { t with seqBefore := r.pseq, balanceBefore := r.balance }) free_loud _ (fun _ => rfl) _)
    · exact resumeAt_work hb _ _
  next => exact .refl s

theorem reapplyAnswered_work (resolution : Resolution) (reason : TearReason) (s : State) :
    Work .free P s (reapplyAnswered resolution reason b s) := by
  have hnone : Work .free P s (s.modBay b fun y => { y with reapply := none }) := .stocked hb rfl
  unfold reapplyAnswered
  split
  · dsimp only
    refine Work.after ?_ hnone
    split
    · exact .ite (fun _ => .refl _) fun _ => closeTear_work free_loud _ _ _ _ _
    · exact resumeAt_work hb _ _
  · exact .refl s

end

theorem resume_work (serial : BitVec 32) (s : State) : Work .free (fun _ => True) s (resume serial s) :=
  .forBays (fun _ s => resumeAt_work trivial serial s) s

theorem tearDone_work (serial : BitVec 32) (resolution : Resolution) (s : State) :
    Work .free (fun _ => True) s (tearDone serial resolution s) := by
  unfold tearDone
  split
  · refine .iteSelf fun _ => ?_
    exact (resume_work _ _).after ((notify_work _ _).after (removeTear_work free_loud _ s))
  · exact .refl s

/-! ### Commit, refund and the card states -/

/-- Bay b's pricing request is withdrawn where its context is in PRICING (R7, R48). -/
def unpriced (b : BayNo) (s : State) : State :=
  if (s.ctx b).state = .pricing then { s with tariff := s.tariff.withdraw b } else s

theorem unpriced_work {P : BayNo → Prop} (b : BayNo) (s : State) : Work .free P s (unpriced b s) :=
  .iteSelf fun _ => .requests rfl

theorem place_requests (t : Tariff) (r : PriceRequest) :
    t.place r = { t with queue := (t.place r).queue, evaluating := (t.place r).evaluating } := by
  unfold Tariff.place Tariff.evalStart
  split <;> rfl

theorem placeRequest_work {P : BayNo → Prop} (b : BayNo) (s : State) : Work .free P s (placeRequest b s) := by
  unfold placeRequest
  rw [place_requests]
  exact .requests rfl

theorem resetAdjust_work {m : Mode} {P : BayNo → Prop} (reason : AdjustReason) (amount : Nat) (b : BayNo) (s : State) :
    Work m P s (resetAdjust reason amount b s) := .iteSelf fun _ => appendAdjust_work _ _ _ b s

section
variable {m : Mode} {P : BayNo → Prop} {b : BayNo} (hb : P b)
include hb

theorem stopOrphan_work (s : State) : Work m P s (stopPayout b (s.modJournal (·.orphan b))) :=
  (stopPayout_work hb _).after (.journal (orphan_step _ _))

section
variable (hm : m ≠ .calm)
include hm

/-- Behind the end of the exchange, a commit keeps the desk's card part. -/
theorem enterCommit_afterEnd (s : State) : Work m P (endExchange b s) (enterCommit b s) := by
  have hrouted : Work m P (endExchange b s) (routeEscrow b (enter .commit b (endExchange b s))) :=
    (routeEscrow_work hb _).after (enterOpen_work hb hm rfl _)
  refine Work.after ?_ hrouted
  unfold enterCommit
  dsimp only
  generalize routeEscrow b (enter .commit b (endExchange b s)) = u
  exact (append_work _ _).after ((await_work hb hm _ _).after
    (modCtx_work (f := fun c => { c with changeDue := some c.due, changePaid := 0, shortPay := 0 }) hb hm rfl rfl rfl id))

theorem enterRefund_afterEnd (s : State) : Work m P (endExchange b (unpriced b s)) (enterRefund b s) := by
  have hentered : Work m P (endExchange b (unpriced b s))
      (requestReturn b (enter .refund b (dropOwnEntry b (endExchange b (unpriced b s))))) :=
    (requestReturn_work hb _).after ((enterOpen_work hb hm rfl _).after (dropOwnEntry_work hm b _))
  refine Work.after ?_ hentered
  unfold enterRefund
  dsimp only
  rw [← unpriced]
  generalize requestReturn b (enter .refund b (dropOwnEntry b (endExchange b (unpriced b s)))) = u
  split
  · have hstarted := (startPayout_work (m := m) (P := P) hb .refund (s.ctx b).overflowValue
        (await .payout b (u.modCtx b fun c => { c with refundOwed := (s.ctx b).overflowValue }))).after
      ((await_work hb hm .payout _).after (modCtx_work (s := u) hb hm rfl rfl rfl id))
    split
    next t heq =>
      rw [heq] at hstarted
      exact (refundEnded_work hb hm _ t).after hstarted
    next t heq =>
      rw [heq] at hstarted
      exact hstarted
  · exact closeTxn_work hb hm u

theorem cancelWith_afterEnd (code : Code) (s : State) : Work m P (endExchange b (unpriced b s)) (cancelWith code b s) :=
  (refuse_work hb _ _).after (enterRefund_afterEnd hb hm s)

theorem takeSequence_work (q : Nat) (s : State) : Work m P s (takeSequence q b s) :=
  Work.after (.iteSelf fun _ => changeOwner_work hm b _ _) (modCtx_work (f := fun c => { c with txnSeq := some q }) hb hm
    rfl rfl rfl id)

theorem withdrawCommand_work (s : State) : Work m P s (withdrawCommand b s) := by
  unfold withdrawCommand State.modTerm
  refine .bay hb (.of_stock rfl) (kept_of_post hm ⟨rfl, rfl, fun c hc howner => ?_⟩)
  obtain ⟨d, hd, hleft⟩ := Option.bind_eq_some_iff.mp hc
  unfold CardSlot.withdraw at hleft
  split at hleft
  next hre =>
    cases hleft
    rw [howner] at hre
    cases hre
  next => cases hleft

theorem finishReset_work (s : State) : Work m P s (finishReset b s) :=
  Work.after (.ite (fun _ => (recomputeMask_work hb _).after (await_work hb hm _ _)) fun _ => closeTxn_work hb hm _)
    (withdrawCommand_work hb hm s)

theorem resetReceipt_work (s : State) : Work m P s (resetReceipt b s) :=
  (receiptAdjust_work hb hm _ _).after (modCtx_work (f := fun c => { c with receiptOutcome := .failed }) hb hm rfl rfl
    rfl id)

theorem resetEarly_afterEnd (s : State) :
    Work m P (endExchange b (changeOwner b .nobody (if ((unpriced b s).exch b).phase = .writing then
      formTear b (unpriced b s) else unpriced b s))) (resetEarly b s) :=
  (finishReset_work hb hm _).after ((resetAdjust_work _ _ b _).after (requestReturn_work hb _))

theorem resetPayout_work (s : State) : Work m P s (resetPayout b s) := by
  refine (finishReset_work hb hm _).after ((resetReceipt_work hb hm _).after (Work.after ?_ (stopOrphan_work hb s)))
  refine .ite (fun _ => .refl _) fun _ => ?_
  exact (resetAdjust_work _ _ b _).after (modCtx_work hb hm rfl rfl rfl id)

theorem resetPrint_work (s : State) : Work m P s (resetPrint b s) := by
  have horphan : Work m P s (s.modJournal (·.orphan b)) := .journal (orphan_step _ _)
  refine Work.after (.ite (fun _ => finishReset_work hb hm _) fun _ => ?_) horphan
  exact (finishReset_work hb hm _).after ((resetReceipt_work hb hm _).after (abortJob_work hb _))

theorem resetRefund_work (s : State) : Work m P s (resetRefund b s) :=
  (finishReset_work hb hm _).after (Work.after (.iteSelf fun _ => resetAdjust_work _ _ b _) (stopOrphan_work hb s))

theorem saleDone_work (q : Nat) (s : State) : Work m P s (saleDone q b s) := by
  unfold saleDone
  refine .iteSelf fun _ => Work.after ?_ (takeSequence_work hb hm q s)
  refine .ite (fun _ => ?_) fun _ => .ite (fun _ => enterPayout_work hb hm _) fun _ => enterPrint_work hb hm _
  exact (resetPayout_work hb hm _).after (modCtx_work hb hm rfl rfl rfl id)

theorem adjustDone_work (s : State) : Work m P s (adjustDone b s) := by
  unfold adjustDone
  split
  · exact enterPrint_work hb hm s
  · exact closeTxn_work hb hm s
  · exact closeTxn_work hb hm s
  · exact .refl s

end

theorem enterCommit_work (s : State) : Work .free P s (enterCommit b s) :=
  (enterCommit_afterEnd hb free_loud s).after (endExchange_work hb s)

theorem enterRefund_work (s : State) : Work .free P s (enterRefund b s) :=
  (enterRefund_afterEnd hb free_loud s).after ((endExchange_work hb _).after (unpriced_work b s))

theorem cancelWith_work (code : Code) (s : State) : Work .free P s (cancelWith code b s) :=
  (refuse_work hb _ _).after (enterRefund_work hb s)

theorem enterCardRead_work (s : State) : Work .free P s (enterCardRead b s) :=
  (startExchange_work hb _ _ _).after (enterOpen_work hb free_loud rfl s)

theorem enterCardWrite_work (s : State) : Work .free P s (enterCardWrite b s) :=
  (startExchange_work hb _ _ _).after (enterOpen_work hb free_loud rfl s)

theorem enterTearWait_work (s : State) : Work .free P s (enterTearWait b s) :=
  (startExchange_work hb _ _ _).after (enterOpen_work hb free_loud rfl s)

theorem writeUnknown_work (s : State) : Work .free P s (writeUnknown b s) :=
  (refresh_work hb _).after ((enterTearWait_work hb _).after ((endExchange_work hb _).after (formTear_work free_loud hb s)))

theorem enterPricing_work (s : State) : Work .free P s (enterPricing b s) :=
  (placeRequest_work b _).after (enterOpen_work hb free_loud rfl s)

theorem leavePriced_work (s : State) : Work .free P s (leavePriced b s) := by
  unfold leavePriced
  refine .ite (fun _ => ?_) fun _ => .ite (fun _ => .ite (fun _ => enterCardWrite_work hb s) fun _ =>
    enterCommit_work hb s) fun _ => .ite (fun _ => enterCardWrite_work hb s) fun _ => enterOpen_work hb free_loud rfl s
  exact (refuse_work hb _ _).after (modCtx_work (f := fun c => { c with method := none }) hb free_loud rfl rfl rfl id)

theorem resetEarly_work (s : State) : Work .free P s (resetEarly b s) := by
  refine (resetEarly_afterEnd hb free_loud s).after ((endExchange_work hb _).after ((changeOwner_work free_loud b _ _).after
    (Work.after ?_ (unpriced_work b s))))
  exact .iteSelf fun _ => formTear_work free_loud hb _

theorem bayReset_work (s : State) : Work .free P s (bayReset b s) := by
  unfold bayReset
  refine .ite (fun _ => .refl s) fun _ => ?_
  split
  · exact requestReturn_work hb s
  · exact requestReturn_work hb s
  · exact resetEarly_work hb s
  · exact resetEarly_work hb s
  · exact resetEarly_work hb s
  · exact resetEarly_work hb s
  · exact resetEarly_work hb s
  · exact resetEarly_work hb s
  · exact resetEarly_work hb s
  · exact modCtx_work hb free_loud rfl rfl rfl id
  · exact resetPayout_work hb free_loud s
  · exact resetPrint_work hb free_loud s
  · exact resetRefund_work hb free_loud s

/-! ### Causes -/

theorem lostReaction_work (s : State) : Work .free P s (lostReaction b s) := by
  unfold lostReaction
  refine .iteSelf fun _ => ?_
  split
  · exact enterRefund_work hb s
  · exact enterRefund_work hb s
  · exact enterRefund_work hb s
  · exact enterRefund_work hb s
  · exact enterRefund_work hb s
  · exact .ite (fun _ => writeUnknown_work hb s) fun _ => cancelWith_work hb _ s
  · exact modCtx_work hb free_loud rfl rfl rfl id
  · exact modCtx_work hb free_loud rfl rfl rfl id
  · exact .refl s

/-- The other causes take a bay in IDLE out of sale, and no more (R22). -/
theorem causeReaction_mild (hm : m ≠ .calm) {k : Cause} (hbox : k ≠ .boxAbsent) (hlost : k ≠ .terminalLost) (s : State) :
    Work m P s (causeReaction k b s) := by
  unfold causeReaction
  dsimp only
  split
  next hidle => exact enter_work hb hm (.inr (.inl hidle))
  next => exact .refl s
  next => exact absurd rfl hbox
  next => exact absurd rfl hlost
  next => exact .refl s

theorem causeReaction_work (k : Cause) (s : State) : Work .free P s (causeReaction k b s) := by
  unfold causeReaction
  dsimp only
  split
  next hidle => exact enter_work hb free_loud (.inr (.inl hidle))
  next => exact .refl s
  next => exact .iteSelf fun _ => enterRefund_work hb s
  next => exact lostReaction_work hb s
  next => exact .refl s

/-- The context's values change and its state and wait stay. -/
theorem causes_work {s : State} {f : Causes → Causes} :
    Work m P s (s.modCtx b fun c => { c with causes := f c.causes }) := .harmless hb rfl rfl

theorem joinCause_of {k : Cause} {s : State} (h : ∀ s, Work m P s (causeReaction k b s)) :
    Work m P s (joinCause k b s) := by
  unfold joinCause
  refine .ite (fun _ => .refl s) fun _ => ?_
  exact (recomputeMask_work hb _).after ((h _).after ((recomputeMask_work hb _).after
    (causes_work (f := fun c => c.put k true) hb)))

theorem joinCause_work (k : Cause) (s : State) : Work .free P s (joinCause k b s) :=
  joinCause_of hb (causeReaction_work hb k)

theorem joinCause_mild (hm : m ≠ .calm) {k : Cause} (hbox : k ≠ .boxAbsent) (hlost : k ≠ .terminalLost) (s : State) :
    Work m P s (joinCause k b s) :=
  joinCause_of hb (causeReaction_mild hb hm hbox hlost)

theorem leaveCause_work (k : Cause) (s : State) : Work m P s (leaveCause k b s) :=
  (recomputeMask_work hb _).after (causes_work (f := fun c => c.put k false) hb)

theorem testJamAll_work (hm : m ≠ .calm) (s : State) : Work m P s (testJamAll b s) :=
  .ite (fun _ => joinCause_mild hb hm (by decide) (by decide) s) fun _ => leaveCause_work hb _ s

end

end Sys2Proof.Proofs

/-! PROOFS. Works of card answers, keys, coins, payouts, lines, polls, records and printing. -/

namespace Sys2Proof.Proofs

open Sys2Proof Sys2Proof.Machine Sys2Proof.Laws

/-! ### Steps of a tube, and of a delivered ring -/

/-- A tube's state changes, its count and its site fields stay. -/
theorem tubeState_step (u : Tube) (st : TubeState) : TubeStep u { u with state := st } := ⟨rfl, id, fun _ h => h⟩

theorem leave_step (u : Tube) : TubeStep u u.leave :=
  ⟨rfl, id, fun _ h => Nat.le_trans (Nat.sub_le _ _) h⟩

theorem setCount_step (u : Tube) (n : Nat) (st : TubeState) :
    TubeStep u { u with count := u.setCount n, state := st } := by
  refine ⟨rfl, id, fun _ _ => ?_⟩
  show u.setCount n ≤ _
  unfold Tube.setCount
  split <;> omega

theorem deliver_bayStep (y : Bay) (now : Ms) : CalmStep y (y.deliver now) :=
  { ring := fun h => by simpa [Bay.deliver] using Nat.le_trans (Nat.sub_le _ _) h }

/-! ### Card work (R111 to R130) -/

theorem authReq_keeps (l : Link) (reference : BitVec 16) (bay : BayNo) (serial : BitVec 32) (amount balance : Nat) :
    LinkKeeps l (l.authReq reference bay serial amount balance) :=
  LinkKeeps.trans (l' := { l with messages := l.messages ++ [.authReq reference bay serial amount balance] })
    ⟨rfl, id, id⟩ (kick_step _).toLinkKeeps

section
variable {P : BayNo → Prop} {b : BayNo} (hb : P b)
include hb

theorem goodRead_work (v : CardValues) (s : State) : Work .free P s (goodRead v b s) := by
  refine .ite (fun _ => cancelWith_work hb _ s) fun _ => ?_
  exact (enterPricing_work hb _).after ((endExchange_work hb _).after
    (modCtx_work (f := fun c => { c with card := some v }) hb free_loud rfl rfl rfl id))

theorem goWrite_work (s : State) : Work .free P s (goWrite b s) := by
  unfold goWrite
  split
  · exact .refl s
  · refine .ite (fun _ => modExch_work hb s _) fun _ => .ite (fun _ => presentAgain_work hb s) fun _ =>
      .ite (fun _ => .ite (fun _ => ?_) fun _ => cancelWith_work hb _ s) fun _ => issueWrite_work hb s
    exact (issueWrite_work hb _).after (modCard_work free_loud rfl rfl)

theorem requestAuth_work (r : WriteRequest) (v : CardValues) (s : State) : Work .free P s (requestAuth r v b s) := by
  have hnext : Work .free P s (s.modCard fun c => { c with nextRef := c.nextRef + 1 }) := modCard_work free_loud rfl rfl
  refine (refresh_work hb _).after (Work.after (.port (authReq_keeps _ _ _ _ _ _) fun h => absurd rfl h)
    (Work.after (.stocked hb rfl) hnext))

theorem afterFresh_work (r : WriteRequest) (v : CardValues) (s : State) : Work .free P s (afterFresh r v b s) := by
  refine Work.after ?_ (modExch_work hb s fun x => { x with phase := .checking })
  exact .ite (fun _ => .ite (fun _ => requestAuth_work hb _ _ _) fun _ => cancelWith_work hb _ _) fun _ =>
    goWrite_work hb _

theorem freshRead_work (v : CardValues) (s : State) : Work .free P s (freshRead v b s) := by
  have hfresh := modExch_work hb s fun x => { x with fresh := some v }
  refine Work.after ?_ hfresh
  unfold freshRead
  dsimp only
  split
  · exact presentRead_work hb _
  · refine .ite (fun _ => ?_) fun _ => (presentRead_work hb _).after (refuse_work hb _ _)
    split
    · exact cancelWith_work hb _ _
    · exact afterFresh_work hb _ _ _

theorem settleOwn_work (t : Tear) (v : CardValues) (s : State) : Work .free P s (settleOwn t v b s) := by
  unfold settleOwn
  split
  · exact (enterCommit_work hb _).after (Work.after
      (modCtx_work (f := fun c => { c with cardOutcome := .done, balanceAfter := some v.balance }) hb free_loud
        rfl rfl rfl id) (removeTear_work free_loud _ s))
  · refine .ite (fun _ => enterRefund_work hb s) fun _ => ?_
    exact (enterCardWrite_work hb _).after
      (modCtx_work (f := fun c => { c with writeRetried := true }) hb free_loud rfl rfl rfl id)
  · exact (enterCommit_work hb _).after (Work.after
      (modCtx_work (f := fun c => { c with cardOutcome := .pending }) hb free_loud rfl rfl rfl id)
      (closeTear_work free_loud _ _ _ _ s))

theorem reapplyEntry_work (t : Tear) (v : CardValues) (s : State) : Work .free P s (reapplyEntry t v b s) := by
  refine Work.after ?_ (resolve_work hb t.serial s)
  exact .ite (fun _ => .stocked hb rfl) fun _ => .ite (fun _ => closeTear_work free_loud _ _ _ _ _) fun _ =>
    .ite (fun _ => closeTear_work free_loud _ _ _ _ _) fun _ => issueReapplication_work hb free_loud _ _ _

theorem resolveEntry_work (t : Tear) (v : CardValues) (s : State) : Work .free P s (resolveEntry t v b s) := by
  have hclose : ∀ resolution reason, Work .free P s (closeTear t resolution (some b) reason (resolve t.serial b s)) :=
    fun _ _ => (closeTear_work free_loud _ _ _ _ _).after (resolve_work hb _ s)
  unfold resolveEntry
  split
  · exact hclose _ _
  · exact hclose _ _
  · split
    · exact reapplyEntry_work hb _ _ _
    · exact hclose _ _

theorem purposeRead_work (v : CardValues) (s : State) : Work .free P s (purposeRead v b s) := by
  unfold purposeRead
  split
  · exact goodRead_work hb v s
  · exact freshRead_work hb v s
  · exact presentRead_work hb s

theorem entryRead_work (t : Tear) (v : CardValues) (s : State) : Work .free P s (entryRead t v b s) := by
  unfold entryRead
  refine .ite (fun _ => presentRead_work hb s) fun _ => ?_
  split
  · refine .ite (fun _ => ?_) fun _ => presentRead_work hb s
    split
    · exact settleOwn_work hb _ _ _
    · exact freshRead_work hb _ _
    · exact presentRead_work hb s
  · exact resolveEntry_work hb _ _ _

theorem readTaken_work (v : CardValues) (s : State) : Work .free P s (readTaken v b s) := by
  unfold readTaken
  split
  · exact entryRead_work hb _ _ _
  · exact purposeRead_work hb _ _

theorem writeDone_work (balance : Nat) (s : State) : Work .free P s (writeDone balance b s) :=
  (enterCommit_work hb _).after (Work.after
    (modCtx_work (f := fun c => { c with cardOutcome := .done, balanceAfter := some balance }) hb free_loud
      rfl rfl rfl id) (dropOwnEntry_work free_loud b s))

theorem authFailed_work (code : Code) (s : State) : Work .free P s (authFailed code b s) :=
  (cancelWith_work hb _ _).after (endAuth_work hb s)

theorem authGranted_work (ref : BitVec 32) (s : State) : Work .free P s (authGranted ref b s) :=
  (goWrite_work hb _).after ((refresh_work hb _).after (Work.after
    (modCtx_work (f := fun c => { c with authRef := some ref }) hb free_loud rfl rfl rfl id)
    ((modExch_work hb _ fun x => { x with grant := some ref, phase := .checking }).after (endAuth_work hb s))))

theorem unhold_work (s : State) : Work .free P s (unhold b s) := by
  unfold unhold
  split
  · exact presentAgain_work hb s
  · exact .ite (fun _ => .refl s) fun _ => presentAgain_work hb s
  · exact .refl s

theorem commandExpired_work (c : CardSlot) (s : State) : Work .free P s (commandExpired c b s) := by
  unfold commandExpired
  split
  · exact (presentRead_work hb _).after (reapplyUnknown_work hb s)
  · exact writeUnknown_work hb s
  · exact presentRead_work hb s

theorem answerSlot_work (k : Nat) {act : CardSlot → State → State} (h : ∀ c s, Work .free P s (act c s)) (s : State) :
    Work .free P s (answerSlot k act b s) := by
  unfold answerSlot
  split
  · exact .iteSelf fun _ => (h _ _).after (emptySlot_work hb free_loud s)
  · exact .refl s

end

theorem lateRead_work {m : Mode} {P : BayNo → Prop} (hm : m ≠ .calm) (v : CardValues) (b : BayNo) (s : State) :
    Work m P s (lateRead v b s) := by
  unfold lateRead
  split
  · exact .refl s
  · refine .ite (fun _ => .refl s) fun _ => ?_
    split
    · exact closeTear_work hm _ _ _ _ s
    · exact closeTear_work hm _ _ _ _ s
    · exact .refl s

section
variable {P : BayNo → Prop} {b : BayNo} (hb : P b)
include hb

theorem cardRead_work (v : CardValues) (c : CardSlot) (s : State) : Work .free P s (cardRead v b c s) := by
  unfold cardRead
  split
  · exact readTaken_work hb v s
  · exact (presentRead_work hb _).after (lateRead_work free_loud v b s)
  · exact commandExpired_work hb c s

theorem writeOk_work (balance : Nat) (c : CardSlot) (s : State) : Work .free P s (writeOk balance b c s) := by
  unfold writeOk
  split
  · exact writeDone_work hb _ s
  · exact (presentRead_work hb _).after (reapplyAnswered_work hb _ _ s)
  · exact presentRead_work hb s

theorem writeNo_work (r : CardRefusal) (c : CardSlot) (s : State) : Work .free P s (writeNo r b c s) := by
  unfold writeNo
  split
  · exact cancelWith_work hb _ s
  · exact (presentRead_work hb _).after (reapplyAnswered_work hb _ _ s)
  · exact presentRead_work hb s

theorem cardTaken_work (k : Nat) (s : State) :
    Work .free P s (s.modTerm b fun t =>
      { t with cardSlot := t.cardSlot.map fun c => if c.mark = k then { c with taken := true } else c }) := by
  unfold State.modTerm
  exact .stocked hb rfl

/-! ### Keys (R4 to R11, R148) -/

theorem confirmed_work (p : Product) (k : Method) (wanted : Bool) (s : State) :
    Work .free P s (confirmed p k wanted b s) := by
  refine Work.after ?_ (modCtx_work (f := fun c =>
    { c with method := some k, receiptWanted := wanted || decide (p.kind = .passPrinted) }) hb free_loud rfl rfl rfl id)
  exact .ite (fun _ => leavePriced_work hb _) fun _ => enterPricing_work hb _

theorem confirm_work (k : Method) (wanted : Bool) (s : State) : Work .free P s (confirm k wanted b s) := by
  refine Work.after ?_ (clearOverlay_work hb s)
  unfold confirm
  dsimp only
  refine .iteSelf fun _ => ?_
  split
  · split
    · exact refuse_work hb _ _
    · exact confirmed_work hb _ _ _ _
  · exact .refl _

theorem cancel_work (s : State) : Work .free P s (cancel b s) := by
  refine Work.after ?_ (clearOverlay_work hb s)
  unfold cancel
  dsimp only
  have hwait : ∀ s, Work .free P s (refresh b (s.modCtx b fun c => { c with overlay := .pleaseWait })) := fun s =>
    (refresh_work hb _).after (modCtx_work (f := fun c => { c with overlay := .pleaseWait }) hb free_loud rfl rfl rfl id)
  refine .iteSelf fun _ => ?_
  split
  · exact enterRefund_work hb _
  · exact enterRefund_work hb _
  · exact enterRefund_work hb _
  · exact enterRefund_work hb _
  · exact hwait _
  · exact hwait _
  · exact .refl _

theorem reprint_work (s : State) : Work .free P s (reprint b s) := by
  unfold reprint
  split
  · exact refuse_work hb _ s
  · refine .ite (fun _ => refuse_work hb _ s) fun _ => .ite (fun _ => refuse_work hb _ s) fun _ =>
      .ite (fun _ => refuse_work hb _ s) fun _ => ?_
    exact receiptTaken?_work hb free_loud ((requestJob_work hb _ _).after (.stocked hb rfl))

theorem timeout_work (s : State) : Work .free P s (timeout b s) := by
  unfold timeout
  split
  · exact cancelWith_work hb _ s
  · exact (enterCommit_work hb _).after
      (modCtx_work (f := fun c => { c with cardOutcome := .pending }) hb free_loud rfl rfl rfl id)
  · exact enterRefund_work hb s

/-! ### Coins (R69 to R80) -/

section
variable {m : Mode}

theorem modCoin_work (s : State) (f : CoinLine → CoinLine) : Work m P s (s.modCoin b f) := by
  unfold State.modCoin
  exact .harmless hb rfl rfl

theorem modCounters_work {s : State} {f : CoinCounters → CoinCounters}
    (h : CountersWithin (s.bay b).counters → CountersWithin (f (s.bay b).counters)) :
    Work m P s (s.modCounters b f) := by
  unfold State.modCounters
  exact .calmly hb { counters := h }

theorem countCoin_work (c : Coin) (pulses : Nat) (malformed : Bool) (s : State) :
    Work m P s (countCoin c pulses malformed b s) := by
  unfold countCoin
  split
  · exact .refl s
  · exact modCounters_work hb fun h => { h with stray := satInc_le _ }
  · exact (notify_work _ _).after (modCounters_work hb fun h => { h with unvalued := satInc_le _ })

theorem overflowCoin_work (c : Coin) (s : State) : Work m P s (overflowCoin c b s) := by
  unfold overflowCoin
  split
  · exact .calmly hb { box := put_within _, counters := fun h => { h with overflow := satInc_le _ } }
  · exact .calmly hb { box := put_within _, counters := fun h => { h with overflow := satInc_le _ } }

theorem joinEscrow_work (c : Coin) {s : State} (h : (s.ctx b).coins.length < Config.escrowPlaces) :
    Work m P s (joinEscrow c b s) := by
  have hjoined : Work m P s (s.modCtx b fun x => { x with coins := x.coins ++ [c] }) := by
    unfold State.modCtx
    refine .calmly hb { coins := fun _ => ?_ }
    rw [List.length_append]
    exact h
  refine Work.after ?_ hjoined
  unfold joinEscrow
  dsimp only
  split
  · exact requestReturn_work hb _
  · exact requestReturn_work hb _
  · exact .refl _

theorem placeCoin_work (c : Coin) (s : State) : Work m P s (placeCoin c b s) :=
  .ite (fun h => joinEscrow_work hb c h) fun _ => overflowCoin_work hb c s

/-- The credit of a coin within the highest amount. -/
theorem creditCoin_work {c : Coin} {s : State}
    (h : c.standing = .credited → (s.ctx b).tendered + c.value ≤ Config.maxAmount) : Work m P s (creditCoin c b s) := by
  unfold creditCoin
  dsimp only
  split
  next hcredited =>
    unfold State.modCtx
    exact .calmly hb { tendered := fun _ => h hcredited }
  next => exact .refl s

end

omit hb in
theorem coinOf_credited {s : State} {pulses : Nat} {malformed : Bool}
    (h : (s.coinOf b pulses malformed).standing = .credited) :
    (s.ctx b).tendered + (s.coinOf b pulses malformed).value ≤ Config.maxAmount := by
  revert h
  unfold State.coinOf
  split
  · split
    next hfits => exact fun _ => hfits.2.2
    next => exact fun h => by cases h
  · exact fun h => by cases h

omit hb in
theorem countCoin_tendered (c : Coin) (pulses : Nat) (malformed : Bool) (s : State) :
    ((countCoin c pulses malformed b s).ctx b).tendered = (s.ctx b).tendered := by
  unfold countCoin
  split
  · rfl
  · simp [State.modCounters, State.ctx]
  · simp [notify, State.modCounters, State.ctx]

theorem payIfComplete_work (c : Coin) (s : State) : Work .free P s (payIfComplete c b s) := by
  unfold payIfComplete
  exact .ite (fun _ => .ite (fun _ => enterCardWrite_work hb s) fun _ => enterCommit_work hb s) fun _ =>
    (refresh_work hb _).after (recomputeMask_work hb s)

theorem takeCoin_work (pulses : Nat) (malformed : Bool) (s : State) : Work .free P s (takeCoin pulses malformed b s) := by
  refine (payIfComplete_work hb _ _).after ((placeCoin_work hb _ _).after (Work.after
    (creditCoin_work hb fun h => ?_) (countCoin_work hb _ _ _ s)))
  rw [countCoin_tendered]
  exact coinOf_credited h

section
variable {m : Mode}

theorem declareFault_work (hm : m ≠ .calm) (s : State) : Work m P s (declareFault b s) :=
  (notify_work _ _).after ((joinCause_mild hb hm (by decide) (by decide) _).after
    (.calmly hb { counters := fun h => { h with fault := satInc_le _ } }))

theorem endFault_work (s : State) : Work m P s (endFault b s) :=
  (notify_work _ _).after ((leaveCause_work hb _ _).after (modCoin_work hb s _))

theorem releaseEscrow_work (s : State) : Work m P s (s.modBay b fun y => { y with escrow := ⟨none, false⟩ }) :=
  .harmless hb rfl rfl

theorem coinOff_work (s : State) : Work m P s (coinOff b s) := by
  unfold coinOff
  refine .ite (fun _ => .refl s) fun _ => (recomputeMask_work hb _).after (.calmly hb ?_)
  dsimp only
  split
  · exact {}
  · exact { counters := fun h => { h with aborted := satInc_le _ } }

theorem coinOn_work (s : State) : Work m P s (coinOn b s) := by
  unfold coinOn
  exact .iteSelf fun _ => (recomputeMask_work hb _).after (.harmless hb rfl rfl)

/-! ### Tubes and payouts (R95 to R100, R106) -/

theorem extraCoin_work (t : TubeNo) (s : State) : Work m P s (extraCoin t b s) :=
  changeTube_work hb t _ ⟨rfl, fun _ => satInc_le _, (leave_step _).count⟩

theorem payCoin_work (v : Nat) (s : State) : Work m P s (payCoin v b s) := by
  refine Work.after ?_ (modPayout_work hb s fun x => { x with paid := x.paid + v, plan := usePlan x.plan, drive := none })
  unfold payCoin
  dsimp only
  split
  · unfold State.modCtx
    exact .harmless hb rfl rfl
  · exact .refl _

variable (hm : m ≠ .calm)
include hm

theorem answerDrive_work (t : TubeNo) (s : State) : Work m P s (answerDrive t b s) := by
  refine Work.after ?_ ((payCoin_work hb (kindValue s.site (s.tube b t).kind) _).after
    (changeTube_work hb t Tube.leave (leave_step (s.tube b t))))
  unfold answerDrive
  dsimp only
  exact .ite (fun _ => (payoutEnded_work hb hm _).after (stopPayout_work hb _)) fun _ =>
    payoutStep_work hb hm (nextDrive_work hb _)

theorem jam_work (t : TubeNo) (s : State) : Work m P s (jam t b s) := by
  have hjammed : Work m P s (changeTube b t (fun u => { u with state := .jammed })
      (s.modPayout b fun x => { x with drive := none })) :=
    (changeTube_work hb t _ (tubeState_step _ _)).after (modPayout_work hb s _)
  refine Work.after ?_ hjammed
  unfold jam
  dsimp only
  generalize changeTube b t (fun u => { u with state := .jammed }) (s.modPayout b fun x => { x with drive := none }) = u
  have hplanned : Work m P u (planPayout b (testJamAll b (notify (.jam b t) u))).1 :=
    (planPayout_work hb _).after ((testJamAll_work hb hm _).after (notify_work _ u))
  exact payoutStep_work hb hm hplanned

theorem tubeSet_work (t : TubeNo) (n : Nat) (st : TubeState) (s : State) : Work m P s (tubeSet b t n st s).state :=
  (testJamAll_work hb hm _).after (changeTube_work hb t _ (setCount_step _ n st))

/-! ### Service frames and lines (R21, R206) -/

theorem inService_work (s : State) : Work m P s (inService b s).state := by
  unfold inService
  split
  · have hleft : Work m P s (s.modCtx b fun c => { c with causes := c.causes.put .server false }) :=
      causes_work (f := fun c => c.put .server false) hb
    refine Work.after ?_ hleft
    dsimp only [accept]
    split
    next hout =>
      refine (refresh_work hb _).after ((recomputeMask_work hb _).after ((entryTone_work hb _ _ _).after ?_))
      unfold State.modCtx
      refine .bay hb ?_ (kept_of_post hm (ctx_postKept _ _))
      exact
        { coins := fun _ => Nat.zero_le _
          tendered := fun _ => Nat.zero_le _
          bank := .inr ⟨.inr hout, rfl⟩
          resting := fun _ => .inr hout }
    next => exact .refl _
  · exact .refl s

theorem setCause_work {k : Cause} (hbox : k ≠ .boxAbsent) (hlost : k ≠ .terminalLost) (v : Bool) (s : State) :
    Work m P s (setCause k v b s) :=
  .ite (fun _ => joinCause_mild hb hm hbox hlost s) fun _ => leaveCause_work hb _ s

omit hm

theorem modLines_work (s : State) (f : BayLines → BayLines) : Work m P s (s.modLines b f) := by
  unfold State.modLines
  exact .harmless hb rfl rfl

end

theorem boxRemoved_work (s : State) :
    Work .free P s (recomputeMask b (joinCause .boxAbsent b (if (s.bay b).box.present then removeBox b s else s))) :=
  (recomputeMask_work hb _).after ((joinCause_work hb _ _).after (.iteSelf fun _ => removeBox_work hb s))

theorem boxInserted_work {m : Mode} (s : State) :
    Work m P s (leaveCause .boxAbsent b (if (s.bay b).box.present then s else insertBox b s)) :=
  (leaveCause_work hb _ _).after (.ite (fun _ => .refl s) fun _ => insertBox_work hb s)

/-! ### Polls and terminals (R194 to R199) -/

omit hb in
theorem offer_bayStep (y : Bay) : BayStep y y.offer.1 := by
  unfold Bay.offer
  split
  · exact .refl y
  · split
    · exact { chunkMark := nextMark_within }
    · exact .refl y

/-- The record a rotation poll leaves of its bay. -/
theorem polled_work (now : Ms) (s : State) :
    Work .free P s (s.modBay b fun _ => { (s.bay b).offer.1 with term := (s.bay b).offer.1.term.polled true now }) :=
  .bay hb ((offer_bayStep _).trans (.of_stock rfl)) trivial

theorem lostCommand_work (c : Option CardSlot) (s : State) : Work .free P s (lostCommand c b s) := by
  unfold lostCommand
  split
  · exact (presentRead_work hb _).after (.iteSelf fun _ => reapplyUnknown_work hb s)
  · exact .refl s

theorem modTerm_work {s : State} {f : Terminal → Terminal}
    (hmisses : (s.bay b).term.misses ≤ 3 → (f (s.bay b).term).misses ≤ 3)
    (hcard : (f (s.bay b).term).nextCardMark = (s.bay b).term.nextCardMark)
    (hchunk : (f (s.bay b).term).nextChunkMark = (s.bay b).term.nextChunkMark) : Work .free P s (s.modTerm b f) := by
  unfold State.modTerm
  refine .bay hb { misses := hmisses, cardMark := ?_, chunkMark := ?_ } trivial
  · rw [show ({ s.bay b with term := f (s.bay b).term } : Bay).term.nextCardMark = _ from hcard]; exact id
  · rw [show ({ s.bay b with term := f (s.bay b).term } : Bay).term.nextChunkMark = _ from hchunk]; exact id

theorem terminalLost_work (s : State) : Work .free P s (terminalLost b s) := by
  have hlost := modTerm_work (s := s) (f := fun t =>
    { t with state := .lost, misses := 3, recoveryStart := some s.now, cardSlot := none }) hb (fun _ => le_rfl) rfl rfl
  refine (notify_work _ _).after (receiptTaken?_work hb free_loud ((cutJob_work hb _).after (Work.after
    (.stocked hb rfl) ((lostCommand_work hb _ _).after ((joinCause_work hb _ _).after hlost)))))

theorem miss_work (s : State) : Work .free P s (miss b s) := by
  unfold miss
  split
  · exact modTerm_work hb (fun _ => by dsimp only; omega) rfl rfl
  · exact .ite (fun h => modTerm_work hb (fun _ => by dsimp only; omega) rfl rfl) fun _ => terminalLost_work hb s
  · exact .refl s

theorem terminalHeard_work (s : State) : Work .free P s (terminalHeard b s) := by
  unfold terminalHeard
  split
  · refine Work.after (.iteSelf fun _ => leaveCause_work hb _ _) (modTerm_work (f := fun t =>
      { t with state := .present, misses := 0 }) hb (fun _ => Nat.zero_le _) rfl rfl)
  · exact (notify_work _ _).after ((leaveCause_work hb _ _).after
      (modTerm_work hb (fun _ => Nat.zero_le _) rfl rfl))
  · exact .refl s

theorem reached_work (p : Poll) (s : State) : Work .free P s (s.modTerm b fun t => t.reached p) :=
  modTerm_work hb id rfl rfl

/-! ### Records and printing (R103, R142 to R159) -/

theorem boxDone_work {m : Mode} (s : State) : Work m P s (boxDone b s) :=
  (askBox_work hb _).after (.calmly hb { box := fun h =>
    { h with closures := (List.length_drop ..).trans_le (Nat.le_trans (Nat.sub_le _ 1) h.closures)
             records := fun c hc => h.records c (List.mem_of_mem_drop hc) } })

theorem releaseReset_work {m : Mode} (hm : m ≠ .calm) (s : State) : Work m P s (releaseReset b s) :=
  .iteSelf fun _ => closeTxn_work hb hm s

section
variable {m : Mode} (hm : m ≠ .calm)
include hm

theorem delivered_work (mark : Nat) (carried : Option Nat) (s : State) :
    Work m P s (delivered mark carried b s) :=
  .iteSelf fun _ => receiptTaken?_work hb hm ((driveJob_work hb _).after (.calmly hb (deliver_bayStep _ _)))

theorem paperChanged_work (was is : Paper) (s : State) : Work m P s (paperChanged was is b s) := by
  unfold paperChanged
  refine .ite (fun _ => .refl s) fun _ => Work.after ?_ (notify_work (.paper b is) s)
  exact .iteSelf fun _ => .ite (fun _ => joinCause_mild hb hm (by decide) (by decide) _) fun _ => leaveCause_work hb _ _

theorem statusAtJob_work (s : State) : Work m P s (statusAtJob b s) := by
  unfold statusAtJob
  dsimp only
  exact .ite (fun _ => .refl s) fun _ => .ite (fun _ => receiptTaken?_work hb hm (cutJob_work hb s)) fun _ =>
    .harmless hb rfl rfl

theorem printerStatus_work (paper : Paper) (headUp : Bool) (credit : Nat) (s : State) :
    Work m P s (printerStatus paper headUp credit b s) :=
  (statusAtJob_work hb hm _).after ((paperChanged_work hb hm _ _ _).after (.harmless hb rfl rfl))

end

end

/-- A request of the wait list that is placed marks its BOX head. -/
theorem placed_work {m : Mode} (r : Append) (s : State) : Work m (fun _ => True) s (placed r s) := by
  unfold placed
  split
  · refine .calmly trivial { box := fun h => ?_ }
    refine { h with closures := ?_, records := ?_ }
    · dsimp only
      split
      next hslot => have := h.closures; rw [hslot] at this; exact this
      next => exact Nat.zero_le _
    · dsimp only
      split
      next c rest hslot =>
        have hrec := h.records
        rw [hslot] at hrec
        intro d hd
        rcases List.mem_cons.mp hd with rfl | hd
        · exact hrec c List.mem_cons_self
        · exact hrec d (List.mem_cons_of_mem _ hd)
      next => exact nofun
  · exact .refl s

theorem shiftQueue_work {m : Mode} (s : State) : Work m (fun _ => True) s (shiftQueue s) := by
  have hshift : Work m (fun _ => True) s (s.modJournal Journal.shift) := .journal (shift_step _)
  refine Work.after ?_ hshift
  unfold shiftQueue
  dsimp only
  split
  · exact placed_work _ _
  · exact .refl _

theorem complete_work (r : Append) (q : Nat) (s : State) : Work .free (fun _ => True) s (complete r q s) := by
  unfold complete
  split
  · exact saleDone_work trivial free_loud _ s
  · exact adjustDone_work trivial free_loud s
  · exact tearDone_work _ _ s
  · exact boxDone_work trivial s
  · exact .refl s

theorem unholdAll_work (s : State) : Work .free (fun _ => True) s (forBays unhold s) :=
  .forBays (fun _ s => unhold_work trivial s) s

theorem endWaits_work (s : State) : Work .free (fun _ => True) s (endWaits s) :=
  .forBays (fun _ s => .iteSelf fun _ => authFailed_work trivial _ s) s

end Sys2Proof.Proofs

/-! PROOFS. What works keep: everything outside the units they act on, the bays they are not about, the tubes' settings and
the bounded places. -/

namespace Sys2Proof.Proofs

open Sys2Proof Sys2Proof.Machine Sys2Proof.Laws

/-! ### Outside a work -/

/-- What no work changes: the clocks, start-up's mark, the bus, the queue of commands, the stored check, the port's rim, and
of the Tariff Unit all but the pins and the pricing queue. -/
structure Outside where
  time    : Time
  up      : Bool
  bus     : Bus
  pending : List Instr
  check   : BitVec 32
  rim     : Rim
  tariff  : Tariff

/-- Those parts of a state. -/
def outside (s : State) : Outside :=
  ⟨s.time, s.up, s.bus, s.pending, s.check, rim s.link,
    { s.tariff with pinsA := 0, pinsB := 0, queue := [], evaluating := none }⟩

section
variable {m : Mode} {P : BayNo → Prop} {s t : State}

theorem unpinBank_outside (b : BayNo) (s : State) : outside (unpinBank b s) = outside s := by
  unfold unpinBank
  split
  next k _ => cases k <;> rfl
  next => rfl

theorem Work.outside (h : Work m P s t) : outside t = outside s := by
  induction h with
  | refl => rfl
  | trans _ _ h₁ h₂ => exact h₂.trans h₁
  | bay => rfl
  | port h => simp only [Proofs.outside, State.modLink_link, h.rim]; rfl
  | journal => rfl
  | requests => rfl
  | tears => rfl
  | newTear => rfl
  | close => exact unpinBank_outside _ _

theorem unpinBank_bays (b : BayNo) (s : State) : (unpinBank b s).bays = s.bays := by
  unfold unpinBank
  split <;> rfl

theorem unpinBank_bay (b c : BayNo) (s : State) : (unpinBank b s).bay c = s.bay c := by
  rw [State.bay, unpinBank_bays, State.bay]

/-- A work leaves the bays it is not about. -/
theorem Work.others (h : Work m P s t) {c : BayNo} (hc : ¬ P c) : t.bay c = s.bay c := by
  have ne_of : ∀ {b}, P b → c ≠ b := fun hb he => hc (he ▸ hb)
  induction h with
  | refl => rfl
  | trans _ _ h₁ h₂ => exact h₂.trans h₁
  | bay hb => exact State.bay_modBay_ne _ (ne_of hb) _
  | port => rfl
  | journal => rfl
  | requests => rfl
  | tears => rfl
  | newTear _ hb => exact (State.modCard_bay _ _ _).trans (State.bay_modBay_ne _ (ne_of hb) _)
  | close _ hb => exact (State.bay_modBay_ne _ (ne_of hb) _).trans (unpinBank_bay _ _ _)

/-- A work at bay b leaves every other bay's record. -/
theorem Work.otherBays {b : BayNo} (h : Work m (· = b) s t) : OtherBays b s t := fun _ hc => h.others hc

theorem Work.time (h : Work m P s t) : t.time = s.time := congrArg Outside.time h.outside
theorem Work.bus (h : Work m P s t) : t.bus = s.bus := congrArg Outside.bus h.outside
theorem Work.up (h : Work m P s t) : t.up = s.up := congrArg Outside.up h.outside
theorem Work.rim (h : Work m P s t) : Proofs.rim t.link = Proofs.rim s.link := congrArg Outside.rim h.outside

theorem Work.replies (h : Work m P s t) : t.link.replies = s.link.replies := congrArg Rim.replies h.rim
theorem Work.rxBuffer (h : Work m P s t) : t.link.rxBuffer = s.link.rxBuffer := congrArg Rim.rxBuffer h.rim
theorem Work.online (h : Work m P s t) : t.link.online = s.link.online := congrArg Rim.online h.rim

theorem Work.site (h : Work m P s t) : t.site = s.site :=
  congrArg (fun o : Outside => o.tariff.site.entries) h.outside

/-- A calm work leaves the Tariff Unit and the Card Unit. -/
theorem Work.calm_units (h : Work .calm P s t) : t.tariff = s.tariff ∧ t.card = s.card := by
  generalize hm : Mode.calm = m at h
  induction h with
  | refl => exact ⟨rfl, rfl⟩
  | trans _ _ h₁ h₂ => exact ⟨h₂.1.trans h₁.1, h₂.2.trans h₁.2⟩
  | bay => exact ⟨rfl, rfl⟩
  | port => exact ⟨rfl, rfl⟩
  | journal => exact ⟨rfl, rfl⟩
  | requests hf => exact absurd (hm.trans hf) (by decide)
  | tears hf => exact absurd hm.symm hf
  | newTear hf => exact absurd hm.symm hf
  | close hf => exact absurd hm.symm hf

/-! ### The tubes -/

/-- A work keeps the settings of every tube, and its count within its capacity. -/
theorem Work.tubes (h : Work m P s t) (b : BayNo) (n : TubeNo) : TubeStep (s.bay b).tubes[n] (t.bay b).tubes[n] := by
  have at_bay : ∀ {s : State} {c : BayNo} {f : Bay → Bay}, TubeStep (s.bay c).tubes[n] (f (s.bay c)).tubes[n] →
      TubeStep (s.bay b).tubes[n] ((s.modBay c f).bay b).tubes[n] := by
    intro s c f hf
    rw [State.bay_modBay]
    split
    next hbc => subst hbc; exact hf
    next => exact .refl _
  induction h with
  | refl => exact .refl _
  | trans _ _ h₁ h₂ => exact h₁.trans h₂
  | bay _ h => exact at_bay (h.tubes n)
  | port => exact .refl _
  | journal => exact .refl _
  | requests => exact .refl _
  | tears => exact .refl _
  | newTear => exact at_bay (f := fun y => { y with reserved := false }) (.refl _)
  | close _ _ h =>
    rw [← unpinBank_bay] at h
    have := at_bay (h.tubes n)
    rwa [unpinBank_bay] at this

/-- Tubes that keep their settings and stay within their capacity, under the same tables. -/
theorem tubesHold_of_steps (h : s.TubesHold) (htubes : ∀ (b : BayNo) (n : TubeNo), TubeStep (s.bay b).tubes[n] (t.bay b).tubes[n])
    (hsite : t.tariff.site = s.tariff.site) (hload : t.tariff.load = s.tariff.load)
    (hshadow : t.tariff.siteShadow = s.tariff.siteShadow) : t.TubesHold := by
  have same : ∀ (b : BayNo) (n : TubeNo), setting (t.bay b).tubes[n] = setting (s.bay b).tubes[n] := fun b n => (htubes b n).setting
  have hcapacity : ∀ (b : BayNo) (n : TubeNo), (t.bay b).tubes[n].capacity = (s.bay b).tubes[n].capacity := fun b n =>
    congrArg (fun q : Nat × Nat × Nat × Nat => q.2.1) (same b n)
  have hfull : ∀ (b : BayNo) (n : TubeNo), (t.bay b).tubes[n].fullLevel = (s.bay b).tubes[n].fullLevel := fun b n =>
    congrArg (fun q : Nat × Nat × Nat × Nat => q.2.2.1) (same b n)
  have hlow : ∀ (b : BayNo) (n : TubeNo), (t.bay b).tubes[n].lowLevel = (s.bay b).tubes[n].lowLevel := fun b n =>
    congrArg (fun q : Nat × Nat × Nat × Nat => q.2.2.2) (same b n)
  refine ⟨fun b n => ?_, fun b n => ?_, fun b n => ?_, hsite ▸ h.site, fun g hg => ?_⟩
  · have := (same b n).trans (h.settings b n)
    rwa [show t.site = s.site from congrArg Table.entries hsite]
  · rw [hcapacity, hfull, hlow]
    exact h.levels b n
  · rw [hcapacity]
    exact (htubes b n).count (h.levels b n).1 (h.counts b n)
  · rw [hload, hshadow] at *
    exact h.stream g hg

theorem Work.tubesHold (h : Work m P s t) (hs : s.TubesHold) : t.TubesHold :=
  tubesHold_of_steps hs h.tubes (congrArg (fun o : Outside => o.tariff.site) h.outside)
    (congrArg (fun o : Outside => o.tariff.load) h.outside) (congrArg (fun o : Outside => o.tariff.siteShadow) h.outside)

end

/-! ### The pins and the reservations -/

/-- The number of bays with a property. -/
def baysWith (p : Bay → Bool) (s : State) : Nat := (s.bays.toList.filter p).length

section
variable {p : Bay → Bool} {s t : State} {b : BayNo}

theorem baysWith_modBay (p : Bay → Bool) (s : State) (b : BayNo) (f : Bay → Bay) :
    baysWith p (s.modBay b f) + (if p (s.bay b) then 1 else 0) = baysWith p s + if p (f (s.bay b)) then 1 else 0 := by
  have hlen : b.val < s.bays.toList.length := by simp
  have hget : s.bays.toList[b.val] = s.bay b := by simp [State.bay]
  unfold baysWith State.modBay
  simp only [← List.countP_eq_length_filter, Vector.toList_set]
  rw [List.countP_set hlen, hget]
  have hpos : p (s.bay b) = true → 0 < s.bays.toList.countP p := fun hp =>
    List.countP_pos_iff.mpr ⟨s.bay b, hget ▸ List.getElem_mem hlen, hp⟩
  show _ - _ + (if p (f (s.bay b)) then 1 else 0) + _ = _
  by_cases hp : p (s.bay b) = true
  · have := hpos hp
    simp only [hp, if_true]
    omega
  · simp only [Bool.not_eq_true] at hp
    simp only [hp, Bool.false_eq_true, if_false]
    omega

theorem baysWith_same {f : Bay → Bay} (h : p (f (s.bay b)) = p (s.bay b)) : baysWith p (s.modBay b f) = baysWith p s := by
  have := baysWith_modBay p s b f
  rw [h] at this
  omega

theorem baysWith_le {f : Bay → Bay} (h : p (f (s.bay b)) = true → p (s.bay b) = true) :
    baysWith p (s.modBay b f) ≤ baysWith p s := by
  have := baysWith_modBay p s b f
  split at this
  · split at this <;> omega
  next hn =>
    rw [if_neg fun hf => hn (h hf)] at this
    omega

theorem unpin_pins (t : Tariff) (k j : Bank) : (t.unpin k).pins j = t.pins j - if k = j then 1 else 0 := by
  cases k <;> cases j <;> simp [Tariff.unpin, Tariff.pins]

/-- The context is open on a bank. -/
def opensOn (k : Bank) (y : Bay) : Bool := decide (y.ctx.bank = some k)

theorem pinsCounted_iff (s : State) :
    s.PinsCounted ↔ (∀ k, s.tariff.pins k = baysWith (opensOn k) s) ∧ ∀ b, resting (s.ctx b) → (s.ctx b).bank = none :=
  ⟨fun h => ⟨h.pins, h.resting⟩, fun h => ⟨h.1, h.2⟩⟩

/-- A step of a bay keeps the pins counted. -/
theorem BayStep.pinsCounted {f : Bay → Bay} (h : BayStep (s.bay b) (f (s.bay b))) (hs : s.PinsCounted) :
    (s.modBay b f).PinsCounted := by
  rw [pinsCounted_iff] at hs ⊢
  obtain ⟨hpins, hrest⟩ := hs
  have hbank : (f (s.bay b)).ctx.bank = (s.bay b).ctx.bank := by
    rcases h.bank with he | ⟨hr, he⟩
    · exact he
    · exact he.trans (hrest b hr).symm
  refine ⟨fun k => ?_, fun c hc => ?_⟩
  · rw [baysWith_same (by rw [opensOn, hbank, opensOn])]
    exact hpins k
  · rw [State.ctx, State.bay_modBay] at hc ⊢
    split at hc
    next hcb =>
      subst hcb
      rw [if_pos rfl, hbank]
      exact hrest c (h.resting hc)
    next hcb =>
      rw [if_neg hcb]
      exact hrest c hc

/-- A close keeps the pins counted: the context's bank is unpinned as the context leaves it. -/
theorem close_pinsCounted {f : Bay → Bay} (h : (f (s.bay b)).ctx.bank = none) (hs : s.PinsCounted) :
    ((unpinBank b s).modBay b f).PinsCounted := by
  rw [pinsCounted_iff] at hs ⊢
  obtain ⟨hpins, hrest⟩ := hs
  constructor
  · intro k
    have hcount := baysWith_modBay (opensOn k) (unpinBank b s) b f
    rw [unpinBank_bay, show opensOn k (f (s.bay b)) = false by simp [opensOn, h],
      show baysWith (opensOn k) (unpinBank b s) = baysWith (opensOn k) s by rw [baysWith, unpinBank_bays, baysWith],
      ← hpins k] at hcount
    rw [State.modBay_tariff]
    unfold unpinBank at hcount ⊢
    split
    next j hj =>
      simp only [hj] at hcount
      rw [show (({ s with tariff := s.tariff.unpin j } : State)).tariff = s.tariff.unpin j from rfl, unpin_pins]
      have hopen : opensOn k (s.bay b) = decide (j = k) := by
        rw [opensOn, show (s.bay b).ctx.bank = some j from hj]
        simp
      rw [hopen] at hcount
      by_cases hjk : j = k
      · simp only [hjk, decide_true, if_true] at hcount ⊢
        simp only [Bool.false_eq_true, if_false] at hcount
        omega
      · simp only [hjk, decide_false, if_false, Bool.false_eq_true] at hcount ⊢
        omega
    next hnone =>
      simp only [hnone] at hcount
      have hopen : opensOn k (s.bay b) = false := by
        rw [opensOn, show (s.bay b).ctx.bank = none from hnone]
        simp
      rw [hopen] at hcount
      simp only [Bool.false_eq_true, if_false] at hcount
      omega
  · intro c hc
    rw [State.ctx, State.bay_modBay] at hc ⊢
    split
    next => rw [unpinBank_bay]; exact h
    next hcb =>
      rw [if_neg hcb, unpinBank_bay] at hc
      rw [unpinBank_bay]
      exact hrest c hc

end

/-! ### The bounded places -/

/-- The bounded places and counters without the pins. -/
structure Within (s : State) : Prop where
  bays        : ∀ b, (s.bay b).Bounded
  link        : s.link.Bounded
  journal     : s.journal.Bounded
  tears       : s.card.tears.length + s.reservations ≤ Config.tearPlaces
  serials     : (s.card.tears.map Tear.serial).Nodup
  lateReplies : s.card.lateReplies ≤ Config.counterMax
  abandons    : s.tariff.load.abandons ≤ Config.counterMax
  denyEdits   : s.tariff.denyEdits ≤ Config.counterMax
  badReplies  : s.bus.badReplies ≤ Config.counterMax
  recoveries  : s.bus.recoveries ≤ Config.counterMax

theorem bounded_iff (s : State) : s.Bounded ↔ Within s ∧ s.PinsCounted :=
  ⟨fun h => ⟨⟨h.bays, h.link, h.journal, h.tears, h.serials, h.lateReplies, h.abandons, h.denyEdits, h.badReplies,
      h.recoveries⟩, h.pins⟩,
    fun ⟨h, hpins⟩ => ⟨h.bays, h.link, h.journal, h.tears, h.serials, h.lateReplies, h.abandons, h.denyEdits,
      h.badReplies, h.recoveries, hpins⟩⟩

theorem LinkKeeps.bounded {l l' : Link} (h : LinkKeeps l l') (hl : l.Bounded) : l'.Bounded := by
  obtain ⟨hrim, hlist, hdropped⟩ := h
  have part : ∀ {α : Type} (p : Rim → α), p (Proofs.rim l') = p (Proofs.rim l) := fun p => congrArg p hrim
  exact
    { rxBuffer := by rw [show l'.rxBuffer = _ from part Rim.rxBuffer]; exact hl.rxBuffer
      replies := by rw [show l'.replies = _ from part Rim.replies]; exact hl.replies
      noticeList := hlist hl.noticeList
      transitions := by rw [show l'.transitions = _ from part Rim.transitions]; exact hl.transitions
      badLength := by rw [show l'.counters.badLength = _ from part fun r => r.counters.badLength]; exact hl.badLength
      badCrc := by rw [show l'.counters.badCrc = _ from part fun r => r.counters.badCrc]; exact hl.badCrc
      truncated := by rw [show l'.counters.truncated = _ from part fun r => r.counters.truncated]; exact hl.truncated
      overrun := by rw [show l'.counters.overrun = _ from part fun r => r.counters.overrun]; exact hl.overrun
      formatError := by
        rw [show l'.counters.formatError = _ from part fun r => r.counters.formatError]; exact hl.formatError
      samePhase := by rw [show l'.counters.samePhase = _ from part fun r => r.counters.samePhase]; exact hl.samePhase
      dropped := hdropped hl.dropped }

theorem JournalStep.bounded {j j' : Journal} (h : JournalStep j j') (hj : j.Bounded) : j'.Bounded := by
  obtain ⟨hledger, hqueue⟩ := h
  simp only [Proofs.ledger, Prod.mk.injEq] at hledger
  obtain ⟨-, hhold, htorn, hclamp, herase, hbad⟩ := hledger
  exact
    { queue := hqueue hj.queue, holdList := hhold ▸ hj.holdList, torn := htorn ▸ hj.torn, ackClamp := hclamp ▸ hj.ackClamp
      eraseFail := herase ▸ hj.eraseFail, badBlock := hbad ▸ hj.badBlock }

section
variable {s t : State} {b : BayNo}

theorem reservations_eq (s : State) : s.reservations = baysWith (fun y => y.reserved) s := rfl

theorem bays_bounded {f : Bay → Bay} (h : BayKeeps (s.bay b) (f (s.bay b))) (hs : ∀ c, (s.bay c).Bounded) (c : BayNo) :
    ((s.modBay b f).bay c).Bounded := by
  rw [State.bay_modBay]
  split
  next hcb => subst hcb; exact h.bounded (hs c)
  next => exact hs c

/-- A step of a bay that keeps its places keeps the bounds. -/
theorem BayKeeps.within {f : Bay → Bay} (h : BayKeeps (s.bay b) (f (s.bay b))) (hs : Within s) : Within (s.modBay b f) :=
  { hs with
    bays := bays_bounded h hs.bays
    tears := by
      have : (s.modBay b f).reservations ≤ s.reservations := baysWith_le h.reserved
      exact Nat.le_trans (Nat.add_le_add_left this _) hs.tears }

theorem unpinBank_within (b : BayNo) (h : Within s) : Within (unpinBank b s) := by
  unfold unpinBank
  split
  next k _ => cases k <;> exact { h with }
  next => exact h

/-- A reservation becomes an entry of a serial without one. -/
theorem newTear_within {e : Tear} (hr : (s.bay b).reserved = true) (he : s.tearOf e.serial = none) (hs : Within s) :
    Within ((s.modBay b fun y => { y with reserved := false }).modCard fun k => { k with tears := k.tears ++ [e] }) := by
  have hkeeps : BayKeeps (s.bay b) { s.bay b with reserved := false } := { reserved := nofun }
  have hwithin : Within (s.modBay b fun y => { y with reserved := false }) :=
    hkeeps.within (f := fun y => { y with reserved := false }) hs
  have hcount := baysWith_modBay (fun y => y.reserved) s b fun y => { y with reserved := false }
  simp only [hr, if_true, Bool.false_eq_true, if_false] at hcount
  have htears := hs.tears
  rw [reservations_eq] at htears
  refine { hwithin with tears := ?_, serials := ?_ }
  · rw [reservations_eq]
    show (s.card.tears ++ [e]).length + baysWith _ (s.modBay b fun y => { y with reserved := false }) ≤ _
    rw [List.length_append, List.length_singleton]
    omega
  · show ((s.card.tears ++ [e]).map Tear.serial).Nodup
    rw [List.map_append, List.nodup_append]
    refine ⟨hs.serials, by simp, fun x hx y hy hxy => ?_⟩
    obtain ⟨u, hu, rfl⟩ := List.mem_map.mp hx
    have hfree := List.find?_eq_none.mp he u hu
    simp only [List.map_cons, List.map_nil, List.mem_singleton] at hy
    exact hfree (by rw [hxy, hy]; exact beq_self_eq_true _)

end

/-- A work keeps the bounded places. -/
theorem Work.within {m : Mode} {P : BayNo → Prop} {s t : State} (h : Work m P s t) (hs : Within s) : Within t := by
  induction h with
  | refl => exact hs
  | trans _ _ h₁ h₂ => exact h₂ (h₁ hs)
  | bay _ h => exact h.toBayKeeps.within hs
  | port h => exact { hs with link := h.bounded hs.link }
  | journal h => exact { hs with journal := h.bounded hs.journal }
  | requests => exact { hs with }
  | tears _ ht hl =>
    refine { hs with tears := ?_, serials := hs.serials.sublist ht, lateReplies := ?_ }
    · have hlen := ht.length_le
      rw [List.length_map, List.length_map] at hlen
      exact Nat.le_trans (Nat.add_le_add_right hlen _) hs.tears
    · rw [State.modCard_card, hl]
      exact hs.lateReplies
  | newTear _ _ hr he => exact newTear_within hr he hs
  | close _ _ h _ _ =>
    rw [← unpinBank_bay] at h
    exact h.within (unpinBank_within _ hs)

/-- A work keeps the pins counted. -/
theorem Work.pinsCounted {m : Mode} {P : BayNo → Prop} {s t : State} (h : Work m P s t) (hs : s.PinsCounted) :
    t.PinsCounted := by
  induction h with
  | refl => exact hs
  | trans _ _ h₁ h₂ => exact h₂ (h₁ hs)
  | bay _ h => exact h.pinsCounted hs
  | port => exact ⟨hs.pins, hs.resting⟩
  | journal => exact ⟨hs.pins, hs.resting⟩
  | requests => exact ⟨hs.pins, hs.resting⟩
  | tears => exact ⟨hs.pins, hs.resting⟩
  | @newTear s b e =>
    have hstep : BayStep (s.bay b) { s.bay b with reserved := false } := { reserved := nofun }
    obtain ⟨hpins, hrest⟩ := hstep.pinsCounted (f := fun y => { y with reserved := false }) hs
    exact ⟨hpins, hrest⟩
  | close _ _ _ hbank _ => exact close_pinsCounted hbank hs

end Sys2Proof.Proofs

/-! PROOFS. Why the message queue and the pricing queue find their places (R46, R184): what works keep of it. -/

namespace Sys2Proof.Proofs

open Sys2Proof Sys2Proof.Machine Sys2Proof.Laws

/-! ### A bay with no card work -/

/-- No pricing request of bay b waits or is being evaluated. -/
def NoRequest (b : BayNo) (s : State) : Prop := ∀ r ∈ s.tariff.requests, r.bay ≠ b

/-- No AUTH_REQ of bay b waits to be sent. -/
def NoAuth (b : BayNo) (s : State) : Prop := ∀ p ∈ s.link.waitingAuths, p.2 ≠ b

/-- Bay b has no authorisation wait, no exchange, no write of an exchange in its card slot, and no pricing request. -/
structure Quiet (b : BayNo) (s : State) : Prop where
  wait    : (s.bay b).authWait = none
  phase   : (s.bay b).card.phase = .idle
  slot    : ∀ c, (s.bay b).term.cardSlot = some c → c.owner = .exchange → c.command = .read
  request : NoRequest b s

section
variable {y y' : Bay}

/-- A bay whose desk is kept keeps its card work standing. -/
theorem cardWorkStands_of_desk (h : desk y' = desk y) (hy : y.CardWorkStands) : y'.CardWorkStands := by
  simp only [desk, Prod.mk.injEq] at h
  obtain ⟨hauth, hphase, hstate, hwait, hslot⟩ := h
  have hplaces : y'.ctx.wait = .places ↔ y.ctx.wait = .places := by simpa using hwait
  refine ⟨fun hw => ?_, fun hp => ?_, fun c hc ho hcmd => ?_⟩
  · rw [hauth] at hw
    rw [hphase]
    exact hy.wait hw
  · rw [hphase] at hp
    rw [hstate, Ne, hplaces]
    exact hy.exchange hp
  · rw [hslot] at hc
    rw [hphase]
    exact hy.write c hc ho hcmd

/-- A bay without card work stands, whatever its context. -/
theorem cardWorkStands_of_idle (hwait : y.authWait = none) (hphase : y.card.phase = .idle)
    (hslot : ∀ c, y.term.cardSlot = some c → c.owner = .exchange → c.command = .read) : y.CardWorkStands := by
  refine ⟨fun hw => ?_, fun hp => absurd hphase hp, fun c hc ho hcmd => absurd (hslot c hc ho) hcmd⟩
  rw [hwait] at hw
  cases hw

end

section
variable {s t : State} {b : BayNo}

theorem Quiet.stands (h : Quiet b s) : (s.bay b).CardWorkStands := cardWorkStands_of_idle h.wait h.phase h.slot

/-- Without an authorisation wait a bay has no AUTH_REQ that waits. -/
theorem noAuth_of_wait (hs : s.PlacesSuffice) (h : (s.bay b).authWait = none) : NoAuth b s := fun p hp hpb => by
  have := hs.auths p hp
  rw [hpb, h] at this
  cases this

/-- A change of one bay that keeps its authorisation wait where it has an AUTH_REQ, and its context's state and wait where
it has a request. -/
theorem places_modBay {f : Bay → Bay} (hs : s.PlacesSuffice) (hcard : (f (s.bay b)).CardWorkStands)
    (hwait : NoAuth b s ∨ (f (s.bay b)).authWait = (s.bay b).authWait)
    (hctx : NoRequest b s ∨ (f (s.bay b)).ctx.state = (s.bay b).ctx.state
      ∧ ((f (s.bay b)).ctx.wait = .places ↔ (s.bay b).ctx.wait = .places)) : (s.modBay b f).PlacesSuffice := by
  refine { hs with cardWork := fun c => ?_, auths := fun p hp => ?_, requests := fun r hr => ?_ }
  · rw [State.bay_modBay]
    split
    next hcb => subst hcb; exact hcard
    next => exact hs.cardWork c
  · rw [State.bay_modBay]
    split
    next hpb =>
      rcases hwait with hnone | hwait
      · exact absurd hpb (hnone p hp)
      · rw [← hpb] at hwait ⊢
        rw [hwait]
        exact hs.auths p hp
    next => exact hs.auths p hp
  · have hold := hs.requests r hr
    rw [State.ctx, State.bay_modBay]
    split
    next hrb =>
      rcases hctx with hnone | ⟨hstate, hplaces⟩
      · exact absurd hrb (hnone r hr)
      · rw [hrb, State.ctx] at hold
        rw [hstate, Ne, hplaces]
        exact hold
    next => exact hold

/-- A change of the port that places no AUTH_REQ, and notices within their room. -/
theorem places_modLink {f : Link → Link} (hs : s.PlacesSuffice) (hauths : (f s.link).waitingAuths.Sublist s.link.waitingAuths)
    (hnotices : noticesFirst s.link.messages → noticesFirst (f s.link).messages) : (s.modLink f).PlacesSuffice :=
  { hs with
    auths := fun p hp => hs.auths p (hauths.subset hp)
    oneAuth := hs.oneAuth.sublist (hauths.map _)
    notices := hnotices hs.notices }

/-- States that differ outside the bays, the port and the pricing queue suffice alike. -/
theorem places_congr (hs : s.PlacesSuffice) (hbays : t.bays = s.bays) (hlink : t.link = s.link)
    (hrequests : t.tariff.requests = s.tariff.requests) : t.PlacesSuffice := by
  have hbay : ∀ c, t.bay c = s.bay c := fun c => by rw [State.bay, hbays, State.bay]
  exact
    { cardWork := fun c => hbay c ▸ hs.cardWork c
      auths := fun p hp => by rw [hbay]; exact hs.auths p (hlink ▸ hp)
      oneAuth := hlink ▸ hs.oneAuth
      notices := hlink ▸ hs.notices
      requests := fun r hr => by
        rw [State.ctx, hbay]
        exact hs.requests r (hrequests ▸ hr)
      oneRequest := hrequests ▸ hs.oneRequest }

theorem unpinBank_requests (b : BayNo) (s : State) : (unpinBank b s).tariff.requests = s.tariff.requests := by
  unfold unpinBank
  split
  next k _ => cases k <;> rfl
  next => rfl

theorem unpinBank_link (b : BayNo) (s : State) : (unpinBank b s).link = s.link := by
  unfold unpinBank
  split <;> rfl

theorem unpinBank_places (b : BayNo) (hs : s.PlacesSuffice) : (unpinBank b s).PlacesSuffice :=
  places_congr hs (unpinBank_bays b s) (unpinBank_link b s) (unpinBank_requests b s)

end

/-! ### Calm works, and mild works at a quiet bay -/

/-- A calm work keeps the places sufficient, and quiet bays quiet. -/
theorem Work.calm_places {P : BayNo → Prop} {s t : State} (h : Work .calm P s t) (hs : s.PlacesSuffice) :
    t.PlacesSuffice ∧ (∀ c, desk (t.bay c) = desk (s.bay c)) ∧ t.tariff = s.tariff := by
  generalize hm : Mode.calm = m at h
  induction h with
  | refl => exact ⟨hs, fun _ => rfl, rfl⟩
  | trans _ _ h₁ h₂ =>
    obtain ⟨hs₁, hdesk₁, ht₁⟩ := h₁ hs
    obtain ⟨hs₂, hdesk₂, ht₂⟩ := h₂ hs₁
    exact ⟨hs₂, fun c => (hdesk₂ c).trans (hdesk₁ c), ht₂.trans ht₁⟩
  | @bay s b f hb h hd =>
    subst hm
    refine ⟨places_modBay hs (cardWorkStands_of_desk hd (hs.cardWork b)) (.inr ?_) (.inr ?_), fun c => ?_, rfl⟩
    · exact congrArg (·.1) hd
    · have hstate := congrArg (·.2.2.1) hd
      have hwait := congrArg (·.2.2.2.1) hd
      exact ⟨hstate, by simpa [desk] using hwait⟩
    · rw [State.bay_modBay]
      split
      next hcb => subst hcb; exact hd
      next => rfl
  | port h hc =>
    have hstep := hc (by rw [← hm]; decide)
    exact ⟨places_modLink hs hstep.auths hstep.notices, fun _ => rfl, rfl⟩
  | journal => exact ⟨places_congr hs rfl rfl rfl, fun _ => rfl, rfl⟩
  | requests hf => exact absurd (hm.trans hf) (by decide)
  | tears hf => exact absurd hm.symm hf
  | newTear hf => exact absurd hm.symm hf
  | close hf => exact absurd hm.symm hf

/-- At a quiet bay a change that keeps the exchange's part of the desk keeps the places sufficient and the bay quiet. -/
theorem PostKept.quiet {s : State} {b : BayNo} {f : Bay → Bay} (h : PostKept (s.bay b) (f (s.bay b)))
    (hs : s.PlacesSuffice) (hq : Quiet b s) : (s.modBay b f).PlacesSuffice ∧ Quiet b (s.modBay b f) := by
  have hwait : (f (s.bay b)).authWait = none := h.wait.trans hq.wait
  have hphase : (f (s.bay b)).card.phase = .idle := h.phase.trans hq.phase
  have hslot : ∀ c, (f (s.bay b)).term.cardSlot = some c → c.owner = .exchange → c.command = .read := fun c hc ho =>
    hq.slot c (h.slot c hc ho) ho
  refine ⟨places_modBay hs (cardWorkStands_of_idle hwait hphase hslot) (.inr h.wait) (.inl hq.request), ?_⟩
  exact ⟨by rwa [State.bay_modBay_self], by rwa [State.bay_modBay_self], by rwa [State.bay_modBay_self], hq.request⟩

theorem Quiet.congr {s t : State} {b : BayNo} (hq : Quiet b s) (hbay : t.bay b = s.bay b)
    (hrequests : t.tariff.requests = s.tariff.requests) : Quiet b t :=
  ⟨hbay ▸ hq.wait, hbay ▸ hq.phase, hbay ▸ hq.slot, fun r hr => hq.request r (hrequests ▸ hr)⟩

/-- A mild work at a quiet bay keeps the places sufficient and the bay quiet. -/
theorem Work.quiet {s t : State} {b : BayNo} (h : Work .mild (· = b) s t) (hs : s.PlacesSuffice) (hq : Quiet b s) :
    t.PlacesSuffice ∧ Quiet b t := by
  generalize hm : Mode.mild = m at h
  induction h with
  | refl => exact ⟨hs, hq⟩
  | trans _ _ h₁ h₂ => exact h₂ (h₁ hs hq).1 (h₁ hs hq).2
  | bay hb h hd =>
    subst hm hb
    exact PostKept.quiet hd hs hq
  | port h hc =>
    have hstep := hc (by rw [← hm]; decide)
    exact ⟨places_modLink hs hstep.auths hstep.notices, hq.congr rfl rfl⟩
  | journal => exact ⟨places_congr hs rfl rfl rfl, hq.congr rfl rfl⟩
  | requests hf => exact absurd (hm.trans hf) (by decide)
  | tears => exact ⟨places_congr hs rfl rfl rfl, hq.congr rfl rfl⟩
  | newTear _ hb =>
    subst hb
    obtain ⟨hs', hq'⟩ := PostKept.quiet (f := fun y => { y with reserved := false }) ⟨rfl, rfl, fun _ h _ => h⟩ hs hq
    exact ⟨places_congr hs' rfl rfl rfl, hq'.congr rfl rfl⟩
  | close _ hb _ _ hd =>
    subst hm hb
    rw [← unpinBank_bay] at hd
    exact PostKept.quiet hd (unpinBank_places _ hs) (hq.congr (unpinBank_bay _ _ _) (unpinBank_requests _ _))

/-! ### Withdrawn requests and ended exchanges -/

section
variable {s : State} {b : BayNo}

theorem withdraw_requests (t : Tariff) (b : BayNo) :
    (t.withdraw b).requests = t.requests.filter fun r => decide (r.bay ≠ b) := by
  unfold Tariff.requests Tariff.withdraw
  rw [List.filter_append]
  congr 1
  cases h : t.evaluating with
  | none => rfl
  | some r =>
    by_cases hb : r.bay = b
    · cases hw : r.withdrawn
      all_goals simp [Option.filter, hb, hw]
    · cases hw : r.withdrawn
      all_goals simp [Option.filter, hb, hw]

theorem withdraw_places (hs : s.PlacesSuffice) : ({ s with tariff := s.tariff.withdraw b } : State).PlacesSuffice := by
  have hsub : ((s.tariff.withdraw b).requests).Sublist s.tariff.requests := by
    rw [withdraw_requests]
    exact List.filter_sublist
  exact
    { cardWork := hs.cardWork, auths := hs.auths, oneAuth := hs.oneAuth, notices := hs.notices
      requests := fun r hr => hs.requests r (hsub.subset hr)
      oneRequest := hs.oneRequest.sublist (hsub.map _) }

theorem unpriced_places (hs : s.PlacesSuffice) : (unpriced b s).PlacesSuffice ∧ NoRequest b (unpriced b s) := by
  unfold unpriced
  split
  next =>
    refine ⟨withdraw_places hs, fun r hr => ?_⟩
    rw [withdraw_requests] at hr
    exact of_decide_eq_true (List.mem_filter.mp hr).2
  next hpricing =>
    refine ⟨hs, fun r hr hrb => hpricing ?_⟩
    rw [← hrb]
    exact (hs.requests r hr).1

/-- Outside PRICING a bay has no request. -/
theorem noRequest_of_state (hs : s.PlacesSuffice) (h : (s.ctx b).state ≠ .pricing) : NoRequest b s :=
  fun r hr hrb => h (hrb ▸ (hs.requests r hr).1)

/-- The AUTH_REQs of a reference leave those waiting. -/
theorem dropAuth_waiting (l : Link) (reference : BitVec 16) (p : BitVec 16 × BayNo)
    (hp : p ∈ (l.dropAuth reference).waitingAuths) : p ∈ l.waitingAuths ∧ p.1 ≠ reference := by
  have hfiltered : ∀ ms : List Message, ∀ p ∈ (ms.filter fun m => !m.isAuth reference).filterMap Message.authOf,
      p.1 ≠ reference := by
    intro ms p hp
    obtain ⟨m, hm, hauth⟩ := List.mem_filterMap.mp hp
    have hnot := (List.mem_filter.mp hm).2
    cases m with
    | notice n => cases hauth
    | authReq r bay serial amount balance =>
      cases hauth
      simpa [Message.isAuth] using hnot
  refine ⟨(dropAuth_step l reference).auths.subset hp, ?_⟩
  unfold Link.dropAuth at hp
  split at hp
  next m ms hsending hmessages =>
    have hsub := ((drain_step { l with messages := m :: ms.filter fun m => !m.isAuth reference }).trans (kick_step _)).auths
    have hp' := hsub.subset hp
    rw [Link.waitingAuths, if_pos hsending] at hp'
    exact hfiltered ms p hp'
  next hnot =>
    have hsub := ((drain_step { l with messages := l.messages.filter fun m => !m.isAuth reference }).trans
      (kick_step _)).auths
    have hp' := hsub.subset hp
    unfold Link.waitingAuths at hp'
    split at hp'
    · exact hfiltered l.messages p ((List.drop_sublist 1 _).filterMap _ |>.subset hp')
    · exact hfiltered l.messages p hp'

/-- Works that place and withdraw no request leave the requests. -/
theorem Work.requests_eq {m : Mode} {P : BayNo → Prop} {s t : State} (h : Work m P s t) (hm : m ≠ .free) :
    t.tariff.requests = s.tariff.requests := by
  induction h with
  | refl => rfl
  | trans _ _ h₁ h₂ => exact h₂.trans h₁
  | requests hf => exact absurd hf hm
  | close => exact unpinBank_requests _ _
  | _ => rfl

theorem Work.noRequest {m : Mode} {P : BayNo → Prop} {s t : State} (h : Work m P s t) (hm : m ≠ .free)
    (hr : NoRequest b s) : NoRequest b t := fun r hrt => hr r (h.requests_eq hm ▸ hrt)

/-- At the end of its authorisation wait no AUTH_REQ of the bay waits. -/
theorem dropAuth_noAuth (hs : s.PlacesSuffice) {w : AuthWait} (hw : (s.bay b).authWait = some w) :
    NoAuth b (s.modLink (·.dropAuth w.reference)) := fun p hp hpb => by
  obtain ⟨hwaits, hne⟩ := dropAuth_waiting s.link w.reference p hp
  have hown := hs.auths p hwaits
  rw [hpb, hw] at hown
  exact hne (Option.some.inj hown).symm

/-- A change of one bay with the end of its authorisation wait. -/
theorem endAuth_modBay_places {f : Bay → Bay} (hs : s.PlacesSuffice) (hwait : (f (s.bay b)).authWait = (s.bay b).authWait)
    (hcard : ({ f (s.bay b) with authWait := none } : Bay).CardWorkStands)
    (hctx : NoRequest b s ∨ (f (s.bay b)).ctx.state = (s.bay b).ctx.state
      ∧ ((f (s.bay b)).ctx.wait = .places ↔ (s.bay b).ctx.wait = .places)) :
    (endAuth b (s.modBay b f)).PlacesSuffice := by
  unfold endAuth
  rw [State.bay_modBay_self, hwait]
  cases hw : (s.bay b).authWait with
  | none =>
    refine places_modBay hs ?_ (.inr hwait) hctx
    have hsame : ({ f (s.bay b) with authWait := none } : Bay) = f (s.bay b) := by
      rw [← hw, ← hwait]
    rwa [hsame] at hcard
  | some w =>
    have hdropped : (s.modLink (·.dropAuth w.reference)).PlacesSuffice :=
      places_modLink hs (dropAuth_step _ _).auths (dropAuth_step _ _).notices
    dsimp only
    rw [modBay_modBay]
    exact places_modBay (s := s.modLink (·.dropAuth w.reference)) (f := fun y => { f y with authWait := none }) hdropped
      hcard (.inl (dropAuth_noAuth hs hw)) hctx

theorem modBay_id (s : State) (b : BayNo) : (s.modBay b fun y => y) = s := by
  have hsame : s.bays.set b s.bays[b] = s.bays := Vector.set_getElem_self b.isLt
  exact congrArg (fun v => ({ s with bays := v } : State)) hsame

theorem endAuth_places (hs : s.PlacesSuffice) : (endAuth b s).PlacesSuffice := by
  have h := endAuth_modBay_places (b := b) (f := fun y => y) hs rfl ⟨nofun, (hs.cardWork b).exchange, (hs.cardWork b).write⟩
    (.inr ⟨rfl, Iff.rfl⟩)
  rwa [modBay_id] at h

end

end Sys2Proof.Proofs

/-! PROOFS. The steps that keep the bounded places and the tubes (R51, R88): works, the clocks, the port, the tables and
the bus. -/

namespace Sys2Proof.Proofs

open Sys2Proof Sys2Proof.Machine Sys2Proof.Laws

/-! ### Sound steps -/

/-- A step that keeps the places within their bounds and the tubes under their settings. -/
structure Fits (s t : State) : Prop where
  within : Within s → Within t
  tubes  : s.TubesHold → t.TubesHold

/-- A step that keeps the pins counted as well. -/
structure Sound (s t : State) : Prop extends Fits s t where
  pins : s.PinsCounted → t.PinsCounted

/-- A sound step that leaves the reply queue. -/
structure Act (s t : State) : Prop extends Sound s t where
  replies : t.link.replies = s.link.replies

section
variable {s t u : State}

theorem Fits.refl (s : State) : Fits s s := ⟨id, id⟩

/-- Steps one behind the other, the later one first. -/
theorem Fits.after (h' : Fits t u) (h : Fits s t) : Fits s u :=
  ⟨fun hs => h'.within (h.within hs), fun hs => h'.tubes (h.tubes hs)⟩

theorem Sound.refl (s : State) : Sound s s := ⟨.refl s, id⟩

theorem Sound.after (h' : Sound t u) (h : Sound s t) : Sound s u :=
  ⟨h'.toFits.after h.toFits, fun hs => h'.pins (h.pins hs)⟩

theorem Sound.ite {p : Prop} [Decidable p] (ht : p → Sound s t) (hu : ¬p → Sound s u) :
    Sound s (if p then t else u) := by
  split
  · next h => exact ht h
  · next h => exact hu h

theorem Act.refl (s : State) : Act s s := ⟨.refl s, rfl⟩

theorem Act.after (h' : Act t u) (h : Act s t) : Act s u := ⟨h'.toSound.after h.toSound, h'.replies.trans h.replies⟩

theorem Act.ite {p : Prop} [Decidable p] (ht : p → Act s t) (hu : ¬p → Act s u) : Act s (if p then t else u) := by
  split
  · next h => exact ht h
  · next h => exact hu h

theorem Act.iteSelf {p : Prop} [Decidable p] (ht : p → Act s t) : Act s (if p then t else s) :=
  .ite ht fun _ => .refl s

theorem Act.whenUp (h : Act s t) : Act s (s.whenUp t) := .iteSelf fun _ => h

theorem Work.act {m : Mode} {P : BayNo → Prop} (h : Work m P s t) : Act s t :=
  ⟨⟨⟨h.within, h.tubesHold⟩, h.pinsCounted⟩, h.replies⟩

/-- What the bounds and the tubes read of a state: all but the clocks, the queue of commands, the stored check and
start-up's mark, and of the Card Unit and the bus three counters and the tears. -/
structure Scope where
  bays        : Vector Bay 8
  tariff      : Tariff
  journal     : Journal
  link        : Link
  tears       : List Tear
  lateReplies : Nat
  badReplies  : Nat
  recoveries  : Nat

def scope (s : State) : Scope :=
  ⟨s.bays, s.tariff, s.journal, s.link, s.card.tears, s.card.lateReplies, s.bus.badReplies, s.bus.recoveries⟩

/-- States of one scope are sound alike. -/
theorem Sound.of_scope (h : scope t = scope s) : Sound s t := by
  simp only [scope, Scope.mk.injEq] at h
  obtain ⟨hbays, htariff, hjournal, hlink, htears, hlate, hbad, hrecoveries⟩ := h
  have hbay : ∀ b, t.bay b = s.bay b := fun b => by rw [State.bay, hbays, State.bay]
  have hctx : ∀ b, t.ctx b = s.ctx b := fun b => congrArg Bay.ctx (hbay b)
  refine ⟨⟨fun hs => ?_, fun hs => ?_⟩, fun hs => ?_⟩
  · exact
      { bays := fun b => hbay b ▸ hs.bays b
        link := hlink ▸ hs.link
        journal := hjournal ▸ hs.journal
        tears := by rw [htears, State.reservations, hbays]; exact hs.tears
        serials := htears ▸ hs.serials
        lateReplies := hlate ▸ hs.lateReplies
        abandons := htariff ▸ hs.abandons
        denyEdits := htariff ▸ hs.denyEdits
        badReplies := hbad ▸ hs.badReplies
        recoveries := hrecoveries ▸ hs.recoveries }
  · refine tubesHold_of_steps hs (fun b n => ?_) (by rw [htariff]) (by rw [htariff]) (by rw [htariff])
    rw [hbay]
    exact .refl _
  · exact ⟨by rw [htariff, hbays]; exact hs.pins, fun b => hctx b ▸ hs.resting b⟩

theorem Act.of_scope (h : scope t = scope s) : Act s t := ⟨.of_scope h, congrArg (fun o : Scope => o.link.replies) h⟩

theorem reseal_act (s t : State) : Act t (s.reseal t) := .of_scope rfl

theorem Sound.reseal (h : Sound s t) : Sound s (s.reseal t) := (reseal_act s t).toSound.after h

/-! ### The port -/

/-- A change of the port that keeps its places is sound. -/
theorem Sound.link {f : Link → Link} (h : s.link.Bounded → (f s.link).Bounded) : Sound s (s.modLink f) :=
  ⟨⟨fun hs => { hs with link := h hs.link }, fun hs => ⟨hs.settings, hs.levels, hs.counts, hs.site, hs.stream⟩⟩,
    fun hs => ⟨hs.pins, hs.resting⟩⟩

theorem Act.link {f : Link → Link} (h : s.link.Bounded → (f s.link).Bounded)
    (hreplies : (f s.link).replies = s.link.replies) : Act s (s.modLink f) := ⟨.link h, hreplies⟩

theorem dropHead_act (s : State) : Act s (dropHead s) :=
  .link (fun h => { h with rxBuffer := (List.drop_sublist 1 _).length_le.trans h.rxBuffer }) rfl

theorem formatError_act (s : State) : Act s (formatError s) := .link (fun h => { h with formatError := satInc_le _ }) rfl

/-- A REPLY finds its place where fewer than four wait. -/
theorem reply_bounded {l : Link} (tag : BitVec 16) (status : Code) (data : List Byte) (after : AfterReply)
    (hroom : l.replies.length < Config.framePlaces) (h : l.Bounded) : (l.reply tag status data after).Bounded := by
  refine (kick_step _).toLinkKeeps.bounded { h with replies := ?_ }
  rw [List.length_append]
  exact hroom

/-! ### The Journal Unit, the bus and the Card Unit -/

theorem Act.journal {f : Journal → Journal} (h : s.journal.Bounded → (f s.journal).Bounded) : Act s (s.modJournal f) :=
  ⟨⟨⟨fun hs => { hs with journal := h hs.journal }, fun hs => ⟨hs.settings, hs.levels, hs.counts, hs.site, hs.stream⟩⟩,
    fun hs => ⟨hs.pins, hs.resting⟩⟩, rfl⟩

theorem Act.bus {f : Bus → Bus} (hbad : s.bus.badReplies ≤ Config.counterMax → (f s.bus).badReplies ≤ Config.counterMax)
    (hrec : s.bus.recoveries ≤ Config.counterMax → (f s.bus).recoveries ≤ Config.counterMax) : Act s (s.modBus f) :=
  ⟨⟨⟨fun hs => { hs with badReplies := hbad hs.badReplies, recoveries := hrec hs.recoveries },
    fun hs => ⟨hs.settings, hs.levels, hs.counts, hs.site, hs.stream⟩⟩, fun hs => ⟨hs.pins, hs.resting⟩⟩, rfl⟩

theorem countBadReply_act (s : State) : Act s (countBadReply s) := .bus (fun _ => satInc_le _) id

theorem endBusExchange_act (s : State) : Act s (endBusExchange s) := .bus id id

/-- The Card Unit's values that no bound names. -/
theorem Act.card {f : CardUnit → CardUnit} (ht : (f s.card).tears = s.card.tears)
    (hl : s.card.lateReplies ≤ Config.counterMax → (f s.card).lateReplies ≤ Config.counterMax) : Act s (s.modCard f) :=
  ⟨⟨⟨fun hs =>
      { hs with
        tears := by rw [State.modCard_card, ht]; exact hs.tears
        serials := by rw [State.modCard_card, ht]; exact hs.serials
        lateReplies := hl hs.lateReplies },
    fun hs => ⟨hs.settings, hs.levels, hs.counts, hs.site, hs.stream⟩⟩, fun hs => ⟨hs.pins, hs.resting⟩⟩, rfl⟩

end

/-! ### The tables -/

/-- A SITE stream's running CRC is that of the entries it has brought (R56, R57). -/
def StreamHolds (t : Tariff) : Prop :=
  ∀ g, t.load.state = .stream → t.load.target = some g → g.table = .site →
    t.load.crc = some (crc32Run crc32Start t.siteShadow.entries.flatten)

/-- A step of the Tariff Unit that keeps the live site table, the pins, its counters and the stream's CRC. -/
structure TariffStep (t t' : Tariff) : Prop where
  pins     : ∀ k, t'.pins k = t.pins k
  abandons : t.load.abandons ≤ Config.counterMax → t'.load.abandons ≤ Config.counterMax
  edits    : t.denyEdits ≤ Config.counterMax → t'.denyEdits ≤ Config.counterMax
  site     : t'.site = t.site
  stream   : StreamHolds t → StreamHolds t'

section
variable {t t' t'' : Tariff} {s : State}

theorem TariffStep.refl (t : Tariff) : TariffStep t t := ⟨fun _ => rfl, id, id, rfl, id⟩

theorem TariffStep.trans (h : TariffStep t t') (h' : TariffStep t' t'') : TariffStep t t'' :=
  ⟨fun k => (h'.pins k).trans (h.pins k), fun ha => h'.abandons (h.abandons ha), fun he => h'.edits (h.edits he),
    h'.site.trans h.site, fun hs => h'.stream (h.stream hs)⟩

theorem Act.tariff {f : Tariff → Tariff} (h : TariffStep s.tariff (f s.tariff)) : Act s (s.modTariff f) := by
  refine ⟨⟨⟨fun hs => ?_, fun hs => ?_⟩, fun hs => ⟨fun k => (h.pins k).trans (hs.pins k), hs.resting⟩⟩, rfl⟩
  · exact { hs with abandons := h.abandons hs.abandons, denyEdits := h.edits hs.denyEdits }
  · refine ⟨fun b n => ?_, hs.levels, hs.counts, ?_, h.stream hs.stream⟩
    · have := hs.settings b n
      rwa [show (s.modTariff f).site = s.site from congrArg Table.entries h.site]
    · show (f s.tariff).site.valid = true ∧ (f s.tariff).site.good [] = true
      rw [h.site]
      exact hs.site

/-- Without a SITE stream nothing is asked of the running CRC. -/
theorem streamHolds_of_state (h : t.load.state ≠ .stream) : StreamHolds t := fun _ hs => absurd hs h

theorem streamHolds_of_target {g : Target} (htarget : t.load.target = some g) (h : g.table ≠ .site) : StreamHolds t := by
  intro g' _ hg' hsite
  cases htarget.symm.trans hg'
  exact absurd hsite h

/-- What the bounds and the tubes read of the Tariff Unit outside the load machine. -/
def shelf (t : Tariff) : Nat × Nat × Nat × Table := (t.pinsA, t.pinsB, t.denyEdits, t.site)

theorem TariffStep.of_shelf (h : shelf t' = shelf t)
    (habandons : t.load.abandons ≤ Config.counterMax → t'.load.abandons ≤ Config.counterMax)
    (hstream : StreamHolds t → StreamHolds t') : TariffStep t t' := by
  simp only [shelf, Prod.mk.injEq] at h
  obtain ⟨hpinsA, hpinsB, hedits, hsite⟩ := h
  refine ⟨fun k => ?_, habandons, fun he => hedits ▸ he, hsite, hstream⟩
  cases k
  case a => exact hpinsA
  case b => exact hpinsB

/-- A step outside the load machine, the site table and the load shadow. -/
theorem TariffStep.of_load (h : shelf t' = shelf t) (hload : t'.load = t.load) (hshadow : t'.siteShadow = t.siteShadow) :
    TariffStep t t' := by
  refine .of_shelf h (fun ha => hload ▸ ha) fun hs g => ?_
  rw [hload, hshadow]
  exact hs g

theorem modBank_shelf (t : Tariff) (k : Bank) (f : BankTables → BankTables) :
    shelf (t.modBank k f) = shelf t ∧ (t.modBank k f).load = t.load ∧ (t.modBank k f).siteShadow = t.siteShadow := by
  cases k <;> exact ⟨rfl, rfl, rfl⟩

theorem modTarget_shelf (t : Tariff) (g : Target) (f : Table → Table) :
    shelf (t.modTarget g f) = shelf t ∧ (t.modTarget g f).load = t.load
    ∧ (t.modTarget g f).siteShadow = if g.table = .site then f t.siteShadow else t.siteShadow := by
  unfold Tariff.modTarget
  split
  next h => exact ⟨rfl, rfl, by rw [h]; rfl⟩
  next h => exact ⟨rfl, rfl, by rw [h]; rfl⟩
  next _ hsite =>
    obtain ⟨hshelf, hload, hshadow⟩ := modBank_shelf t _ fun u => u.modTable g.table f
    exact ⟨hshelf, hload, by rw [hshadow, if_neg hsite]⟩
  next _ hsite => exact ⟨rfl, rfl, by rw [if_neg hsite]⟩

theorem spoil_shelf (t : Tariff) (g : Target) : shelf (t.spoil g) = shelf t ∧ (t.spoil g).load = t.load := by
  unfold Tariff.spoil
  split
  · exact ⟨rfl, rfl⟩
  · exact ⟨rfl, rfl⟩
  · exact ⟨(modTarget_shelf t g _).1, (modTarget_shelf t g _).2.1⟩

theorem abandon_step (t : Tariff) : TariffStep t t.abandon := by
  unfold Tariff.abandon
  split
  next g _ _ => exact .of_shelf (spoil_shelf t g).1 (fun _ => satInc_le _) fun _ => streamHolds_of_state nofun
  next => exact .refl t

theorem openStream_step (t : Tariff) (g : Target) (version count : Nat) (mode : Option PercentMode) :
    TariffStep t (t.openStream g version count mode) := by
  unfold Tariff.openStream
  dsimp only
  split
  next h => exact .of_shelf rfl id fun _ => streamHolds_of_target (g := g) rfl (by rw [h]; decide)
  next h =>
    refine .of_shelf rfl id fun _ g' _ _ _ => ?_
    rw [h]
    rfl
  next k h _ =>
    obtain ⟨hshelf, hload, -⟩ := modBank_shelf t k fun u =>
      { u with rule := { u.rule with valid := false, entries := [] }, modeSent := if g.table = .rule then mode else none }
    exact .of_shelf hshelf (fun ha => hload ▸ ha) fun _ => streamHolds_of_target (g := g) rfl (by rw [h]; decide)
  next hsite _ =>
    obtain ⟨hshelf, hload, -⟩ := modTarget_shelf t g fun u => { u with valid := false, entries := [] }
    exact .of_shelf hshelf (fun ha => hload ▸ ha) fun _ => streamHolds_of_target (g := g) rfl hsite

theorem toIdle_step (t : Tariff) : TariffStep t { t with load := t.load.toIdle } :=
  .of_shelf rfl id fun _ => streamHolds_of_state nofun

/-- Entries that join a SITE stream join its CRC. -/
theorem store_step (t : Tariff) (g : Target) (es : List (List Byte)) (hg : t.load.target = some g) :
    TariffStep t (t.store g es) := by
  unfold Tariff.store
  obtain ⟨hshelf, hload, hshadow⟩ := modTarget_shelf t g fun u => { u with entries := u.entries ++ es }
  have hcount : (t.modTarget g fun u => { u with entries := u.entries ++ es }).load.abandons = t.load.abandons :=
    congrArg Load.abandons hload
  refine .of_shelf hshelf (fun ha => hcount.trans_le ha) fun hs g' hstate hg' hsite => ?_
  dsimp only at hstate hg' ⊢
  rw [hload] at hstate hg' ⊢
  cases hg.symm.trans hg'
  rw [hshadow, if_pos hsite, hs g hstate hg hsite]
  simp only [crc32Run, Option.map_some, List.flatten_append, List.foldl_append]

theorem loadError_act (e : LoadError) (place : Option Place) (s : State) : Act s (loadError e place s) := by
  have herror : ∀ {t : Tariff}, shelf t = shelf s.tariff → t.load = s.tariff.load →
      TariffStep s.tariff { t with load := { t.load with state := .error, error := e, failure := place } } :=
    fun hshelf hload => .of_shelf hshelf (fun ha => (congrArg Load.abandons hload).trans_le ha) fun _ =>
      streamHolds_of_state nofun
  unfold loadError
  dsimp only
  split
  next g _ =>
    obtain ⟨hshelf, hload⟩ := spoil_shelf s.tariff g
    exact .tariff (f := fun t => { t.spoil g with load := { (t.spoil g).load with state := .error, error := e, failure := place } })
      (herror hshelf hload)
  next =>
    exact .tariff (f := fun t => { t with load := { t.load with state := .error, error := e, failure := place } })
      (herror rfl rfl)

end

end Sys2Proof.Proofs

/-! PROOFS. Frames, sections and the receiver keep the bounds: the table frames, the bank switch, the link's transitions. -/

namespace Sys2Proof.Proofs

open Sys2Proof Sys2Proof.Machine Sys2Proof.Laws

/-! ### Frames and sections -/

section
variable {isKind : Frame → Bool} {s : State}

/-- A frame whose owner's rule is a sound step that leaves the reply queue is answered soundly. -/
theorem answerFrame_sound {act : Frame → State → Answer} (h : ∀ f u, Act u (act f u).state) (s : State) :
    Sound s (answerFrame isKind act s) := by
  unfold answerFrame
  split
  next f rest _ =>
    split
    next hroom =>
      have hact := (h f (dropHead s)).after (dropHead_act s)
      simp only [Bool.and_eq_true, decide_eq_true_eq] at hroom
      refine Sound.after (.link (f := fun l => l.reply _ _ _ _) (reply_bounded _ _ _ _ ?_)) hact.toSound
      rw [hact.replies]
      exact hroom.2
    next => exact .refl s
  next => exact .refl s

theorem takeFrame_act {act : Frame → State → State} (h : ∀ f u, Act u (act f u)) (s : State) :
    Act s (takeFrame isKind act s) := by
  unfold takeFrame
  split
  next f rest _ => exact .iteSelf fun _ => (h f _).after (dropHead_act s)
  next => exact .refl s

theorem ofLength_act {act : List Byte → State → Answer} (h : ∀ body u, Act u (act body u).state) (n : Nat) (f : Frame)
    (s : State) : Act s (ofLength n act f s).state := by
  unfold ofLength
  split
  · exact h _ s
  · exact .refl s

theorem refuseOr_act {act : State → Answer} (h : ∀ u, Act u (act u).state) (code : Option Code) (s : State) :
    Act s (refuseOr code act s).state := by
  unfold refuseOr
  split
  · exact .refl s
  · exact h s

theorem takeSection_act {α : Type} {f : ReplySection → Option α} {act : BayNo → α → State → State}
    (h : ∀ b a u, Act u (act b a u)) (s : State) : Act s (takeSection f act s) := by
  unfold takeSection
  split
  next x xs _ =>
    split
    · exact (h _ _ _).after (.bus id id)
    · exact .refl s
  next => exact .refl s

theorem bayControl_act {act : BayNo → State → Answer} (h : ∀ b u, Act u (act b u).state) (f : Frame) (s : State) :
    Act s (bayControl act f s).state := by
  unfold bayControl
  split
  · split
    · split
      · exact .refl s
      · exact h _ s
    · exact .refl s
  · exact .refl s

theorem page_act (n : Nat) (data : List Byte) (s : State) : Act s (page n data s).state := by
  unfold page
  split <;> exact .refl s

theorem bayQuery_act (data : State → BayNo → List Byte) (f : Frame) (s : State) : Act s (bayQuery data f s).state := by
  unfold bayQuery
  split
  · split
    · exact page_act _ _ s
    · exact .refl s
  · exact .refl s

theorem unitQuery_act (data : State → List Byte) (f : Frame) (s : State) : Act s (unitQuery data f s).state := by
  unfold unitQuery
  split
  · exact page_act _ _ s
  · exact .refl s

end

/-! ### Table frames and the bank switch -/

section
variable {s : State}

theorem streamData_act (g : Target) (start : Nat) (bytes : List Byte) (hg : s.tariff.load.target = some g) :
    Act s (streamData g start bytes s).state := by
  unfold streamData
  split
  · exact .refl s
  · split
    · exact .refl s
    · split
      · exact loadError_act _ _ s
      · split
        · exact loadError_act _ _ s
        · exact .tariff (f := fun t => t.store g _) (store_step _ g _ hg)

theorem editDeny_act (es : List (List Byte)) (s : State) : Act s (s.modTariff (·.editDeny es)) :=
  .tariff ⟨fun k => by cases k <;> rfl, id, fun _ => satInc_le _, rfl, id⟩

/-- The Tariff Unit outside the pins, the counters, the site table and the load machine. -/
theorem Act.banks {f : Tariff → Tariff} (h : shelf (f s.tariff) = shelf s.tariff) (hload : (f s.tariff).load = s.tariff.load)
    (hshadow : (f s.tariff).siteShadow = s.tariff.siteShadow) : Act s (s.modTariff f) :=
  .tariff (.of_load h hload hshadow)

theorem append_act (r : Append) (s : State) : Act s (append r s) :=
  (append_work (m := .free) (P := fun _ => True) r s).act

theorem performSwitch_act (k : Bank) (s : State) : Act s (performSwitch k s) :=
  (append_act _ _).after (.banks (f := fun t => { t with active := k }) rfl rfl rfl)

theorem switchDue_act (s : State) : Act s (switchDue s) := by
  unfold switchDue
  split
  next w _ =>
    refine .iteSelf fun _ => ?_
    have hdropped : Act s (s.modTariff fun t => { t with scheduled := none }) := .banks rfl rfl rfl
    refine Act.after ?_ hdropped
    dsimp only
    split
    · exact .banks rfl rfl rfl
    · exact (performSwitch_act _ _).after (.banks (f := fun t => { t with lastSwitch := .done }) rfl rfl rfl)
  next => exact .refl s

theorem bankSwitch_act (k : Bank) (v : Versions) (time : Option (Nat × Nat)) (s : State) :
    Act s (bankSwitch k v time s).state := by
  have hperformed : Act s (performSwitch k (s.modTariff fun t => { t with scheduled := none })) :=
    (performSwitch_act k _).after (.banks (f := fun t => { t with scheduled := none }) rfl rfl rfl)
  unfold bankSwitch
  split
  · exact .refl s
  · exact hperformed
  · split
    · split
      · exact hperformed
      · exact Act.banks (f := fun t => { t with scheduled := some _ }) rfl rfl rfl
    · exact .refl s

theorem setTime_act (c : Calendar) (s : State) : Act s (setTime c s) := (switchDue_act _).after (.of_scope rfl)

/-! ### Link transitions and heartbeats -/

theorem dropNotices_keeps (l : Link) (n : Nat) : LinkKeeps l (l.dropNotices n) := (dropNotices_step l n).toLinkKeeps

theorem offline_bounded {l : Link} (h : l.Bounded) : l.offline.Bounded := by
  unfold Link.offline
  dsimp only
  split
  · have hdropped := (dropNotices_keeps l l.noticeList.length).bounded h
    exact { hdropped with noticeList := Nat.zero_le _ }
  · exact { h with }

theorem offline_replies (l : Link) : l.offline.replies = l.replies := by
  unfold Link.offline
  dsimp only
  split
  · exact congrArg Rim.replies (dropNotices_keeps l _).rim
  · rfl

theorem goOnline_bounded {l : Link} (now : Ms) (limit acked : Nat) (h : l.Bounded) :
    (l.goOnline now limit acked).Bounded := by
  unfold Link.goOnline
  dsimp only
  split
  · exact ((drain_step _).trans (kick_step _)).toLinkKeeps.bounded { h with }
  · exact (kick_step _).toLinkKeeps.bounded { h with }

theorem goOnline_replies (l : Link) (now : Ms) (limit acked : Nat) : (l.goOnline now limit acked).replies = l.replies := by
  unfold Link.goOnline
  dsimp only
  split
  · exact congrArg Rim.replies ((drain_step _).trans (kick_step _)).toLinkKeeps.rim
  · exact congrArg Rim.replies (kick_step _).toLinkKeeps.rim

theorem countTransition_act (s : State) : Act s (s.modLink (·.countTransition)) :=
  .link (fun h => { h with transitions := satInc_le _ }) rfl

theorem linkOffline_act (s : State) : Act s (linkOffline s) := by
  have hwaits : Act s (endWaits (s.modLink (·.offline))) :=
    (endWaits_work _).act.after (.link offline_bounded (offline_replies _))
  unfold linkOffline
  generalize endWaits (s.modLink (·.offline)) = u at hwaits
  have hbudget : Act u (u.modCard fun c => { c with budget := siteBudget u.site }) := .card rfl id
  exact (countTransition_act _).after ((append_act _ _).after (hbudget.after hwaits))

theorem linkOnline_act (s : State) : Act s (linkOnline s) := by
  have honline : Act s (s.modLink fun l => l.goOnline s.now s.supervisionLimit s.journal.acked) :=
    .link (goOnline_bounded _ _ _) (goOnline_replies _ _ _ _)
  unfold linkOnline
  generalize (s.modLink fun l => l.goOnline s.now s.supervisionLimit s.journal.acked) = u at honline
  have hspent : Act u (u.modCard fun c => { c with offlineTotal := 0 }) := .card rfl id
  have hforward := (forwardNext_work (m := .free) (P := fun _ => True) (u.modCard fun c => { c with offlineTotal := 0 })).act
  exact (countTransition_act _).after ((append_act _ _).after (hforward.after (hspent.after honline)))

theorem heartbeat_act (phase : Bool) (s : State) : Act s (heartbeat phase s) := by
  unfold heartbeat
  refine .ite (fun _ => .link (fun h => { h with samePhase := satInc_le _ }) rfl) fun _ => ?_
  have hphase : Act s (s.modLink fun l => { l with lastPhase := some phase }) := .link (fun h => { h with }) rfl
  exact Act.after (.ite (fun _ => .link (fun h => { h with }) rfl) fun _ => linkOnline_act _) hphase

theorem ack_bounded {j : Journal} (forward q : Nat) (h : j.Bounded) : (j.ack forward q).Bounded := by
  unfold Journal.ack
  split
  · exact h
  · split
    · exact { h with }
    · exact { h with ackClamp := satInc_le _ }

theorem authReply_act (ref : BitVec 16) (denied : Bool) (authRef : BitVec 32) (s : State) :
    Act s (authReply ref denied authRef s) := by
  unfold authReply
  split
  · exact .ite (fun _ => (authFailed_work (P := fun _ => True) trivial _ s).act) fun _ =>
      (authGranted_work (P := fun _ => True) trivial _ s).act
  · exact (notify_work (m := .free) (P := fun _ => True) _ _).act.after (.card rfl fun _ => satInc_le _)

/-! ### The receiver (R177 to R179) -/

theorem offer_bounded {l : Link} (f : Frame) (h : l.Bounded) : (l.offer f).Bounded := by
  unfold Link.offer
  split
  next hroom =>
    refine { h with rxBuffer := ?_ }
    rw [List.length_append]
    exact hroom
  next => exact { h with overrun := satInc_le _ }

theorem inFrame_bounded {l : Link} (now : Ms) (bs : List Byte) (h : l.Bounded) : (l.inFrame now bs).Bounded := by
  unfold Link.inFrame
  split
  · exact { h with badLength := satInc_le _ }
  · split
    · split
      · exact { offer_bounded (frameOf bs) h with }
      · exact { h with badCrc := satInc_le _ }
    · exact { h with }

theorem receive_bounded {l : Link} (now : Ms) (c : Byte) (h : l.Bounded) : (l.receive now c).Bounded := by
  unfold Link.receive
  split
  · split
    · exact { h with }
    · split <;> exact { h with }
    · exact inFrame_bounded _ _ h
  · exact h

theorem receiveAll_bounded (now : Ms) (bytes : List Byte) {l : Link} (h : l.Bounded) :
    (bytes.foldl (fun l c => l.receive now c) l).Bounded := by
  induction bytes generalizing l with
  | nil => exact h
  | cons c rest ih => exact ih (receive_bounded now c h)

theorem truncate_bounded {l : Link} (h : l.Bounded) : l.truncate.Bounded := by
  unfold Link.truncate
  split
  · exact { h with truncated := satInc_le _ }
  · exact h

theorem sent_bounded {l : Link} (h : l.Bounded) : l.sent.Bounded := by
  unfold Link.sent
  split
  · exact { h with replies := (List.drop_sublist 1 _).length_le.trans h.replies }
  · exact (drain_step _).toLinkKeeps.bounded { h with }
  · exact { h with }
  · exact { h with }

end

end Sys2Proof.Proofs

/-! PROOFS. A transaction opened, the polls, the end of an evaluation and the resets keep the bounds. -/

namespace Sys2Proof.Proofs

open Sys2Proof Sys2Proof.Machine Sys2Proof.Laws

/-! ### A transaction opened (R5, R6, R121) -/

section
variable {s : State} {b : BayNo}

theorem pin_pins (t : Tariff) (k j : Bank) : (t.pin k).pins j = t.pins j + if k = j then 1 else 0 := by
  cases k <;> cases j <;> simp [Tariff.pin, Tariff.pins]

/-- A context at rest that opens on the bank it pins keeps the pins counted. -/
theorem pin_pinsCounted {f : Bay → Bay} {k : Bank} (hrest : resting (s.ctx b)) (hbank : (f (s.bay b)).ctx.bank = some k)
    (hopen : ¬ resting (f (s.bay b)).ctx) (hs : s.PinsCounted) :
    ({ s.modBay b f with tariff := s.tariff.pin k } : State).PinsCounted := by
  rw [pinsCounted_iff] at hs ⊢
  obtain ⟨hpins, hresting⟩ := hs
  have hold : (s.bay b).ctx.bank = none := hresting b hrest
  constructor
  · intro j
    have hcount := baysWith_modBay (opensOn j) s b f
    have hnew : opensOn j (f (s.bay b)) = decide (k = j) := by
      rw [opensOn, hbank]
      simp
    rw [show opensOn j (s.bay b) = false by simp [opensOn, hold], hnew] at hcount
    show (s.tariff.pin k).pins j = baysWith (opensOn j) (s.modBay b f)
    rw [pin_pins, hpins j]
    by_cases hkj : k = j
    · simp only [hkj, decide_true, Bool.false_eq_true, if_true, if_false] at hcount ⊢
      exact hcount.symm
    · simp only [hkj, decide_false, Bool.false_eq_true, if_false] at hcount ⊢
      exact hcount.symm
  · intro c hc
    have hbay : ∀ c, ({ s.modBay b f with tariff := s.tariff.pin k } : State).ctx c = ((s.modBay b f).bay c).ctx :=
      fun _ => rfl
    rw [hbay, State.bay_modBay] at hc ⊢
    split at hc
    next hcb =>
      subst hcb
      exact absurd hc hopen
    next hcb =>
      rw [if_neg hcb]
      exact hresting c hc

/-- A context that enters a state. -/
def entered (st : CtxState) (now : Ms) (c : Ctx) : Ctx :=
  { c with state := st, lastChange := now, overlay := .none, wait := .none }

/-- What follows once the context has entered its state. -/
def afterEntry (was st : CtxState) (b : BayNo) (s : State) : State :=
  refresh b (recomputeMask b (entryTone was st b s))

theorem enter_eq (st : CtxState) (b : BayNo) (s : State) :
    enter st b s = afterEntry (s.ctx b).state st b (s.modCtx b (entered st s.now)) := rfl

theorem afterEntry_work {m : Mode} {P : BayNo → Prop} (hb : P b) (was st : CtxState) (s : State) :
    Work m P s (afterEntry was st b s) :=
  (refresh_work hb _).after ((recomputeMask_work hb _).after (entryTone_work hb was st s))

/-- The context and the reservation of a selection that has passed the gate. -/
def selecting (p : Product) (q : Selection) (k : Bank) (time : Calendar) (y : Bay) : Bay :=
  { y with ctx := y.ctx.open p q k time, reserved := p.withCard q }

/-- The bay of a transaction that has opened. -/
def opened (p : Product) (q : Selection) (k : Bank) (time : Calendar) (now : Ms) (y : Bay) : Bay :=
  { selecting p q k time y with ctx := entered .opening now (selecting p q k time y).ctx }

theorem opened_act (p : Product) (q : Selection) (hrest : resting (s.ctx b))
    (hfree : p.withCard q = true → s.tearFree = true) :
    Act s { s.modBay b (opened p q s.tariff.active s.time.calendar s.now) with tariff := s.tariff.pin s.tariff.active } := by
  refine ⟨⟨⟨fun hs => ?_, fun hs => ?_⟩, pin_pinsCounted hrest rfl (not_resting_of_open rfl)⟩, rfl⟩
  · have hbay : ∀ c, ((s.modBay b (opened p q s.tariff.active s.time.calendar s.now)).bay c).Bounded := fun c => by
      rw [State.bay_modBay]
      split
      next hcb => subst hcb; exact { hs.bays c with }
      next => exact hs.bays c
    have hload : (s.tariff.pin s.tariff.active).load = s.tariff.load
        ∧ (s.tariff.pin s.tariff.active).denyEdits = s.tariff.denyEdits := by
      cases s.tariff.active <;> exact ⟨rfl, rfl⟩
    refine { hs with bays := hbay, tears := ?_, abandons := ?_, denyEdits := ?_ }
    · have hcount := baysWith_modBay (fun y => y.reserved) s b (opened p q s.tariff.active s.time.calendar s.now)
      show s.card.tears.length + baysWith (fun y => y.reserved) (s.modBay b _) ≤ _
      have htears := hs.tears
      rw [reservations_eq] at htears
      have hnew : (opened p q s.tariff.active s.time.calendar s.now (s.bay b)).reserved = p.withCard q := rfl
      simp only [hnew] at hcount
      cases hcard : p.withCard q with
      | true =>
        have hroom := hfree hcard
        have hroom := of_decide_eq_true hroom
        rw [reservations_eq] at hroom
        simp only [hcard, if_true] at hcount
        omega
      | false =>
        simp only [hcard, Bool.false_eq_true, if_false] at hcount
        omega
    · exact hload.1 ▸ hs.abandons
    · exact hload.2 ▸ hs.denyEdits
  · refine tubesHold_of_steps hs (fun c n => ?_) ?_ ?_ ?_
    · show TubeStep _ ((s.modBay b (opened p q s.tariff.active s.time.calendar s.now)).bay c).tubes[n]
      rw [State.bay_modBay]
      split
      next hcb => subst hcb; exact .refl _
      next => exact .refl _
    all_goals cases s.tariff.active <;> rfl

/-- The state of a transaction as it opens, before its state is entered. -/
def selected (p : Product) (q : Selection) (b : BayNo) (s : State) : State :=
  { s.modBay b (selecting p q s.tariff.active s.time.calendar) with tariff := s.tariff.pin s.tariff.active }

theorem selected_modCtx (p : Product) (q : Selection) (b : BayNo) (s : State) :
    (selected p q b s).modCtx b (entered .opening s.now)
      = { s.modBay b (opened p q s.tariff.active s.time.calendar s.now) with tariff := s.tariff.pin s.tariff.active } :=
  congrArg (fun u : State => { u with tariff := s.tariff.pin s.tariff.active })
    (modBay_modBay s b (selecting p q s.tariff.active s.time.calendar)
      fun y => { y with ctx := entered .opening s.now y.ctx })

theorem selected_act (p : Product) (q : Selection) (hrest : resting (s.ctx b))
    (hfree : p.withCard q = true → s.tearFree = true) : Act s (enter .opening b (selected p q b s)) := by
  have hopened := opened_act p q hrest hfree
  rw [← selected_modCtx] at hopened
  rw [enter_eq]
  exact (afterEntry_work (m := .free) (P := (· = b)) rfl _ _ _).act.after hopened

theorem openTxn_eq (p : Product) (q : Selection) (b : BayNo) (s : State) :
    openTxn p q b s = if p.withCard q then enterCardRead b (enter .opening b (selected p q b s))
      else enterPricing b (enter .opening b (selected p q b s)) := rfl

theorem openTxn_act (p : Product) (q : Selection) (hrest : resting (s.ctx b))
    (hfree : p.withCard q = true → s.tearFree = true) : Act s (openTxn p q b s) := by
  rw [openTxn_eq]
  refine Act.after ?_ (selected_act p q hrest hfree)
  exact .ite (fun _ => (enterCardRead_work (P := (· = b)) rfl _).act) fun _ => (enterPricing_work (P := (· = b)) rfl _).act

/-- A product that passes the gate with a card finds a place in the tear table. -/
theorem openGate_tearFree {p : Product} {q : Selection} (h : s.openGate b q = .inr p) (hcard : p.withCard q = true) :
    s.tearFree = true := by
  unfold State.openGate at h
  split_ifs at h
  split at h
  · cases h
  · split_ifs at h
    next hbusy =>
      cases h
      exact Bool.eq_true_of_not_eq_false fun hfull => hbusy ⟨hcard, hfull⟩

theorem select_act (q : Selection) (b : BayNo) (s : State) : Act s (select q b s) := by
  refine Act.after ?_ (clearOverlay_work (m := .free) (P := (· = b)) rfl s).act
  unfold select
  dsimp only
  generalize clearOverlay b s = u
  split
  · exact (refuse_work (m := .free) (P := (· = b)) rfl _ u).act
  next hidle =>
    split
    · exact (refuse_work (m := .free) (P := (· = b)) rfl _ u).act
    next p hgate => exact openTxn_act p q (.inl hidle) (openGate_tearFree hgate)
  · exact (refuse_work (m := .free) (P := (· = b)) rfl _ u).act

/-! ### Evaluations, polls and replies -/

theorem priced_act (r : PriceRequest) (amount : Nat) (flags : EvalFlags) (plan : Option PassPlan) (s : State) :
    Act s (priced r amount flags plan s) := by
  have hpriced : Work .free (· = r.bay) s (s.modCtx r.bay fun c =>
      { c with price := some amount, priceMethod := some r.method, evalFlags := flags, passPlan := plan }) :=
    modCtx_work (P := (· = r.bay)) rfl free_loud rfl rfl rfl id
  refine Work.act (Work.after ?_ ((enterOpen_work (st := .priced) (P := (· = r.bay)) rfl free_loud rfl _).after hpriced))
  exact .iteSelf fun _ => leavePriced_work (P := (· = r.bay)) rfl _

theorem priceTaken_act (r : PriceRequest) (s : State) : Act s (priceTaken r s) := by
  unfold priceTaken
  refine .iteSelf fun _ => ?_
  split
  · exact priced_act _ _ _ _ s
  · exact (cancelWith_work (P := (· = r.bay)) rfl _ s).act
  · exact (cancelWith_work (P := (· = r.bay)) rfl _ s).act

theorem evalStart_step (t : Tariff) : TariffStep t t.evalStart := by
  unfold Tariff.evalStart
  split
  · exact .of_load rfl rfl rfl
  · exact .refl t

theorem rotationPoll_act (b : BayNo) (s : State) : Act s (rotationPoll b s) := by
  have hpolled := (polled_work (b := b) (P := (· = b)) rfl s.now s).act
  unfold rotationPoll
  refine Act.after (.bus ?_ ?_) hpolled
  · exact id
  · exact id

theorem recoveryPoll_act (b : BayNo) (s : State) : Act s (recoveryPoll b s) := by
  have hpolled := (modTerm_work (s := s) (b := b) (P := (· = b)) (f := fun t =>
    { t.polled false s.now with recoveryStart := some s.now }) rfl id rfl rfl).act
  unfold recoveryPoll
  refine Act.after (.bus ?_ ?_) hpolled
  · exact id
  · exact id

theorem miss_act (b : BayNo) (s : State) : Act s (miss b s) := (miss_work (P := (· = b)) rfl s).act

theorem goodReply_act (x : BusExchange) (r : BusReply) (s : State) : Act s (goodReply x r s) := by
  have hheard : Act s (terminalHeard x.poll.bay (endBusExchange (s.modTerm x.poll.bay fun t => t.reached x.poll))) :=
    (terminalHeard_work (P := (· = x.poll.bay)) rfl _).act.after ((endBusExchange_act _).after
      (reached_work (b := x.poll.bay) (P := (· = x.poll.bay)) rfl x.poll s).act)
  unfold goodReply
  refine Act.after (.bus ?_ ?_) hheard
  · exact id
  · exact id

theorem badReply_act (b : BayNo) (s : State) : Act s (miss b (countBadReply (endBusExchange s))) :=
  (miss_act _ _).after ((countBadReply_act _).after (endBusExchange_act s))

/-! ### The journal engine (R156 to R163) -/

/-- Blocks and rows changed leave the Journal Unit's counters and places. -/
theorem blockRow_bounded {j : Journal} (i k : Nat) (f : Block → Block) (g : Row → Row) (h : j.Bounded) :
    ((j.modBlock i f).modRow k g).Bounded :=
  ((modBlock_step j i f).trans (modRow_step _ k g)).bounded h

theorem beginErase_bounded {j : Journal} (i : Nat) (now : Ms) (h : j.Bounded) : (j.beginErase i now).Bounded :=
  { blockRow_bounded i i (fun b => { b with marker := some .erasing })
      (fun r => { r with state := .erasing, failures := 0 }) h with }

theorem eraseDone_bounded {j : Journal} (i : Nat) (h : j.Bounded) : (j.eraseDone i).Bounded := by
  have hrow := blockRow_bounded i i (fun _ => .erased) (fun _ => .erased) h
  exact { hrow with holdList := (List.length_filter_le _ _).trans hrow.holdList }

theorem eraseFailed_bounded {j : Journal} (e : Erase) (now : Ms) (h : j.Bounded) : (j.eraseFailed e now).Bounded := by
  have hcounted : Journal.Bounded { j with eraseFail := satInc j.eraseFail } := { h with eraseFail := satInc_le _ }
  unfold Journal.eraseFailed
  dsimp only
  split
  · exact { (modRow_step _ e.block fun r => { r with failures := 1 }).bounded hcounted with }
  · exact { blockRow_bounded e.block e.block (fun b => { b with marker := some .bad })
              (fun r => { r with state := .bad, failures := 0 }) hcounted with badBlock := satInc_le _ }

theorem eraseSucceeded_act (e : Erase) (s : State) : Act s (eraseSucceeded e s) := by
  have hdone : Act s (s.modJournal (·.eraseDone e.block)) := .journal (eraseDone_bounded e.block)
  have hleft : ∀ u, Act u (leaveFull u) := fun u => (leaveFull_work (m := .free) (P := fun _ => True) u).act
  exact (hleft _).after ((notify?_work (m := .free) (P := fun _ => True) _ _).act.after hdone)

theorem eraseFailed_act (e : Erase) (s : State) : Act s (eraseFailed e s) := by
  have hfailed : Act s (s.modJournal (·.eraseFailed e s.now)) := .journal (eraseFailed_bounded e s.now)
  refine Act.after ?_ hfailed
  unfold eraseFailed
  dsimp only
  split
  · exact (notify_work (m := .free) (P := fun _ => True) _ _).act
  · exact .refl _

end

end Sys2Proof.Proofs

/-! PROOFS. A site table replaced keeps the tubes under it (R51, R58, R61). -/

namespace Sys2Proof.Proofs

open Sys2Proof Sys2Proof.Machine Sys2Proof.Laws

/-! ### A loop over the bays, bay by bay -/

section
variable {f : BayNo → State → State} {R : BayNo → Bay → Bay → Prop}

theorem foldl_each (hother : ∀ b s, OtherBays b s (f b s)) (hown : ∀ b s, R b (s.bay b) ((f b s).bay b)) (c : BayNo)
    (l : List BayNo) (hl : l.Nodup) (s : State) :
    (c ∉ l → (l.foldl (fun t b => f b t) s).bay c = s.bay c)
    ∧ (c ∈ l → R c (s.bay c) ((l.foldl (fun t b => f b t) s).bay c)) := by
  induction l generalizing s with
  | nil => exact ⟨fun _ => rfl, nofun⟩
  | cons b l ih =>
    obtain ⟨hb, hl⟩ := List.nodup_cons.mp hl
    obtain ⟨hout, hin⟩ := ih hl (f b s)
    rw [List.foldl_cons]
    refine ⟨fun hc => ?_, fun hc => ?_⟩
    · rw [List.mem_cons, not_or] at hc
      rw [hout hc.2]
      exact hother b s c hc.1
    · rcases List.mem_cons.mp hc with rfl | hc
      · rw [hout hb]
        exact hown c s
      · have hne : c ≠ b := fun he => hb (he ▸ hc)
        rw [← hother b s c hne]
        exact hin hc

/-- A loop whose turns act on their own bay relates each bay to itself by its own turn. -/
theorem forBays_each (hother : ∀ b s, OtherBays b s (f b s)) (hown : ∀ b s, R b (s.bay b) ((f b s).bay b)) (s : State)
    (c : BayNo) : R c (s.bay c) ((forBays f s).bay c) :=
  (foldl_each hother hown c allBays (by decide) s).2 (by revert c; decide)

end

/-! ### One bay under the new table -/

section
variable {P : BayNo → Prop} {b : BayNo} (hb : P b)
include hb

theorem absentChange_work (was is : Bool) (s : State) : Work .free P s (absentChange was is b s) := by
  unfold absentChange
  split
  · split
    next hidle => exact (makeAbsent_work hb _).after (enter_work hb free_loud (.inr (.inl hidle)))
    · exact makeAbsent_work hb s
    · exact .refl s
  · exact (notify_work _ _).after ((modTerm_work hb (fun _ => Nat.zero_le _) rfl rfl).after (joinCause_work hb _ s))
  · exact .refl s

theorem passesOnlyChange_work (was is : Bool) (s : State) : Work .free P s (passesOnlyChange was is b s) := by
  unfold passesOnlyChange
  split
  · exact .iteSelf fun _ => joinCause_work hb _ s
  · exact leaveCause_work hb _ s
  · exact .refl s

/-- What follows once a bay's tubes have taken their site fields. -/
theorem siteChange_work (old new : List (List Byte)) (s : State) :
    Work .free P (s.modBay b fun y => y.takeSite new b) (siteChange old new b s) :=
  (recomputeMask_work hb _).after ((passesOnlyChange_work hb _ _ _).after (absentChange_work hb _ _ _))

end

section
variable {s : State} {b : BayNo}

theorem siteChange_others (old new : List (List Byte)) (b : BayNo) (s : State) : OtherBays b s (siteChange old new b s) :=
  fun c hc => ((siteChange_work (P := (· = b)) rfl old new s).otherBays c hc).trans (State.bay_modBay_ne _ hc _)

theorem siteChange_tubes (old new : List (List Byte)) (b : BayNo) (s : State) (n : TubeNo) :
    TubeStep ((s.bay b).takeSite new b).tubes[n] ((siteChange old new b s).bay b).tubes[n] := by
  have h := (siteChange_work (P := (· = b)) rfl old new s).tubes b n
  rwa [State.bay_modBay_self] at h

theorem takeSite_within (new : List (List Byte)) (b : BayNo) (hs : Within s) :
    Within (s.modBay b fun y => y.takeSite new b) := by
  refine { hs with bays := fun c => ?_, tears := ?_ }
  · rw [State.bay_modBay]
    split
    next hcb =>
      subst hcb
      refine { hs.bays c with extras := fun n => ?_ }
      simp only [Bay.takeSite, Fin.getElem_fin, Vector.getElem_ofFn]
      exact (hs.bays c).extras n
    next => exact hs.bays c
  · have hsame : baysWith (fun y => y.reserved) (s.modBay b fun y => y.takeSite new b) = baysWith (fun y => y.reserved) s :=
      baysWith_same (f := fun y => y.takeSite new b) rfl
    rw [reservations_eq, hsame]
    exact hs.tears

theorem takeSite_pins (new : List (List Byte)) (b : BayNo) (hs : s.PinsCounted) :
    (s.modBay b fun y => y.takeSite new b).PinsCounted := by
  rw [pinsCounted_iff] at hs ⊢
  obtain ⟨hpins, hrest⟩ := hs
  refine ⟨fun k => ?_, fun c hc => ?_⟩
  · rw [baysWith_same (f := fun y => y.takeSite new b) rfl]
    exact hpins k
  · have hctx : ((s.modBay b fun y => y.takeSite new b).ctx c) = s.ctx c := by
      rw [State.ctx, State.bay_modBay]
      split
      next hcb => subst hcb; rfl
      next => rfl
    rw [hctx] at hc ⊢
    exact hrest c hc

theorem siteChange_within (old new : List (List Byte)) (b : BayNo) (s : State) (hs : Within s) :
    Within (siteChange old new b s) := (siteChange_work (P := (· = b)) rfl old new s).within (takeSite_within new b hs)

theorem siteChange_pins (old new : List (List Byte)) (b : BayNo) (s : State) (hs : s.PinsCounted) :
    (siteChange old new b s).PinsCounted :=
  (siteChange_work (P := (· = b)) rfl old new s).pinsCounted (takeSite_pins new b hs)

/-! ### A table that has passed validation (R61) -/

theorem firstIndex_none {α : Type} {f : Nat → α → Bool} {xs : List α} {i : Nat} (h : firstIndex f i xs = none) :
    ∀ x ∈ xs, ∃ k, f k x = false := by
  induction xs generalizing i with
  | nil => exact nofun
  | cons x xs ih =>
    unfold firstIndex at h
    split at h
    next => cases h
    next hx =>
      intro y hy
      rcases List.mem_cons.mp hy with rfl | hy
      · exact ⟨i, Bool.eq_false_of_not_eq_true hx⟩
      · exact ih h y hy

/-- The tube settings of a valid site table are in order. -/
theorem siteTube_levels {es : List (List Byte)} (h : firstBad (siteOk es) es = none) (b : BayNo) (n : TubeNo) :
    (siteTube es b n).2.2.1 ≤ (siteTube es b n).2.1 ∧ (siteTube es b n).2.2.2 ≤ (siteTube es b n).2.2.1 := by
  unfold siteTube
  split
  next v hv =>
    obtain ⟨e, he, hev⟩ := List.exists_of_findSome?_eq_some hv
    split at hev
    next hnamed =>
      cases hev
      obtain ⟨k, hk⟩ := firstIndex_none h e he
      simp only [siteOk, hnamed.1, settingOk, tubeOk, Bool.not_eq_false', Bool.and_eq_true, decide_eq_true_eq] at hk
      exact ⟨hk.2.1.2, hk.2.2⟩
    next => cases hev
  next => exact ⟨by decide, by decide⟩

theorem mem_everyTube (b : BayNo) (n : TubeNo) : (b, n) ∈ everyTube := by
  revert b n
  decide

theorem tubeFailure_none {es : List (List Byte)} (h : tubeFailure es s = none) (b : BayNo) (n : TubeNo) :
    tubeClash es s (b, n) = false := by
  unfold tubeFailure at h
  rw [List.min?_eq_none_iff, List.map_eq_nil_iff, List.filter_eq_nil_iff] at h
  exact Bool.eq_false_of_not_eq_true (h (b, n) (mem_everyTube b n))

/-- A tube that does not clash holds no more coins than its new setting allows. -/
theorem count_of_no_clash {es : List (List Byte)} (h : tubeClash es s (b, n) = false) :
    (s.tube b n).count ≤ (siteTube es b n).2.1 := by
  simp only [tubeClash, Bool.and_eq_false_iff, Bool.or_eq_false_iff, decide_eq_false_iff_not] at h
  omega

theorem validate_site {g : Target} (hg : g.table = .site) (h : s.validate g = none) :
    firstBad (siteOk s.tariff.siteShadow.entries) s.tariff.siteShadow.entries = none
    ∧ tubeFailure s.tariff.siteShadow.entries s = none := by
  unfold State.validate at h
  rw [hg] at h
  dsimp only at h
  split at h
  next => cases h
  next hgood => exact ⟨hgood, by simpa using h⟩

/-! ### The replacement -/

theorem replaceSite_within (t : Table) (s : State) (hs : Within s) : Within (replaceSite t s) :=
  forBays_invariant Within _ (siteChange_within _ _) { hs with }

theorem replaceSite_pins (t : Table) (s : State) (hs : s.PinsCounted) : (replaceSite t s).PinsCounted :=
  forBays_invariant State.PinsCounted _ (siteChange_pins _ _)
    ⟨fun k => (by cases k <;> rfl : (s.modTariff fun u => { u with site := t, siteShadow := .empty }).tariff.pins k
      = s.tariff.pins k).trans (hs.pins k), hs.resting⟩

theorem replaceSite_replies (t : Table) (s : State) : (replaceSite t s).link.replies = s.link.replies :=
  (forBays_keeps (fun s => s.link.replies) _ (fun b u => (siteChange_work (P := (· = b)) rfl s.site t.entries u).replies)
    (s.modTariff fun u => { u with site := t, siteShadow := .empty })).trans rfl

/-- What the replacement leaves of the Tariff Unit: all but the table replaced, the pins and the pricing queue. -/
theorem replaceSite_tariff (t : Table) (s : State) :
    (replaceSite t s).tariff.site = t ∧ (replaceSite t s).tariff.siteShadow = .empty
    ∧ (replaceSite t s).tariff.load = s.tariff.load := by
  have hkept : ∀ b u, (outside (siteChange s.site t.entries b u)).tariff = (outside u).tariff := fun b u =>
    (congrArg Outside.tariff (siteChange_work (P := (· = b)) rfl s.site t.entries u).outside).trans rfl
  have h := forBays_keeps (fun u => (outside u).tariff) _ hkept
    (s.modTariff fun u => { u with site := t, siteShadow := .empty })
  have hsite := congrArg Tariff.site h
  have hshadow := congrArg Tariff.siteShadow h
  have hload := congrArg Tariff.load h
  exact ⟨hsite, hshadow, hload⟩

theorem replaceSite_tube (t : Table) (s : State) (b : BayNo) (n : TubeNo) :
    TubeStep ((s.bay b).takeSite t.entries b).tubes[n] ((replaceSite t s).bay b).tubes[n] := by
  have h := forBays_each (R := fun c y y' => TubeStep (y.takeSite t.entries c).tubes[n] y'.tubes[n])
    (siteChange_others s.site t.entries) (fun c u => siteChange_tubes s.site t.entries c u n)
    (s.modTariff fun u => { u with site := t, siteShadow := .empty }) b
  exact h

theorem replaceSite_tubes {t : Table} (hvalid : t.valid = true) (hgood : t.good [] = true)
    (hlevels : firstBad (siteOk t.entries) t.entries = none) (hcounts : tubeFailure t.entries s = none)
    (hload : s.tariff.load.state ≠ .stream) : (replaceSite t s).TubesHold := by
  obtain ⟨hsite, -, hload'⟩ := replaceSite_tariff t s
  have hset : ∀ (b : BayNo) (n : TubeNo), setting ((s.bay b).takeSite t.entries b).tubes[n] = siteTube t.entries b n
      ∧ ((s.bay b).takeSite t.entries b).tubes[n].count = (s.tube b n).count := fun b n => by
    simp only [Bay.takeSite, Fin.getElem_fin, Vector.getElem_ofFn]
    exact ⟨rfl, rfl⟩
  have hnew : ∀ (b : BayNo) (n : TubeNo), setting ((replaceSite t s).bay b).tubes[n] = siteTube t.entries b n := fun b n =>
    (replaceSite_tube t s b n).setting.trans (hset b n).1
  have hcap : ∀ (b : BayNo) (n : TubeNo), ((replaceSite t s).bay b).tubes[n].capacity = (siteTube t.entries b n).2.1 :=
    fun b n => congrArg (fun q : Nat × Nat × Nat × Nat => q.2.1) (hnew b n)
  have hfull : ∀ (b : BayNo) (n : TubeNo), ((replaceSite t s).bay b).tubes[n].fullLevel = (siteTube t.entries b n).2.2.1 :=
    fun b n => congrArg (fun q : Nat × Nat × Nat × Nat => q.2.2.1) (hnew b n)
  have hlow : ∀ (b : BayNo) (n : TubeNo), ((replaceSite t s).bay b).tubes[n].lowLevel = (siteTube t.entries b n).2.2.2 :=
    fun b n => congrArg (fun q : Nat × Nat × Nat × Nat => q.2.2.2) (hnew b n)
  have htaken : ∀ (b : BayNo) (n : TubeNo), ((s.bay b).takeSite t.entries b).tubes[n].capacity = (siteTube t.entries b n).2.1
      ∧ ((s.bay b).takeSite t.entries b).tubes[n].fullLevel = (siteTube t.entries b n).2.2.1 := fun b n =>
    ⟨congrArg (fun q : Nat × Nat × Nat × Nat => q.2.1) (hset b n).1,
      congrArg (fun q : Nat × Nat × Nat × Nat => q.2.2.1) (hset b n).1⟩
  refine ⟨fun b n => ?_, fun b n => ?_, fun b n => ?_, ?_, ?_⟩
  · rw [State.site, hsite]
    exact hnew b n
  · rw [hcap, hfull, hlow]
    exact siteTube_levels hlevels b n
  · have hfit := count_of_no_clash (tubeFailure_none hcounts b n)
    rw [hcap, ← (htaken b n).1]
    refine (replaceSite_tube t s b n).count ?_ ?_
    · rw [(htaken b n).1, (htaken b n).2]
      exact (siteTube_levels hlevels b n).1
    · rw [(htaken b n).1, (hset b n).2]
      exact hfit
  · rw [hsite]
    exact ⟨hvalid, hgood⟩
  · rw [hload']
    exact fun g hg => absurd hg hload

end

end Sys2Proof.Proofs

/-! PROOFS. The link reset and start-up keep the bounds and the tubes (R191, R205 to R208). -/

namespace Sys2Proof.Proofs

open Sys2Proof Sys2Proof.Machine Sys2Proof.Laws

/-! ### Fitting steps of the parts -/

section
variable {s t : State} {b : BayNo}

/-- Bays in a step with those before, under the same tables, hold their tubes. -/
theorem tubesHold_of_bays (h : s.TubesHold) (htubes : ∀ (b : BayNo) (n : TubeNo), TubeStep (s.bay b).tubes[n] (t.bay b).tubes[n])
    (htariff : t.tariff = s.tariff) : t.TubesHold :=
  tubesHold_of_steps h htubes (by rw [htariff]) (by rw [htariff]) (by rw [htariff])

theorem modBay_tubes {f : Bay → Bay} (h : ∀ n : TubeNo, TubeStep (s.bay b).tubes[n] (f (s.bay b)).tubes[n]) (c : BayNo)
    (n : TubeNo) : TubeStep (s.bay c).tubes[n] ((s.modBay b f).bay c).tubes[n] := by
  rw [State.bay_modBay]
  split
  next hcb => subst hcb; exact h n
  next => exact .refl _

theorem BayKeeps.fits {f : Bay → Bay} (h : BayKeeps (s.bay b) (f (s.bay b))) : Fits s (s.modBay b f) :=
  ⟨h.within, fun hs => tubesHold_of_bays hs (modBay_tubes h.tubes) rfl⟩

theorem Fits.forBays {f : BayNo → State → State} (h : ∀ b s, Fits s (f b s)) (s : State) : Fits s (forBays f s) :=
  ⟨fun hs => forBays_invariant Within f (fun b u => (h b u).within) hs,
    fun hs => forBays_invariant State.TubesHold f (fun b u => (h b u).tubes) hs⟩

theorem Work.fits {m : Mode} {P : BayNo → Prop} (h : Work m P s t) : Fits s t := ⟨h.within, h.tubesHold⟩

theorem Fits.ite {p : Prop} [Decidable p] {u : State} (ht : p → Fits s t) (hu : ¬p → Fits s u) :
    Fits s (if p then t else u) := by
  split
  · next h => exact ht h
  · next h => exact hu h

/-- A port within its bounds in place of the one before. -/
theorem Fits.setLink {l : Link} (h : s.link.Bounded → l.Bounded) : Fits s { s with link := l } :=
  ⟨fun hs => { hs with link := h hs.link }, fun hs => ⟨hs.settings, hs.levels, hs.counts, hs.site, hs.stream⟩⟩

theorem Fits.setJournal {j : Journal} (h : s.journal.Bounded → j.Bounded) : Fits s { s with journal := j } :=
  ⟨fun hs => { hs with journal := h hs.journal }, fun hs => ⟨hs.settings, hs.levels, hs.counts, hs.site, hs.stream⟩⟩

theorem Fits.setBus {x : Bus} (hbad : x.badReplies ≤ Config.counterMax) (hrec : x.recoveries ≤ Config.counterMax) :
    Fits s { s with bus := x } :=
  ⟨fun hs => { hs with badReplies := hbad, recoveries := hrec },
    fun hs => ⟨hs.settings, hs.levels, hs.counts, hs.site, hs.stream⟩⟩

/-- Tears of the same or fewer serials, and late replies within their bound. -/
theorem Fits.setCard {c : CardUnit} (ht : (c.tears.map Tear.serial).Sublist (s.card.tears.map Tear.serial))
    (hl : s.card.lateReplies ≤ Config.counterMax → c.lateReplies ≤ Config.counterMax) : Fits s { s with card := c } := by
  refine ⟨fun hs => { hs with tears := ?_, serials := hs.serials.sublist ht, lateReplies := hl hs.lateReplies },
    fun hs => ⟨hs.settings, hs.levels, hs.counts, hs.site, hs.stream⟩⟩
  have hlen := ht.length_le
  rw [List.length_map, List.length_map] at hlen
  exact (Nat.add_le_add_right hlen _).trans hs.tears

theorem Fits.of_scope (h : scope t = scope s) : Fits s t := (Sound.of_scope h).toFits

/-! ### What both resets rebuild -/

theorem markWithin_one : markWithin 1 := ⟨by decide, by decide⟩

theorem rebuild_keeps (y : Bay) (site : List (List Byte)) (b : BayNo) (now : Ms) : BayKeeps y (y.rebuild site b now) where
  coins := fun _ => Nat.zero_le _
  tendered := fun _ => Nat.zero_le _
  ring := fun _ => Nat.zero_le _
  counters := fun _ => ⟨Nat.zero_le _, Nat.zero_le _, Nat.zero_le _, Nat.zero_le _, Nat.zero_le _⟩
  misses := fun _ => Nat.zero_le _
  cardMark := fun _ => markWithin_one
  chunkMark := fun _ => markWithin_one
  reserved := nofun

theorem dark_keeps (y : Bay) : BayKeeps y y.dark where
  coins := fun _ => Nat.zero_le _
  tendered := fun _ => Nat.zero_le _
  ring := fun _ => Nat.zero_le _
  counters := fun _ => ⟨Nat.zero_le _, Nat.zero_le _, Nat.zero_le _, Nat.zero_le _, Nat.zero_le _⟩
  misses := fun _ => Nat.zero_le _
  cardMark := fun _ => markWithin_one
  chunkMark := fun _ => markWithin_one
  reserved := nofun

theorem rebuildBays_fits (s : State) : Fits s (rebuildBays s) := .forBays (fun _ _ => (rebuild_keeps _ _ _ _).fits) s

/-- A state whose contexts are open on no bank and whose banks have no pins. -/
def Unpinned (s : State) : Prop := s.tariff.pinsA = 0 ∧ s.tariff.pinsB = 0 ∧ ∀ b, (s.ctx b).bank = none

theorem Unpinned.pinsCounted (h : Unpinned s) : s.PinsCounted := by
  obtain ⟨hA, hB, hnone⟩ := h
  rw [pinsCounted_iff]
  refine ⟨fun k => ?_, fun b _ => hnone b⟩
  have hpins : s.tariff.pins k = 0 := by cases k; exacts [hA, hB]
  rw [hpins, eq_comm, baysWith, List.length_eq_zero_iff, List.filter_eq_nil_iff]
  intro y hy
  obtain ⟨i, hi, rfl⟩ := List.getElem_of_mem hy
  simp only [Vector.length_toList] at hi
  have := hnone ⟨i, hi⟩
  rw [Vector.getElem_toList]
  simp only [opensOn, decide_eq_true_eq]
  intro hk
  exact absurd (this.symm.trans hk) nofun

theorem rebuildBays_unpinned (hA : s.tariff.pinsA = 0) (hB : s.tariff.pinsB = 0) : Unpinned (rebuildBays s) := by
  have htariff : (rebuildBays s).tariff = s.tariff := forBays_keeps State.tariff _ (fun _ _ => rfl) s
  refine ⟨htariff ▸ hA, htariff ▸ hB, fun b => ?_⟩
  exact forBays_each (R := fun _ _ y' => y'.ctx.bank = none) (fun b s _ hc => State.bay_modBay_ne s hc _)
    (fun _ s => congrArg (fun y : Bay => y.ctx.bank) (State.bay_modBay_self s _ _)) s b

/-- The Tariff Unit after either reset. -/
theorem restart_fits (s : State) : Fits s { s with tariff := s.tariff.restart } :=
  ⟨fun hs => { hs with abandons := Nat.zero_le _ },
    fun hs => ⟨hs.settings, hs.levels, hs.counts, hs.site, fun _ h => nomatch h⟩⟩

theorem card_restart_fits (site : List (List Byte)) (s : State) : Fits s { s with card := s.card.restart site } := by
  refine .setCard ?_ fun _ => Nat.zero_le _
  simp only [CardUnit.restart, List.map_map]
  exact List.Sublist.refl _

theorem clearRequested_work {m : Mode} (s : State) : Work m (fun _ => True) s (clearRequested s) :=
  .forBays (fun _ _ => .calmly trivial { box := fun h =>
    { h with
      closures := (List.length_map ..).trans_le h.closures
      records := fun c hc => by
        obtain ⟨d, hd, rfl⟩ := List.mem_map.mp hc
        exact h.records d hd } }) s

theorem askBoxes_work {m : Mode} (s : State) : Work m (fun _ => True) s (askBoxes s) :=
  .forBays (fun _ s => askBox_work trivial s) s

/-! ### The link reset (R191) -/

theorem journal_linkReset_bounded {j : Journal} (h : j.Bounded) : j.linkReset.Bounded :=
  { h with
    queue := List.length_take_le _ _
    torn := Nat.zero_le _
    ackClamp := Nat.zero_le _
    eraseFail := Nat.zero_le _ }

theorem link_restart_bounded (l : Link) (rate : Nat) (now : Ms) : (l.restart rate now).Bounded := by
  constructor <;> exact Nat.zero_le _

/-- The Tariff Unit and the Card Unit restarted, and every bay rebuilt. -/
def rebuilt (s : State) : State :=
  rebuildBays { s with tariff := s.tariff.restart, card := s.card.restart s.site }

theorem rebuilt_fits (s : State) : Fits s (rebuilt s) :=
  (rebuildBays_fits _).after ((card_restart_fits s.site _).after (restart_fits s))

theorem rebuilt_sound (s : State) : Sound s (rebuilt s) :=
  ⟨rebuilt_fits s, fun _ => (rebuildBays_unpinned rfl rfl).pinsCounted⟩

theorem linkResetFinish_sound (s : State) : Sound s (linkResetFinish s) := by
  have hjournal : Act s (settleErase (s.modJournal (·.linkReset))) :=
    (settleErase_work (m := .free) (P := fun _ => True) _).act.after (.journal journal_linkReset_bounded)
  have hlink : Act s (if s.online then appendLink false (settleErase (s.modJournal (·.linkReset)))
      else settleErase (s.modJournal (·.linkReset))) :=
    Act.after (.iteSelf fun _ => append_act _ _) hjournal
  unfold linkResetFinish
  dsimp only
  generalize (if s.online then appendLink false (settleErase (s.modJournal (·.linkReset)))
      else settleErase (s.modJournal (·.linkReset))) = u at hlink
  refine Sound.after ?_ ((rebuilt_sound u).after hlink.toSound)
  show Sound (rebuilt u) (askBoxes (journalKick (clearRequested
    { (rebuilt u).modLink fun l => l.restart (siteRate (rebuilt u).site) (rebuilt u).now with
      bus := ((rebuilt u).modLink fun l => l.restart (siteRate (rebuilt u).site) (rebuilt u).now).bus.restart })))
  generalize rebuilt u = v
  have hport : Sound v (v.modLink fun l => l.restart (siteRate v.site) v.now) := .link fun _ => link_restart_bounded _ _ _
  generalize (v.modLink fun l => l.restart (siteRate v.site) v.now) = w at hport
  have hbus : Sound w { w with bus := w.bus.restart } :=
    ⟨.setBus (Nat.zero_le _) (Nat.zero_le _), fun hs => ⟨hs.pins, hs.resting⟩⟩
  refine Sound.after ?_ (hbus.after hport)
  generalize ({ w with bus := w.bus.restart } : State) = x
  have hwork : Work .free (fun _ => True) x (askBoxes (journalKick (clearRequested x))) :=
    (askBoxes_work _).after ((journalKick_work _).after (clearRequested_work x))
  exact hwork.act.toSound

theorem linkResetContinue_sound (s : State) : Sound s (linkResetContinue s) := by
  unfold linkResetContinue
  split
  · exact linkResetFinish_sound s
  · exact .refl s

theorem linkResetRun_sound (s : State) : Sound s (linkResetRun s) := by
  have hresets : ∀ u, Work .free (fun _ => True) u
      (forBays (fun b s => if (s.ctx b).state.isOpen then bayReset b s else s) u) := fun u =>
    .forBays (fun b s => .iteSelf fun _ => bayReset_work trivial s) u
  have hhalted : Sound s { s with link := { s.link with resetStage := .running }, bus := s.bus.halt } :=
    ⟨⟨fun hs => { hs with link := { hs.link with } },
      fun hs => ⟨hs.settings, hs.levels, hs.counts, hs.site, hs.stream⟩⟩, fun hs => ⟨hs.pins, hs.resting⟩⟩
  exact (linkResetContinue_sound _).after ((hresets _).act.toSound.after hhalted)

theorem afterReply_sound (a : AfterReply) (s : State) : Sound s (afterReply a s) := by
  unfold afterReply
  split
  · exact .refl s
  · exact .link fun h => { truncate_bounded h with }
  · exact linkResetRun_sound s

/-! ### Start-up (R205 to R208) -/

theorem lostLink_bounded : ({ Link.reset with noticeList := [] } : Link).Bounded := by
  constructor <;> exact Nat.zero_le _

theorem journal_losePower_bounded {j : Journal} (n : Nat) (h : j.Bounded) : (j.losePower n).Bounded := by
  have htorn : (j.tear n).Bounded := by
    unfold Journal.tear
    split
    · exact (modBlock_step j _ _).bounded h
    · exact h
  exact { htorn with queue := Nat.zero_le _ }

theorem losePower_fits (env : StartUp) (s : State) : Fits s (losePower env s) := by
  have htime : Fits s { s with time := s.time.start env } := .of_scope rfl
  have hjournal : ∀ u : State, Fits u { u with journal := u.journal.losePower env.tornBytes } := fun u =>
    .setJournal (journal_losePower_bounded _)
  have hlink : ∀ u : State, Fits u { u with link := { Link.reset with noticeList := [] } } := fun u =>
    .setLink fun _ => lostLink_bounded
  exact (hlink _).after ((hjournal _).after htime)

theorem lose_keeps (y : Bay) : BayKeeps y y.lose where
  tubes := fun n => by
    simp only [Bay.lose, Fin.getElem_fin, Vector.getElem_map]
    exact ⟨rfl, fun _ => Nat.zero_le _, fun _ _ => Nat.zero_le _⟩
  box := fun _ => ⟨zeroCounts_within, zeroCounts_within, Nat.zero_le _, nofun⟩

theorem loseArea_fits (s : State) : Fits s (loseArea s) := by
  have hcard : Fits s { s with card := { s.card with tears := [], offlineTotal := 0 } } :=
    .setCard (List.nil_sublist _) id
  have hacked : ∀ u : State, Fits u { u with journal := { u.journal with acked := 0 } } := fun u => .setJournal fun h => { h with }
  have htime : ∀ u : State, Fits u { u with time := u.time.lose } := fun u => .of_scope rfl
  have hbays : ∀ u, Fits u (forBays (fun b s => s.modBay b Bay.lose) u) := .forBays fun b u => (lose_keeps _).fits
  exact (notify_work (m := .free) (P := fun _ => True) _ _).fits.after ((hbays _).after ((htime _).after ((hacked _).after hcard)))

theorem startRetained_fits (held : Bool) (s : State) : Fits s (startRetained held s) := by
  have hlost : Fits s (if held then s else loseArea s) := .ite (fun _ => .refl s) fun _ => loseArea_fits s
  exact Fits.after (.ite (fun _ => .refl _) fun _ => (notify_work (m := .free) (P := fun _ => True) _ _).fits) hlost

theorem activate_bounded {j k : Journal} (h : j.activate = some k) (hj : j.Bounded) : k.Bounded :=
  (activate_step h).bounded hj

/-- The rows and the marks the scan finds (R169 to R172). -/
def scanned (j : Journal) (retained : Option Nat) : Journal :=
  let rows := j.store.map fun b => b.scan.1
  let last := scanLast j.store.toList
  { j with
    rows := rows
    last := last
    nextBlockSeq := highest (j.store.toList.map Block.blockSeq) + 1
    full := false
    queue := []
    waitList := []
    writing := none
    erase := none
    acked := match retained with
      | some a => min a last
      | none => match lowestValid rows.toList with
        | some q => q - 1
        | none => last
    torn := (j.store.toList.filter fun b => b.scan.2).length
    ackClamp := 0
    eraseFail := 0
    badBlock := (rows.toList.filter fun r => r.state = .bad).length }

/-- The journal has an ACTIVE block, or finds itself full (R158). -/
def withActive (j : Journal) : Journal :=
  match j.lowest .active with
  | some _ => j
  | none => match j.activate with
    | some k => k
    | none => { j with full := true }

/-- No ERASED block stays on the hold list (R164). -/
def withoutErased (j : Journal) : Journal :=
  { j with holdList := j.holdList.filter fun i => decide ((j.row i).state ≠ .erased) }

theorem scan_eq (j : Journal) (retained : Option Nat) :
    j.scan retained = withoutErased (withActive (scanned j retained)) := rfl

theorem scanned_bounded {j : Journal} (retained : Option Nat) (h : j.Bounded) : (scanned j retained).Bounded := by
  have hcount : ∀ {α : Type} (v : Vector α 32) (p : α → Bool), (v.toList.filter p).length ≤ Config.counterMax := fun v p =>
    (List.length_filter_le _ _).trans (by rw [Vector.length_toList]; decide)
  exact
    { h with
      queue := Nat.zero_le _
      torn := hcount _ _
      ackClamp := Nat.zero_le _
      eraseFail := Nat.zero_le _
      badBlock := hcount _ _ }

theorem withActive_bounded {j : Journal} (h : j.Bounded) : (withActive j).Bounded := by
  unfold withActive
  split
  · exact h
  · split
    next k hk => exact activate_bounded hk h
    next => exact { h with }

theorem scan_bounded {j : Journal} (retained : Option Nat) (h : j.Bounded) : (j.scan retained).Bounded := by
  have hactive := withActive_bounded (scanned_bounded retained h)
  rw [scan_eq]
  exact { hactive with holdList := (List.length_filter_le _ _).trans hactive.holdList }

theorem startMarkers_fits (s : State) : Fits s (startMarkers s) := .setJournal fun h => { h with }

theorem startJournal_fits (held : Bool) (s : State) : Fits s (startJournal held s) := by
  have hscan : Fits s { s with journal := s.journal.scan (if held then some s.journal.acked else none) } :=
    .setJournal (scan_bounded _)
  have hforward : ∀ u : State, Fits u { u with link := { u.link with forward := u.journal.acked } } := fun u =>
    .setLink fun h => { h with }
  have hnoticed : ∀ (n : Option Notice) (u : State), Fits u (notify? n u) := fun n u =>
    (notify?_work (m := .free) (P := fun _ => True) n u).fits
  have hfull : ∀ (n : Notice) (p : Prop) [Decidable p] (u : State), Fits u (if p then notify n u else u) := fun n p _ u =>
    .ite (fun _ => (notify_work (m := .free) (P := fun _ => True) n u).fits) fun _ => .refl u
  exact (hfull _ _ _).after ((hnoticed _ _).after ((hforward _).after hscan))

/-- Under tubes that hold their settings, the tubes take the fields they have. -/
theorem takeSite_tubes {b : BayNo} (h : s.TubesHold) (n : TubeNo) :
    TubeStep (s.bay b).tubes[n] ((s.bay b).takeSite s.site b).tubes[n] := by
  have hsame : ((s.bay b).takeSite s.site b).tubes[n] = (s.bay b).tubes[n] := by
    have hset : setting (s.bay b).tubes[n] = siteTube s.site b n := h.settings b n
    simp only [Bay.takeSite, Fin.getElem_fin, Vector.getElem_ofFn]
    show { (s.bay b).tubes[n] with
      kind := (siteTube s.site b n).1, capacity := (siteTube s.site b n).2.1,
      fullLevel := (siteTube s.site b n).2.2.1, lowLevel := (siteTube s.site b n).2.2.2 } = (s.bay b).tubes[n]
    rw [← hset]
    rfl
  rw [hsame]
  exact .refl _

theorem takeSite_fits (b : BayNo) (s : State) : Fits s (s.modBay b fun y => y.takeSite s.site b) :=
  ⟨takeSite_within s.site b, fun hs => tubesHold_of_bays hs
    (modBay_tubes (f := fun y => y.takeSite s.site b) (takeSite_tubes hs)) rfl⟩

theorem sample_fits (env : StartUp) (b : BayNo) (s : State) : Fits s (s.modBay b fun y => y.sample env b) :=
  BayKeeps.fits (f := fun y => y.sample env b) {}

theorem verify_fits (s : State) : Fits s { s with tariff := s.tariff.verify } := by
  refine ⟨fun hs => { hs with denyEdits := ?_ }, fun hs => ?_⟩
  · show (if s.tariff.deny.valid = true ∧ s.tariff.deny.good [] = false then 0 else s.tariff.denyEdits) ≤ _
    split
    · exact Nat.zero_le _
    · exact hs.denyEdits
  · have hsite : s.tariff.verify.site = s.tariff.site := 
      if_neg fun h => absurd h.2 (by rw [hs.site.2]; decide)
    exact tubesHold_of_steps hs (fun _ _ => .refl _) hsite rfl rfl

theorem takeSites_fits (env : StartUp) (s : State) :
    Fits s (forBays (fun b u => u.modBay b fun y => (y.takeSite s.site b).sample env b) s) := by
  have hturn : ∀ b u, Fits s u ∧ u.site = s.site →
      Fits s (u.modBay b fun y => (y.takeSite s.site b).sample env b)
      ∧ (u.modBay b fun y => (y.takeSite s.site b).sample env b).site = s.site := fun b u h => by
    obtain ⟨hu, hsite⟩ := h
    have htaken := takeSite_fits b u
    rw [hsite] at htaken
    have hsampled := (sample_fits env b _).after (htaken.after hu)
    rw [modBay_modBay] at hsampled
    exact ⟨hsampled, hsite⟩
  exact (forBays_invariant (fun u => Fits s u ∧ u.site = s.site) _ hturn ⟨.refl s, rfl⟩).1

theorem startStore_fits (env : StartUp) (held : Bool) (s : State) : Fits s (startStore env held s) := by
  have htables : Fits s { s with tariff := s.tariff.restart.verify } :=
    (verify_fits { s with tariff := s.tariff.restart }).after (restart_fits s)
  have hrate : ∀ u : State, Fits u (u.modLink fun l => { l with rate := siteRate u.site }) := fun u =>
    .setLink fun h => { h with }
  have hboxes : ∀ u : State, Fits u (if held then clearRequested u else forBays (fun b s => s.modBay b Bay.boxFromLine) u) :=
    fun u => .ite (fun _ => (clearRequested_work (m := .free) u).fits) fun _ => .forBays (fun _ _ =>
      BayKeeps.fits { box := fun h => { h with } }) u
  exact (hboxes _).after ((takeSites_fits env _).after ((hrate _).after htables))

theorem startStore_tariff (env : StartUp) (held : Bool) (s : State) :
    (startStore env held s).tariff = s.tariff.restart.verify := by
  have hsites : ∀ (site : List (List Byte)) (u : State),
      (forBays (fun b s => s.modBay b fun y => (y.takeSite site b).sample env b) u).tariff = u.tariff := fun site u =>
    forBays_keeps State.tariff _ (fun _ _ => rfl) u
  have hcleared : ∀ u : State, (clearRequested u).tariff = u.tariff := forBays_keeps State.tariff _ fun _ _ => rfl
  have hfound : ∀ u : State, (forBays (fun b s => s.modBay b Bay.boxFromLine) u).tariff = u.tariff :=
    forBays_keeps State.tariff _ fun _ _ => rfl
  unfold startStore
  dsimp only
  split
  · rw [hcleared, hsites]
    rfl
  · rw [hfound, hsites]
    rfl

theorem startBox_work {m : Mode} (held : Bool) (b : BayNo) (s : State) : Work m (· = b) s (startBox held b s) := by
  unfold startBox
  refine .iteSelf fun _ => ?_
  unfold reconcileBox
  dsimp only
  split
  · exact (notify_work _ _).after (closePeriod_work (P := (· = b)) rfl s)
  · exact insertBox_work (P := (· = b)) rfl s
  · exact .refl s

theorem startWrites_fits {env : StartUp} {held : Bool} {f : State → State} (hf : f ∈ startWrites env held) (s : State) :
    Fits s (f s) := by
  unfold startWrites at hf
  rcases List.mem_append.mp hf with hf | hf
  · simp only [List.mem_cons, List.not_mem_nil, or_false] at hf
    rcases hf with rfl | rfl | rfl | rfl
    · exact startRetained_fits held s
    · exact startMarkers_fits s
    · exact startJournal_fits held s
    · exact startStore_fits env held s
  · obtain ⟨b, -, rfl⟩ := List.mem_map.mp hf
    exact (startBox_work (m := .free) held b s).fits

theorem foldl_fits {fs : List (State → State)} (h : ∀ f ∈ fs, ∀ s, Fits s (f s)) (s : State) :
    Fits s (fs.foldl (fun s f => f s) s) := by
  induction fs generalizing s with
  | nil => exact .refl s
  | cons f fs ih =>
    exact (ih (fun g hg => h g (List.mem_cons_of_mem f hg)) (f s)).after (h f List.mem_cons_self s)

theorem afterWrites_fits {env : StartUp} {held : Bool} {fs : List (State → State)} (h : fs ⊆ startWrites env held)
    (s : State) : Fits s (afterWrites fs env s) :=
  (foldl_fits (fun _ hf => startWrites_fits (h hf)) _).after (losePower_fits env s)

theorem goDark_fits (s : State) : Fits s (goDark s) := by
  have hbays : Fits s (forBays (fun b s => s.modBay b Bay.dark) s) := .forBays (fun _ _ => (dark_keeps _).fits) s
  have hup : ∀ u : State, Fits u { u with up := false } := fun u => .of_scope rfl
  have hcard : ∀ u : State, Fits u { u with card := { u.card with lateReplies := 0, nextRef := 0 } } := fun u =>
    .setCard (List.Sublist.refl _) fun _ => Nat.zero_le _
  have hlink : ∀ u : State, Fits u { u with link := { Link.reset with noticeList := [], resetStage := .startUp } } :=
    fun u => .setLink fun _ => { lostLink_bounded with }
  have hbus : ∀ u : State, Fits u { u with bus := { Bus.reset with running := false } } := fun u =>
    .setBus (Nat.zero_le _) (Nat.zero_le _)
  exact (hbus _).after ((hlink _).after ((hcard _).after ((restart_fits _).after ((hup _).after hbays))))

theorem goDark_unpinned (s : State) : Unpinned (goDark s) :=
  ⟨rfl, rfl, forBays_each (R := fun _ _ y' => y'.ctx.bank = none) (fun _ s _ hc => State.bay_modBay_ne s hc _)
    (fun _ s => congrArg (fun y : Bay => y.ctx.bank) (State.bay_modBay_self s _ _)) s⟩

theorem startBays_fits (s : State) : Fits s (startBays s) := by
  have hcard : ∀ u : State, Fits u { u with card := u.card.restart u.site } := fun u => card_restart_fits u.site u
  have hbus : ∀ u : State, Fits u { u with bus := .reset } := fun u => .setBus (Nat.zero_le _) (Nat.zero_le _)
  exact (askBoxes_work (m := .free) _).fits.after ((hbus _).after ((hcard _).after (rebuildBays_fits s)))

/-- Start-up has unpinned both banks once it has checked the tables, and the boxes' reconciliation pins none. -/
theorem afterWrites_pins (env : StartUp) (held : Bool) (s : State) :
    (afterWrites (startWrites env held) env s).tariff.pinsA = 0 ∧ (afterWrites (startWrites env held) env s).tariff.pinsB = 0 := by
  have hboxes : ∀ f ∈ allBays.map (startBox held), ∀ u, (f u).tariff = u.tariff := fun f hf u => by
    obtain ⟨b, -, rfl⟩ := List.mem_map.mp hf
    exact (startBox_work held b u).calm_units.1
  unfold afterWrites startWrites
  rw [List.foldl_append, foldl_keeps State.tariff _ hboxes, List.foldl_cons, List.foldl_cons, List.foldl_cons,
    List.foldl_cons, List.foldl_nil, startStore_tariff]
  exact ⟨rfl, rfl⟩

theorem startBays_pins (hA : s.tariff.pinsA = 0) (hB : s.tariff.pinsB = 0) : (startBays s).PinsCounted := by
  have hunpinned := rebuildBays_unpinned hA hB
  have hset : ({ rebuildBays s with card := (rebuildBays s).card.restart (rebuildBays s).site, bus := .reset } : State).PinsCounted :=
    ⟨hunpinned.pinsCounted.pins, hunpinned.pinsCounted.resting⟩
  exact (askBoxes_work (m := .free) _).pinsCounted hset

theorem powerOn_sound (env : StartUp) (s : State) : Sound s (powerOn env s) := by
  have hup : ∀ u : State, Sound u { u.seal with up := true } := fun u => .of_scope rfl
  have hseal : ∀ u : State, Sound u u.seal := fun u => .of_scope rfl
  cases hc : env.cutAfter with
  | none =>
    obtain ⟨hA, hB⟩ := afterWrites_pins env (areaHeld env s) s
    rw [powerOn_whole s hc]
    refine (hup _).after ⟨(startBays_fits _).after (afterWrites_fits (List.Subset.refl _) s), fun _ => startBays_pins hA hB⟩
  | some n =>
    cases n with
    | zero =>
      rw [powerOn_cut_zero s hc]
      have hread : ∀ u : State, Fits u { u with check := env.areaCheck.getD s.check } := fun u => .of_scope rfl
      exact ⟨(goDark_fits _).after ((hread _).after (losePower_fits env s)), fun _ => (goDark_unpinned _).pinsCounted⟩
    | succ n =>
      rw [powerOn_cut s n.succ_pos hc]
      exact (hseal _).after ⟨(goDark_fits _).after (afterWrites_fits (List.take_subset _ _) s),
        fun _ => (goDark_unpinned _).pinsCounted⟩

end

end Sys2Proof.Proofs

/-! PROOFS. Every step keeps the bounded places and the tubes: the commands one by one. -/

namespace Sys2Proof.Proofs

open Sys2Proof Sys2Proof.Machine Sys2Proof.Laws

/-! ### A stream closed (R57, R58) -/

section
variable {s : State}

theorem toIdle_act (s : State) : Act s (s.modLoad Load.toIdle) :=
  .tariff (f := fun t => { t with load := t.load.toIdle }) (toIdle_step _)

/-- A stream of any table but SITE completes within the Tariff Unit. -/
theorem completeBanked_act (g : Target) (check : BitVec 32) (s : State) (hg : g.table ≠ .site) :
    Act s (completeStream g check s) := by
  refine Act.after ?_ (toIdle_act s)
  unfold completeStream
  dsimp only
  generalize s.modLoad Load.toIdle = u
  split
  next => exact .tariff ⟨fun k => by cases k <;> rfl, id, fun _ => Nat.zero_le _, rfl, fun h => h⟩
  next hsite => exact absurd hsite hg
  next k _ _ =>
    obtain ⟨hshelf, hload, hshadow⟩ := modBank_shelf u.tariff k fun x =>
      { x with rule := s.tariff.load.finish x.rule.entries check, mode := s.tariff.load.mode.getD .halfUp }
    exact .banks hshelf hload hshadow
  next =>
    obtain ⟨hshelf, hload, hshadow⟩ := modTarget_shelf u.tariff g fun x => s.tariff.load.finish x.entries check
    rw [if_neg hg] at hshadow
    exact .banks hshelf hload hshadow

theorem completeSite_act {g : Target} {check : BitVec 32} (hg : g.table = .site) (hstream : s.tariff.load.state = .stream)
    (htarget : s.tariff.load.target = some g) (hcrc : s.tariff.load.crc.map crc32End = some check)
    (hvalid : s.validate g = none) : Act s (completeStream g check s) := by
  obtain ⟨hlevels, hcounts⟩ := validate_site hg hvalid
  have heq : completeStream g check s
      = replaceSite (s.tariff.load.finish s.tariff.siteShadow.entries check) (s.modLoad Load.toIdle) := by
    unfold completeStream
    rw [hg]
    rfl
  have hidle := toIdle_act s
  rw [heq]
  refine ⟨⟨⟨fun hs => replaceSite_within _ _ (hidle.within hs), fun hs => ?_⟩,
    fun hs => replaceSite_pins _ _ (hidle.pins hs)⟩, (replaceSite_replies _ _).trans hidle.replies⟩
  refine replaceSite_tubes rfl ?_ hlevels hcounts nofun
  have hrun := hs.stream g hstream htarget hg
  rw [hrun, Option.map_some, Option.some_inj] at hcrc
  exact decide_eq_true hcrc

theorem closeStream_act (g : Target) (check : BitVec 32) (s : State) (hstream : s.tariff.load.state = .stream)
    (htarget : s.tariff.load.target = some g) : Act s (closeStream g check s).state := by
  unfold closeStream
  dsimp only
  split
  · exact loadError_act _ _ s
  · split
    · exact loadError_act _ _ s
    next hcrc =>
      split
      · exact loadError_act _ _ s
      next hvalid =>
        by_cases hg : g.table = .site
        · exact completeSite_act hg hstream htarget (not_not.mp hcrc) hvalid
        · exact completeBanked_act g check s hg

end

/-! ### Each command -/

/-- A command that answers a state a sound step away. -/
def KeepsBounds (c : Instr) (s : State) : Prop := ∃ t, exec c s = .next t ∧ Sound s t

section
variable {c : Instr} {s t : State}

theorem KeepsBounds.next (e : exec c s = .next t) (h : Sound s t) : KeepsBounds c s := ⟨t, e, h⟩

theorem KeepsBounds.done (e : exec c s = Machine.done s t) (h : Sound s t) : KeepsBounds c s := ⟨_, e, h.reseal⟩

theorem KeepsBounds.work {P : BayNo → Prop} (e : exec c s = Machine.done s t) (h : Work .free P s t) : KeepsBounds c s :=
  .done e h.act.toSound

theorem KeepsBounds.frame {isKind : Frame → Bool} {act : Frame → State → Answer}
    (e : exec c s = .next (answerFrame isKind act s)) (h : ∀ f u, Act u (act f u).state) : KeepsBounds c s :=
  .next e (answerFrame_sound h s)

theorem KeepsBounds.frameDone {isKind : Frame → Bool} {act : Frame → State → Answer}
    (e : exec c s = Machine.done s (answerFrame isKind act s)) (h : ∀ f u, Act u (act f u).state) : KeepsBounds c s :=
  .done e (answerFrame_sound h s)

theorem KeepsBounds.section {α : Type} {f : ReplySection → Option α} {act : BayNo → α → State → State}
    (e : exec c s = Machine.done s (takeSection f act s)) (h : ∀ b a u, Work .free (· = b) u (act b a u)) : KeepsBounds c s :=
  .done e (takeSection_act (fun b a u => (h b a u).act) s).toSound

end

theorem frameSent_sound (s : State) : Sound s (match s.link.sending with
    | some _ => (forwardNext (afterReply s.link.afterSent (s.modLink Link.sent))).modLink Link.kick
    | none => s) := by
  split
  · have hsent : Sound s (s.modLink Link.sent) := .link sent_bounded
    have hkick : ∀ u : State, Sound u (u.modLink Link.kick) := fun u => .link (kick_step u.link).toLinkKeeps.bounded
    have hforward : ∀ u : State, Sound u (forwardNext u) := fun u =>
      (forwardNext_work (m := .free) (P := fun _ => True) u).act.toSound
    exact (hkick _).after ((hforward _).after ((afterReply_sound _ _).after hsent))
  · exact .refl s

theorem evaluated_act (s : State) : Act s (match s.tariff.evaluating with
    | some r => (priceTaken r (s.modTariff fun t => { t with evaluating := none })).modTariff Tariff.evalStart
    | none => s) := by
  split
  · have hidle : Act s (s.modTariff fun t => { t with evaluating := none }) := .banks rfl rfl rfl
    exact (Act.tariff (evalStart_step _)).after ((priceTaken_act _ _).after hidle)
  · exact .refl s

theorem supplyChanged_act (asserted : Bool) (s : State) :
    Act s (if s.time.supply.accepted = asserted then s
      else
        let s := { s with time := { s.time with supply := .start asserted } }
        let s := settleErase (forBays recomputeMask s)
        if asserted then s else forBays unhold s) := by
  refine .ite (fun _ => .refl s) fun _ => ?_
  have htime : Act s { s with time := { s.time with supply := .start asserted } } := .of_scope rfl
  refine Act.after ?_ htime
  dsimp only
  generalize ({ s with time := { s.time with supply := .start asserted } } : State) = u
  have hmasks : Work .free (fun _ => True) u (settleErase (forBays recomputeMask u)) :=
    (settleErase_work _).after (.forBays (fun b v => recomputeMask_work trivial v) u)
  exact (Work.after (.ite (fun _ => .refl _) fun _ => unholdAll_work _) hmasks).act

theorem recordWritten_sound (w : Writing) (s : State) : Sound s (recordWritten w s) := by
  have hwritten : Work .free (fun _ => True) s (shiftQueue (s.modJournal (·.program w))) :=
    (shiftQueue_work _).after (.journal (program_step _ w))
  unfold recordWritten
  dsimp only
  generalize shiftQueue (s.modJournal (·.program w)) = u at hwritten
  have hcompleted : Work .free (fun _ => True) u (match s.journal.queue.head? with
      | some r => complete r w.sequence u
      | none => u) := by
    split
    · exact complete_work _ _ u
    · exact .refl u
  have hreleased : ∀ v, Work .free (fun _ => True) v (forBays releaseReset (forwardNext (journalKick v))) := fun v =>
    Work.after (.forBays (fun b x => releaseReset_work trivial free_loud x) _)
      ((forwardNext_work _).after (journalKick_work v))
  exact (linkResetContinue_sound _).after ((hreleased _).after (hcompleted.after hwritten)).act.toSound

theorem exec_keepsBounds (c : Instr) (s : State) : KeepsBounds c s := by
  cases c
  case powerOnReset env => exact .next rfl (powerOn_sound env s)
  case frameReceived bytes => exact .next rfl (.link (receiveAll_bounded s.now bytes))
  case characterReceived x => exact .next rfl (.link (receive_bounded s.now x))
  case characterWithoutStopBit =>
    refine .next rfl (.link fun h => ?_)
    split
    · exact { truncate_bounded h with }
    · exact h
  case idleGapExpiry => exact .next rfl (Act.iteSelf fun _ => .link (fun h => { h with }) rfl).toSound
  case frameGapExpiry => exact .next rfl (.ite (fun _ => .link fun h => { truncate_bounded h with }) fun _ => .refl s)
  case badKind => exact .frame rfl fun _ u => .refl u
  case heartbeat =>
    refine .done rfl (takeFrame_act (fun f u => ?_) s).toSound
    split
    · exact .ite (fun _ => heartbeat_act _ u) fun _ => formatError_act u
    · exact formatError_act u
  case ack =>
    exact .done rfl (takeFrame_act (fun f u =>
      .ite (fun _ => .journal (ack_bounded _ _)) fun _ => formatError_act u) s).toSound
  case authReply =>
    exact .done rfl (takeFrame_act (fun f u =>
      .ite (fun _ => authReply_act _ _ _ u) fun _ => formatError_act u) s).toSound
  case tableOpen =>
    refine .frame rfl (ofLength_act (fun body u => ?_) 7)
    split
    · exact .refl u
    next g _ => exact refuseOr_act (fun v => Act.tariff (f := fun t => t.abandon.openStream g _ _ _)
        ((abandon_step _).trans (openStream_step _ _ _ _ _))) _ u
  case tableData =>
    refine .frame rfl fun f u => ?_
    split
    · exact .refl u
    · split
      next htarget => exact streamData_act _ _ _ htarget
      · exact .refl u
      · exact .refl u
  case tableClose =>
    refine .frameDone rfl (ofLength_act (fun body u => ?_) 4)
    split
    next hstream htarget => exact closeStream_act _ _ u hstream htarget
    · exact .refl u
    · exact .refl u
  case loadClear =>
    refine .frame rfl (ofLength_act (fun body u => ?_) 0)
    dsimp only [accept]
    split
    · exact .tariff (abandon_step _)
    · exact toIdle_act u
    · exact .refl u
  case bankSwitch =>
    refine .frame rfl (ofLength_act (fun body u => ?_) 18)
    split
    · exact bankSwitch_act _ _ _ u
    · exact bankSwitch_act _ _ _ u
    · exact .refl u
  case scheduledSwitchDue => exact .next rfl (switchDue_act s).toSound
  case denyAdd =>
    refine .frame rfl (ofLength_act (fun body w => refuseOr_act (fun u => ?_) _ w) 4)
    dsimp only
    split
    · exact .refl u
    · split
      · exact .refl u
      · exact editDeny_act _ u
  case denyRemove =>
    refine .frame rfl (ofLength_act (fun body w => refuseOr_act (fun u => ?_) _ w) 4)
    dsimp only
    split
    · exact editDeny_act _ u
    · exact .refl u
  case setTime =>
    refine .frameDone rfl (ofLength_act (fun body u => ?_) 5)
    split
    · exact setTime_act _ u
    · exact .refl u
  case clockSecond => exact .next rfl (.of_scope rfl)
  case queryBay => exact .frame rfl (bayQuery_act _)
  case queryTubes => exact .frame rfl (bayQuery_act _)
  case queryBox => exact .frame rfl (bayQuery_act _)
  case queryLoad => exact .frame rfl (unitQuery_act _)
  case queryJournal => exact .frame rfl (unitQuery_act _)
  case queryTear => exact .frame rfl (unitQuery_act _)
  case queryLink => exact .frame rfl (unitQuery_act _)
  case queryIdent => exact .frame rfl (unitQuery_act _)
  case bayControlInService =>
    exact .frameDone rfl (bayControl_act fun b u => (inService_work (P := (· = b)) rfl free_loud u).act)
  case bayControlOutOfService =>
    exact .frameDone rfl (bayControl_act fun b u => (joinCause_work (P := (· = b)) rfl .server u).act)
  case bayControlReset => exact .frameDone rfl (bayControl_act fun b u => (bayReset_work (P := (· = b)) rfl u).act)
  case coinOff => exact .frameDone rfl (bayControl_act fun b u => (coinOff_work (m := .free) (P := (· = b)) rfl u).act)
  case coinOn => exact .frameDone rfl (bayControl_act fun b u => (coinOn_work (m := .free) (P := (· = b)) rfl u).act)
  case tubeSet =>
    refine .frameDone rfl (ofLength_act (fun body u => ?_) 4)
    split
    · exact .refl u
    next b n st _ _ _ =>
      split
      · exact (tubeSet_work (P := (· = b)) rfl free_loud _ _ _ u).act
      · exact .refl u
    · exact .refl u
  case hold =>
    refine .frame rfl fun f u => ?_
    split
    · exact .refl u
    · split
      · dsimp only
        split
        next hroom => exact Act.journal (f := fun j => { j with holdList := _ }) fun h => { h with holdList := hroom }
        · exact .refl u
      · exact .refl u
  case releaseHold =>
    refine .frame rfl fun f u => ?_
    split
    · exact .refl u
    · split
      · exact Act.journal (f := fun j => { j with holdList := j.holdList.filter _ }) fun h =>
          { h with holdList := (List.length_filter_le _ _).trans h.holdList }
      · exact .refl u
  case noticeMask => exact .frame rfl (ofLength_act (fun body u =>
      Act.link (f := fun l => { l with noticeMask := BitVec.ofNat 13 (beNat body) }) (fun h => { h with }) rfl) 2)
  case linkReset =>
    exact .frame rfl (ofLength_act (fun body u =>
      Act.link (f := fun l => { l with rxBuffer := [], resetStage := .replyPlaced })
        (fun h => { h with rxBuffer := Nat.zero_le _ }) rfl) 0)
  case frameSent => exact .done rfl (frameSent_sound s)
  case supervisionExpiry =>
    refine .done rfl (Act.toSound ?_)
    split
    · exact .iteSelf fun _ => linkOffline_act s
    · exact .refl s
  case pollStart =>
    refine .next rfl ?_
    split
    · exact (rotationPoll_act _ s).toSound
    · exact .refl s
  case recoveryPollDue =>
    refine .next rfl ?_
    split
    · exact (recoveryPoll_act _ s).toSound
    · exact .refl s
  case replyReceived =>
    refine .done rfl (Act.toSound ?_)
    split
    · split
      · exact .ite (fun _ => goodReply_act _ _ s) fun _ => badReply_act _ s
      · exact badReply_act _ s
    · exact .refl s
  case replyWindowExpiry =>
    refine .done rfl (Act.toSound ?_)
    split
    · exact .iteSelf fun _ => (miss_act _ _).after (endBusExchange_act s)
    · exact .refl s
  case replyGapExpiry =>
    refine .done rfl (Act.toSound ?_)
    split
    · exact badReply_act _ s
    · exact .refl s
  case lineHeld =>
    refine .next rfl (Act.whenUp ?_).toSound
    split
    · exact .bus id fun _ => satInc_le _
    · exact .refl s
  case breakEnd =>
    refine .next rfl (Act.toSound ?_)
    split
    · exact .iteSelf fun _ => .bus id id
    · exact .refl s
  case recoveryWaitEnd =>
    refine .next rfl (Act.toSound ?_)
    split
    · exact .iteSelf fun _ => .bus id id
    · exact .refl s
  case select => exact .done rfl (takeSection_act (fun b q u => select_act q b u) s).toSound
  case confirm => exact .section rfl fun b p u => confirm_work (P := (· = b)) rfl _ _ u
  case cancel => exact .section rfl fun b _ u => cancel_work (P := (· = b)) rfl u
  case reprint =>
    refine .section rfl fun b _ u => Work.after ?_ (clearOverlay_work (P := (· = b)) rfl u)
    exact .iteSelf fun _ => reprint_work (P := (· = b)) rfl _
  case cardCommandTaken =>
    exact .next rfl (takeSection_act (fun b k u => (cardTaken_work (P := (· = b)) rfl k u).act) s).toSound
  case cardAnswerCard => exact .section rfl fun b p u => answerSlot_work (P := (· = b)) rfl _ (fun c v => cardRead_work (P := (· = b)) rfl _ c v) u
  case cardAnswerNoCard => exact .section rfl fun b p u => answerSlot_work (P := (· = b)) rfl _ (fun c v => commandExpired_work (P := (· = b)) rfl c v) u
  case writeAnswerOk => exact .section rfl fun b p u => answerSlot_work (P := (· = b)) rfl _ (fun c v => writeOk_work (P := (· = b)) rfl _ c v) u
  case writeAnswerRefused => exact .section rfl fun b p u => answerSlot_work (P := (· = b)) rfl _ (fun c v => writeNo_work (P := (· = b)) rfl _ c v) u
  case cardCommandTimeout bay =>
    refine .work (P := (· = bay)) rfl ?_
    split
    · split
      · exact .iteSelf fun _ => (commandExpired_work (P := (· = bay)) rfl _ _).after (emptySlot_work (P := (· = bay)) rfl free_loud s)
      · exact .refl s
    · exact .refl s
  case presentationLimitExpiry bay =>
    refine .work (P := (· = bay)) rfl ?_
    split
    · exact .iteSelf fun _ => cancelWith_work (P := (· = bay)) rfl _ s
    · exact .refl s
  case authWaitExpiry bay =>
    refine .work (P := (· = bay)) rfl ?_
    split
    · exact .iteSelf fun _ => authFailed_work (P := (· = bay)) rfl _ s
    · exact .refl s
  case tearExpiry =>
    refine .done rfl (Act.whenUp ?_).toSound
    split
    · exact (closeTear_work (P := fun _ => True) free_loud _ _ _ _ s).act
    · exact .refl s
  case contextTimeout bay =>
    refine .work (P := (· = bay)) rfl ?_
    split
    · exact .iteSelf fun _ => timeout_work (P := (· = bay)) rfl s
    · exact .refl s
  case evaluationEnd => exact .done rfl (evaluated_act s).toSound
  case coinLineChange bay high =>
    exact .next rfl (Act.ite (fun _ => .refl s) fun _ => (modCoin_work (m := .free) (P := (· = bay)) rfl s _).act).toSound
  case filteredFallingEdge bay =>
    exact .next rfl (Act.whenUp (.iteSelf fun _ => (modCoin_work (m := .free) (P := (· = bay)) rfl s _).act)).toSound
  case filteredRisingEdge bay =>
    exact .next rfl (Act.whenUp (.iteSelf fun _ => (modCoin_work (m := .free) (P := (· = bay)) rfl s _).act)).toSound
  case trainEnd bay =>
    exact .work (P := (· = bay)) rfl (.iteSelf fun _ => (takeCoin_work (P := (· = bay)) rfl _ _ _).after (modCoin_work (P := (· = bay)) rfl s _))
  case lineStuck bay =>
    refine .done rfl (Act.whenUp ?_).toSound
    split
    · exact .iteSelf fun _ => (declareFault_work (P := (· = bay)) rfl free_loud s).act
    · exact .refl s
  case faultEnd bay =>
    refine .done rfl (Act.whenUp ?_).toSound
    split
    · exact .iteSelf fun _ => (endFault_work (m := .free) (P := (· = bay)) rfl s).act
    · exact .refl s
  case escrowPulseEnd bay =>
    refine .work (P := (· = bay)) rfl ?_
    split
    · exact .iteSelf fun _ => .ite (fun _ => startPulse_work (P := (· = bay)) rfl s) fun _ => releaseEscrow_work (P := (· = bay)) rfl s
    · exact .refl s
  case payoutSense bay tube =>
    have hextra : Act s (extraCoin tube bay s) := (extraCoin_work (m := .free) (P := (· = bay)) rfl tube s).act
    refine .done rfl (Act.whenUp ?_).toSound
    split
    · exact .ite (fun _ => (answerDrive_work (P := (· = bay)) rfl free_loud tube s).act) fun _ => hextra
    · exact hextra
  case driveTimeout bay =>
    refine .work (P := (· = bay)) rfl ?_
    split
    · exact .iteSelf fun _ => jam_work (P := (· = bay)) rfl free_loud _ s
    · exact .refl s
  case serviceDoorChange bay isOpen =>
    refine .done rfl (Act.whenUp (.ite (fun _ => .refl s) fun _ => ?_)).toSound
    exact ((notify_work _ _).after ((setCause_work (P := (· = bay)) rfl free_loud (by decide) (by decide) _ _).after
      (modLines_work (P := (· = bay)) rfl s _))).act
  case boxDoorChange bay isOpen =>
    refine .next rfl (Act.whenUp (.ite (fun _ => .refl s) fun _ => ?_)).toSound
    exact ((notify_work (m := .free) _ _).after (modLines_work (P := (· = bay)) rfl s _)).act
  case boxRemoved bay =>
    refine .done rfl (Act.whenUp (.iteSelf fun _ => ?_)).toSound
    exact ((boxRemoved_work (P := (· = bay)) rfl _).after (modLines_work (P := (· = bay)) rfl s _)).act
  case boxInserted bay =>
    refine .done rfl (Act.whenUp (.ite (fun _ => .refl s) fun _ => ?_)).toSound
    exact ((boxInserted_work (m := .free) (P := (· = bay)) rfl _).after (modLines_work (P := (· = bay)) rfl s _)).act
  case supplyWarningChange asserted => exact .done rfl (Act.whenUp (supplyChanged_act asserted s)).toSound
  case auditSwitchChange asserted =>
    have htime : Act s { s with time := { s.time with audit := .start asserted } } := .of_scope rfl
    exact .next rfl htime.whenUp.toSound
  case recordWriteEnd =>
    refine .done rfl ?_
    split
    · exact recordWritten_sound _ s
    · exact .refl s
  case eraseBegin =>
    refine .next rfl (Act.whenUp ?_).toSound
    split
    · exact .journal (beginErase_bounded _ _)
    · exact .refl s
  case eraseEnd =>
    refine .next rfl (Act.toSound ?_)
    split
    · exact .iteSelf fun _ => .ite (fun _ => eraseSucceeded_act _ s) fun _ => eraseFailed_act _ s
    · exact .refl s
  case printDelivered => exact .section rfl fun b p u => delivered_work (P := (· = b)) rfl free_loud _ _ u
  case printerStatus => exact .section rfl fun b p u => printerStatus_work (P := (· = b)) rfl free_loud _ _ _ u
  case noProgressLimit bay =>
    exact .work (P := (· = bay)) rfl (.iteSelf fun _ => receiptTaken?_work (P := (· = bay)) rfl free_loud (cutJob_work (P := (· = bay)) rfl s))

/-- A step is a sound step. -/
theorem step_sound {s t : State} (e : step s = .next t) : Sound s t := by
  unfold step at e
  cases hp : s.pending with
  | nil =>
    rw [hp] at e
    cases e
    exact .of_scope rfl
  | cons c rest =>
    rw [hp] at e
    obtain ⟨u, eu, hu⟩ := exec_keepsBounds c { s with pending := rest }
    cases eu.symm.trans e
    exact hu.after (.of_scope rfl)

/-- Settles O6: each step is a sound step, made of works and of changes within the bounds. -/
theorem everyStepKeepsBounds : Obligations.EveryStepKeepsBounds := by
  unfold Obligations.EveryStepKeepsBounds
  intro s t hs e
  rw [bounded_iff] at hs ⊢
  exact ⟨(step_sound e).within hs.1, (step_sound e).pins hs.2⟩

/-- Settles O7: works leave the tubes' settings and the live site table, and a SITE completion gives each tube a setting
that validation has found to fit its coins. -/
theorem everyStepKeepsTubes : Obligations.EveryStepKeepsTubes := by
  unfold Obligations.EveryStepKeepsTubes
  exact fun s t hs e => (step_sound e).tubes hs

end Sys2Proof.Proofs

/-! PROOFS. Why the message queue and the pricing queue find their places (R46, R184): the card work of a bay. -/

namespace Sys2Proof.Proofs

open Sys2Proof Sys2Proof.Machine Sys2Proof.Laws

/-! ### Steps that keep every desk -/

/-- A step that keeps every bay's desk and the pricing requests, and the places sufficient. -/
structure DeskKept (s t : State) : Prop where
  places   : s.PlacesSuffice → t.PlacesSuffice
  desks    : ∀ c, desk (t.bay c) = desk (s.bay c)
  requests : t.tariff.requests = s.tariff.requests

section
variable {s t u : State} {b : BayNo}

theorem DeskKept.refl (s : State) : DeskKept s s := ⟨id, fun _ => rfl, rfl⟩

/-- Steps one behind the other, the later one first. -/
theorem DeskKept.after (h' : DeskKept t u) (h : DeskKept s t) : DeskKept s u :=
  ⟨fun hs => h'.places (h.places hs), fun c => (h'.desks c).trans (h.desks c), h'.requests.trans h.requests⟩

theorem DeskKept.ite {p : Prop} [Decidable p] (ht : p → DeskKept s t) (hu : ¬p → DeskKept s u) :
    DeskKept s (if p then t else u) := by
  split
  · next h => exact ht h
  · next h => exact hu h

theorem DeskKept.iteSelf {p : Prop} [Decidable p] (ht : p → DeskKept s t) : DeskKept s (if p then t else s) :=
  .ite ht fun _ => .refl s

theorem Work.deskKept {P : BayNo → Prop} (h : Work .calm P s t) : DeskKept s t where
  places := fun hs => (h.calm_places hs).1
  desks := by
    generalize hm : Mode.calm = m at h
    induction h with
    | refl => exact fun _ => rfl
    | trans _ _ h₁ h₂ => exact fun c => (h₂ c).trans (h₁ c)
    | bay _ _ hd =>
      subst hm
      intro c
      rw [State.bay_modBay]
      split
      next hcb => subst hcb; exact hd
      next => rfl
    | tears hf => exact absurd hm.symm hf
    | newTear hf => exact absurd hm.symm hf
    | close hf => exact absurd hm.symm hf
    | _ => exact fun _ => rfl
  requests := h.requests_eq nofun

/-- A step outside the bays, the port and the pricing queue. -/
theorem DeskKept.of_places (hbays : t.bays = s.bays) (hlink : t.link = s.link)
    (hrequests : t.tariff.requests = s.tariff.requests) : DeskKept s t :=
  ⟨fun hs => places_congr hs hbays hlink hrequests, fun c => by rw [State.bay, hbays, State.bay], hrequests⟩

theorem DeskKept.modCard (f : CardUnit → CardUnit) : DeskKept s (s.modCard f) := .of_places rfl rfl rfl

theorem DeskKept.modBay {f : Bay → Bay} (h : desk (f (s.bay b)) = desk (s.bay b)) : DeskKept s (s.modBay b f) where
  places := fun hs => by
    have hstate := congrArg (·.2.2.1) h
    have hwait := congrArg (·.2.2.2.1) h
    exact places_modBay hs (cardWorkStands_of_desk h (hs.cardWork b)) (.inr (congrArg (·.1) h))
      (.inr ⟨hstate, by simpa [desk] using hwait⟩)
  desks := fun c => by
    rw [State.bay_modBay]
    split
    next hcb => subst hcb; exact h
    next => rfl
  requests := rfl

theorem DeskKept.port {f : Link → Link} (h : LinkStep s.link (f s.link)) : DeskKept s (s.modLink f) :=
  ⟨fun hs => places_modLink hs h.auths h.notices, fun _ => rfl, rfl⟩

theorem closeTear_deskKept (t : Tear) (resolution : Resolution) (resolver : Option BayNo) (reason : TearReason) (s : State) :
    DeskKept s (closeTear t resolution resolver reason s) := by
  have happend : ∀ r u, DeskKept u (append r u) := fun r u => (append_work (P := fun _ => True) r u).deskKept
  exact (happend _ _).after (.modCard _)

theorem formTear_deskKept (b : BayNo) (s : State) : DeskKept s (formTear b s) := by
  have hfreed : DeskKept s (s.modBay b fun y => { y with reserved := false }) := .modBay rfl
  have hnotify : ∀ n u, DeskKept u (notify n u) := fun n u => (notify_work (P := fun _ => True) n u).deskKept
  unfold formTear
  split
  · exact .ite (fun _ => .modCard _) fun _ => .ite (fun _ => hfreed) fun _ => (hnotify _ _).after ((DeskKept.modCard _).after hfreed)
  · exact .refl s

/-! ### Bays that are ready to read -/

/-- Bay b may begin to read: no authorisation wait, no write of an exchange in its card slot, and no pricing request. -/
structure Ready (b : BayNo) (s : State) : Prop where
  wait    : (s.bay b).authWait = none
  slot    : ∀ c, (s.bay b).term.cardSlot = some c → c.owner = .exchange → c.command = .read
  request : NoRequest b s

/-- Bay b reads in a card state. -/
structure Reading (b : BayNo) (s : State) : Prop extends Ready b s where
  standing : (s.ctx b).state ∈ [.cardRead, .cardWrite, .tearWait] ∧ (s.ctx b).wait ≠ .places

theorem Quiet.ready (h : Quiet b s) : Ready b s := ⟨h.wait, h.slot, h.request⟩

theorem noRequest_of_standing (hs : s.PlacesSuffice)
    (h : (s.ctx b).state ∈ [CtxState.cardRead, .cardWrite, .tearWait]) : NoRequest b s :=
  noRequest_of_state hs fun hp => by rw [hp] at h; simp at h

/-- An exchange that neither authorises nor writes reads. -/
theorem reading_of_phase (hs : s.PlacesSuffice) (hidle : (s.exch b).phase ≠ .idle) (hauth : (s.exch b).phase ≠ .authorising)
    (hwrite : (s.exch b).phase ≠ .writing) : Reading b s := by
  have hcard := hs.cardWork b
  have hstanding := hcard.exchange hidle
  refine ⟨⟨?_, fun c hc ho => ?_, noRequest_of_standing hs hstanding.1⟩, hstanding⟩
  · cases hw : (s.bay b).authWait with
    | none => rfl
    | some w => exact absurd (hcard.wait (by rw [hw]; rfl)) hauth
  · by_contra hcmd
    exact hwrite (hcard.write c hc ho hcmd)

theorem DeskKept.reading (h : DeskKept s t) (hr : Reading b s) : Reading b t := by
  have hdesk := h.desks b
  simp only [desk, Prod.mk.injEq] at hdesk
  obtain ⟨hauth, -, hstate, hwait, hslot⟩ := hdesk
  have hplaces : (t.bay b).ctx.wait = .places ↔ (s.bay b).ctx.wait = .places := by simpa using hwait
  refine ⟨⟨hauth.trans hr.wait, hslot ▸ hr.slot, fun r hrt => hr.request r (h.requests ▸ hrt)⟩, ?_, ?_⟩
  · rw [State.ctx, hstate]
    exact hr.standing.1
  · rw [State.ctx, Ne, hplaces]
    exact hr.standing.2

theorem DeskKept.noRequest (h : DeskKept s t) (hr : NoRequest b s) : NoRequest b t := fun r hrt => hr r (h.requests ▸ hrt)

theorem DeskKept.quiet (h : DeskKept s t) (hq : Quiet b s) : Quiet b t := by
  have hdesk := h.desks b
  simp only [desk, Prod.mk.injEq] at hdesk
  obtain ⟨hauth, hphase, -, -, hslot⟩ := hdesk
  exact ⟨hauth.trans hq.wait, hphase.trans hq.phase, hslot ▸ hq.slot, h.noRequest hq.request⟩

/-- A reading bay changes its exchange, and no write of an exchange enters its slot. -/
theorem reading_modBay {f : Bay → Bay} (hs : s.PlacesSuffice) (hr : Reading b s) (hctx : (f (s.bay b)).ctx = (s.bay b).ctx)
    (hwait : (f (s.bay b)).authWait = (s.bay b).authWait)
    (hslot : ∀ c, (f (s.bay b)).term.cardSlot = some c → c.owner = .exchange → c.command = .read) :
    (s.modBay b f).PlacesSuffice ∧ Reading b (s.modBay b f) := by
  have hnone : (f (s.bay b)).authWait = none := hwait.trans hr.wait
  refine ⟨places_modBay hs ⟨fun h => ?_, fun _ => ?_, fun c hc ho hcmd => absurd (hslot c hc ho) hcmd⟩ (.inr hwait)
    (.inl hr.request), ⟨⟨?_, ?_, hr.request⟩, ?_⟩⟩
  · rw [hnone] at h; cases h
  · rw [hctx]; exact hr.standing
  · rwa [State.bay_modBay_self]
  · rwa [State.bay_modBay_self]
  · rw [State.ctx, State.bay_modBay_self, hctx]; exact hr.standing

/-- A reading bay reads again, or reads on. -/
theorem presentRead_reading (hs : s.PlacesSuffice) (hr : Reading b s) :
    (presentRead b s).PlacesSuffice ∧ Reading b (presentRead b s) := by
  unfold presentRead
  split
  · unfold handCommand State.modTerm
    refine reading_modBay hs hr rfl rfl fun c hc _ => ?_
    cases hc
    rfl
  · exact ⟨hs, hr⟩

theorem presentRead_places (hs : s.PlacesSuffice) : (presentRead b s).PlacesSuffice := by
  by_cases hp : (s.exch b).phase = .presenting
  · exact (presentRead_reading hs (reading_of_phase hs (by rw [hp]; nofun) (by rw [hp]; nofun) (by rw [hp]; nofun))).1
  · unfold presentRead
    split
    next h _ => exact absurd h hp
    next => exact hs

/-- A reading bay's exchange changes. -/
theorem modExch_reading (hs : s.PlacesSuffice) (hr : Reading b s) (f : Exchange → Exchange) :
    (s.modExch b f).PlacesSuffice ∧ Reading b (s.modExch b f) := reading_modBay hs hr rfl rfl hr.slot

theorem startExchange_places (p : Purpose) (req : Option WriteRequest) (hs : s.PlacesSuffice) (hr : Reading b s) :
    (startExchange p req b s).PlacesSuffice :=
  presentRead_places (modExch_reading hs hr _).1

theorem presentAgain_places (hs : s.PlacesSuffice) (hr : Reading b s) : (presentAgain b s).PlacesSuffice :=
  presentRead_places (reading_modBay hs hr rfl rfl hr.slot).1

theorem afterEntry_deskKept (was st : CtxState) (b : BayNo) (s : State) : DeskKept s (afterEntry was st b s) :=
  (afterEntry_work (P := (· = b)) rfl was st s).deskKept

/-- A ready bay that enters a card state reads there. -/
theorem enter_reading {st : CtxState} (hst : st ∈ [CtxState.cardRead, .cardWrite, .tearWait]) (hs : s.PlacesSuffice)
    (hr : Ready b s) : (enter st b s).PlacesSuffice ∧ Reading b (enter st b s) := by
  have hentered : (s.modCtx b (entered st s.now)).PlacesSuffice ∧ Reading b (s.modCtx b (entered st s.now)) := by
    unfold State.modCtx
    refine ⟨places_modBay hs ⟨fun h => ?_, fun _ => ⟨hst, nofun⟩, fun c hc ho hcmd => absurd (hr.slot c hc ho) hcmd⟩
      (.inr rfl) (.inl hr.request), ⟨⟨?_, ?_, hr.request⟩, ?_⟩⟩
    · rw [hr.wait] at h; cases h
    · rw [State.bay_modBay_self]; exact hr.wait
    · rw [State.bay_modBay_self]; exact hr.slot
    · rw [State.ctx, State.bay_modBay_self]; exact ⟨hst, nofun⟩
  rw [enter_eq]
  have hafter := afterEntry_deskKept (s.ctx b).state st b (s.modCtx b (entered st s.now))
  exact ⟨hafter.places hentered.1, hafter.reading hentered.2⟩

theorem enterCardRead_places (hs : s.PlacesSuffice) (hr : Ready b s) : (enterCardRead b s).PlacesSuffice := by
  obtain ⟨hs', hr'⟩ := enter_reading (st := .cardRead) (by decide) hs hr
  exact startExchange_places _ _ hs' hr'

theorem enterCardWrite_places (hs : s.PlacesSuffice) (hr : Ready b s) : (enterCardWrite b s).PlacesSuffice := by
  obtain ⟨hs', hr'⟩ := enter_reading (st := .cardWrite) (by decide) hs hr
  exact startExchange_places _ _ hs' hr'

theorem enterTearWait_places (hs : s.PlacesSuffice) (hr : Ready b s) : (enterTearWait b s).PlacesSuffice := by
  obtain ⟨hs', hr'⟩ := enter_reading (st := .tearWait) (by decide) hs hr
  exact startExchange_places _ _ hs' hr'

/-! ### The end of an exchange, and what follows it -/

theorem leave_owner {c d : CardSlot} (h : c.leave = some d) : d.owner ≠ .exchange := by
  obtain ⟨command, mark, firstSent, taken, owner⟩ := c
  cases owner with
  | exchange =>
    cases command with
    | read =>
      cases firstSent with
      | none => cases h
      | some m => cases h; nofun
    | write => cases h
  | late => cases h; nofun
  | reapplication => cases h; nofun

theorem endAuth_bay_self (b : BayNo) (s : State) : (endAuth b s).bay b = { s.bay b with authWait := none } := by
  unfold endAuth
  split
  · exact State.bay_modBay_self s b fun y => { y with authWait := none }
  next hnone => rw [← hnone]

theorem endAuth_tariff (b : BayNo) (s : State) : (endAuth b s).tariff = s.tariff := by
  unfold endAuth
  split <;> rfl

/-- What the end of its exchange leaves of a bay. -/
def ended (y : Bay) : Bay :=
  { y with
    card := .reset
    reapply := y.reapply.bind Reapplication.leave
    authWait := none
    term := { y.term with cardSlot := y.term.cardSlot.bind CardSlot.leave } }

theorem endExchange_bay_self (b : BayNo) (s : State) : (endExchange b s).bay b = ended (s.bay b) := by
  rw [endExchange, endAuth_bay_self, State.bay_modBay_self]
  rfl

theorem endExchange_requests (b : BayNo) (s : State) : (endExchange b s).tariff.requests = s.tariff.requests := by
  rw [endExchange, endAuth_tariff]
  rfl

/-- At the end of its exchange a bay without requests is quiet. -/
theorem endExchange_quiet (hs : s.PlacesSuffice) (hr : NoRequest b s) :
    (endExchange b s).PlacesSuffice ∧ Quiet b (endExchange b s) := by
  have hslot : ∀ c, (s.bay b).term.cardSlot.bind CardSlot.leave = some c → c.owner ≠ .exchange := fun c hc => by
    obtain ⟨d, -, hleave⟩ := Option.bind_eq_some_iff.mp hc
    exact leave_owner hleave
  refine ⟨endAuth_modBay_places hs rfl (cardWorkStands_of_idle rfl rfl fun c hc ho => absurd ho (hslot c hc)) (.inl hr), ?_⟩
  refine ⟨?_, ?_, fun c hc ho => ?_, fun r hrt => hr r (endExchange_requests b s ▸ hrt)⟩
  · rw [endExchange_bay_self]; rfl
  · rw [endExchange_bay_self]; rfl
  · rw [endExchange_bay_self] at hc
    exact absurd ho (hslot c hc)

theorem mild_loud : Mode.mild ≠ .calm := nofun

/-- A cancel or a refund, from every state. -/
theorem enterRefund_places (hs : s.PlacesSuffice) : (enterRefund b s).PlacesSuffice := by
  obtain ⟨hs', hr⟩ := unpriced_places (b := b) hs
  obtain ⟨hs'', hq⟩ := endExchange_quiet hs' hr
  exact ((enterRefund_afterEnd (P := (· = b)) rfl mild_loud s).quiet hs'' hq).1

theorem cancelWith_places (code : Code) (hs : s.PlacesSuffice) : (cancelWith code b s).PlacesSuffice :=
  (refuse_work (m := .calm) (P := (· = b)) rfl code _).deskKept.places (enterRefund_places hs)

theorem enterCommit_places (hs : s.PlacesSuffice) (hr : NoRequest b s) : (enterCommit b s).PlacesSuffice := by
  obtain ⟨hs', hq⟩ := endExchange_quiet hs hr
  exact ((enterCommit_afterEnd (P := (· = b)) rfl mild_loud s).quiet hs' hq).1

theorem writeUnknown_places (hs : s.PlacesSuffice) (hr : NoRequest b s) : (writeUnknown b s).PlacesSuffice := by
  have hformed := formTear_deskKept b s
  obtain ⟨hs', hq⟩ := endExchange_quiet (hformed.places hs) (hformed.noRequest hr)
  exact (refresh_work (m := .calm) (P := (· = b)) rfl _).deskKept.places (enterTearWait_places hs' hq.ready)

/-! ### Pricing -/

/-- Fewer requests, in whatever order, find their places. -/
theorem places_subperm {t : Tariff} (hs : s.PlacesSuffice) (h : t.requests.Subperm s.tariff.requests) :
    ({ s with tariff := t } : State).PlacesSuffice := by
  obtain ⟨l, hperm, hsub⟩ := h
  exact
    { cardWork := hs.cardWork, auths := hs.auths, oneAuth := hs.oneAuth, notices := hs.notices
      requests := fun r hr => hs.requests r (hsub.subset (hperm.mem_iff.mpr hr))
      oneRequest := (hperm.map _).nodup_iff.mp (hs.oneRequest.sublist (hsub.map _)) }

theorem evalStart_subperm (t : Tariff) : t.evalStart.requests.Subperm t.requests := by
  unfold Tariff.evalStart
  split
  next r rs hidle hqueue =>
    simp only [Tariff.requests, hidle, hqueue, Option.filter_none, Option.toList_none, List.append_nil]
    have hsub : ((some r).filter fun q => !q.withdrawn).toList.Sublist [r] := by
      cases hw : r.withdrawn <;> simp [Option.filter, hw]
    have happend : (rs ++ ((some r).filter fun q => !q.withdrawn).toList).Sublist (rs ++ [r]) := hsub.append_left rs
    exact happend.subperm.trans (List.perm_append_singleton r rs).subperm
  next => exact .refl _

theorem queue_append_perm (t : Tariff) (r : PriceRequest) :
    ({ t with queue := t.queue ++ [r] } : Tariff).requests.Perm (r :: t.requests) := by
  unfold Tariff.requests
  rw [List.append_assoc]
  exact List.perm_middle

/-- A bay in PRICING without a request places one. -/
theorem placeRequest_places (hs : s.PlacesSuffice) (hr : NoRequest b s) (hstate : (s.ctx b).state = .pricing)
    (hwait : (s.ctx b).wait ≠ .places) : (placeRequest b s).PlacesSuffice := by
  have hplaced : ({ s with tariff := { s.tariff with queue := s.tariff.queue ++ [s.priceRequest b] } } : State).PlacesSuffice := by
    have hperm := queue_append_perm s.tariff (s.priceRequest b)
    refine { cardWork := hs.cardWork, auths := hs.auths, oneAuth := hs.oneAuth, notices := hs.notices,
             requests := fun r hrt => ?_, oneRequest := (hperm.map _).nodup_iff.mpr ?_ }
    · rcases List.mem_cons.mp (hperm.mem_iff.mp hrt) with rfl | hold
      · exact ⟨hstate, hwait⟩
      · exact hs.requests r hold
    · rw [List.map_cons, List.nodup_cons]
      refine ⟨fun hmem => ?_, hs.oneRequest⟩
      obtain ⟨r, hrt, hrb⟩ := List.mem_map.mp hmem
      exact hr r hrt hrb
  exact places_subperm (s := { s with tariff := { s.tariff with queue := s.tariff.queue ++ [s.priceRequest b] } }) hplaced
    (evalStart_subperm _)

theorem DeskKept.state (h : DeskKept s t) (b : BayNo) :
    (t.ctx b).state = (s.ctx b).state ∧ ((t.ctx b).wait = .places ↔ (s.ctx b).wait = .places) := by
  have hdesk := h.desks b
  simp only [desk, Prod.mk.injEq] at hdesk
  obtain ⟨-, -, hstate, hwait, -⟩ := hdesk
  have hplaces : (t.bay b).ctx.wait = .places ↔ (s.bay b).ctx.wait = .places := by simpa using hwait
  exact ⟨hstate, hplaces⟩

/-- A quiet bay that enters a state is quiet in it. -/
theorem enter_quiet (st : CtxState) (hs : s.PlacesSuffice) (hq : Quiet b s) :
    (enter st b s).PlacesSuffice ∧ Quiet b (enter st b s) ∧ ((enter st b s).ctx b).state = st
    ∧ ((enter st b s).ctx b).wait ≠ .places := by
  have hentered : (s.modCtx b (entered st s.now)).PlacesSuffice ∧ Quiet b (s.modCtx b (entered st s.now)) :=
    PostKept.quiet (ctx_postKept _ _) hs hq
  have hctx : (s.modCtx b (entered st s.now)).ctx b = entered st s.now (s.ctx b) :=
    congrArg Bay.ctx (State.bay_modBay_self s b fun y => { y with ctx := entered st s.now y.ctx })
  have hafter := afterEntry_deskKept (s.ctx b).state st b (s.modCtx b (entered st s.now))
  obtain ⟨hstate, hwait⟩ := hafter.state b
  rw [hctx] at hstate hwait
  rw [enter_eq]
  refine ⟨hafter.places hentered.1, hafter.quiet hentered.2, hstate, fun hp => ?_⟩
  cases hwait.mp hp

/-- A quiet bay that enters PRICING places its one request. -/
theorem enterPricing_places (hs : s.PlacesSuffice) (hq : Quiet b s) : (enterPricing b s).PlacesSuffice := by
  obtain ⟨hs', hq', hstate, hwait⟩ := enter_quiet .pricing hs hq
  exact placeRequest_places hs' hq'.request hstate hwait

theorem places_ite {p : Prop} [Decidable p] (ht : p → t.PlacesSuffice) (hu : ¬p → u.PlacesSuffice) :
    (if p then t else u).PlacesSuffice := by
  split
  · next h => exact ht h
  · next h => exact hu h

/-- A confirmed price leads on from a quiet bay. -/
theorem leavePriced_places (hs : s.PlacesSuffice) (hq : Quiet b s) : (leavePriced b s).PlacesSuffice := by
  have hcleared : DeskKept s (s.modCtx b fun c => { c with method := none }) := by
    unfold State.modCtx
    exact .modBay rfl
  have hrefused : ∀ u, DeskKept u (refuse .insufficient b u) := fun u =>
    (refuse_work (m := .calm) (P := (· = b)) rfl _ u).deskKept
  exact places_ite (fun _ => (hrefused _).places (hcleared.places hs)) fun _ =>
    places_ite
      (fun _ => places_ite (fun _ => enterCardWrite_places hs hq.ready) fun _ => enterCommit_places hs hq.request)
      fun _ => places_ite (fun _ => enterCardWrite_places hs hq.ready) fun _ => (enter_quiet .tender hs hq).1

/-! ### The card's reads (R111 to R118) -/

theorem goodRead_places (v : CardValues) (hs : s.PlacesSuffice) (hr : NoRequest b s) : (goodRead v b s).PlacesSuffice := by
  unfold goodRead
  split
  · exact cancelWith_places _ hs
  · have hkept : DeskKept s (s.modCtx b fun c => { c with card := some v }) := by
      unfold State.modCtx
      exact .modBay rfl
    obtain ⟨hs', hq⟩ := endExchange_quiet (hkept.places hs) (hkept.noRequest hr)
    exact enterPricing_places hs' hq

/-- A write is issued from a reading bay. -/
theorem issueWrite_places (hs : s.PlacesSuffice) (hr : Reading b s) : (issueWrite b s).PlacesSuffice := by
  unfold issueWrite
  split
  next r v _ _ =>
    unfold handCommand State.modTerm State.modCtx State.modExch
    rw [modBay_modBay, modBay_modBay]
    refine places_modBay hs ⟨fun h => ?_, fun _ => hr.standing, fun _ _ _ _ => rfl⟩ (.inr rfl) (.inl hr.request)
    rw [show (s.bay b).authWait = none from hr.wait] at h
    cases h
  next => exact hs

theorem goWrite_places (hs : s.PlacesSuffice) (hr : Reading b s) : (goWrite b s).PlacesSuffice := by
  unfold goWrite
  split
  · exact hs
  · refine places_ite (fun _ => (modExch_reading hs hr _).1) fun _ => places_ite (fun _ => presentAgain_places hs hr) fun _ =>
      places_ite (fun _ => places_ite (fun _ => ?_) fun _ => cancelWith_places _ hs) fun _ => issueWrite_places hs hr
    have hspent : ∀ n, DeskKept s (s.modCard fun c => { c with offlineTotal := c.offlineTotal + n }) := fun n => .modCard _
    exact issueWrite_places ((hspent _).places hs) ((hspent _).reading hr)

theorem append_auth_waiting (l : Link) (reference : BitVec 16) (b : BayNo) (serial : BitVec 32) (amount balance : Nat) :
    ({ l with messages := l.messages ++ [.authReq reference b serial amount balance] } : Link).waitingAuths.Sublist
      (l.waitingAuths ++ [(reference, b)]) := by
  unfold Link.waitingAuths
  dsimp only
  split
  · rw [List.drop_append, List.filterMap_append]
    refine List.Sublist.append_left ?_ _
    exact (List.drop_sublist _ _).filterMap _
  · rw [List.filterMap_append]
    exact List.Sublist.refl _

theorem append_auth_notices {ms : List Message} {m : Message} (hm : m.authOf.isSome = true) (h : noticesFirst ms) :
    noticesFirst (ms ++ [m]) := by
  intro x hx
  rw [List.drop_append] at hx
  rcases List.mem_append.mp hx with hold | hnew
  · exact h x hold
  · cases List.mem_singleton.mp (List.mem_of_mem_drop hnew)
    exact hm

/-- An AUTH_REQ joins the message queue of a port where its bay has none. -/
theorem authReq_places {reference : BitVec 16} {serial : BitVec 32} {amount balance : Nat} (hs : s.PlacesSuffice)
    (hnone : NoAuth b s) (hwait : (s.bay b).authWait.map AuthWait.reference = some reference) :
    (s.modLink (·.authReq reference b serial amount balance)).PlacesSuffice := by
  have hsub := append_auth_waiting s.link reference b serial amount balance
  have hjoined : (s.modLink fun l => { l with messages := l.messages ++ [.authReq reference b serial amount balance] }).PlacesSuffice :=
    { hs with
      auths := fun p hp => by
        rcases List.mem_append.mp (hsub.subset hp) with hold | hnew
        · exact hs.auths p hold
        · cases List.mem_singleton.mp hnew
          exact hwait
      oneAuth := by
        refine List.Nodup.sublist (hsub.map _) ?_
        rw [List.map_append, List.nodup_append]
        refine ⟨hs.oneAuth, List.nodup_singleton _, fun x hx y hy hxy => ?_⟩
        obtain ⟨p, hp, rfl⟩ := List.mem_map.mp hx
        cases List.mem_singleton.mp hy
        exact hnone p hp hxy
      notices := append_auth_notices rfl hs.notices }
  exact places_modLink (f := Link.kick) hjoined (kick_step _).auths (kick_step _).notices

theorem requestAuth_places (r : WriteRequest) (v : CardValues) (hs : s.PlacesSuffice) (hr : Reading b s) :
    (requestAuth r v b s).PlacesSuffice := by
  have hcounted : DeskKept s (s.modCard fun c => { c with nextRef := c.nextRef + 1 }) := .modCard _
  have hs₁ := hcounted.places hs
  have hr₁ := hcounted.reading hr
  unfold requestAuth
  dsimp only
  generalize s.modCard (fun c => { c with nextRef := c.nextRef + 1 }) = u at hs₁ hr₁
  have hnone := noAuth_of_wait hs₁ hr₁.wait
  have hwaits : (u.modBay b fun y => { y with authWait := some ⟨s.card.nextRef, s.now⟩, card := { y.card with phase := .authorising } }).PlacesSuffice :=
    places_modBay hs₁ ⟨fun _ => rfl, fun _ => hr₁.standing, fun c hc ho hcmd => absurd (hr₁.slot c hc ho) hcmd⟩ (.inl hnone)
      (.inl hr₁.request)
  refine (refresh_work (m := .calm) (P := (· = b)) rfl _).deskKept.places (authReq_places hwaits hnone ?_)
  rw [State.bay_modBay_self]
  rfl

theorem afterFresh_places (r : WriteRequest) (v : CardValues) (hs : s.PlacesSuffice) (hr : Reading b s) :
    (afterFresh r v b s).PlacesSuffice := by
  obtain ⟨hs', hr'⟩ := modExch_reading hs hr fun x => { x with phase := .checking }
  unfold afterFresh
  dsimp only
  exact places_ite (fun _ => places_ite (fun _ => requestAuth_places r v hs' hr') fun _ => cancelWith_places _ hs') fun _ =>
    goWrite_places hs' hr'

theorem freshRead_places (v : CardValues) (hs : s.PlacesSuffice) (hr : Reading b s) : (freshRead v b s).PlacesSuffice := by
  obtain ⟨hs', hr'⟩ := modExch_reading hs hr fun x => { x with fresh := some v }
  have hrefused : ∀ u, DeskKept u (refuse .wrongCard b u) := fun u =>
    (refuse_work (m := .calm) (P := (· = b)) rfl _ u).deskKept
  unfold freshRead
  dsimp only
  split
  · exact presentRead_places hs'
  · split
    · split
      · exact cancelWith_places _ hs'
      · exact afterFresh_places _ v hs' hr'
    · exact presentRead_places ((hrefused _).places hs')

theorem settleOwn_places (t : Tear) (v : CardValues) (hs : s.PlacesSuffice) (hr : Reading b s) :
    (settleOwn t v b s).PlacesSuffice := by
  have hctx : ∀ (f : Ctx → Ctx) (u : State), (f (u.ctx b)).state = (u.ctx b).state → (f (u.ctx b)).wait = (u.ctx b).wait →
      DeskKept u (u.modCtx b f) := fun f u hstate hwait => by
    unfold State.modCtx
    exact .modBay (by simp only [desk, show f (u.bay b).ctx = f (u.ctx b) from rfl, hstate, hwait]; rfl)
  unfold settleOwn
  split
  · have hkept := (hctx (fun c => { c with cardOutcome := .done, balanceAfter := some v.balance }) (removeTear t.serial s)
      rfl rfl).after (DeskKept.modCard _)
    exact enterCommit_places (hkept.places hs) (hkept.noRequest hr.request)
  · refine places_ite (fun _ => enterRefund_places hs) fun _ => ?_
    have hkept := hctx (fun c => { c with writeRetried := true }) s rfl rfl
    exact enterCardWrite_places (hkept.places hs) (hkept.reading hr).toReady
  · have hkept := (hctx (fun c => { c with cardOutcome := .pending }) (closeTear t .conflict (some b) .none s) rfl
      rfl).after (closeTear_deskKept _ _ _ _ s)
    exact enterCommit_places (hkept.places hs) (hkept.noRequest hr.request)

/-- A re-application's own write fills the slot of a reading bay. -/
theorem issueReapplication_places (t : Tear) (v : CardValues) (hs : s.PlacesSuffice) (hr : Reading b s) :
    (issueReapplication t v b s).PlacesSuffice := by
  unfold issueReapplication handCommand State.modTerm
  rw [modBay_modBay]
  refine (reading_modBay hs hr rfl rfl fun c hc ho => ?_).1
  cases hc
  cases ho

theorem reapplyEntry_places (t : Tear) (v : CardValues) (hs : s.PlacesSuffice) (hr : Reading b s) :
    (reapplyEntry t v b s).PlacesSuffice := by
  obtain ⟨hs', hr'⟩ := modExch_reading hs hr fun x => { x with phase := .resolving, resolving := some t.serial }
  unfold reapplyEntry resolve
  dsimp only
  refine places_ite (fun _ => (reading_modBay hs' hr' rfl rfl hr'.slot).1) fun _ =>
    places_ite (fun _ => (closeTear_deskKept _ _ _ _ _).places hs') fun _ =>
      places_ite (fun _ => (closeTear_deskKept _ _ _ _ _).places hs') fun _ => issueReapplication_places t v hs' hr'

theorem resolveEntry_places (t : Tear) (v : CardValues) (hs : s.PlacesSuffice) (hr : Reading b s) :
    (resolveEntry t v b s).PlacesSuffice := by
  have hresolved : (resolve t.serial b s).PlacesSuffice := (modExch_reading hs hr _).1
  unfold resolveEntry
  split
  · exact (closeTear_deskKept _ _ _ _ _).places hresolved
  · exact (closeTear_deskKept _ _ _ _ _).places hresolved
  · split
    · exact reapplyEntry_places t v hs hr
    · exact (closeTear_deskKept _ _ _ _ _).places hresolved

theorem readTaken_places (v : CardValues) (hs : s.PlacesSuffice) (hr : Reading b s) : (readTaken v b s).PlacesSuffice := by
  have hread := presentRead_places (b := b) hs
  unfold readTaken
  split
  next t _ =>
    unfold entryRead
    refine places_ite (fun _ => hread) fun _ => ?_
    split
    · refine places_ite (fun _ => ?_) fun _ => hread
      split
      · exact settleOwn_places t v hs hr
      · exact freshRead_places v hs hr
      · exact hread
    · exact resolveEntry_places t v hs hr
  next =>
    unfold purposeRead
    split
    · exact goodRead_places v hs hr.request
    · exact freshRead_places v hs hr
    · exact hread

end

end Sys2Proof.Proofs

/-! PROOFS. Card answers, resets, causes and transactions find their places in the message and pricing queues. -/

namespace Sys2Proof.Proofs

open Sys2Proof Sys2Proof.Machine Sys2Proof.Laws

/-! ### Answers, waits and re-applications (R119 to R130) -/

section
variable {s t u : State} {b : BayNo}

/-- A change of a context that leaves its state, and waits for no place before or behind it. -/
theorem modCtx_deskKept {f : Ctx → Ctx} (hstate : (f (s.ctx b)).state = (s.ctx b).state)
    (hwait : ((f (s.ctx b)).wait = .places ↔ (s.ctx b).wait = .places)) : DeskKept s (s.modCtx b f) := by
  unfold State.modCtx
  refine .modBay ?_
  have hdecide : decide ((f (s.ctx b)).wait = .places) = decide ((s.ctx b).wait = .places) := decide_eq_decide.mpr hwait
  show desk { s.bay b with ctx := f (s.ctx b) } = desk (s.bay b)
  simp only [desk, hstate, hdecide]
  rfl

theorem emptySlot_places (hs : s.PlacesSuffice) : (emptySlot b s).PlacesSuffice := by
  unfold emptySlot State.modTerm
  have hcard := hs.cardWork b
  exact places_modBay hs ⟨hcard.wait, hcard.exchange, fun c hc => by cases hc⟩ (.inr rfl) (.inr ⟨rfl, Iff.rfl⟩)

theorem resumeAt_places (serial : BitVec 32) (hs : s.PlacesSuffice) : (resumeAt serial b s).PlacesSuffice := by
  unfold resumeAt
  split
  next h =>
    have hr : Reading b s := reading_of_phase hs (by rw [h.1]; nofun) (by rw [h.1]; nofun) (by rw [h.1]; nofun)
    exact presentAgain_places hs hr
  next => exact hs

theorem resume_places (serial : BitVec 32) (hs : s.PlacesSuffice) : (resume serial s).PlacesSuffice :=
  forBays_invariant State.PlacesSuffice _ (fun _ _ => resumeAt_places serial) hs

theorem tearDone_places (serial : BitVec 32) (resolution : Resolution) (hs : s.PlacesSuffice) :
    (tearDone serial resolution s).PlacesSuffice := by
  have hnotify : ∀ n u, DeskKept u (notify n u) := fun n u => (notify_work (P := fun _ => True) n u).deskKept
  unfold tearDone
  split
  · refine places_ite (fun _ => ?_) fun _ => hs
    exact resume_places _ (((hnotify _ _).after (DeskKept.modCard _)).places hs)
  · exact hs

theorem reapply_deskKept (r : Option Reapplication) : DeskKept s (s.modBay b fun y => { y with reapply := r }) := .modBay rfl

theorem reapplyUnknown_places (hs : s.PlacesSuffice) : (reapplyUnknown b s).PlacesSuffice := by
  unfold reapplyUnknown
  split
  next r _ =>
    have hs' := (reapply_deskKept (b := b) none).places hs
    dsimp only
    split
    · refine places_ite (fun _ => hs') fun _ => resumeAt_places _ ?_
      exact (DeskKept.modCard _).places hs'
    · exact resumeAt_places _ hs'
  next => exact hs

theorem reapplyAnswered_places (resolution : Resolution) (reason : TearReason) (hs : s.PlacesSuffice) :
    (reapplyAnswered resolution reason b s).PlacesSuffice := by
  unfold reapplyAnswered
  split
  next r _ =>
    have hs' := (reapply_deskKept (b := b) none).places hs
    dsimp only
    split
    · exact places_ite (fun _ => hs') fun _ => (closeTear_deskKept _ _ _ _ _).places hs'
    · exact resumeAt_places _ hs'
  next => exact hs

theorem authFailed_places (code : Code) (hs : s.PlacesSuffice) : (authFailed code b s).PlacesSuffice :=
  cancelWith_places code (endAuth_places hs)

theorem endWaits_places (hs : s.PlacesSuffice) : (endWaits s).PlacesSuffice :=
  forBays_invariant State.PlacesSuffice _ (fun _ _ h => places_ite (fun _ => authFailed_places _ h) fun _ => h) hs

/-- A bay whose authorisation wait has ended reads. -/
theorem endAuth_reading (hs : s.PlacesSuffice) (hw : (s.bay b).authWait.isSome = true) : Reading b (endAuth b s) := by
  have hcard := hs.cardWork b
  have hphase := hcard.wait hw
  have hstanding := hcard.exchange (by rw [hphase]; nofun)
  have hbay := endAuth_bay_self b s
  refine ⟨⟨by rw [hbay], fun c hc ho => ?_, fun r hr => ?_⟩, ?_⟩
  · rw [hbay] at hc
    by_contra hcmd
    have := hcard.write c hc ho hcmd
    rw [hphase] at this
    cases this
  · rw [endAuth_tariff] at hr
    exact noRequest_of_standing hs hstanding.1 r hr
  · rw [State.ctx, hbay]
    exact hstanding

theorem authGranted_places (ref : BitVec 32) (hs : s.PlacesSuffice) (hw : (s.bay b).authWait.isSome = true) :
    (authGranted ref b s).PlacesSuffice := by
  obtain ⟨hs₁, hr₁⟩ := modExch_reading (endAuth_places hs) (endAuth_reading hs hw) fun x =>
    { x with grant := some ref, phase := .checking }
  have hkept : ∀ u, DeskKept u (refresh b (u.modCtx b fun c => { c with authRef := some ref })) := fun u =>
    (refresh_work (m := .calm) (P := (· = b)) rfl _).deskKept.after (modCtx_deskKept rfl Iff.rfl)
  exact goWrite_places ((hkept _).places hs₁) ((hkept _).reading hr₁)

theorem unhold_places (hs : s.PlacesSuffice) : (unhold b s).PlacesSuffice := by
  unfold unhold
  split
  next hp =>
    exact presentAgain_places hs (reading_of_phase hs (by rw [hp]; nofun) (by rw [hp]; nofun) (by rw [hp]; nofun))
  next hp _ =>
    exact places_ite (fun _ => hs) fun _ =>
      presentAgain_places hs (reading_of_phase hs (by rw [hp]; nofun) (by rw [hp]; nofun) (by rw [hp]; nofun))
  next => exact hs

/-- A command in the slot of bay b: a write of its exchange stands in a card state. -/
def SlotStands (c : CardSlot) (b : BayNo) (s : State) : Prop :=
  c.owner = .exchange → c.command ≠ .read → NoRequest b s

theorem slotStands_of_slot {c : CardSlot} (hs : s.PlacesSuffice) (h : s.slot b = some c) : SlotStands c b s :=
  fun ho hcmd => by
    have hcard := hs.cardWork b
    have hphase := hcard.write c h ho hcmd
    exact noRequest_of_standing hs (hcard.exchange (by rw [hphase]; nofun)).1

theorem commandExpired_places {c : CardSlot} (hs : s.PlacesSuffice) (hc : SlotStands c b s) :
    (commandExpired c b s).PlacesSuffice := by
  unfold commandExpired
  split
  · exact presentRead_places (reapplyUnknown_places hs)
  next howner hcommand => exact writeUnknown_places hs (hc howner (by rw [hcommand]; nofun))
  · exact presentRead_places hs

theorem answerSlot_places (k : Nat) {act : CardSlot → State → State} (hs : s.PlacesSuffice)
    (h : ∀ c, s.slot b = some c → (act c (emptySlot b s)).PlacesSuffice) : (answerSlot k act b s).PlacesSuffice := by
  unfold answerSlot
  split
  next c hc => exact places_ite (fun _ => h c hc) fun _ => hs
  next => exact hs

theorem emptySlot_stands {c : CardSlot} (hc : SlotStands c b s) : SlotStands c b (emptySlot b s) := hc

theorem lateRead_deskKept (v : CardValues) (b : BayNo) (s : State) : DeskKept s (lateRead v b s) := by
  unfold lateRead
  split
  · exact .refl s
  · refine .ite (fun _ => .refl s) fun _ => ?_
    split
    · exact closeTear_deskKept _ _ _ _ s
    · exact closeTear_deskKept _ _ _ _ s
    · exact .refl s

theorem cardRead_places (v : CardValues) {c : CardSlot} (hs : s.PlacesSuffice) (hc : SlotStands c b s) :
    (cardRead v b c s).PlacesSuffice := by
  unfold cardRead
  split
  next hp =>
    exact readTaken_places v hs (reading_of_phase hs (by rw [hp]; nofun) (by rw [hp]; nofun) (by rw [hp]; nofun))
  · exact presentRead_places ((lateRead_deskKept v b s).places hs)
  · exact commandExpired_places hs hc

theorem writeOk_places (balance : Nat) {c : CardSlot} (hs : s.PlacesSuffice) (hc : SlotStands c b s) :
    (writeOk balance b c s).PlacesSuffice := by
  unfold writeOk
  split
  next howner hcommand =>
    have hkept : DeskKept s ((dropOwnEntry b s).modCtx b fun c =>
        { c with cardOutcome := .done, balanceAfter := some balance }) :=
      (modCtx_deskKept rfl Iff.rfl).after (.modCard _)
    exact enterCommit_places (hkept.places hs) (hkept.noRequest (hc howner (by rw [hcommand]; nofun)))
  · exact presentRead_places (reapplyAnswered_places _ _ hs)
  · exact presentRead_places hs

theorem writeNo_places (r : CardRefusal) {c : CardSlot} (hs : s.PlacesSuffice) : (writeNo r b c s).PlacesSuffice := by
  unfold writeNo
  split
  · exact cancelWith_places _ hs
  · exact presentRead_places (reapplyAnswered_places _ _ hs)
  · exact presentRead_places hs

/-! ### Mild works where the bay is quiet (R2, R15 to R23) -/

/-- A bay without an exchange and without requests is quiet. -/
theorem quiet_of_idle (hs : s.PlacesSuffice) (hidle : (s.exch b).phase = .idle) (hr : NoRequest b s) : Quiet b s := by
  have hwork := hs.cardWork b
  refine ⟨?_, hidle, fun c hc ho => ?_, hr⟩
  · cases hw : (s.bay b).authWait with
    | none => rfl
    | some w =>
      have := (hwork.wait (by rw [hw]; rfl)).symm.trans hidle
      cases this
  · by_contra hcmd
    have := (hwork.write c hc ho hcmd).symm.trans hidle
    cases this

/-- Outside the card states a bay has no exchange. -/
theorem idle_of_state (hs : s.PlacesSuffice) (hcard : (s.ctx b).state ∉ [CtxState.cardRead, .cardWrite, .tearWait]) :
    (s.exch b).phase = .idle := by
  by_contra hp
  exact hcard ((hs.cardWork b).exchange hp).1

/-- Outside PRICING and the card states a bay is quiet. -/
theorem quiet_of_state (hs : s.PlacesSuffice) (hpricing : (s.ctx b).state ≠ .pricing)
    (hcard : (s.ctx b).state ∉ [CtxState.cardRead, .cardWrite, .tearWait]) : Quiet b s :=
  quiet_of_idle hs (idle_of_state hs hcard) (noRequest_of_state hs hpricing)

/-- Where a bay reset waits for its places, the bay is quiet. -/
theorem quiet_of_places (hs : s.PlacesSuffice) (h : (s.ctx b).wait = .places) : Quiet b s := by
  refine quiet_of_idle hs ?_ fun r hr hrb => (hs.requests r hr).2 (by rw [hrb]; exact h)
  by_contra hp
  exact ((hs.cardWork b).exchange hp).2 h

/-- A mild work of a bay in a state outside PRICING and the card's. -/
theorem Work.atState {st : CtxState} (h : Work .mild (· = b) s t) (hstate : (s.ctx b).state = st)
    (hst : st ≠ .pricing ∧ st ∉ [CtxState.cardRead, .cardWrite, .tearWait]) (hs : s.PlacesSuffice) : t.PlacesSuffice :=
  (h.quiet hs (quiet_of_state hs (hstate ▸ hst.1) (hstate ▸ hst.2))).1

theorem receiptTaken_places (o : ReceiptOutcome) (hs : s.PlacesSuffice) : (receiptTaken o b s).PlacesSuffice := by
  by_cases hp : (s.ctx b).state = .print
  · exact (receiptTaken_work (P := (· = b)) rfl mild_loud o s).atState hp (by decide) hs
  · unfold receiptTaken
    rw [if_neg fun h => hp h.1]
    exact hs

theorem receiptTaken?_places {r : State × Option ReceiptOutcome} (hs : r.1.PlacesSuffice) :
    (receiptTaken? b r).PlacesSuffice := by
  unfold receiptTaken?
  split
  · exact receiptTaken_places _ hs
  · exact hs

theorem payoutEnded_places (hs : s.PlacesSuffice) : (payoutEnded b s).PlacesSuffice := by
  unfold payoutEnded
  dsimp only
  split
  next hp _ => exact (changeEnded_work (P := (· = b)) rfl mild_loud s).atState hp (by decide) hs
  next hp _ => exact (refundEnded_work (P := (· = b)) rfl mild_loud _ s).atState hp (by decide) hs
  next => exact hs

theorem payoutStep_places {r : State × Bool} (hs : r.1.PlacesSuffice) : (payoutStep b r).PlacesSuffice := by
  unfold payoutStep
  split
  · exact payoutEnded_places hs
  · exact hs

theorem saleDone_places (q : Nat) (hs : s.PlacesSuffice) : (saleDone q b s).PlacesSuffice := by
  by_cases hp : (s.ctx b).state = .commit
  · exact (saleDone_work (P := (· = b)) rfl mild_loud q s).atState hp (by decide) hs
  · unfold saleDone
    rw [if_neg fun h => hp h.1]
    exact hs

theorem adjustDone_places (hs : s.PlacesSuffice) : (adjustDone b s).PlacesSuffice := by
  unfold adjustDone
  split
  next hp _ => exact (enterPrint_work (P := (· = b)) rfl mild_loud s).atState hp (by decide) hs
  next hp _ => exact (closeTxn_work (P := (· = b)) rfl mild_loud s).atState hp (by decide) hs
  next hp _ => exact (closeTxn_work (P := (· = b)) rfl mild_loud s).atState hp (by decide) hs
  next => exact hs

theorem releaseReset_places (hs : s.PlacesSuffice) : (releaseReset b s).PlacesSuffice := by
  unfold releaseReset
  split
  next h => exact ((closeTxn_work (P := (· = b)) rfl mild_loud s).quiet hs (quiet_of_places hs h.1)).1
  next => exact hs

/-! ### Bay resets and causes (R20 to R23) -/

theorem resetEarly_places (hs : s.PlacesSuffice) : (resetEarly b s).PlacesSuffice := by
  obtain ⟨hs₁, hr₁⟩ := unpriced_places (b := b) hs
  have hkept : DeskKept (unpriced b s) (changeOwner b .nobody
      (if ((unpriced b s).exch b).phase = .writing then formTear b (unpriced b s) else unpriced b s)) :=
    (DeskKept.modCard _).after (.iteSelf fun _ => formTear_deskKept b _)
  obtain ⟨hs₂, hq⟩ := endExchange_quiet (hkept.places hs₁) (hkept.noRequest hr₁)
  exact ((resetEarly_afterEnd (P := (· = b)) rfl mild_loud s).quiet hs₂ hq).1

theorem bayReset_places (hs : s.PlacesSuffice) : (bayReset b s).PlacesSuffice := by
  have hreturn : DeskKept s (requestReturn b s) := (requestReturn_work (m := .calm) (P := (· = b)) rfl s).deskKept
  unfold bayReset
  refine places_ite (fun _ => hs) fun _ => ?_
  split
  · exact hreturn.places hs
  · exact hreturn.places hs
  · exact resetEarly_places hs
  · exact resetEarly_places hs
  · exact resetEarly_places hs
  · exact resetEarly_places hs
  · exact resetEarly_places hs
  · exact resetEarly_places hs
  · exact resetEarly_places hs
  · exact (modCtx_deskKept rfl Iff.rfl).places hs
  next hp => exact (resetPayout_work (P := (· = b)) rfl mild_loud s).atState hp (by decide) hs
  next hp => exact (resetPrint_work (P := (· = b)) rfl mild_loud s).atState hp (by decide) hs
  next hp => exact (resetRefund_work (P := (· = b)) rfl mild_loud s).atState hp (by decide) hs

theorem lostReaction_places (hs : s.PlacesSuffice) : (lostReaction b s).PlacesSuffice := by
  unfold lostReaction
  dsimp only
  refine places_ite (fun _ => ?_) fun _ => hs
  split
  · exact enterRefund_places hs
  · exact enterRefund_places hs
  · exact enterRefund_places hs
  · exact enterRefund_places hs
  · exact enterRefund_places hs
  next hp =>
    exact places_ite (fun _ => writeUnknown_places hs (noRequest_of_standing hs (by rw [hp]; decide))) fun _ =>
      cancelWith_places _ hs
  · exact (modCtx_deskKept rfl Iff.rfl).places hs
  · exact (modCtx_deskKept rfl Iff.rfl).places hs
  · exact hs

theorem causeReaction_places (k : Cause) (hs : s.PlacesSuffice) : (causeReaction k b s).PlacesSuffice := by
  unfold causeReaction
  dsimp only
  split
  next hp => exact (enter_quiet .outOfService hs (quiet_of_state hs (by rw [hp]; nofun) (by rw [hp]; decide))).1
  · exact hs
  · exact places_ite (fun _ => enterRefund_places hs) fun _ => hs
  · exact lostReaction_places hs
  · exact hs

theorem joinCause_places (k : Cause) (hs : s.PlacesSuffice) : (joinCause k b s).PlacesSuffice := by
  have hmask : ∀ u, DeskKept u (recomputeMask b u) := fun u => (recomputeMask_work (P := (· = b)) rfl u).deskKept
  unfold joinCause
  refine places_ite (fun _ => hs) fun _ => (hmask _).places (causeReaction_places k ((hmask _).places ?_))
  exact (modCtx_deskKept rfl Iff.rfl).places hs

theorem leaveCause_deskKept (k : Cause) (b : BayNo) (s : State) : DeskKept s (leaveCause k b s) :=
  (leaveCause_work (P := (· = b)) rfl k s).deskKept

theorem setCause_places (k : Cause) (v : Bool) (hs : s.PlacesSuffice) : (setCause k v b s).PlacesSuffice :=
  places_ite (fun _ => joinCause_places k hs) fun _ => (leaveCause_deskKept k b s).places hs

theorem testJamAll_places (hs : s.PlacesSuffice) : (testJamAll b s).PlacesSuffice :=
  places_ite (fun _ => joinCause_places _ hs) fun _ => (leaveCause_deskKept _ b s).places hs

/-! ### Keys and limits (R4 to R12) -/

theorem clearOverlay_deskKept (b : BayNo) (s : State) : DeskKept s (clearOverlay b s) :=
  (clearOverlay_work (P := (· = b)) rfl s).deskKept

theorem refuse_deskKept (code : Code) (b : BayNo) (s : State) : DeskKept s (refuse code b s) :=
  (refuse_work (P := (· = b)) rfl code s).deskKept

/-- A selection opened is quiet in OPENING. -/
theorem selected_quiet (p : Product) (q : Selection) (hs : s.PlacesSuffice) (hq : Quiet b s) :
    (selected p q b s).PlacesSuffice ∧ Quiet b (selected p q b s) := by
  have hmod : (s.modBay b (selecting p q s.tariff.active s.time.calendar)).PlacesSuffice
      ∧ Quiet b (s.modBay b (selecting p q s.tariff.active s.time.calendar)) :=
    PostKept.quiet ⟨rfl, rfl, fun _ h _ => h⟩ hs hq
  have hpin : (s.tariff.pin s.tariff.active).requests = s.tariff.requests := by cases s.tariff.active <;> rfl
  have hkept : DeskKept (s.modBay b (selecting p q s.tariff.active s.time.calendar)) (selected p q b s) :=
    .of_places rfl rfl hpin
  exact ⟨hkept.places hmod.1, hkept.quiet hmod.2⟩

theorem openTxn_places (p : Product) (q : Selection) (hs : s.PlacesSuffice) (hq : Quiet b s) :
    (openTxn p q b s).PlacesSuffice := by
  obtain ⟨hs₁, hq₁⟩ := selected_quiet p q hs hq
  obtain ⟨hs₂, hq₂, -, -⟩ := enter_quiet .opening hs₁ hq₁
  rw [openTxn_eq]
  exact places_ite (fun _ => enterCardRead_places hs₂ hq₂.ready) fun _ => enterPricing_places hs₂ hq₂

theorem select_places (q : Selection) (hs : s.PlacesSuffice) : (select q b s).PlacesSuffice := by
  have hs' := (clearOverlay_deskKept b s).places hs
  unfold select
  dsimp only
  generalize clearOverlay b s = u at hs'
  split
  · exact (refuse_deskKept _ b u).places hs'
  next hp =>
    split
    · exact (refuse_deskKept _ b u).places hs'
    · exact openTxn_places _ _ hs' (quiet_of_state hs' (by rw [hp]; nofun) (by rw [hp]; decide))
  · exact (refuse_deskKept _ b u).places hs'

theorem confirm_places (k : Method) (wanted : Bool) (hs : s.PlacesSuffice) : (confirm k wanted b s).PlacesSuffice := by
  have hs' := (clearOverlay_deskKept b s).places hs
  unfold confirm
  dsimp only
  generalize clearOverlay b s = u at hs'
  split
  next h =>
    have hq : Quiet b u := quiet_of_state hs' (by rw [h.1]; nofun) (by rw [h.1]; decide)
    split
    next p _ =>
      split
      · exact (refuse_deskKept _ b u).places hs'
      · have hkept : DeskKept u (u.modCtx b fun c =>
            { c with method := some k, receiptWanted := wanted || decide (p.kind = .passPrinted) }) :=
          modCtx_deskKept rfl Iff.rfl
        exact places_ite (fun _ => leavePriced_places (hkept.places hs') (hkept.quiet hq)) fun _ =>
          enterPricing_places (hkept.places hs') (hkept.quiet hq)
    next => exact hs'
  next => exact hs'

theorem cancel_places (hs : s.PlacesSuffice) : (cancel b s).PlacesSuffice := by
  have hs' := (clearOverlay_deskKept b s).places hs
  unfold cancel
  dsimp only
  generalize clearOverlay b s = u at hs'
  have hshown : ∀ o : Overlay, (refresh b (u.modCtx b fun c => { c with overlay := o })).PlacesSuffice := fun o =>
    ((refresh_work (m := .calm) (P := (· = b)) rfl _).deskKept.after (modCtx_deskKept rfl Iff.rfl)).places hs'
  refine places_ite (fun _ => ?_) fun _ => hs'
  split
  · exact enterRefund_places hs'
  · exact enterRefund_places hs'
  · exact enterRefund_places hs'
  · exact enterRefund_places hs'
  · exact hshown _
  · exact hshown _
  · exact hs'

theorem reprint_places (hs : s.PlacesSuffice) : (reprint b s).PlacesSuffice := by
  unfold reprint
  split
  · exact (refuse_deskKept _ b s).places hs
  · refine places_ite (fun _ => (refuse_deskKept _ b s).places hs) fun _ =>
      places_ite (fun _ => (refuse_deskKept _ b s).places hs) fun _ =>
        places_ite (fun _ => (refuse_deskKept _ b s).places hs) fun _ => receiptTaken?_places ?_
    have htaken : DeskKept s (s.modBay b fun y => { y with lastReceipt := none }) := .modBay rfl
    exact (requestJob_work (m := .calm) (P := (· = b)) rfl _ _).deskKept.places (htaken.places hs)

theorem timeout_places (hs : s.PlacesSuffice) : (timeout b s).PlacesSuffice := by
  unfold timeout
  split
  · exact cancelWith_places _ hs
  next hp =>
    have hkept : DeskKept s (s.modCtx b fun c => { c with cardOutcome := .pending }) := modCtx_deskKept rfl Iff.rfl
    exact enterCommit_places (hkept.places hs) (hkept.noRequest (noRequest_of_standing hs (by rw [hp]; decide)))
  · exact enterRefund_places hs

/-! ### Coins and payouts (R72 to R100) -/

theorem creditCoin_deskKept (c : Coin) (b : BayNo) (s : State) : DeskKept s (creditCoin c b s) := by
  unfold creditCoin
  dsimp only
  split
  · exact modCtx_deskKept rfl Iff.rfl
  · exact .refl _

/-- A coin is credited in TENDER alone. -/
theorem coinOf_tender {pulses : Nat} {malformed : Bool} (h : (s.coinOf b pulses malformed).standing = .credited) :
    (s.ctx b).state = .tender := by
  revert h
  unfold State.coinOf
  split
  · split
    next hfits => exact fun _ => hfits.1
    next => exact fun h => by cases h
  · exact fun h => by cases h

theorem payIfComplete_places (c : Coin) (hs : s.PlacesSuffice)
    (hc : c.standing = .credited → (s.ctx b).state = .tender) : (payIfComplete c b s).PlacesSuffice := by
  unfold payIfComplete
  split
  next h =>
    have hp := hc h.1
    have hq : Quiet b s := quiet_of_state hs (by rw [hp]; nofun) (by rw [hp]; decide)
    exact places_ite (fun _ => enterCardWrite_places hs hq.ready) fun _ => enterCommit_places hs hq.request
  next =>
    exact ((refresh_work (m := .calm) (P := (· = b)) rfl _).after (recomputeMask_work (P := (· = b)) rfl s)).deskKept.places hs

theorem takeCoin_places (pulses : Nat) (malformed : Bool) (hs : s.PlacesSuffice) :
    (takeCoin pulses malformed b s).PlacesSuffice := by
  have hcounted : DeskKept s (countCoin (s.coinOf b pulses malformed) pulses malformed b s) :=
    (countCoin_work (P := (· = b)) rfl _ _ _ s).deskKept
  have hcredited := (creditCoin_deskKept (s.coinOf b pulses malformed) b _).after hcounted
  have hplaced := (placeCoin_work (m := .calm) (P := (· = b)) rfl (s.coinOf b pulses malformed) _).deskKept.after hcredited
  refine payIfComplete_places _ (hplaced.places hs) fun h => ?_
  exact ((hplaced.state b).1).trans (coinOf_tender h)

theorem declareFault_places (hs : s.PlacesSuffice) : (declareFault b s).PlacesSuffice := by
  have hfault : DeskKept s (s.modBay b fun y =>
      { y with
        coin := { y.coin.discard with fault := true, recoveryStart := none, stuckFrom := none, waitHigh := false }
        counters := { y.counters with fault := satInc y.counters.fault } }) := .modBay rfl
  exact (notify_work (P := fun _ => True) _ _).deskKept.places (joinCause_places _ (hfault.places hs))

theorem answerDrive_places (t : TubeNo) (hs : s.PlacesSuffice) : (answerDrive t b s).PlacesSuffice := by
  have hpaid : Work .calm (· = b) s (payCoin (kindValue s.site (s.tube b t).kind) b (changeTube b t Tube.leave s)) :=
    (payCoin_work (P := (· = b)) rfl _ _).after (changeTube_work (P := (· = b)) rfl t Tube.leave (leave_step _))
  have hs' := hpaid.deskKept.places hs
  unfold answerDrive
  dsimp only
  refine places_ite (fun _ => ?_) fun _ => ?_
  · exact payoutEnded_places ((stopPayout_work (m := .calm) (P := (· = b)) rfl _).deskKept.places hs')
  · exact payoutStep_places ((nextDrive_work (m := .calm) (P := (· = b)) rfl _).deskKept.places hs')

theorem jam_places (t : TubeNo) (hs : s.PlacesSuffice) : (jam t b s).PlacesSuffice := by
  have hjammed : Work .calm (· = b) s (changeTube b t (fun u => { u with state := .jammed })
      (s.modPayout b fun x => { x with drive := none })) :=
    (changeTube_work (P := (· = b)) rfl t _ (tubeState_step _ _)).after (modPayout_work (P := (· = b)) rfl s _)
  have hs' := hjammed.deskKept.places hs
  unfold jam
  dsimp only
  refine payoutStep_places ((planPayout_work (m := .calm) (P := (· = b)) rfl _).deskKept.places (testJamAll_places ?_))
  exact (notify_work (P := fun _ => True) _ _).deskKept.places hs'

theorem tubeSet_places (t : TubeNo) (n : Nat) (st : TubeState) (hs : s.PlacesSuffice) :
    (tubeSet b t n st s).state.PlacesSuffice :=
  testJamAll_places ((changeTube_work (m := .calm) (P := (· = b)) rfl t _ (setCount_step _ n st)).deskKept.places hs)

theorem inService_places (hs : s.PlacesSuffice) : (inService b s).state.PlacesSuffice := by
  have hwork := inService_work (m := .mild) (P := (· = b)) rfl mild_loud s
  by_cases hp : (s.ctx b).state = .outOfService
  · exact hwork.atState hp (by decide) hs
  · have hkept : DeskKept s (s.modCtx b fun c => { c with causes := c.causes.put .server false }) := modCtx_deskKept rfl Iff.rfl
    unfold inService
    split
    · dsimp only [accept]
      rw [if_neg fun h => hp ((hkept.state b).1.symm.trans h)]
      exact hkept.places hs
    · exact hs

/-! ### Terminals, boxes and printers (R102 to R104, R137 to R145, R194 to R199) -/

theorem boxRemoved_places (hs : s.PlacesSuffice) :
    (recomputeMask b (joinCause .boxAbsent b (if (s.bay b).box.present then removeBox b s else s))).PlacesSuffice := by
  have hremoved : DeskKept s (if (s.bay b).box.present then removeBox b s else s) :=
    .iteSelf fun _ => (removeBox_work (P := (· = b)) rfl s).deskKept
  exact (recomputeMask_work (P := (· = b)) rfl _).deskKept.places (joinCause_places _ (hremoved.places hs))

/-- A change of a terminal that leaves its card slot. -/
theorem modTerm_deskKept {f : Terminal → Terminal} (h : (f (s.bay b).term).cardSlot = (s.bay b).term.cardSlot) :
    DeskKept s (s.modTerm b f) := by
  unfold State.modTerm
  exact .modBay (by simp only [desk, h])

theorem lostCommand_places (c : Option CardSlot) (hs : s.PlacesSuffice) : (lostCommand c b s).PlacesSuffice := by
  unfold lostCommand
  split
  · exact presentRead_places (places_ite (fun _ => reapplyUnknown_places hs) fun _ => hs)
  · exact hs

theorem terminalLost_places (hs : s.PlacesSuffice) : (terminalLost b s).PlacesSuffice := by
  have hlost : (s.modTerm b fun t =>
      { t with state := .lost, misses := 3, recoveryStart := some s.now, cardSlot := none }).PlacesSuffice := by
    unfold State.modTerm
    have hcard := hs.cardWork b
    exact places_modBay hs ⟨hcard.wait, hcard.exchange, fun c hc => by cases hc⟩ (.inr rfl) (.inr ⟨rfl, Iff.rfl⟩)
  have hsettled := lostCommand_places (b := b) (s.slot b) (joinCause_places (b := b) .terminalLost hlost)
  unfold terminalLost
  dsimp only
  generalize lostCommand (s.slot b) b (joinCause .terminalLost b (s.modTerm b fun t =>
      { t with state := .lost, misses := 3, recoveryStart := some s.now, cardSlot := none })) = u at hsettled
  have hcleared : DeskKept u (u.modBay b fun y =>
      { y with printer := { y.printer with credit := 0 }, inFlight := 0, chunkMark := none }) := .modBay rfl
  have hcut := (cutJob_work (m := .calm) (P := (· = b)) rfl (u.modBay b fun y =>
      { y with printer := { y.printer with credit := 0 }, inFlight := 0, chunkMark := none })).deskKept.after hcleared
  exact (notify_work (P := fun _ => True) _ _).deskKept.places (receiptTaken?_places (hcut.places hsettled))

theorem miss_places (hs : s.PlacesSuffice) : (miss b s).PlacesSuffice := by
  unfold miss
  split
  · exact (modTerm_deskKept rfl).places hs
  · exact places_ite (fun _ => (modTerm_deskKept rfl).places hs) fun _ => terminalLost_places hs
  · exact hs

theorem terminalHeard_deskKept (b : BayNo) (s : State) : DeskKept s (terminalHeard b s) := by
  unfold terminalHeard
  split
  · exact DeskKept.after (.iteSelf fun _ => leaveCause_deskKept _ b _)
      (modTerm_deskKept (f := fun t => { t with state := .present, misses := 0 }) rfl)
  · exact (notify_work (P := fun _ => True) _ _).deskKept.after ((leaveCause_deskKept _ b _).after (modTerm_deskKept rfl))
  · exact .refl s

theorem paperChanged_places (was is : Paper) (hs : s.PlacesSuffice) : (paperChanged was is b s).PlacesSuffice := by
  have hs' := (notify_work (P := fun _ => True) (.paper b is) s).deskKept.places hs
  unfold paperChanged
  refine places_ite (fun _ => hs) fun _ => ?_
  dsimp only
  exact places_ite (fun _ => places_ite (fun _ => joinCause_places _ hs') fun _ => (leaveCause_deskKept _ b _).places hs')
    fun _ => hs'

theorem statusAtJob_places (hs : s.PlacesSuffice) : (statusAtJob b s).PlacesSuffice := by
  have hcut := (cutJob_work (m := .calm) (P := (· = b)) rfl s).deskKept
  unfold statusAtJob
  dsimp only
  exact places_ite (fun _ => hs) fun _ => places_ite (fun _ => receiptTaken?_places (hcut.places hs)) fun _ =>
    (DeskKept.modBay rfl).places hs

theorem printerStatus_places (paper : Paper) (headUp : Bool) (credit : Nat) (hs : s.PlacesSuffice) :
    (printerStatus paper headUp credit b s).PlacesSuffice := by
  have hreported : DeskKept s (s.modBay b fun y => { y with printer := ⟨paper, headUp, credit⟩ }) := .modBay rfl
  exact statusAtJob_places (paperChanged_places _ _ (hreported.places hs))

theorem delivered_places (mark : Nat) (carried : Option Nat) (hs : s.PlacesSuffice) :
    (delivered mark carried b s).PlacesSuffice := by
  have hleft : DeskKept s (s.modBay b fun y => y.deliver s.now) := .modBay rfl
  have hdriven := (driveJob_work (m := .calm) (P := (· = b)) rfl (s.modBay b fun y => y.deliver s.now)).deskKept.after hleft
  exact places_ite (fun _ => receiptTaken?_places (hdriven.places hs)) fun _ => hs

theorem complete_places (r : Append) (q : Nat) (hs : s.PlacesSuffice) : (complete r q s).PlacesSuffice := by
  unfold complete
  split
  · exact saleDone_places q hs
  · exact adjustDone_places hs
  · exact tearDone_places _ _ hs
  next b _ => exact (boxDone_work (P := (· = b)) rfl s).deskKept.places hs
  · exact hs

theorem absentChange_places (was is : Bool) (hs : s.PlacesSuffice) : (absentChange was is b s).PlacesSuffice := by
  have habsent : ∀ u, DeskKept u (makeAbsent b u) := fun u => (makeAbsent_work (P := (· = b)) rfl u).deskKept
  unfold absentChange
  split
  · split
    next hp =>
      exact (habsent _).places (enter_quiet .outOfService hs (quiet_of_state hs (by rw [hp]; nofun) (by rw [hp]; decide))).1
    · exact (habsent s).places hs
    · exact hs
  · exact (notify_work (P := fun _ => True) _ _).deskKept.places ((modTerm_deskKept rfl).places (joinCause_places _ hs))
  · exact hs

theorem siteChange_places (old new : List (List Byte)) (b : BayNo) (hs : s.PlacesSuffice) :
    (siteChange old new b s).PlacesSuffice := by
  have htaken : DeskKept s (s.modBay b fun y => y.takeSite new b) := .modBay rfl
  have habsent := absentChange_places (b := b) (siteAbsent old b) (siteAbsent new b) (htaken.places hs)
  refine (recomputeMask_work (P := (· = b)) rfl _).deskKept.places ?_
  unfold passesOnlyChange
  split
  · exact places_ite (fun _ => joinCause_places _ habsent) fun _ => habsent
  · exact (leaveCause_deskKept _ b _).places habsent
  · exact habsent

theorem replaceSite_places (t : Table) (hs : s.PlacesSuffice) : (replaceSite t s).PlacesSuffice := by
  have hset : DeskKept s (s.modTariff fun u => { u with site := t, siteShadow := .empty }) := .of_places rfl rfl rfl
  exact forBays_invariant State.PlacesSuffice _ (fun b _ => siteChange_places _ _ b) (hset.places hs)

/-! ### The end of an evaluation (R10, R46, R47) -/

/-- The request evaluated is taken from the evaluator: its bay has none. -/
theorem evaluated_noRequest {r : PriceRequest} (hs : s.PlacesSuffice) (hr : s.tariff.evaluating = some r) (hlive : r.withdrawn = false) :
    NoRequest r.bay (s.modTariff fun t => { t with evaluating := none }) := by
  have hone := hs.oneRequest
  simp only [Tariff.requests, hr, Option.filter, hlive, Bool.not_false, if_true, Option.toList_some, List.map_append,
    List.map_cons, List.map_nil] at hone
  intro q hq hqb
  simp only [State.modTariff, Tariff.requests, Option.filter_none, Option.toList_none, List.append_nil] at hq
  exact (List.nodup_append.mp hone).2.2 q.bay (List.mem_map_of_mem hq) r.bay (List.mem_singleton.mpr rfl) hqb

theorem evaluated_subperm (t : Tariff) : ({ t with evaluating := none } : Tariff).requests.Subperm t.requests := by
  simp only [Tariff.requests, Option.filter_none, Option.toList_none, List.append_nil]
  exact (List.sublist_append_left _ _).subperm

end

end Sys2Proof.Proofs

/-! PROOFS. The message queue and the pricing queue find their places at the port, in the evaluator and in the resets. -/

namespace Sys2Proof.Proofs

open Sys2Proof Sys2Proof.Machine Sys2Proof.Laws

/-! ### The evaluator and the port -/

section
variable {s t : State} {b : BayNo}

theorem priced_places (r : PriceRequest) (amount : Nat) (flags : EvalFlags) (plan : Option PassPlan) (hs : s.PlacesSuffice)
    (hq : Quiet r.bay s) : (priced r amount flags plan s).PlacesSuffice := by
  have hkept : DeskKept s (s.modCtx r.bay fun c =>
      { c with price := some amount, priceMethod := some r.method, evalFlags := flags, passPlan := plan }) :=
    modCtx_deskKept rfl Iff.rfl
  obtain ⟨hs', hq', -, -⟩ := enter_quiet .priced (hkept.places hs) (hkept.quiet hq)
  exact places_ite (fun _ => leavePriced_places hs' hq') fun _ => hs'

theorem evaluated_places (hs : s.PlacesSuffice) : (match s.tariff.evaluating with
    | some r => (priceTaken r (s.modTariff fun t => { t with evaluating := none })).modTariff Tariff.evalStart
    | none => s).PlacesSuffice := by
  split
  next r hr =>
    have htaken : (s.modTariff fun t => { t with evaluating := none }).PlacesSuffice := places_subperm hs (evaluated_subperm _)
    refine places_subperm (t := Tariff.evalStart _) ?_ (evalStart_subperm _)
    unfold priceTaken
    split
    next h =>
      have hq : Quiet r.bay (s.modTariff fun t => { t with evaluating := none }) :=
        quiet_of_idle htaken (idle_of_state htaken (by rw [h.2.1]; decide)) (evaluated_noRequest hs hr h.1)
      split
      · exact priced_places _ _ _ _ htaken hq
      · exact cancelWith_places _ htaken
      · exact cancelWith_places _ htaken
    next => exact htaken
  next => exact hs

/-- A change of the port that leaves the messages and the transmitter. -/
theorem DeskKept.mail {f : Link → Link} (hm : (f s.link).messages = s.link.messages)
    (hsending : (f s.link).sending = s.link.sending) : DeskKept s (s.modLink f) :=
  ⟨fun hs => places_modLink hs (by rw [Link.waitingAuths, Link.waitingAuths, hm, hsending]) (by rw [hm]; exact id),
    fun _ => rfl, rfl⟩

theorem dropHead_deskKept (s : State) : DeskKept s (dropHead s) := .mail rfl rfl

theorem formatError_deskKept (s : State) : DeskKept s (formatError s) := .mail rfl rfl

theorem answer_places (f : Frame) (a : Answer) (hs : a.state.PlacesSuffice) : (answer f a).PlacesSuffice := by
  have hreply : DeskKept a.state (a.state.modLink fun l => { l with replies := l.replies ++ [⟨f.tag, a.status, a.data, a.after⟩] }) :=
    .mail rfl rfl
  exact places_modLink (f := Link.kick) (hreply.places hs) (kick_step _).auths (kick_step _).notices

theorem answerFrame_places {isKind : Frame → Bool} {act : Frame → State → Answer}
    (h : ∀ f u, u.PlacesSuffice → (act f u).state.PlacesSuffice) (hs : s.PlacesSuffice) :
    (answerFrame isKind act s).PlacesSuffice := by
  unfold answerFrame
  split
  · exact places_ite (fun _ => answer_places _ _ (h _ _ ((dropHead_deskKept s).places hs))) fun _ => hs
  · exact hs

theorem takeFrame_places {isKind : Frame → Bool} {act : Frame → State → State}
    (h : ∀ f u, u.PlacesSuffice → (act f u).PlacesSuffice) (hs : s.PlacesSuffice) :
    (takeFrame isKind act s).PlacesSuffice := by
  unfold takeFrame
  split
  · exact places_ite (fun _ => h _ _ ((dropHead_deskKept s).places hs)) fun _ => hs
  · exact hs

theorem takeSection_places {α : Type} {f : ReplySection → Option α} {act : BayNo → α → State → State}
    (h : ∀ b a u, u.PlacesSuffice → (act b a u).PlacesSuffice) (hs : s.PlacesSuffice) :
    (takeSection f act s).PlacesSuffice := by
  have hbus : ∀ x, (s.modBus x).PlacesSuffice := fun x => places_congr hs rfl rfl rfl
  unfold takeSection
  split
  · split
    · exact h _ _ _ (hbus _)
    · exact hs
  · exact hs

theorem ofLength_places {act : List Byte → State → Answer}
    (h : ∀ body u, u.PlacesSuffice → (act body u).state.PlacesSuffice) (n : Nat) (f : Frame) (hs : s.PlacesSuffice) :
    (ofLength n act f s).state.PlacesSuffice := by
  unfold ofLength
  split
  · exact h _ s hs
  · exact hs

theorem refuseOr_places {act : State → Answer} (h : s.PlacesSuffice → (act s).state.PlacesSuffice) (code : Option Code)
    (hs : s.PlacesSuffice) : (refuseOr code act s).state.PlacesSuffice := by
  unfold refuseOr
  split
  · exact hs
  · exact h hs

theorem bayControl_places {act : BayNo → State → Answer}
    (h : ∀ b u, u.PlacesSuffice → (act b u).state.PlacesSuffice) (f : Frame) (hs : s.PlacesSuffice) :
    (bayControl act f s).state.PlacesSuffice := by
  unfold bayControl
  split
  · split
    · split
      · exact hs
      · exact h _ s hs
    · exact hs
  · exact hs

theorem sent_waiting (l : Link) : l.sent.waitingAuths.Sublist l.waitingAuths := by
  unfold Link.sent
  split
  next hsending => rw [Link.waitingAuths, Link.waitingAuths, hsending]; exact .refl _
  next hsending =>
    refine (drain_step _).auths.trans ?_
    rw [Link.waitingAuths, Link.waitingAuths, if_pos hsending]
    exact .refl _
  next hsending => rw [Link.waitingAuths, Link.waitingAuths, hsending]; exact .refl _
  next hmessage _ =>
    rw [Link.waitingAuths, Link.waitingAuths, if_neg hmessage, if_neg nofun]

theorem sent_notices {l : Link} (h : noticesFirst l.messages) : noticesFirst l.sent.messages := by
  unfold Link.sent
  split
  · exact h
  · refine (drain_step _).notices fun m hm => h m ?_
    rw [List.drop_drop] at hm
    exact (List.drop_sublist_drop_left _ (by omega)).subset hm
  · exact h
  · exact h

theorem offline_waiting (l : Link) : l.offline.waitingAuths = [] ∧ noticesFirst l.offline.messages := by
  have hsending : l.offline.sending = l.sending := by
    unfold Link.offline
    cases l.listState <;> rfl
  have hmessages : l.offline.messages = if l.sending = some ⟨.message, true⟩ then l.messages.take 1 else [] := by
    unfold Link.offline
    cases l.listState <;> rfl
  rw [Link.waitingAuths, hsending, hmessages]
  split
  · exact ⟨by simp, fun m hm => by cases h : l.messages <;> simp [h, Config.noticeRoom] at hm⟩
  · exact ⟨rfl, nofun⟩

theorem goOnline_step (l : Link) (now : Ms) (limit acked : Nat) :
    (l.goOnline now limit acked).waitingAuths.Sublist l.waitingAuths
    ∧ (noticesFirst l.messages → noticesFirst (l.goOnline now limit acked).messages) := by
  unfold Link.goOnline
  dsimp only
  split
  · have h := (drain_step { l with online := true, timer := some (now, limit), forward := acked, listState := .draining }).trans
      (kick_step _)
    exact ⟨h.auths, h.notices⟩
  · have h := kick_step { l with online := true, timer := some (now, limit), forward := acked }
    exact ⟨h.auths, h.notices⟩

theorem linkOffline_places (hs : s.PlacesSuffice) : (linkOffline s).PlacesSuffice := by
  have hoff : (s.modLink (·.offline)).PlacesSuffice := by
    obtain ⟨hnone, hnotices⟩ := offline_waiting s.link
    exact places_modLink hs (by rw [hnone]; exact List.nil_sublist _) fun _ => hnotices
  have hwaits := endWaits_places hoff
  unfold linkOffline
  generalize endWaits (s.modLink (·.offline)) = u at hwaits
  have hbudget : ∀ n, DeskKept u (u.modCard fun c => { c with budget := n }) := fun n => .modCard _
  have happend : ∀ v, DeskKept v (appendLink false v) := fun v => (appendLink_work (P := fun _ => True) false v).deskKept
  have hcount : ∀ v : State, DeskKept v (v.modLink (·.countTransition)) := fun v => .mail rfl rfl
  exact ((hcount _).after ((happend _).after (hbudget _))).places hwaits

theorem linkOnline_places (hs : s.PlacesSuffice) : (linkOnline s).PlacesSuffice := by
  have hon : (s.modLink fun l => l.goOnline s.now s.supervisionLimit s.journal.acked).PlacesSuffice :=
    places_modLink hs (goOnline_step _ _ _ _).1 (goOnline_step _ _ _ _).2
  unfold linkOnline
  generalize (s.modLink fun l => l.goOnline s.now s.supervisionLimit s.journal.acked) = u at hon
  have hspent : DeskKept u (u.modCard fun c => { c with offlineTotal := 0 }) := .modCard _
  have hforward : ∀ v, DeskKept v (forwardNext v) := fun v => (forwardNext_work (P := fun _ => True) v).deskKept
  have happend : ∀ v, DeskKept v (appendLink true v) := fun v => (appendLink_work (P := fun _ => True) true v).deskKept
  have hcount : ∀ v : State, DeskKept v (v.modLink (·.countTransition)) := fun v => .mail rfl rfl
  exact ((hcount _).after ((happend _).after ((hforward _).after hspent))).places hon

theorem heartbeat_places (phase : Bool) (hs : s.PlacesSuffice) : (heartbeat phase s).PlacesSuffice := by
  have hsame : DeskKept s (s.modLink (·.modCounters fun c => { c with samePhase := satInc c.samePhase })) := .mail rfl rfl
  have hphase : DeskKept s (s.modLink fun l => { l with lastPhase := some phase }) := .mail rfl rfl
  have htimer : ∀ (x : Option (Ms × Nat)) (v : State), DeskKept v (v.modLink fun l => { l with timer := x }) := fun x v =>
    .mail rfl rfl
  unfold heartbeat
  exact places_ite (fun _ => hsame.places hs) fun _ =>
    places_ite (fun _ => (htimer _ _).places (hphase.places hs)) fun _ => linkOnline_places (hphase.places hs)

theorem waitOf_waits {ref : BitVec 16} (h : s.waitOf ref = some b) : (s.bay b).authWait.isSome = true := by
  have hfound := List.find?_some h
  split at hfound
  next w hw => rw [hw]; rfl
  next => cases hfound

theorem authReply_places (ref : BitVec 16) (denied : Bool) (authRef : BitVec 32) (hs : s.PlacesSuffice) :
    (authReply ref denied authRef s).PlacesSuffice := by
  unfold authReply
  split
  next hwait =>
    exact places_ite (fun _ => authFailed_places _ hs) fun _ => authGranted_places _ hs (waitOf_waits hwait)
  next =>
    have hcount : DeskKept s (s.modCard fun c => { c with lateReplies := satInc c.lateReplies }) := .modCard _
    exact ((notify_work (P := fun _ => True) _ _).deskKept.after hcount).places hs

end

end Sys2Proof.Proofs

/-! PROOFS. Every step keeps the places of the message queue and of the pricing queue (R46, R184): the line, the resets,
and the commands one by one. -/

namespace Sys2Proof.Proofs

open Sys2Proof Sys2Proof.Machine Sys2Proof.Laws

/-! ### The line -/

section
variable {s t : State} {b : BayNo}

/-- The messages, and which source's frame is on the line. -/
def outbox (l : Link) : List Message × Option Sending := (l.messages, l.sending)

theorem DeskKept.of_port {f : Link → Link} (h : outbox (f s.link) = outbox s.link) : DeskKept s (s.modLink f) :=
  .mail (congrArg Prod.fst h) (congrArg Prod.snd h)

theorem truncate_outbox (l : Link) : outbox l.truncate = outbox l := by
  unfold Link.truncate
  split <;> rfl

theorem offer_outbox (l : Link) (f : Frame) : outbox (l.offer f) = outbox l := by
  unfold Link.offer
  split <;> rfl

theorem receive_outbox (l : Link) (now : Ms) (c : Byte) : outbox (l.receive now c) = outbox l := by
  unfold Link.receive
  split
  · split
    · rfl
    · split <;> rfl
    · unfold Link.inFrame
      split
      · rfl
      · split
        · split
          · exact offer_outbox l _
          · rfl
        · rfl
  · rfl

theorem receiveAll_outbox (now : Ms) (bytes : List Byte) (l : Link) :
    outbox (bytes.foldl (fun l c => l.receive now c) l) = outbox l := by
  induction bytes generalizing l with
  | nil => rfl
  | cons c cs ih => exact (ih _).trans (receive_outbox l now c)

theorem stopBit_deskKept (now : Ms) (s : State) :
    DeskKept s (s.modLink fun l => if l.resetStage = .none then (l.truncate).idleWait now else l) := by
  refine .of_port ?_
  split
  · exact truncate_outbox _
  · rfl

/-! ### Polls -/

/-- A bay whose poll has been built. -/
def polledBay (y : Bay) (now : Ms) : Bay := { y.offer.1 with term := y.offer.1.term.polled true now }

theorem offer_desk (y : Bay) : desk y.offer.1 = desk y := by
  unfold Bay.offer
  split
  · rfl
  · split <;> rfl

theorem polled_slot {t : Terminal} {now : Ms} {c : CardSlot} (h : (t.polled true now).cardSlot = some c) :
    ∃ d, t.cardSlot = some d ∧ d.owner = c.owner ∧ d.command = c.command := by
  simp only [Terminal.polled, if_true, Option.map_eq_some_iff] at h
  obtain ⟨d, hd, rfl⟩ := h
  refine ⟨d, hd, ?_⟩
  split <;> exact ⟨rfl, rfl⟩

/-- A bay whose slot holds a command of the same owner stands as before. -/
theorem cardWork_of_slot {y : Bay} {t : Terminal} (hy : y.CardWorkStands)
    (h : ∀ c, t.cardSlot = some c → ∃ d, y.term.cardSlot = some d ∧ d.owner = c.owner ∧ d.command = c.command) :
    ({ y with term := t } : Bay).CardWorkStands :=
  ⟨hy.wait, hy.exchange, fun c hc ho hcmd => by
    obtain ⟨d, hd, howner, hcommand⟩ := h c hc
    exact hy.write d hd (howner.trans ho) (hcommand ▸ hcmd)⟩

theorem rotationPoll_places (b : BayNo) (hs : s.PlacesSuffice) : (rotationPoll b s).PlacesSuffice := by
  have hdesk := offer_desk (s.bay b)
  have hpolled : (polledBay (s.bay b) s.now).CardWorkStands :=
    cardWork_of_slot (cardWorkStands_of_desk hdesk (hs.cardWork b)) fun c hc => polled_slot hc
  have hstate := congrArg (·.2.2.1) hdesk
  have hwait := congrArg (·.2.2.2.1) hdesk
  have hbay : (s.modBay b fun _ => polledBay (s.bay b) s.now).PlacesSuffice :=
    places_modBay hs hpolled (.inr (congrArg (·.1) hdesk)) (.inr ⟨hstate, decide_eq_decide.mp hwait⟩)
  exact places_congr hbay rfl rfl rfl

theorem recoveryPoll_places (b : BayNo) (hs : s.PlacesSuffice) : (recoveryPoll b s).PlacesSuffice := by
  have hterm : (s.modTerm b fun t => { t.polled false s.now with recoveryStart := some s.now }).PlacesSuffice :=
    (modTerm_deskKept rfl).places hs
  exact places_congr hterm rfl rfl rfl

theorem cardTaken_places (k : Nat) (hs : s.PlacesSuffice) : (s.modTerm b fun t =>
    { t with cardSlot := t.cardSlot.map fun c => if c.mark = k then { c with taken := true } else c }).PlacesSuffice := by
  refine places_modBay hs (cardWork_of_slot (hs.cardWork b) fun c hc => ?_) (.inr rfl) (.inr ⟨rfl, Iff.rfl⟩)
  obtain ⟨d, hd, rfl⟩ := Option.map_eq_some_iff.mp hc
  refine ⟨d, hd, ?_⟩
  split <;> exact ⟨rfl, rfl⟩

theorem goodReply_places (x : BusExchange) (r : BusReply) (hs : s.PlacesSuffice) : (goodReply x r s).PlacesSuffice := by
  have hreached : (s.modTerm x.poll.bay fun t => t.reached x.poll).PlacesSuffice := (modTerm_deskKept rfl).places hs
  have hended : (endBusExchange (s.modTerm x.poll.bay fun t => t.reached x.poll)).PlacesSuffice :=
    places_congr hreached rfl rfl rfl
  exact places_congr ((terminalHeard_deskKept _ _).places hended) rfl rfl rfl

theorem badReply_places (b : BayNo) (hs : s.PlacesSuffice) : (miss b (countBadReply (endBusExchange s))).PlacesSuffice :=
  miss_places (places_congr hs rfl rfl rfl)

/-! ### Tables and banks -/

theorem modBank_requests (t : Tariff) (k : Bank) (f : BankTables → BankTables) : (t.modBank k f).requests = t.requests := by
  cases k <;> rfl

theorem modTarget_requests (t : Tariff) (g : Target) (f : Table → Table) : (t.modTarget g f).requests = t.requests := by
  unfold Tariff.modTarget
  split
  · rfl
  · rfl
  · exact modBank_requests _ _ _
  · rfl

theorem spoil_requests (t : Tariff) (g : Target) : (t.spoil g).requests = t.requests := by
  unfold Tariff.spoil
  split
  · rfl
  · rfl
  · exact modTarget_requests _ _ _

theorem abandon_requests (t : Tariff) : t.abandon.requests = t.requests := by
  unfold Tariff.abandon
  split
  next g _ _ => exact spoil_requests t g
  next => rfl

theorem openStream_requests (t : Tariff) (g : Target) (version count : Nat) (mode : Option PercentMode) :
    (t.openStream g version count mode).requests = t.requests := by
  unfold Tariff.openStream
  dsimp only
  split
  · rfl
  · rfl
  · exact modBank_requests _ _ _
  · exact modTarget_requests _ _ _

theorem store_requests (t : Tariff) (g : Target) (es : List (List Byte)) : (t.store g es).requests = t.requests :=
  modTarget_requests t g _

theorem modTariff_places {f : Tariff → Tariff} (h : (f s.tariff).requests = s.tariff.requests) (hs : s.PlacesSuffice) :
    (s.modTariff f).PlacesSuffice := places_congr hs rfl rfl h

theorem loadError_places (e : LoadError) (place : Option Place) (hs : s.PlacesSuffice) :
    (loadError e place s).PlacesSuffice := by
  have hload : ∀ {u : State} (f : Load → Load), u.PlacesSuffice → (u.modLoad f).PlacesSuffice := fun f hu =>
    places_congr hu rfl rfl rfl
  unfold loadError
  dsimp only
  split
  next g _ => exact hload _ (modTariff_places (f := fun t => t.spoil g) (spoil_requests _ g) hs)
  next => exact hload _ hs

theorem streamData_places (g : Target) (start : Nat) (bytes : List Byte) (hs : s.PlacesSuffice) :
    (streamData g start bytes s).state.PlacesSuffice := by
  unfold streamData
  split
  · exact hs
  next es _ =>
    split
    · exact hs
    · split
      · exact loadError_places _ _ hs
      · split
        · exact loadError_places _ _ hs
        · exact modTariff_places (f := fun t => t.store g es) (store_requests _ _ _) hs

theorem completeStream_places (g : Target) (check : BitVec 32) (hs : s.PlacesSuffice) :
    (completeStream g check s).PlacesSuffice := by
  have hidle : (s.modLoad Load.toIdle).PlacesSuffice := places_congr hs rfl rfl rfl
  unfold completeStream
  dsimp only
  generalize s.modLoad Load.toIdle = u at hidle
  split
  · exact places_congr hidle rfl rfl rfl
  · exact replaceSite_places _ hidle
  · exact places_congr hidle rfl rfl (modBank_requests _ _ _)
  · exact places_congr hidle rfl rfl (modTarget_requests _ _ _)

theorem closeStream_places (g : Target) (check : BitVec 32) (hs : s.PlacesSuffice) :
    (closeStream g check s).state.PlacesSuffice := by
  unfold closeStream
  dsimp only
  split
  · exact loadError_places _ _ hs
  · split
    · exact loadError_places _ _ hs
    · split
      · exact loadError_places _ _ hs
      · exact completeStream_places g check hs

theorem performSwitch_places (k : Bank) (hs : s.PlacesSuffice) : (performSwitch k s).PlacesSuffice := by
  have hactive : (s.modTariff fun t => { t with active := k }).PlacesSuffice := places_congr hs rfl rfl rfl
  exact (append_work (P := fun _ => True) _ _).deskKept.places hactive

theorem switchDue_places (hs : s.PlacesSuffice) : (switchDue s).PlacesSuffice := by
  have hcleared : (s.modTariff fun t => { t with scheduled := none }).PlacesSuffice := places_congr hs rfl rfl rfl
  unfold switchDue
  split
  · refine places_ite (fun _ => ?_) fun _ => hs
    dsimp only
    split
    · exact places_congr hcleared rfl rfl rfl
    · exact performSwitch_places _ (places_congr hcleared rfl rfl rfl)
  · exact hs

theorem bankSwitch_places (k : Bank) (v : Versions) (time : Option (Nat × Nat)) (hs : s.PlacesSuffice) :
    (bankSwitch k v time s).state.PlacesSuffice := by
  have hnow : (performSwitch k (s.modTariff fun t => { t with scheduled := none })).PlacesSuffice :=
    performSwitch_places k (places_congr hs rfl rfl rfl)
  unfold bankSwitch
  split
  · exact hs
  · exact hnow
  · split
    · split
      · exact hnow
      · exact places_congr hs rfl rfl rfl
    · exact hs

end

/-! ### The resets (R191, R208) -/

section
variable {s t : State}

/-- A bay without card work. -/
def Blank (y : Bay) : Prop := y.authWait = none ∧ y.card.phase = .idle ∧ y.term.cardSlot = none

/-- A port where no AUTH_REQ waits. -/
def Silent (l : Link) : Prop := l.waitingAuths = [] ∧ noticesFirst l.messages

theorem places_of_blank (hbays : ∀ b, Blank (s.bay b)) (hlink : Silent s.link) (hrequests : s.tariff.requests = []) :
    s.PlacesSuffice where
  cardWork b := by
    obtain ⟨hwait, hphase, hslot⟩ := hbays b
    exact ⟨fun hw => (Bool.false_ne_true (by rwa [hwait] at hw)).elim, fun hp => (hp hphase).elim,
      fun c hc => (Option.some_ne_none c (hc.symm.trans hslot)).elim⟩
  auths p hp := (List.not_mem_nil (hlink.1 ▸ hp)).elim
  oneAuth := by rw [hlink.1]; exact .nil
  notices := hlink.2
  requests r hr := (List.not_mem_nil (hrequests ▸ hr)).elim
  oneRequest := by rw [hrequests]; exact .nil

theorem rebuildBays_blank (s : State) (b : BayNo) : Blank ((rebuildBays s).bay b) :=
  forBays_each (R := fun _ _ y' => Blank y') (fun b s _ hc => State.bay_modBay_ne s hc _)
    (fun b s => by rw [State.bay_modBay_self]; exact ⟨rfl, rfl, rfl⟩) s b

theorem rebuildBays_tariff (s : State) : (rebuildBays s).tariff = s.tariff :=
  forBays_keeps State.tariff _ (fun _ _ => rfl) s

theorem rebuildBays_link (s : State) : (rebuildBays s).link = s.link := forBays_keeps State.link _ (fun _ _ => rfl) s

theorem restart_silent (l : Link) (rate : Nat) (now : Ms) : Silent (l.restart rate now) := by
  have hnone : (l.restart rate now).messages = [] := rfl
  exact ⟨by rw [Link.waitingAuths, hnone]; simp, nofun⟩

theorem linkResetFinish_places (s : State) : (linkResetFinish s).PlacesSuffice := by
  unfold linkResetFinish
  dsimp only
  generalize (if s.online then appendLink false (settleErase (s.modJournal (·.linkReset)))
    else settleErase (s.modJournal (·.linkReset))) = u
  have hblank : ∀ b, Blank ((rebuilt u).bay b) := rebuildBays_blank _
  have hrequests : (rebuilt u).tariff.requests = [] := congrArg Tariff.requests (rebuildBays_tariff _)
  show (askBoxes (journalKick (clearRequested
    { (rebuilt u).modLink fun l => l.restart (siteRate (rebuilt u).site) (rebuilt u).now with
      bus := ((rebuilt u).modLink fun l => l.restart (siteRate (rebuilt u).site) (rebuilt u).now).bus.restart }))).PlacesSuffice
  generalize rebuilt u = v at hblank hrequests
  have hport : (v.modLink fun l => l.restart (siteRate v.site) v.now).PlacesSuffice :=
    places_of_blank hblank (restart_silent _ _ _) hrequests
  generalize (v.modLink fun l => l.restart (siteRate v.site) v.now) = w at hport
  have hbus : ({ w with bus := w.bus.restart } : State).PlacesSuffice := places_congr hport rfl rfl rfl
  generalize ({ w with bus := w.bus.restart } : State) = x at hbus
  have hwork : Work .calm (fun _ => True) x (askBoxes (journalKick (clearRequested x))) :=
    (askBoxes_work _).after ((journalKick_work _).after (clearRequested_work x))
  exact hwork.deskKept.places hbus

theorem linkResetContinue_places (hs : s.PlacesSuffice) : (linkResetContinue s).PlacesSuffice :=
  places_ite (fun _ => linkResetFinish_places s) fun _ => hs

theorem linkResetRun_places (hs : s.PlacesSuffice) : (linkResetRun s).PlacesSuffice := by
  have hrunning : (s.modLink fun l => { l with resetStage := .running }).PlacesSuffice :=
    (DeskKept.of_port rfl).places hs
  have hhalted : ({ s with link := { s.link with resetStage := .running }, bus := s.bus.halt } : State).PlacesSuffice :=
    places_congr hrunning rfl rfl rfl
  exact linkResetContinue_places (forBays_invariant State.PlacesSuffice _
    (fun b u hu => places_ite (fun _ => bayReset_places hu) fun _ => hu) hhalted)

theorem afterReply_places (a : AfterReply) (hs : s.PlacesSuffice) : (afterReply a s).PlacesSuffice := by
  unfold afterReply
  split
  · exact hs
  · exact (DeskKept.of_port (f := fun l => l.changeRate _ _) (truncate_outbox _)).places hs
  · exact linkResetRun_places hs

theorem frameSent_places (hs : s.PlacesSuffice) : (match s.link.sending with
    | some _ => (forwardNext (afterReply s.link.afterSent (s.modLink Link.sent))).modLink Link.kick
    | none => s).PlacesSuffice := by
  split
  · have hsent : (s.modLink Link.sent).PlacesSuffice := places_modLink hs (sent_waiting _) sent_notices
    have hafter := afterReply_places s.link.afterSent hsent
    have hforward : ∀ u, DeskKept u (forwardNext u) := fun u => (forwardNext_work (P := fun _ => True) u).deskKept
    exact places_modLink ((hforward _).places hafter) (kick_step _).auths (kick_step _).notices
  · exact hs

theorem Work.silent {P : BayNo → Prop} (h : Work .calm P s t) (hs : Silent s.link) : Silent t.link := by
  generalize hm : Mode.calm = m at h
  induction h with
  | refl => exact hs
  | trans _ _ h₁ h₂ => exact h₂ (h₁ hs)
  | port h hc =>
    have hstep := hc (by rw [← hm]; decide)
    exact ⟨List.eq_nil_of_subset_nil (hs.1 ▸ hstep.auths.subset), hstep.notices hs.2⟩
  | requests hf => exact absurd (hm.trans hf) (by decide)
  | tears hf => exact absurd hm.symm hf
  | newTear hf => exact absurd hm.symm hf
  | close hf => exact absurd hm.symm hf
  | _ => exact hs

end

end Sys2Proof.Proofs

/-! PROOFS. Every step keeps the places of the message queue and of the pricing queue: start-up and the commands. -/

namespace Sys2Proof.Proofs

open Sys2Proof Sys2Proof.Machine Sys2Proof.Laws

/-! ### Start-up (R208) -/

section
variable {s t : State}

theorem losePower_silent (env : StartUp) (s : State) : Silent (losePower env s).link := ⟨by rfl, nofun⟩

theorem notify_silent (n : Notice) (hs : Silent s.link) : Silent (notify n s).link :=
  (notify_work (P := fun _ => True) n s).silent hs

theorem modBays_link (f : BayNo → State → Bay → Bay) (s : State) :
    (forBays (fun b u => u.modBay b (f b u)) s).link = s.link := forBays_keeps State.link _ (fun _ _ => rfl) s

theorem silent_ite {p : Prop} [Decidable p] (ht : Silent t.link) (hs : Silent s.link) : Silent (if p then t else s).link := by
  split
  · exact ht
  · exact hs

theorem startRetained_silent (held : Bool) (hs : Silent s.link) : Silent (startRetained held s).link := by
  have hlost : Silent (if held then s else loseArea s).link := by
    refine silent_ite hs (notify_silent _ ?_)
    rw [modBays_link fun _ _ => Bay.lose]
    exact hs
  exact silent_ite hlost (notify_silent _ hlost)

theorem startJournal_silent (held : Bool) (hs : Silent s.link) : Silent (startJournal held s).link := by
  have hscan : Silent ({ s with
      journal := s.journal.scan (if held then some s.journal.acked else none)
      link := { s.link with forward := (s.journal.scan (if held then some s.journal.acked else none)).acked } } : State).link := hs
  have hnoticed : ∀ (n : Option Notice) (u : State), Silent u.link → Silent (notify? n u).link := fun n u hu =>
    (notify?_work (P := fun _ => True) n u).silent hu
  exact silent_ite (notify_silent _ (hnoticed _ _ hscan)) (hnoticed _ _ hscan)

theorem startStore_silent (env : StartUp) (held : Bool) (hs : Silent s.link) : Silent (startStore env held s).link := by
  have hrate : Silent { s.link with rate := siteRate s.tariff.restart.verify.site.entries } := hs
  unfold startStore
  dsimp only
  split
  · rw [show ∀ u, (clearRequested u).link = u.link from modBays_link fun _ _ y => { y with box := y.box.restart },
      modBays_link fun b _ y => (y.takeSite _ b).sample env b]
    exact hrate
  · rw [modBays_link fun _ _ => Bay.boxFromLine, modBays_link fun b _ y => (y.takeSite _ b).sample env b]
    exact hrate

theorem foldl_silent {fs : List (State → State)} (h : ∀ f ∈ fs, ∀ u, Silent u.link → Silent (f u).link)
    (hs : Silent s.link) : Silent (fs.foldl (fun s f => f s) s).link := by
  induction fs generalizing s with
  | nil => exact hs
  | cons f fs ih =>
    exact ih (fun g hg => h g (List.mem_cons_of_mem f hg)) (h f List.mem_cons_self s hs)

theorem startWrites_silent {env : StartUp} {held : Bool} {f : State → State} (hf : f ∈ startWrites env held)
    (hs : Silent s.link) : Silent (f s).link := by
  unfold startWrites at hf
  rcases List.mem_append.mp hf with hf | hf
  · simp only [List.mem_cons, List.not_mem_nil, or_false] at hf
    rcases hf with rfl | rfl | rfl | rfl
    · exact startRetained_silent held hs
    · exact hs
    · exact startJournal_silent held hs
    · exact startStore_silent env held hs
  · obtain ⟨b, -, rfl⟩ := List.mem_map.mp hf
    exact (startBox_work held b s).silent hs

theorem afterWrites_silent (env : StartUp) (held : Bool) (s : State) :
    Silent (afterWrites (startWrites env held) env s).link :=
  foldl_silent (fun _ hf _ hu => startWrites_silent hf hu) (losePower_silent env s)

/-- Start-up has dropped every pricing request once it has checked the tables. -/
theorem afterWrites_requests (env : StartUp) (held : Bool) (s : State) :
    (afterWrites (startWrites env held) env s).tariff.requests = [] := by
  have hboxes : ∀ f ∈ allBays.map (startBox held), ∀ u, (f u).tariff = u.tariff := fun f hf u => by
    obtain ⟨b, -, rfl⟩ := List.mem_map.mp hf
    exact (startBox_work held b u).calm_units.1
  unfold afterWrites startWrites
  rw [List.foldl_append, foldl_keeps State.tariff _ hboxes, List.foldl_cons, List.foldl_cons, List.foldl_cons,
    List.foldl_cons, List.foldl_nil, startStore_tariff]
  rfl

theorem startBays_places (hlink : Silent s.link) (hrequests : s.tariff.requests = []) : (startBays s).PlacesSuffice := by
  have hrebuilt : (rebuildBays s).PlacesSuffice :=
    places_of_blank (rebuildBays_blank s) (by rw [rebuildBays_link]; exact hlink) (by rw [rebuildBays_tariff]; exact hrequests)
  have hunits : ({ rebuildBays s with card := (rebuildBays s).card.restart (rebuildBays s).site, bus := .reset } : State).PlacesSuffice :=
    places_congr hrebuilt rfl rfl rfl
  exact (askBoxes_work (m := .calm) _).deskKept.places hunits

theorem goDark_places (s : State) : (goDark s).PlacesSuffice :=
  places_of_blank (forBays_each (R := fun _ _ y' => Blank y') (fun b s _ hc => State.bay_modBay_ne s hc _)
    (fun b s => by rw [State.bay_modBay_self]; exact ⟨rfl, rfl, rfl⟩) s) ⟨by rfl, nofun⟩ rfl

theorem powerOn_places (env : StartUp) (s : State) : (powerOn env s).PlacesSuffice := by
  have hseal : ∀ u : State, u.PlacesSuffice → u.seal.PlacesSuffice := fun u h => places_congr h rfl rfl rfl
  have hup : ∀ u : State, u.PlacesSuffice → ({ u.seal with up := true } : State).PlacesSuffice := fun u h =>
    places_congr h rfl rfl rfl
  cases hc : env.cutAfter with
  | none =>
    rw [powerOn_whole s hc]
    exact hup _ (startBays_places (afterWrites_silent env _ s) (afterWrites_requests env _ s))
  | some n =>
    cases n with
    | zero => rw [powerOn_cut_zero s hc]; exact goDark_places _
    | succ n => rw [powerOn_cut s n.succ_pos hc]; exact hseal _ (goDark_places _)

theorem recordWritten_places (w : Writing) (hs : s.PlacesSuffice) : (recordWritten w s).PlacesSuffice := by
  have hwritten : (shiftQueue (s.modJournal (·.program w))).PlacesSuffice :=
    (shiftQueue_work (m := .calm) _).deskKept.places (places_congr hs rfl rfl rfl)
  unfold recordWritten
  dsimp only
  generalize shiftQueue (s.modJournal (·.program w)) = u at hwritten
  have hcompleted : (match s.journal.queue.head? with
      | some r => complete r w.sequence u
      | none => u).PlacesSuffice := by
    split
    · exact complete_places _ _ hwritten
    · exact hwritten
  refine linkResetContinue_places (forBays_invariant State.PlacesSuffice _ (fun b v hv => releaseReset_places hv) ?_)
  exact ((forwardNext_work (P := fun _ => True) _).deskKept.after (journalKick_work (P := fun _ => True) _).deskKept).places hcompleted

theorem supplyChanged_places (asserted : Bool) (hs : s.PlacesSuffice) :
    (if s.time.supply.accepted = asserted then s
      else
        let s := { s with time := { s.time with supply := .start asserted } }
        let s := settleErase (forBays recomputeMask s)
        if asserted then s else forBays unhold s).PlacesSuffice := by
  have htime : ({ s with time := { s.time with supply := .start asserted } } : State).PlacesSuffice := places_congr hs rfl rfl rfl
  refine places_ite (fun _ => hs) fun _ => ?_
  dsimp only
  generalize ({ s with time := { s.time with supply := .start asserted } } : State) = u at htime
  have hmasks : Work .calm (fun _ => True) u (settleErase (forBays recomputeMask u)) :=
    (settleErase_work _).after (.forBays (fun b v => recomputeMask_work trivial v) u)
  have hsettled := hmasks.deskKept.places htime
  exact places_ite (fun _ => hsettled) fun _ => forBays_invariant State.PlacesSuffice _ (fun b v hv => unhold_places hv) hsettled

end

end Sys2Proof.Proofs

/-! PROOFS. Every step keeps the places of the message queue and of the pricing queue (R46, R184): the commands one by one,
and how many messages and requests wait at most. -/

namespace Sys2Proof.Proofs

open Sys2Proof Sys2Proof.Machine Sys2Proof.Laws

/-! ### The commands -/

/-- A command that answers a state whose places suffice. -/
def KeepsPlaces (c : Instr) (s : State) : Prop := ∃ t, exec c s = .next t ∧ t.PlacesSuffice

section
variable {c : Instr} {s t : State}

theorem KeepsPlaces.next (e : exec c s = .next t) (h : t.PlacesSuffice) : KeepsPlaces c s := ⟨t, e, h⟩

theorem KeepsPlaces.done (e : exec c s = Machine.done s t) (h : t.PlacesSuffice) : KeepsPlaces c s :=
   ⟨_, e, places_congr h rfl rfl rfl⟩

theorem KeepsPlaces.calm {P : BayNo → Prop} (e : exec c s = .next t) (hs : s.PlacesSuffice) (h : Work .calm P s t) :
    KeepsPlaces c s := .next e (h.deskKept.places hs)

theorem KeepsPlaces.frame {isKind : Frame → Bool} {act : Frame → State → Answer} (hs : s.PlacesSuffice)
    (e : exec c s = .next (answerFrame isKind act s)) (h : ∀ f u, u.PlacesSuffice → (act f u).state.PlacesSuffice) :
    KeepsPlaces c s := .next e (answerFrame_places h hs)

theorem KeepsPlaces.frameDone {isKind : Frame → Bool} {act : Frame → State → Answer} (hs : s.PlacesSuffice)
    (e : exec c s = Machine.done s (answerFrame isKind act s)) (h : ∀ f u, u.PlacesSuffice → (act f u).state.PlacesSuffice) :
    KeepsPlaces c s := .done e (answerFrame_places h hs)

theorem KeepsPlaces.query {isKind : Frame → Bool} {act : Frame → State → Answer} (e : exec c s = .next (answerFrame isKind act s)) (hs : s.PlacesSuffice)
    (h : ∀ f u, (act f u).state = u) : KeepsPlaces c s :=
  .frame hs e fun f u hu => by rw [h]; exact hu

theorem KeepsPlaces.section {α : Type} {f : ReplySection → Option α} {act : BayNo → α → State → State} (hs : s.PlacesSuffice)
    (e : exec c s = Machine.done s (takeSection f act s)) (h : ∀ b a u, u.PlacesSuffice → (act b a u).PlacesSuffice) :
    KeepsPlaces c s := .done e (takeSection_places h hs)

theorem whenUp_places (hs : s.PlacesSuffice) (h : t.PlacesSuffice) : (s.whenUp t).PlacesSuffice :=
  places_ite (fun _ => h) fun _ => hs

theorem page_state (n : Nat) (data : List Byte) (s : State) : (page n data s).state = s := by
  unfold page
  split <;> rfl

theorem bayQuery_state (data : State → BayNo → List Byte) (f : Frame) (s : State) : (bayQuery data f s).state = s := by
  unfold bayQuery
  split
  · split
    next b _ => exact page_state _ (data s b) s
    next => rfl
  · rfl

theorem unitQuery_state (data : State → List Byte) (f : Frame) (s : State) : (unitQuery data f s).state = s := by
  unfold unitQuery
  split
  · exact page_state _ _ s
  · rfl

theorem eraseSucceeded_places (e : Erase) (hs : s.PlacesSuffice) : (eraseSucceeded e s).PlacesSuffice := by
  have hdone : (s.modJournal (·.eraseDone e.block)).PlacesSuffice := places_congr hs rfl rfl rfl
  have hleft : ∀ u, DeskKept u (leaveFull u) := fun u => (leaveFull_work (P := fun _ => True) u).deskKept
  exact (hleft _).places ((notify?_work (P := fun _ => True) _ _).deskKept.places hdone)

theorem eraseFailed_places (e : Erase) (hs : s.PlacesSuffice) : (eraseFailed e s).PlacesSuffice := by
  have hfailed : (s.modJournal (·.eraseFailed e s.now)).PlacesSuffice := places_congr hs rfl rfl rfl
  unfold eraseFailed
  dsimp only
  split
  · exact (notify_work (P := fun _ => True) _ _).deskKept.places hfailed
  · exact hfailed

/-- What an answer of the command in the card slot leads to, once the slot is empty. -/
theorem slotAnswered_places {b : BayNo} {act : CardSlot → State → State}
    (h : ∀ {c : CardSlot} {u : State}, u.PlacesSuffice → SlotStands c b u → (act c u).PlacesSuffice) (k : Nat)
    (hs : s.PlacesSuffice) : (answerSlot k act b s).PlacesSuffice :=
  answerSlot_places k hs fun _ hc => h (emptySlot_places hs) (emptySlot_stands (slotStands_of_slot hs hc))

theorem modJournal_places (f : Journal → Journal) (hs : s.PlacesSuffice) : (s.modJournal f).PlacesSuffice :=
  places_congr hs rfl rfl rfl

end

theorem exec_keepsPlaces (c : Instr) {s : State} (hs : s.PlacesSuffice) : KeepsPlaces c s := by
  have hformat : ∀ {u : State}, u.PlacesSuffice → (formatError u).PlacesSuffice := fun {u} hu =>
    (formatError_deskKept u).places hu
  cases c
  case powerOnReset env => exact .next rfl (powerOn_places env s)
  case frameReceived bytes => exact .next rfl ((DeskKept.of_port (receiveAll_outbox _ _ _)).places hs)
  case characterReceived x => exact .next rfl ((DeskKept.of_port (receive_outbox _ _ _)).places hs)
  case characterWithoutStopBit => exact .next rfl ((stopBit_deskKept _ s).places hs)
  case idleGapExpiry => exact .next rfl (places_ite (fun _ => (DeskKept.of_port rfl).places hs) fun _ => hs)
  case frameGapExpiry =>
    exact .next rfl (places_ite (fun _ => (DeskKept.of_port (f := fun l => { l.truncate with rx := .hunt, rxBytes := [] })
      (truncate_outbox s.link)).places hs) fun _ => hs)
  case badKind => exact .frame hs rfl fun _ _ hu => hu
  case heartbeat =>
    refine .done rfl (takeFrame_places (fun f u hu => ?_) hs)
    split
    · exact places_ite (fun _ => heartbeat_places _ hu) fun _ => hformat hu
    · exact hformat hu
  case ack =>
    exact .done rfl (takeFrame_places (fun f u hu =>
      places_ite (fun _ => modJournal_places _ hu) fun _ => hformat hu) hs)
  case authReply =>
    exact .done rfl (takeFrame_places (fun f u hu =>
      places_ite (fun _ => authReply_places _ _ _ hu) fun _ => hformat hu) hs)
  case tableOpen =>
    refine .frame hs rfl fun f u hu => ofLength_places (fun body v hv => ?_) 7 f hu
    split
    · exact hv
    next g _ =>
      exact refuseOr_places (fun hv => modTariff_places (f := fun t => t.abandon.openStream g _ _ _)
        ((openStream_requests _ g _ _ _).trans (abandon_requests _)) hv) _ hv
  case tableData =>
    refine .frame hs rfl fun f u hu => ?_
    split
    · exact hu
    · split
      · exact streamData_places _ _ _ hu
      · exact hu
      · exact hu
  case tableClose =>
    refine .frameDone hs rfl fun f u hu => ofLength_places (fun body v hv => ?_) 4 f hu
    split
    · exact closeStream_places _ _ hv
    · exact hv
    · exact hv
  case loadClear =>
    refine .frame hs rfl fun f u hu => ofLength_places (fun body v hv => ?_) 0 f hu
    dsimp only [accept]
    split
    · exact modTariff_places (abandon_requests _) hv
    · exact places_congr hv rfl rfl rfl
    · exact hv
  case bankSwitch =>
    refine .frame hs rfl fun f u hu => ofLength_places (fun body v hv => ?_) 18 f hu
    split
    · exact bankSwitch_places _ _ _ hv
    · exact bankSwitch_places _ _ _ hv
    · exact hv
  case scheduledSwitchDue => exact .next rfl (switchDue_places hs)
  case denyAdd =>
    refine .frame hs rfl fun f u hu => ofLength_places (fun body v hv => refuseOr_places (fun hv => ?_) _ hv) 4 f hu
    dsimp only
    split
    · exact hv
    · split
      · exact hv
      · exact places_congr hv rfl rfl rfl
  case denyRemove =>
    refine .frame hs rfl fun f u hu => ofLength_places (fun body v hv => refuseOr_places (fun hv => ?_) _ hv) 4 f hu
    dsimp only
    split
    · exact places_congr hv rfl rfl rfl
    · exact hv
  case setTime =>
    refine .frameDone hs rfl fun f u hu => ofLength_places (fun body v hv => ?_) 5 f hu
    split
    · exact switchDue_places (places_congr hv rfl rfl rfl)
    · exact hv
  case clockSecond => exact .next rfl (places_congr hs rfl rfl rfl)
  case queryBay => exact .query rfl hs (bayQuery_state _)
  case queryTubes => exact .query rfl hs (bayQuery_state _)
  case queryBox => exact .query rfl hs (bayQuery_state _)
  case queryLoad => exact .query rfl hs (unitQuery_state _)
  case queryJournal => exact .query rfl hs (unitQuery_state _)
  case queryTear => exact .query rfl hs (unitQuery_state _)
  case queryLink => exact .query rfl hs (unitQuery_state _)
  case queryIdent => exact .query rfl hs (unitQuery_state _)
  case bayControlInService => exact .frameDone hs rfl fun f u hu => bayControl_places (fun b v hv => inService_places hv) f hu
  case bayControlOutOfService =>
    exact .frameDone hs rfl fun f u hu => bayControl_places (fun b v hv => joinCause_places .server hv) f hu
  case bayControlReset => exact .frameDone hs rfl fun f u hu => bayControl_places (fun b v hv => bayReset_places hv) f hu
  case coinOff => exact .frameDone hs rfl fun f u hu => bayControl_places (fun b v hv =>
      (coinOff_work (P := (· = b)) rfl v).deskKept.places hv) f hu
  case coinOn => exact .frameDone hs rfl fun f u hu => bayControl_places (fun b v hv =>
      (coinOn_work (P := (· = b)) rfl v).deskKept.places hv) f hu
  case tubeSet =>
    refine .frameDone hs rfl fun f u hu => ofLength_places (fun body v hv => ?_) 4 f hu
    split
    · exact hv
    · split
      · exact tubeSet_places _ _ _ hv
      · exact hv
    · exact hv
  case hold =>
    refine .frame hs rfl fun f u hu => ?_
    split
    · exact hu
    · split
      · dsimp only
        split
        · exact places_congr hu rfl rfl rfl
        · exact hu
      · exact hu
  case releaseHold =>
    refine .frame hs rfl fun f u hu => ?_
    split
    · exact hu
    · split
      · exact places_congr hu rfl rfl rfl
      · exact hu
  case noticeMask => exact .frame hs rfl fun f u hu =>
      ofLength_places (fun body v hv =>
        (DeskKept.of_port (f := fun l => { l with noticeMask := BitVec.ofNat 13 (beNat body) }) rfl).places hv) 2 f hu
  case linkReset => exact .frame hs rfl fun f u hu =>
      ofLength_places (fun body v hv => (DeskKept.of_port (f := fun l => { l with rxBuffer := [], resetStage := .replyPlaced })
        rfl).places hv) 0 f hu
  case frameSent => exact .done rfl (frameSent_places hs)
  case supervisionExpiry =>
    refine .done rfl ?_
    split
    · exact places_ite (fun _ => linkOffline_places hs) fun _ => hs
    · exact hs
  case pollStart =>
    refine .next rfl ?_
    split
    · exact rotationPoll_places _ hs
    · exact hs
  case recoveryPollDue =>
    refine .next rfl ?_
    split
    · exact recoveryPoll_places _ hs
    · exact hs
  case replyReceived =>
    refine .done rfl ?_
    split
    · split
      · exact places_ite (fun _ => goodReply_places _ _ hs) fun _ => badReply_places _ hs
      · exact badReply_places _ hs
    · exact hs
  case replyWindowExpiry =>
    refine .done rfl ?_
    split
    · exact places_ite (fun _ => miss_places (places_congr hs rfl rfl rfl)) fun _ => hs
    · exact hs
  case replyGapExpiry =>
    refine .done rfl ?_
    split
    · exact badReply_places _ hs
    · exact hs
  case lineHeld =>
    refine .next rfl (whenUp_places hs ?_)
    split
    · exact places_congr hs rfl rfl rfl
    · exact hs
  case breakEnd =>
    refine .next rfl ?_
    split
    · exact places_ite (fun _ => places_congr hs rfl rfl rfl) fun _ => hs
    · exact hs
  case recoveryWaitEnd =>
    refine .next rfl ?_
    split
    · exact places_ite (fun _ => places_congr hs rfl rfl rfl) fun _ => hs
    · exact hs
  case select => exact .section hs rfl fun b q u hu => select_places q hu
  case confirm => exact .section hs rfl fun b p u hu => confirm_places _ _ hu
  case cancel => exact .section hs rfl fun b _ u hu => cancel_places hu
  case reprint =>
    refine .section hs rfl fun b _ u hu => ?_
    have hclear := (clearOverlay_deskKept b u).places hu
    exact places_ite (fun _ => reprint_places hclear) fun _ => hclear
  case cardCommandTaken => exact .next rfl (takeSection_places (fun b k u hu => cardTaken_places k hu) hs)
  case cardAnswerCard => exact .section hs rfl fun b p u hu => slotAnswered_places (fun hv hc => cardRead_places _ hv hc) _ hu
  case cardAnswerNoCard => exact .section hs rfl fun b p u hu => slotAnswered_places (fun hv hc => commandExpired_places hv hc) _ hu
  case writeAnswerOk => exact .section hs rfl fun b p u hu => slotAnswered_places (fun hv hc => writeOk_places _ hv hc) _ hu
  case writeAnswerRefused => exact .section hs rfl fun b p u hu => slotAnswered_places (fun hv _ => writeNo_places _ hv) _ hu
  case cardCommandTimeout bay =>
    refine .done rfl ?_
    split
    next c hc =>
      split
      · exact places_ite (fun _ => commandExpired_places (emptySlot_places hs) (emptySlot_stands (slotStands_of_slot hs hc)))
          fun _ => hs
      · exact hs
    · exact hs
  case presentationLimitExpiry bay =>
    refine .done rfl ?_
    split
    · exact places_ite (fun _ => cancelWith_places _ hs) fun _ => hs
    · exact hs
  case authWaitExpiry bay =>
    refine .done rfl ?_
    split
    · exact places_ite (fun _ => authFailed_places _ hs) fun _ => hs
    · exact hs
  case tearExpiry =>
    refine .done rfl (whenUp_places hs ?_)
    split
    · exact (closeTear_deskKept _ _ _ _ s).places hs
    · exact hs
  case contextTimeout bay =>
    refine .done rfl ?_
    split
    · exact places_ite (fun _ => timeout_places hs) fun _ => hs
    · exact hs
  case evaluationEnd => exact .done rfl (evaluated_places hs)
  case coinLineChange bay high =>
    exact .next rfl (places_ite (fun _ => hs) fun _ => (modCoin_work (P := (· = bay)) rfl s _).deskKept.places hs)
  case filteredFallingEdge bay =>
    exact .next rfl (whenUp_places hs (places_ite (fun _ => (modCoin_work (P := (· = bay)) rfl s _).deskKept.places hs) fun _ => hs))
  case filteredRisingEdge bay =>
    exact .next rfl (whenUp_places hs (places_ite (fun _ => (modCoin_work (P := (· = bay)) rfl s _).deskKept.places hs) fun _ => hs))
  case trainEnd bay =>
    exact .done rfl (places_ite (fun _ => takeCoin_places _ _ ((modCoin_work (P := (· = bay)) rfl s _).deskKept.places hs)) fun _ => hs)
  case lineStuck bay =>
    refine .done rfl (whenUp_places hs ?_)
    split
    · exact places_ite (fun _ => declareFault_places hs) fun _ => hs
    · exact hs
  case faultEnd bay =>
    refine .done rfl (whenUp_places hs ?_)
    split
    · exact places_ite (fun _ => (endFault_work (P := (· = bay)) rfl s).deskKept.places hs) fun _ => hs
    · exact hs
  case escrowPulseEnd bay =>
    refine .done rfl ?_
    split
    · exact places_ite (fun _ => places_ite (fun _ => (startPulse_work (P := (· = bay)) rfl s).deskKept.places hs)
        fun _ => (releaseEscrow_work (P := (· = bay)) rfl s).deskKept.places hs) fun _ => hs
    · exact hs
  case payoutSense bay tube =>
    have hextra := (extraCoin_work (P := (· = bay)) rfl tube s).deskKept.places hs
    refine .done rfl (whenUp_places hs ?_)
    split
    · exact places_ite (fun _ => answerDrive_places tube hs) fun _ => hextra
    · exact hextra
  case driveTimeout bay =>
    refine .done rfl ?_
    split
    · exact places_ite (fun _ => jam_places _ hs) fun _ => hs
    · exact hs
  case serviceDoorChange bay isOpen =>
    refine .done rfl (whenUp_places hs (places_ite (fun _ => hs) fun _ => ?_))
    exact (notify_work (P := fun _ => True) _ _).deskKept.places
      (setCause_places _ _ ((modLines_work (P := (· = bay)) rfl s _).deskKept.places hs))
  case boxDoorChange bay isOpen =>
    refine .next rfl (whenUp_places hs (places_ite (fun _ => hs) fun _ => ?_))
    exact ((notify_work (P := (· = bay)) _ _).after (modLines_work (P := (· = bay)) rfl s _)).deskKept.places hs
  case boxRemoved bay =>
    refine .done rfl (whenUp_places hs (places_ite (fun _ => ?_) fun _ => hs))
    exact boxRemoved_places ((modLines_work (P := (· = bay)) rfl s _).deskKept.places hs)
  case boxInserted bay =>
    refine .done rfl (whenUp_places hs (places_ite (fun _ => hs) fun _ => ?_))
    exact ((boxInserted_work (P := (· = bay)) rfl _).after (modLines_work (P := (· = bay)) rfl s _)).deskKept.places hs
  case supplyWarningChange asserted => exact .done rfl (whenUp_places hs (supplyChanged_places asserted hs))
  case auditSwitchChange asserted => exact .next rfl (whenUp_places hs (places_congr hs rfl rfl rfl))
  case recordWriteEnd =>
    refine .done rfl ?_
    split
    · exact recordWritten_places _ hs
    · exact hs
  case eraseBegin =>
    refine .next rfl (whenUp_places hs ?_)
    split
    · exact modJournal_places _ hs
    · exact hs
  case eraseEnd =>
    refine .next rfl ?_
    split
    · exact places_ite (fun _ => places_ite (fun _ => eraseSucceeded_places _ hs) fun _ => eraseFailed_places _ hs) fun _ => hs
    · exact hs
  case printDelivered => exact .section hs rfl fun b p u hu => delivered_places _ _ hu
  case printerStatus => exact .section hs rfl fun b p u hu => printerStatus_places _ _ _ hu
  case noProgressLimit bay =>
    exact .done rfl (places_ite (fun _ => receiptTaken?_places ((cutJob_work (P := (· = bay)) rfl s).deskKept.places hs)) fun _ => hs)

/-- A step leaves the places sufficient. -/
theorem step_places {s t : State} (hs : s.PlacesSuffice) (e : step s = .next t) : t.PlacesSuffice := by
  unfold step at e
  cases hp : s.pending with
  | nil =>
    rw [hp] at e
    cases e
    exact places_congr hs rfl rfl rfl
  | cons c rest =>
    rw [hp] at e
    have hrest : ({ s with pending := rest } : State).PlacesSuffice := places_congr hs rfl rfl rfl
    obtain ⟨u, eu, hu⟩ := exec_keepsPlaces c hrest
    cases eu.symm.trans e
    exact hu

/-! ### How many wait -/

/-- A list of bays without a bay twice has 8 members at most. -/
theorem bays_length_le {l : List BayNo} (h : l.Nodup) : l.length ≤ 8 := by
  simpa using h.length_le_card

theorem filterMap_length_of_isSome {α β : Type} {f : α → Option β} {l : List α} (h : ∀ a ∈ l, (f a).isSome = true) :
    (l.filterMap f).length = l.length := by
  induction l with
  | nil => rfl
  | cons a l ih =>
    obtain ⟨x, hx⟩ := Option.isSome_iff_exists.mp (h a List.mem_cons_self)
    rw [List.filterMap_cons_some hx, List.length_cons, List.length_cons, ih fun y hy => h y (List.mem_cons_of_mem a hy)]

/-- Behind the notices' 8 places stand AUTH_REQs that have not begun, one to a bay. -/
theorem messages_length_le {s : State} (hs : s.PlacesSuffice) : s.link.messages.length ≤ 16 := by
  have hbehind : (s.link.messages.drop Config.noticeRoom).length ≤ s.link.waitingAuths.length := by
    rw [← filterMap_length_of_isSome hs.notices]
    unfold Link.waitingAuths
    refine (List.Sublist.filterMap _ ?_).length_le
    split
    · exact List.drop_sublist_drop_left _ (by decide)
    · exact List.drop_sublist _ _
  have hbays : s.link.waitingAuths.length ≤ 8 := by
    have := bays_length_le hs.oneAuth
    rwa [List.length_map] at this
  rw [List.length_drop, show Config.noticeRoom = 8 from rfl] at hbehind
  omega

theorem queue_length_le {s : State} (hs : s.PlacesSuffice) : s.tariff.queue.length ≤ 8 := by
  have hall := bays_length_le hs.oneRequest
  rw [List.length_map, Tariff.requests, List.length_append] at hall
  omega

/-- Settles O8: an authorisation wait belongs to its bay's exchange, and a request to its bay's context in PRICING, so
that neither queue holds two of a bay. -/
theorem everyStepKeepsQueuePlaces : Obligations.EveryStepKeepsQueuePlaces := by
  unfold Obligations.EveryStepKeepsQueuePlaces
  intro s t hs e
  have ht := step_places hs e
  exact ⟨ht, messages_length_le ht, queue_length_le ht⟩

end Sys2Proof.Proofs

/-! PROOFS. The held line, HOLD and RELEASE_HOLD, and the card slot's mark (R111, R164, R165, R198, R201). -/

namespace Sys2Proof.Proofs

open Sys2Proof Sys2Proof.Machine Sys2Proof.Laws

/-! ### The held line (R201) -/

/-- Settles O36: each command's guard holds, and its answer is the bus with one field changed. -/
theorem heldLineIsBrokenThenWaits : Obligations.HeldLineIsBrokenThenWaits := by
  unfold Obligations.HeldLineIsBrokenThenWaits
  refine fun s => ⟨fun hup hexchange hrecovery => ?_, fun m hm hpassed => ?_, fun m hm hpassed => ?_⟩
  · refine congrArg Host.Outcome.next ?_
    refine (State.whenUp_of_up hup _).trans ?_
    split
    next => rfl
    next hne => exact absurd hrecovery (hne hexchange)
  · refine congrArg Host.Outcome.next ?_
    dsimp only
    rw [hm]
    exact if_pos (decide_eq_true hpassed)
  · refine congrArg Host.Outcome.next ?_
    dsimp only
    rw [hm]
    exact if_pos (decide_eq_true hpassed)

/-! ### The hold list (R164, R165) -/

theorem mem_withHolds {i : Nat} (held blocks : List Nat) : i ∈ withHolds held blocks ↔ i ∈ held ∨ i ∈ blocks := by
  unfold withHolds
  induction blocks generalizing held with
  | nil => simp
  | cons k ks ih =>
    rw [List.foldl_cons, ih, List.mem_cons]
    split
    next hk =>
      have hmem : k ∈ held := List.contains_iff_mem.mp hk
      constructor
      · exact fun h => h.elim .inl fun h => .inr (.inr h)
      · rintro (h | rfl | h)
        exacts [.inl h, .inl hmem, .inr h]
    next => rw [List.mem_append, List.mem_singleton, or_assoc]

section
variable {s : State} {f : Frame} {isKind : Frame → Bool} {act : Frame → State → Answer} {out : Out}

/-- An accepted frame whose owner's rule changes the hold list alone. -/
theorem holds_accepted (hnext : s.TakesNext f) (hk : isKind f = true) (l : List Nat)
    (ha : act f (dropHead s) = accept ((dropHead s).modJournal fun j => { j with holdList := l }))
    (he : out = .next (answerFrame isKind act s)) :
    ∃ t, out = .next t ∧ t = { s with link := t.link, journal := { s.journal with holdList := t.journal.holdList } }
      ∧ Replied s t f .accepted [] ∧ t.journal.holdList = l := by
  rw [he, answerFrame_eq act hnext hk, ha]
  exact ⟨_, rfl, rfl, replied_of_unchanged s f .accepted [], rfl⟩

theorem hold_answers {bs : List Nat} (hnext : s.TakesNext f) (hbs : blocksOf f.body = some bs) (hk : f.kind = 0x24#8) :
    ∃ t, exec .hold s = .next t
      ∧ t = { s with link := t.link, journal := { s.journal with holdList := t.journal.holdList } }
      ∧ (bs.all s.journal.holdable = true → (withHolds s.journal.holdList bs).length ≤ 8 →
          Replied s t f .accepted [] ∧ ∀ i, i ∈ t.journal.holdList ↔ i ∈ s.journal.holdList ∨ i ∈ bs)
      ∧ (bs.all s.journal.holdable = true → 8 < (withHolds s.journal.holdList bs).length →
          Replied s t f .holdFull [] ∧ t.journal = s.journal)
      ∧ (bs.all s.journal.holdable = false → Replied s t f .notHoldable [] ∧ t.journal = s.journal) := by
  by_cases hall : bs.all s.journal.holdable = true
  · by_cases hroom : (withHolds s.journal.holdList bs).length ≤ 8
    · obtain ⟨t, e, ht, hreplied, hlist⟩ := holds_accepted hnext (frame_is hk) (withHolds s.journal.holdList bs)
        (by rw [hbs]; exact (if_pos hall).trans (if_pos hroom)) (rfl : exec .hold s = _)
      refine ⟨t, e, ht, fun _ _ => ⟨hreplied, fun i => ?_⟩, fun _ h => absurd hroom h.not_ge, fun h => ?_⟩
      · rw [hlist, mem_withHolds]
      · exact absurd hall (by rw [h]; decide)
    · obtain ⟨t, e, ht, hreplied⟩ := portReply_next (status := .holdFull) (data := []) hnext (frame_is hk)
        (by rw [hbs]; exact (if_pos hall).trans (if_neg hroom)) (rfl : exec .hold s = _)
      have hjournal : t.journal = s.journal := by rw [ht]
      exact ⟨t, e, by rw [ht], fun _ h => absurd h hroom, fun _ _ => ⟨hreplied, hjournal⟩,
        fun h => absurd hall (by rw [h]; decide)⟩
  · obtain ⟨t, e, ht, hreplied⟩ := portReply_next (status := .notHoldable) (data := []) hnext (frame_is hk)
      (by rw [hbs]; exact if_neg hall) (rfl : exec .hold s = _)
    have hjournal : t.journal = s.journal := by rw [ht]
    exact ⟨t, e, by rw [ht], fun h => absurd h hall, fun h => absurd h hall, fun _ => ⟨hreplied, hjournal⟩⟩

theorem releaseHold_answers {bs : List Nat} (hnext : s.TakesNext f) (hbs : blocksOf f.body = some bs)
    (hk : f.kind = 0x25#8) :
    ∃ t, exec .releaseHold s = .next t
      ∧ t = { s with link := t.link, journal := { s.journal with holdList := t.journal.holdList } }
      ∧ (s.time.audit.accepted = true →
          Replied s t f .accepted [] ∧ ∀ i, i ∈ t.journal.holdList ↔ i ∈ s.journal.holdList ∧ i ∉ bs)
      ∧ (s.time.audit.accepted = false → Replied s t f .auditLocked [] ∧ t.journal = s.journal) := by
  by_cases haudit : s.time.audit.accepted = true
  · obtain ⟨t, e, ht, hreplied, hlist⟩ := holds_accepted hnext (frame_is hk) (s.journal.holdList.filter fun i => !bs.contains i)
      (by rw [hbs]; exact if_pos haudit) (rfl : exec .releaseHold s = _)
    refine ⟨t, e, ht, fun _ => ⟨hreplied, fun i => ?_⟩, fun h => absurd haudit (by rw [h]; decide)⟩
    rw [hlist, List.mem_filter]
    simp
  · obtain ⟨t, e, ht, hreplied⟩ := portReply_next (status := .auditLocked) (data := []) hnext (frame_is hk)
      (by rw [hbs]; exact if_neg haudit) (rfl : exec .releaseHold s = _)
    exact ⟨t, e, by rw [ht], fun h => absurd h haudit, fun _ => ⟨hreplied, by rw [ht]⟩⟩

end

/-- Settles O31: of either frame the checks in their order. -/
theorem holdsChangeNamedBlocksOnly : Obligations.HoldsChangeNamedBlocksOnly := by
  unfold Obligations.HoldsChangeNamedBlocksOnly
  exact fun s f bs hnext hbs => ⟨hold_answers hnext hbs, releaseHold_answers hnext hbs⟩

end Sys2Proof.Proofs

/-! PROOFS. What an operation at one bay makes of the bay's record, but for what its terminal is shown. -/

namespace Sys2Proof.Proofs

open Sys2Proof Sys2Proof.Machine Sys2Proof.Laws

/-! ### A bay's record but for what its terminal is shown -/

/-- A terminal's record without its display and its tone. -/
def bare (t : Terminal) : Terminal :=
  { t with
    screen := Terminal.reset.screen, screenHold := .none, displayPending := false, displayOnLine := false
    tone := .none, tonePending := false, toneOnLine := false }

/-- A bay's record without its display, hold cause, tone and acceptance mask. -/
def core (y : Bay) : Bay :=
  { y with mask := [], ctx := { y.ctx with holdCause := .none, overlay := .none }, term := bare y.term }

/-- A change of a bay's record that does not look at what `core` leaves out. -/
def Plain (g : Bay → Bay) : Prop := ∀ y, core (g y) = core (g (core y))

/-- From s to t bay b's record becomes y, but for what its terminal is shown and its mask; nothing else changes. -/
structure Becomes (b : BayNo) (s t : State) (y : Bay) : Prop where
  rest   : t = { s with bays := t.bays }
  others : OtherBays b s t
  bay    : core (t.bay b) = core y

section
variable {b : BayNo} {s t u : State} {y z : Bay}

theorem Plain.congr {g : Bay → Bay} (hg : Plain g) (h : core y = core z) : core (g y) = core (g z) := by
  rw [hg y, h, ← hg z]

/-- One plain change behind another is plain. -/
theorem Plain.comp {f g : Bay → Bay} (hg : Plain g) (hf : Plain f) : Plain fun y => g (f y) := fun y => hg.congr (hf y)

theorem Becomes.refl (b : BayNo) (s : State) : Becomes b s s (s.bay b) := ⟨rfl, fun _ _ => rfl, rfl⟩

theorem Becomes.modBay (b : BayNo) (s : State) (f : Bay → Bay) : Becomes b s (s.modBay b f) (f (s.bay b)) :=
  ⟨rfl, fun _ hc => State.bay_modBay_ne s hc f, by rw [State.bay_modBay_self]⟩

/-- One change behind another. -/
theorem Becomes.step {g : Bay → Bay} (h : Becomes b s t y) (h' : Becomes b t u (g (t.bay b))) (hg : Plain g) :
    Becomes b s u (g y) where
  rest := by rw [h'.rest, h.rest]
  others c hc := (h'.others c hc).trans (h.others c hc)
  bay := h'.bay.trans (hg.congr h.bay)

/-- A change of what the terminal is shown, or of the mask, behind another. -/
theorem Becomes.shown (h : Becomes b s t y) (h' : Becomes b t u (t.bay b)) : Becomes b s u y :=
  h.step (g := id) h' fun _ => rfl

/-- A change of the bay's record behind another. -/
theorem Becomes.mod (h : Becomes b s t y) (f : Bay → Bay) (hf : Plain f) : Becomes b s (t.modBay b f) (f y) :=
  h.step (.modBay b t f) hf

theorem Becomes.of_core (h : Becomes b s t y) (hy : core y = core z) : Becomes b s t z := ⟨h.rest, h.others, h.bay.trans hy⟩

/-- A field of the bay's record that `core` keeps. -/
theorem Becomes.field {α : Type} (h : Becomes b s t y) (p : Bay → α) (hp : ∀ x, p (core x) = p x) : p (t.bay b) = p y := by
  rw [← hp, h.bay, hp]

theorem Becomes.tariff (h : Becomes b s t y) : t.tariff = s.tariff := by rw [h.rest]
theorem Becomes.card (h : Becomes b s t y) : t.card = s.card := by rw [h.rest]
theorem Becomes.journal (h : Becomes b s t y) : t.journal = s.journal := by rw [h.rest]
theorem Becomes.link (h : Becomes b s t y) : t.link = s.link := by rw [h.rest]
theorem Becomes.bus (h : Becomes b s t y) : t.bus = s.bus := by rw [h.rest]
theorem Becomes.time (h : Becomes b s t y) : t.time = s.time := by rw [h.rest]
theorem Becomes.site (h : Becomes b s t y) : t.site = s.site := by rw [h.rest]; rfl

/-! ### The operations on what is shown -/

theorem bare_show (t : Terminal) (sc : Screen) (h : HoldCause) : bare (t.show sc h) = bare t := by
  unfold Terminal.show
  split <;> rfl

theorem refresh_becomes (b : BayNo) (s : State) : Becomes b s (refresh b s) (s.bay b) := by
  unfold refresh State.modCtx
  refine (Becomes.modBay b s _).step (g := id) ((Becomes.modBay b _ _).of_core ?_) (fun _ => rfl) |>.of_core ?_
  · simp [core, bare_show]
  · rfl

theorem sound_becomes (x : Tone) (b : BayNo) (s : State) : Becomes b s (sound x b s) (s.bay b) :=
  (Becomes.modBay b s _).of_core rfl

theorem recomputeMask_becomes (b : BayNo) (s : State) : Becomes b s (recomputeMask b s) (s.bay b) :=
  (Becomes.modBay b s fun y => { y with mask := s.maskOf b }).of_core rfl

theorem clearOverlay_becomes (b : BayNo) (s : State) : Becomes b s (clearOverlay b s) (s.bay b) :=
  ((Becomes.modBay b s _).shown (refresh_becomes b _)).of_core rfl

theorem entryTone_becomes (was st : CtxState) (b : BayNo) (s : State) : Becomes b s (entryTone was st b s) (s.bay b) := by
  unfold entryTone
  split
  · exact sound_becomes _ b s
  · split
    · exact sound_becomes _ b s
    · exact .refl b s

theorem refuse_becomes (code : Code) (b : BayNo) (s : State) : Becomes b s (refuse code b s)
    { s.bay b with ctx := { s.ctx b with lastRefusal := some code } } :=
  (((Becomes.modBay b s _).shown (sound_becomes _ b _)).shown (refresh_becomes b _)).of_core rfl

/-! ### Entries and returns -/

/-- A record whose context enters a state. -/
def enteredBay (st : CtxState) (now : Ms) (y : Bay) : Bay := { y with ctx := entered st now y.ctx }

theorem enter_becomes (st : CtxState) (b : BayNo) (s : State) : Becomes b s (enter st b s) (enteredBay st s.now (s.bay b)) :=
  (((Becomes.modBay b s _).shown (entryTone_becomes _ st b _)).shown (recomputeMask_becomes b _)).shown (refresh_becomes b _)

theorem await_becomes (w : Wait) (b : BayNo) (s : State) :
    Becomes b s (await w b s) { s.bay b with ctx := { s.ctx b with wait := w } } :=
  (Becomes.modBay b s _).shown (refresh_becomes b _)

/-- A record whose context comes to rest. -/
def restedBay (st : CtxState) (now : Ms) (y : Bay) : Bay := { y with ctx := y.ctx.clear st now }

theorem rest_becomes (st : CtxState) (b : BayNo) (s : State) : Becomes b s (rest st b s) (restedBay st s.now (s.bay b)) :=
  (((Becomes.modBay b s _).shown (entryTone_becomes _ st b _)).shown (recomputeMask_becomes b _)).shown (refresh_becomes b _)

/-- A record whose escrow is asked to be returned (R86). -/
def returnedBay (now : Ms) (y : Bay) : Bay :=
  match y.escrow.pulse with
  | none => { y with escrow := ⟨some now, false⟩, ctx := { y.ctx with coins := [] } }
  | some _ => { y with escrow := { y.escrow with pending := true } }

theorem requestReturn_bay_self (b : BayNo) (s : State) : (requestReturn b s).bay b = returnedBay s.now (s.bay b) := by
  cases hpulse : (s.bay b).escrow.pulse with
  | none => simp only [requestReturn, returnedBay, hpulse, startPulse, State.bay_modBay_self]
  | some _ => simp only [requestReturn, returnedBay, hpulse, State.bay_modBay_self]

theorem requestReturn_becomes (b : BayNo) (s : State) : Becomes b s (requestReturn b s) (returnedBay s.now (s.bay b)) := by
  refine ⟨?_, fun c hc => ?_, by rw [requestReturn_bay_self]⟩
  · unfold requestReturn
    split <;> rfl
  · unfold requestReturn
    split
    · exact State.bay_modBay_ne s hc _
    · exact State.bay_modBay_ne s hc _

theorem returnedBay_plain (now : Ms) : Plain (returnedBay now) := by
  intro y
  have hpulse : (core y).escrow.pulse = y.escrow.pulse := rfl
  unfold returnedBay
  rw [hpulse]
  split <;> rfl

end

end Sys2Proof.Proofs

/-! PROOFS. What a close, a refund and a cancel make of a bay (R7, R17, R18). -/

namespace Sys2Proof.Proofs

open Sys2Proof Sys2Proof.Machine Sys2Proof.Laws

/-! ### Operations at one bay that reach other units -/

/-- From s to t bay b's record becomes y, but for what its terminal is shown and its mask; the other bays, the clocks, the
bus and the site table stay. -/
structure Turns (b : BayNo) (s t : State) (y : Bay) : Prop where
  others : OtherBays b s t
  time   : t.time = s.time
  bus    : t.bus = s.bus
  site   : t.site = s.site
  bay    : core (t.bay b) = core y

section
variable {b : BayNo} {s t u : State} {y z : Bay}

theorem Turns.of_work {m : Mode} (h : Work m (· = b) s t) (hy : core (t.bay b) = core y) : Turns b s t y :=
  ⟨h.otherBays, h.time, h.bus, h.site, hy⟩

theorem Becomes.turns (h : Becomes b s t y) : Turns b s t y := ⟨h.others, h.time, h.bus, h.site, h.bay⟩

/-- A step outside the bays, the clocks, the bus and the site table. -/
theorem Turns.of_bays (hbays : t.bays = s.bays) (htime : t.time = s.time) (hbus : t.bus = s.bus) (hsite : t.site = s.site) :
    Turns b s t (s.bay b) :=
  ⟨fun c _ => by rw [State.bay, hbays, State.bay], htime, hbus, hsite, by rw [State.bay, hbays, State.bay]⟩

theorem Turns.refl (b : BayNo) (s : State) : Turns b s s (s.bay b) := .of_bays rfl rfl rfl rfl

theorem Turns.step {g : Bay → Bay} (h : Turns b s t y) (h' : Turns b t u (g (t.bay b))) (hg : Plain g) : Turns b s u (g y) where
  others c hc := (h'.others c hc).trans (h.others c hc)
  time := h'.time.trans h.time
  bus := h'.bus.trans h.bus
  site := h'.site.trans h.site
  bay := h'.bay.trans (hg.congr h.bay)

/-- One change behind another, where the later one depends on the time and the site table. -/
theorem Turns.thereby {g : Ms → List (List Byte) → Bay → Bay} (h : Turns b s t y) (h' : Turns b t u (g t.now t.site (t.bay b)))
    (hg : Plain (g s.now s.site)) : Turns b s u (g s.now s.site y) :=
  h.step (by rwa [show t.now = s.now from congrArg Time.ms h.time, h.site] at h') hg

theorem Turns.shown (h : Turns b s t y) (h' : Turns b t u (t.bay b)) : Turns b s u y := h.step (g := id) h' fun _ => rfl

theorem Turns.mod (h : Turns b s t y) (f : Bay → Bay) (hf : Plain f) : Turns b s (t.modBay b f) (f y) :=
  h.step (Becomes.modBay b t f).turns hf

/-- Of two changes, the later one's record of the bay. -/
theorem Turns.behind (h' : Turns b t u y) (h : Turns b s t z) : Turns b s u y :=
  ⟨fun c hc => (h'.others c hc).trans (h.others c hc), h'.time.trans h.time, h'.bus.trans h.bus, h'.site.trans h.site, h'.bay⟩

theorem Turns.of_core (h : Turns b s t y) (hy : core y = core z) : Turns b s t z :=
  ⟨h.others, h.time, h.bus, h.site, h.bay.trans hy⟩

theorem Turns.field {α : Type} (h : Turns b s t y) (p : Bay → α) (hp : ∀ x, p (core x) = p x) : p (t.bay b) = p y := by
  rw [← hp, h.bay, hp]

theorem Turns.now (h : Turns b s t y) : t.now = s.now := congrArg Time.ms h.time

end

/-! ### The journal and the port behind a bay -/

section
variable (b : BayNo) (s : State)

theorem turns_of_beside {t : State} (h : beside t = beside s) : Turns b s t (s.bay b) :=
  .of_bays (congrArg Beside.bays h) (congrArg Beside.time h) (congrArg Beside.bus h)
    (congrArg (fun x : Beside => x.tariff.site.entries) h)

theorem append_turns (r : Append) : Turns b s (append r s) (s.bay b) := turns_of_beside b s (append_beside r s)

theorem notify_turns (n : Notice) : Turns b s (notify n s) (s.bay b) := turns_of_beside b s (notify_beside n s)

theorem dropOwnEntry_turns : Turns b s (dropOwnEntry b s) (s.bay b) := .of_bays rfl rfl rfl rfl

theorem unpinBank_turns : Turns b s (unpinBank b s) (s.bay b) := by
  refine .of_bays (unpinBank_bays b s) ?_ ?_ ?_
  · unfold unpinBank; split <;> rfl
  · unfold unpinBank; split <;> rfl
  · unfold unpinBank
    split
    next k _ => cases k <;> rfl
    next => rfl

theorem endExchange_turns : Turns b s (endExchange b s) (ended (s.bay b)) :=
  .of_work (m := .free) (endExchange_work (P := (· = b)) rfl s) (by rw [endExchange_bay_self])

end

/-! ### The close (R17, R121, R202) -/

/-- The state a context with these causes comes to rest in at bay b. -/
def restOf (site : List (List Byte)) (b : BayNo) (k : Causes) : CtxState :=
  if k.isEmpty && !siteAbsent site b then .idle else .outOfService

/-- A record whose coins, if there are any, are asked to be returned. -/
def emptiedBay (now : Ms) (y : Bay) : Bay := if y.ctx.coins = [] then y else returnedBay now y

/-- A record whose terminal is ABSENT where the site marks it so. -/
def settledBay (site : List (List Byte)) (b : BayNo) (y : Bay) : Bay :=
  if siteAbsent site b ∧ y.term.state ≠ .absent then
    { y with term := { y.term with state := .absent, misses := 0, recoveryStart := none } }
  else y

/-- A record whose context comes to rest by its causes and the ABSENT mark. -/
def restingBay (site : List (List Byte)) (b : BayNo) (now : Ms) (y : Bay) : Bay :=
  restedBay (restOf site b y.ctx.causes) now y

/-- A record whose transaction has closed. -/
def closedBay (site : List (List Byte)) (b : BayNo) (now : Ms) (y : Bay) : Bay :=
  settledBay site b (restingBay site b now { emptiedBay now y with reserved := false })

section
variable {b : BayNo} {s : State}

theorem emptiedBay_plain (now : Ms) : Plain (emptiedBay now) := by
  intro y
  have hcoins : (core y).ctx.coins = y.ctx.coins := rfl
  unfold emptiedBay
  rw [hcoins]
  split
  · rfl
  · exact returnedBay_plain now y

theorem settledBay_plain (site : List (List Byte)) (b : BayNo) : Plain (settledBay site b) := by
  intro y
  have hstate : (core y).term.state = y.term.state := rfl
  unfold settledBay
  rw [hstate]
  split <;> rfl

theorem returnedBay_causes (now : Ms) (y : Bay) : (returnedBay now y).ctx.causes = y.ctx.causes := by
  unfold returnedBay
  split <;> rfl

theorem emptiedBay_causes (now : Ms) (y : Bay) : (emptiedBay now y).ctx.causes = y.ctx.causes := by
  unfold emptiedBay
  split
  · rfl
  · exact returnedBay_causes now y

theorem makeAbsent_turns (b : BayNo) (s : State) : Turns b s (makeAbsent b s)
    { s.bay b with term := { (s.bay b).term with state := .absent, misses := 0, recoveryStart := none } } :=
  (Becomes.modBay b s _).turns.shown (notify_turns b _ _)

theorem settleAbsent_turns (b : BayNo) (s : State) : Turns b s (settleAbsent b s) (settledBay s.site b (s.bay b)) := by
  unfold settleAbsent settledBay
  split
  · exact makeAbsent_turns b s
  · exact .refl b s

theorem chirpFrom_becomes (was : CtxState) (b : BayNo) (s : State) : Becomes b s (chirpFrom was b s) (s.bay b) := by
  unfold chirpFrom
  split
  · exact sound_becomes _ b s
  · exact .refl b s

theorem emptied_becomes (b : BayNo) (s : State) :
    Becomes b s (if (s.ctx b).coins = [] then s else requestReturn b s) (emptiedBay s.now (s.bay b)) := by
  by_cases hcoins : (s.ctx b).coins = []
  · rw [if_pos hcoins, emptiedBay, if_pos (show (s.bay b).ctx.coins = [] from hcoins)]
    exact .refl b s
  · rw [if_neg hcoins, emptiedBay, if_neg (show (s.bay b).ctx.coins ≠ [] from hcoins)]
    exact requestReturn_becomes b s

theorem restingBay_plain (site : List (List Byte)) (b : BayNo) (now : Ms) : Plain (restingBay site b now) := fun _ => rfl

theorem closedBay_plain (site : List (List Byte)) (b : BayNo) (now : Ms) : Plain (closedBay site b now) :=
  (settledBay_plain site b).comp ((restingBay_plain site b now).comp
    (Plain.comp (g := fun y => { y with reserved := false }) (fun _ => rfl) (emptiedBay_plain now)))

theorem closeTxn_turns (b : BayNo) (s : State) : Turns b s (closeTxn b s) (closedBay s.site b s.now (s.bay b)) := by
  have hemptied := (emptied_becomes b s).turns
  unfold closeTxn
  dsimp only
  generalize (if (s.ctx b).coins = [] then s else requestReturn b s) = u at hemptied
  have hunpinned := hemptied.shown (unpinBank_turns b u)
  generalize unpinBank b u = v at hunpinned
  have hreleased := hunpinned.mod (fun y => { y with reserved := false }) fun _ => rfl
  generalize (v.modBay b fun y => { y with reserved := false }) = w at hreleased
  have hrested := hreleased.thereby (g := fun now site => restingBay site b now) (rest_becomes (w.restState b) b w).turns
    (restingBay_plain _ _ _)
  have hsettled := hrested.thereby (g := fun _ site => settledBay site b) (settleAbsent_turns b _) (settledBay_plain _ _)
  exact hsettled.shown (chirpFrom_becomes (s.ctx b).state b _).turns

/-- A closed transaction has come to rest. -/
theorem closeTxn_atRest (b : BayNo) (s : State) : AtRest (closeTxn b s) b := by
  have h := closeTxn_turns b s
  have hctx : ∀ {α : Type} (p : Ctx → α), (∀ c, p { c with holdCause := .none, overlay := .none } = p c) →
      p ((closeTxn b s).ctx b) = p ((emptiedBay s.now (s.bay b)).ctx.clear (restOf s.site b (s.ctx b).causes) s.now) := by
    intro α p hp
    rw [State.ctx, h.field (fun y => p y.ctx) fun _ => hp _, State.ctx, ← emptiedBay_causes s.now (s.bay b)]
    unfold closedBay settledBay
    split <;> rfl
  have hcauses : ((closeTxn b s).ctx b).causes = (s.ctx b).causes :=
    (hctx Ctx.causes fun _ => rfl).trans (emptiedBay_causes _ _)
  refine ⟨?_, hctx Ctx.bank fun _ => rfl⟩
  rw [hctx Ctx.state fun _ => rfl, hcauses, h.site]
  rfl

end

end Sys2Proof.Proofs

/-! PROOFS. A cancel: the refund, the payout it may begin, and the close (R7, R18). -/

namespace Sys2Proof.Proofs

open Sys2Proof Sys2Proof.Machine Sys2Proof.Laws

/-! ### The payout a context asks for (R94, R95) -/

/-- Bay b's executor is x. -/
def payingBay (x : Executor) (y : Bay) : Bay := { y with payout := x }

section
variable {b : BayNo} {s : State}

theorem modPayout_becomes (b : BayNo) (s : State) (f : Executor → Executor) : Becomes b s (s.modPayout b f)
    (payingBay ((s.modPayout b f).bay b).payout (s.bay b)) := by
  unfold State.modPayout
  exact (Becomes.modBay b s _).of_core (by rw [State.bay_modBay_self]; rfl)

theorem planPayout_becomes (b : BayNo) (s : State) : Becomes b s (planPayout b s).1
    (payingBay ((planPayout b s).1.bay b).payout (s.bay b)) := by
  unfold planPayout
  dsimp only
  split
  next e es _ => exact modPayout_becomes b s fun x => { x with plan := e :: es, drive := some (e.tube, s.now) }
  next => exact modPayout_becomes b s fun x => { x with running := false, plan := [], drive := none }

/-- A plan leaves who asked, for how much, and what is paid. -/
theorem planPayout_executor (b : BayNo) (s : State) :
    ((planPayout b s).1.bay b).payout.requester = (s.bay b).payout.requester
    ∧ ((planPayout b s).1.bay b).payout.amount = (s.bay b).payout.amount
    ∧ ((planPayout b s).1.bay b).payout.paid = (s.bay b).payout.paid := by
  unfold planPayout stopPayout State.modPayout
  dsimp only
  split
  · rw [State.bay_modBay_self]; exact ⟨rfl, rfl, rfl⟩
  · rw [State.bay_modBay_self]; exact ⟨rfl, rfl, rfl⟩

theorem startPayout_becomes (b : BayNo) (r : Requester) (amount : Nat) (s : State) : Becomes b s (startPayout b r amount s).1
    (payingBay ((startPayout b r amount s).1.bay b).payout (s.bay b)) :=
  ((Becomes.modBay b s _).step (g := payingBay _) (planPayout_becomes b _) fun _ => rfl).of_core rfl

theorem startPayout_executor (b : BayNo) (r : Requester) (amount : Nat) (s : State) :
    ((startPayout b r amount s).1.bay b).payout.requester = r
    ∧ ((startPayout b r amount s).1.bay b).payout.amount = amount
    ∧ ((startPayout b r amount s).1.bay b).payout.paid = 0 := by
  have h := planPayout_executor b (s.modPayout b fun _ => ⟨true, r, amount, 0, [], none⟩)
  unfold State.modPayout at h
  rw [State.bay_modBay_self] at h
  exact h

theorem adjustAndWait_turns (reason : AdjustReason) (amount : Nat) (b : BayNo) (s : State) :
    Turns b s (adjustAndWait reason amount b s) { s.bay b with ctx := { s.ctx b with wait := .adjust } } :=
  ((append_turns b s _).step (g := fun y => { y with ctx := { y.ctx with wait := .adjust } })
    (await_becomes .adjust b _).turns fun _ => rfl)

/-! ### The refund (R18) -/

/-- A record on entry to REFUND, its escrow asked to be returned. -/
def refundBay (now : Ms) (y : Bay) : Bay := returnedBay now (enteredBay .refund now (ended y))

theorem unpriced_turns (b : BayNo) (s : State) : Turns b s (unpriced b s) (s.bay b) := by
  unfold unpriced
  split
  · exact .of_bays rfl rfl rfl rfl
  · exact .refl b s

theorem ended_plain : Plain ended := fun _ => rfl

/-- Up to the return of the escrow. -/
def refunding (b : BayNo) (s : State) : State :=
  requestReturn b (enter .refund b (dropOwnEntry b (endExchange b (unpriced b s))))

theorem refundBay_plain (now : Ms) : Plain (refundBay now) :=
  (returnedBay_plain now).comp (Plain.comp (g := enteredBay .refund now) (fun _ => rfl) ended_plain)

theorem refunding_turns (b : BayNo) (s : State) : Turns b s (refunding b s) (refundBay s.now (s.bay b)) := by
  have hended := (unpriced_turns b s).step (endExchange_turns b _) ended_plain
  have hdropped := hended.shown (dropOwnEntry_turns b _)
  have hentered := hdropped.thereby (g := fun now _ => enteredBay .refund now) (enter_becomes .refund b _).turns fun _ => rfl
  exact hentered.thereby (g := fun now _ => returnedBay now) (requestReturn_becomes b _).turns (returnedBay_plain _)

/-- What a payout just asked for in REFUND leads to: where it has ended at once, to the record of what is still owed. -/
def refunded (b : BayNo) (r : State × Bool) : State :=
  if r.2 then refundEnded (r.1.bay b).payout.paid b r.1 else r.1

theorem enterRefund_eq (b : BayNo) (s : State) : enterRefund b s =
    if 0 < (s.ctx b).overflowValue then
      refunded b (startPayout b .refund (s.ctx b).overflowValue
        (await .payout b ((refunding b s).modCtx b fun c => { c with refundOwed := (s.ctx b).overflowValue })))
    else closeTxn b (refunding b s) := by
  unfold enterRefund
  dsimp only
  rw [← unpriced]
  show _ = if 0 < (s.ctx b).overflowValue then refunded b (startPayout b .refund (s.ctx b).overflowValue (await .payout b
    ((requestReturn b (enter .refund b (dropOwnEntry b (endExchange b (unpriced b s))))).modCtx b fun c =>
      { c with refundOwed := (s.ctx b).overflowValue }))) else
    closeTxn b (requestReturn b (enter .refund b (dropOwnEntry b (endExchange b (unpriced b s)))))
  generalize requestReturn b (enter .refund b (dropOwnEntry b (endExchange b (unpriced b s)))) = u
  split
  · unfold refunded
    split
    next v hv => rw [hv]; rfl
    next v hv => rw [hv]; rfl
  · rfl

/-- With nothing owed the transaction closes. -/
theorem enterRefund_closes (h : (s.ctx b).overflowValue = 0) :
    enterRefund b s = closeTxn b (refunding b s)
    ∧ Turns b s (enterRefund b s) (closedBay s.site b s.now (refundBay s.now (s.bay b))) := by
  have heq : enterRefund b s = closeTxn b (refunding b s) := (enterRefund_eq b s).trans (if_neg (by omega))
  refine ⟨heq, heq ▸ ?_⟩
  exact (refunding_turns b s).thereby (g := fun now site => closedBay site b now) (closeTxn_turns b _) (closedBay_plain _ _ _)

/-- A record that owes its overflow value. -/
def owingBay (owed : Nat) (w : Wait) (x : Executor) (y : Bay) : Bay :=
  { y with payout := x, ctx := { y.ctx with refundOwed := owed, wait := w } }

/-- With overflow value owed the context waits in REFUND for its payout, or for the record of what cannot be paid. -/
theorem enterRefund_owes (h : 0 < (s.ctx b).overflowValue) : ∃ w x, w ≠ .places ∧
    Turns b s (enterRefund b s) (owingBay (s.ctx b).overflowValue w x (refundBay s.now (s.bay b))) := by
  have hrefund := refunding_turns b s
  rw [enterRefund_eq, if_pos h]
  generalize refunding b s = t at hrefund
  have howed := hrefund.mod (fun y => { y with ctx := { y.ctx with refundOwed := (s.ctx b).overflowValue } }) fun _ => rfl
  have hwaits := howed.step (g := fun y => { y with ctx := { y.ctx with wait := .payout } }) (await_becomes .payout b _).turns
    fun _ => rfl
  unfold State.modCtx
  generalize await .payout b (t.modBay b _) = u at hwaits
  have hstarted := hwaits.step (startPayout_becomes b .refund (s.ctx b).overflowValue u).turns fun _ => rfl
  obtain ⟨-, -, hpaid⟩ := startPayout_executor b .refund (s.ctx b).overflowValue u
  generalize startPayout b .refund (s.ctx b).overflowValue u = r at hstarted hpaid
  unfold refunded
  split
  · have hshort : ((r.1.ctx b).refundOwed - (r.1.bay b).payout.paid) = (s.ctx b).overflowValue := by
      rw [hpaid, State.ctx, hstarted.field (fun y => y.ctx.refundOwed) fun _ => rfl]
      rfl
    unfold refundEnded
    dsimp only
    rw [hshort, if_pos h]
    exact ⟨.adjust, (r.1.bay b).payout, nofun, (hstarted.step (g := fun y => { y with ctx := { y.ctx with wait := .adjust } })
      (adjustAndWait_turns _ _ b r.1) fun _ => rfl).of_core rfl⟩
  · exact ⟨.payout, (r.1.bay b).payout, nofun, hstarted.of_core rfl⟩

end

end Sys2Proof.Proofs

/-! PROOFS. A cancelled transaction is in REFUND or at rest, its exchange ended and its escrow asked to be returned. -/

namespace Sys2Proof.Proofs

open Sys2Proof Sys2Proof.Machine Sys2Proof.Laws

/-! ### The records of a return and of a close -/

section
variable (site : List (List Byte)) (b : BayNo) (now : Ms) (y : Bay)

theorem returnedBay_of_none (h : y.escrow.pulse = none) :
    returnedBay now y = { y with escrow := ⟨some now, false⟩, ctx := { y.ctx with coins := [] } } := by
  simp only [returnedBay, h]

/-- A return changes the escrow's pulse and the coins alone. -/
theorem returnedBay_ctx : (returnedBay now y).ctx = { y.ctx with coins := (returnedBay now y).ctx.coins } := by
  unfold returnedBay
  split <;> rfl

theorem returnedBay_card : (returnedBay now y).card = y.card := by
  unfold returnedBay
  split <;> rfl

theorem emptiedBay_card : (emptiedBay now y).card = y.card := by
  unfold emptiedBay
  split
  · rfl
  · exact returnedBay_card now y

/-- The context of a closed transaction. -/
theorem closedBay_ctx : (closedBay site b now y).ctx = (emptiedBay now y).ctx.clear (restOf site b y.ctx.causes) now := by
  rw [← emptiedBay_causes now y]
  unfold closedBay settledBay
  split <;> rfl

/-- A cleared context keeps quantity, flags, causes and last refusal of the one before. -/
theorem clear_emptied (st : CtxState) : (emptiedBay now y).ctx.clear st now = y.ctx.clear st now := by
  unfold emptiedBay
  split
  · rfl
  · rw [returnedBay_ctx]
    rfl

theorem closedBay_ctx_eq : (closedBay site b now y).ctx = y.ctx.clear (restOf site b y.ctx.causes) now := by
  rw [closedBay_ctx, clear_emptied]

theorem closedBay_card : (closedBay site b now y).card = y.card := by
  have h : (closedBay site b now y).card = (emptiedBay now y).card := by
    unfold closedBay settledBay
    split <;> rfl
  rw [h, emptiedBay_card]

theorem closedBay_escrow (h : y.ctx.coins = []) : (closedBay site b now y).escrow = y.escrow := by
  have he : (closedBay site b now y).escrow = (emptiedBay now y).escrow := by
    unfold closedBay settledBay
    split <;> rfl
  rw [he, emptiedBay, if_pos h]

theorem refundBay_ctx : (refundBay now y).ctx = { entered .refund now y.ctx with coins := (refundBay now y).ctx.coins } :=
  returnedBay_ctx now _

theorem refundBay_card : (refundBay now y).card = .reset := returnedBay_card now _

theorem refundBay_of_none (h : y.escrow.pulse = none) :
    (refundBay now y).escrow = ⟨some now, false⟩ ∧ (refundBay now y).ctx.coins = [] := by
  rw [refundBay, returnedBay_of_none now _ (show (enteredBay .refund now (ended y)).escrow.pulse = none from h)]
  exact ⟨rfl, rfl⟩

end

/-! ### Cancelled transactions -/

section
variable {b : BayNo} {s t u : State} {y : Bay}

/-- A bay whose record is that of a closed transaction is at rest. -/
theorem Turns.atRest {now : Ms} (h : Turns b s t (closedBay s.site b now y)) : AtRest t b := by
  have hctx : ∀ {α : Type} (p : Ctx → α), (∀ c, p { c with holdCause := .none, overlay := .none } = p c) →
      p (t.ctx b) = p (y.ctx.clear (restOf s.site b y.ctx.causes) now) := by
    intro α p hp
    rw [State.ctx, h.field (fun x => p x.ctx) fun _ => hp _, closedBay_ctx_eq]
  refine ⟨?_, hctx Ctx.bank fun _ => rfl⟩
  rw [hctx Ctx.state fun _ => rfl, hctx Ctx.causes fun _ => rfl, h.site]
  rfl

theorem cancelled_enterRefund (b : BayNo) (s : State) : Cancelled s (enterRefund b s) b := by
  by_cases howed : 0 < (s.ctx b).overflowValue
  · obtain ⟨w, x, -, h⟩ := enterRefund_owes howed
    refine ⟨?_, fun hpulse => ?_, fun _ => ?_, fun hnone => by omega⟩
    · exact h.field (fun y => y.card.phase) (fun _ => rfl) |>.trans (congrArg Exchange.phase (refundBay_card s.now _))
    · obtain ⟨hescrow, hcoins⟩ := refundBay_of_none s.now _ hpulse
      exact ⟨(h.field (fun y => y.escrow.pulse) fun _ => rfl).trans (congrArg EscrowReturn.pulse hescrow),
        (h.field (fun y => y.ctx.coins) fun _ => rfl).trans hcoins⟩
    · refine (h.field (fun y => y.ctx.state) fun _ => rfl).trans ?_
      exact congrArg Ctx.state (refundBay_ctx s.now (s.bay b))
  · obtain ⟨-, h⟩ := enterRefund_closes (show (s.ctx b).overflowValue = 0 by omega)
    refine ⟨?_, fun hpulse => ?_, fun hsome => absurd hsome howed, fun _ => h.atRest⟩
    · refine (h.field (fun y => y.card.phase) fun _ => rfl).trans ?_
      rw [closedBay_card, refundBay_card]
      rfl
    · obtain ⟨hescrow, hcoins⟩ := refundBay_of_none s.now _ hpulse
      refine ⟨(h.field (fun y => y.escrow.pulse) fun _ => rfl).trans ?_, (h.field (fun y => y.ctx.coins) fun _ => rfl).trans ?_⟩
      · rw [closedBay_escrow _ _ _ _ hcoins, hescrow]
        rfl
      · rw [closedBay_ctx_eq]
        rfl

/-- A cancelled transaction stays so where its bay's record keeps what says so. -/
theorem cancelled_turn (h : Cancelled s t b) (h' : Turns b t u y) (hcard : y.card = (t.bay b).card)
    (hescrow : y.escrow = (t.bay b).escrow) (hcoins : y.ctx.coins = (t.ctx b).coins) (hstate : y.ctx.state = (t.ctx b).state)
    (hcauses : y.ctx.causes = (t.ctx b).causes) (hbank : y.ctx.bank = (t.ctx b).bank) : Cancelled s u b := by
  obtain ⟨hidle, hreturn, howed, hrest⟩ := h
  have hstate' : (u.ctx b).state = (t.ctx b).state := (h'.field (fun y => y.ctx.state) fun _ => rfl).trans hstate
  have hcauses' : (u.ctx b).causes = (t.ctx b).causes := (h'.field (fun y => y.ctx.causes) fun _ => rfl).trans hcauses
  have hbank' : (u.ctx b).bank = (t.ctx b).bank := (h'.field (fun y => y.ctx.bank) fun _ => rfl).trans hbank
  have hcoins' : (u.ctx b).coins = (t.ctx b).coins := (h'.field (fun y => y.ctx.coins) fun _ => rfl).trans hcoins
  have hescrow' : (u.bay b).escrow = (t.bay b).escrow := (h'.field (fun y => y.escrow) fun _ => rfl).trans hescrow
  have hcard' : u.exch b = t.exch b := (h'.field (fun y => y.card) fun _ => rfl).trans hcard
  refine ⟨by rw [hcard']; exact hidle, fun hp => ?_, fun ho => by rw [hstate']; exact howed ho, fun ho => ?_⟩
  · rw [hescrow', hcoins']
    exact hreturn hp
  · obtain ⟨hr, hb⟩ := hrest ho
    exact ⟨by rw [hstate', hcauses', h'.site]; exact hr, by rw [hbank']; exact hb⟩

theorem cancelled_cancelWith (code : Code) (b : BayNo) (s : State) : Cancelled s (cancelWith code b s) b :=
  cancelled_turn (cancelled_enterRefund b s) (refuse_becomes code b _).turns rfl rfl rfl rfl rfl rfl

theorem cancelWith_refusal (code : Code) (b : BayNo) (s : State) : ((cancelWith code b s).ctx b).lastRefusal = some code :=
  (refuse_becomes code b (enterRefund b s)).field (fun y => y.ctx.lastRefusal) fun _ => rfl

/-- Cancelled from a state is cancelled from any with the same overflow value, pulse and time. -/
theorem cancelled_since (h : Cancelled s t b) (howed : (s.ctx b).overflowValue = (u.ctx b).overflowValue)
    (hpulse : (s.bay b).escrow.pulse = (u.bay b).escrow.pulse) (htime : s.time = u.time) : Cancelled u t b := by
  obtain ⟨hidle, hreturn, hrefund, hrest⟩ := h
  rw [howed] at hrefund hrest
  rw [hpulse, htime] at hreturn
  exact ⟨hidle, hreturn, hrefund, hrest⟩

end

end Sys2Proof.Proofs

/-! PROOFS. SELECT (R4 to R6, R8). -/

namespace Sys2Proof.Proofs

open Sys2Proof Sys2Proof.Machine Sys2Proof.Laws

/-! ### A section handed on -/

/-- The state with the section in front handed on. -/
def handed (s : State) : State := s.modBus fun u => { u with inbox := u.inbox.drop 1 }

section
variable {s t : State} {b : BayNo}

/-- A state but for its stored check. -/
def Resealed (u t : State) : Prop := t = { u with check := t.check }

theorem Resealed.ctx (h : Resealed s t) (b : BayNo) : t.ctx b = s.ctx b := by rw [h]; rfl
theorem Resealed.bay (h : Resealed s t) (b : BayNo) : t.bay b = s.bay b := by rw [h]; rfl
theorem Resealed.exch (h : Resealed s t) (b : BayNo) : t.exch b = s.exch b := by rw [h]; rfl
theorem Resealed.slot (h : Resealed s t) (b : BayNo) : t.slot b = s.slot b := by rw [h]; rfl
theorem Resealed.tariff (h : Resealed s t) : t.tariff = s.tariff := by rw [h]
theorem Resealed.card (h : Resealed s t) : t.card = s.card := by rw [h]
theorem Resealed.journal (h : Resealed s t) : t.journal = s.journal := by rw [h]
theorem Resealed.link (h : Resealed s t) : t.link = s.link := by rw [h]
theorem Resealed.bus (h : Resealed s t) : t.bus = s.bus := by rw [h]
theorem Resealed.time (h : Resealed s t) : t.time = s.time := by rw [h]
theorem Resealed.site (h : Resealed s t) : t.site = s.site := by rw [h]; rfl

theorem reseal_resealed (s u : State) : Resealed u (s.reseal u) := rfl

/-- A command that takes sections, with one in front that it takes. -/
theorem exec_section {α : Type} {c : Instr} {x : ReplySection} {f : ReplySection → Option α}
    {act : BayNo → α → State → State} {a : α} (e : exec c s = done s (takeSection f act s)) (h : s.HandsOn b x)
    (hf : f x = some a) : ∃ t, exec c s = .next t ∧ Resealed (act b a (handed s)) t := by
  rw [e, takeSection_eq act h hf]
  exact ⟨_, rfl, reseal_resealed s _⟩

theorem handed_of_bus (h : t.bus = (handed s).bus) : Handed s t := congrArg Bus.inbox h

/-! ### What is shown, exactly -/

theorem refresh_ctx (b : BayNo) (s : State) :
    (refresh b s).ctx b = { s.ctx b with holdCause := ((refresh b s).ctx b).holdCause } := by
  unfold refresh State.modCtx
  simp only [State.ctx, State.bay_modBay_self]

theorem recomputeMask_ctx (b : BayNo) (s : State) : (recomputeMask b s).ctx b = s.ctx b := by
  unfold recomputeMask
  simp only [State.ctx, State.bay_modBay_self]

theorem sound_ctx (x : Tone) (b : BayNo) (s : State) : (sound x b s).ctx b = s.ctx b := by
  unfold sound
  simp only [State.ctx, State.bay_modBay_self]

theorem clearOverlay_ctx (b : BayNo) (s : State) : (clearOverlay b s).ctx b =
    { s.ctx b with overlay := .none, holdCause := ((clearOverlay b s).ctx b).holdCause } := by
  unfold clearOverlay
  rw [refresh_ctx, State.ctx_modCtx_self]

theorem refuse_ctx (code : Code) (b : BayNo) (s : State) : (refuse code b s).ctx b =
    { s.ctx b with
      lastRefusal := some code, overlay := .refusal code, holdCause := ((refuse code b s).ctx b).holdCause } := by
  unfold refuse
  rw [refresh_ctx, sound_ctx, State.ctx_modCtx_self]

theorem show_tone (t : Terminal) (sc : Screen) (h : HoldCause) :
    (t.show sc h).tone = t.tone ∧ (t.show sc h).tonePending = t.tonePending := by
  unfold Terminal.show
  split <;> exact ⟨rfl, rfl⟩

theorem refresh_tone (b : BayNo) (s : State) : ((refresh b s).bay b).term.tone = (s.bay b).term.tone
    ∧ ((refresh b s).bay b).term.tonePending = (s.bay b).term.tonePending := by
  unfold refresh State.modCtx
  simp only [State.bay_modBay_self]
  exact show_tone _ _ _

/-- A refusal sounds DOUBLE (R200). -/
theorem refuse_tone (code : Code) (b : BayNo) (s : State) :
    ((refuse code b s).bay b).term.tone = .double ∧ ((refuse code b s).bay b).term.tonePending = true := by
  unfold refuse
  obtain ⟨htone, hpending⟩ := refresh_tone b
    (sound .double b (s.modCtx b fun c => { c with lastRefusal := some code, overlay := .refusal code }))
  rw [htone, hpending, sound, State.bay_modBay_self]
  exact ⟨rfl, rfl⟩

/-! ### The OPEN gate (R4) -/

theorem Becomes.reservations {y : Bay} (h : Becomes b s t y) (hy : y.reserved = (s.bay b).reserved) :
    t.reservations = s.reservations := by
  have hbays : t.bays = (s.modBay b fun _ => t.bay b).bays := by
    ext1 i hi
    by_cases hib : i = b.val
    · subst hib
      have := State.bay_modBay_self s b fun _ => t.bay b
      exact this.symm
    · have hne : (⟨i, hi⟩ : BayNo) ≠ b := fun he => hib (congrArg Fin.val he)
      exact (h.others ⟨i, hi⟩ hne).trans (State.bay_modBay_ne s hne fun _ => t.bay b).symm
  have hfield := h.field Bay.reserved fun _ => rfl
  have hsame := baysWith_same (p := fun y => y.reserved) (s := s) (b := b) (f := fun _ => t.bay b) (hfield.trans hy)
  unfold State.reservations
  rw [hbays]
  exact hsame

theorem openGate_congr {q : Selection} (hjournal : t.journal = s.journal) (htime : t.time = s.time)
    (htariff : t.tariff = s.tariff) (hcard : t.card = s.card) (hreserved : t.reservations = s.reservations)
    (hprinter : (t.bay b).printer = (s.bay b).printer) : t.openGate b q = s.openGate b q := by
  have hfree : t.tearFree = s.tearFree := by rw [State.tearFree, hcard, hreserved, State.tearFree]
  have hoffered : t.offered q = s.offered q := by rw [State.offered, htariff, State.offered]
  have hsupply : t.supplyLow = s.supplyLow := by rw [State.supplyLow, htime, State.supplyLow]
  unfold State.openGate
  rw [hjournal, htime, hsupply, htariff, hoffered, hprinter, hfree]

/-- What the gate says once the bank's tables are asked for the product. -/
theorem openGate_offered {q : Selection} (hreserve : 2 ≤ s.journal.erasedCount) (hset : s.time.isSet = true)
    (hsupply : s.supplyLow = false) (hvalid : (s.tariff.bank s.tariff.active).allValid = true) :
    s.openGate b q = match s.offered q with
      | none => .inl .noProduct
      | some p =>
        if p.fits q = false then .inl .badRequest
        else if p.kind = .passPrinted ∧ (s.bay b).printer.paper = .out then .inl .noPaper
        else if p.withCard q ∧ s.tearFree = false then .inl .cardBusy
        else .inr p := by
  have hroom : ¬ s.journal.erasedCount < Config.reserveBlocks := by
    simp only [Config.reserveBlocks]
    omega
  exact (if_neg hroom).trans ((if_neg (by rw [hset]; decide)).trans ((if_neg (by rw [hsupply]; decide)).trans
    (if_neg (by rw [hvalid]; decide))))

/-- The gate's conditions, each deciding where those before it hold. -/
theorem openGate_order (s : State) (b : BayNo) (q : Selection) :
    let bank := s.tariff.bank s.tariff.active
    (s.journal.erasedCount < 2 → s.openGate b q = .inl .journalLow)
    ∧ (2 ≤ s.journal.erasedCount → s.time.isSet = false → s.openGate b q = .inl .timeUnset)
    ∧ (2 ≤ s.journal.erasedCount → s.time.isSet = true → s.supplyLow = true → s.openGate b q = .inl .supplyLow)
    ∧ (2 ≤ s.journal.erasedCount → s.time.isSet = true → s.supplyLow = false → bank.allValid = false →
        s.openGate b q = .inl .noBank)
    ∧ (2 ≤ s.journal.erasedCount → s.time.isSet = true → s.supplyLow = false → bank.allValid = true →
        (s.offered q = none → s.openGate b q = .inl .noProduct)
        ∧ (∀ p, s.offered q = some p →
            (p.fits q = false → s.openGate b q = .inl .badRequest)
            ∧ (p.fits q = true → p.kind = .passPrinted → (s.bay b).printer.paper = .out →
                s.openGate b q = .inl .noPaper)
            ∧ (p.fits q = true → (p.kind ≠ .passPrinted ∨ (s.bay b).printer.paper ≠ .out) →
                (p.kind ≠ .passPrinted ∨ q.cardIntended = true) →
                16 ≤ s.card.tears.length + s.reservations → s.openGate b q = .inl .cardBusy)
            ∧ (p.fits q = true → (p.kind ≠ .passPrinted ∨ (s.bay b).printer.paper ≠ .out) →
                (p.kind = .passPrinted ∧ q.cardIntended = false
                  ∨ s.card.tears.length + s.reservations < 16) → s.openGate b q = .inr p))) := by
  have hlow : ∀ h : 2 ≤ s.journal.erasedCount, ¬ s.journal.erasedCount < Config.reserveBlocks := fun h => by
    simp only [Config.reserveBlocks]
    omega
  refine ⟨fun h => if_pos h, fun h hset => ?_, fun h hset hsupply => ?_, fun h hset hsupply hvalid => ?_,
    fun h hset hsupply hvalid => ⟨fun hnone => ?_, fun p hp => ?_⟩⟩
  · exact (if_neg (hlow h)).trans (if_pos hset)
  · exact (if_neg (hlow h)).trans ((if_neg (by rw [hset]; decide)).trans (if_pos hsupply))
  · exact (if_neg (hlow h)).trans ((if_neg (by rw [hset]; decide)).trans ((if_neg (by rw [hsupply]; decide)).trans
      (if_pos hvalid)))
  · rw [openGate_offered h hset hsupply hvalid, hnone]
  · have hcard : p.withCard q = true ↔ (p.kind ≠ .passPrinted ∨ q.cardIntended = true) := by
      unfold Product.withCard
      cases hk : p.kind <;> simp
    have hfree : s.tearFree = false ↔ 16 ≤ s.card.tears.length + s.reservations := by
      rw [State.tearFree, decide_eq_false_iff_not, not_lt]
      rfl
    rw [openGate_offered h hset hsupply hvalid, hp]
    dsimp only
    refine ⟨fun hfit => if_pos hfit, fun hfit hk hout => ?_, fun hfit hpaper hwith hfull => ?_, fun hfit hpaper hroom => ?_⟩
    · rw [if_neg (by rw [hfit]; decide), if_pos ⟨hk, hout⟩]
    · rw [if_neg (by rw [hfit]; decide), if_neg (by tauto), if_pos ⟨hcard.mpr hwith, hfree.mpr hfull⟩]
    · rw [if_neg (by rw [hfit]; decide), if_neg (by tauto), if_neg]
      rintro ⟨hwith, hfull⟩
      rw [hfree] at hfull
      rw [hcard] at hwith
      rcases hroom with ⟨hk, hno⟩ | hlt
      · rcases hwith with hk' | hyes
        · exact hk' hk
        · rw [hno] at hyes
          cases hyes
      · omega

end

end Sys2Proof.Proofs

/-! PROOFS. A SELECT refused, and one that opens its transaction (R5, R6, R8). -/

namespace Sys2Proof.Proofs

open Sys2Proof Sys2Proof.Machine Sys2Proof.Laws

section
variable {s t : State} {b : BayNo} {q : Selection} {code : Code}

theorem clearOverlay_state (b : BayNo) (s : State) : ((clearOverlay b s).ctx b).state = (s.ctx b).state := by
  rw [clearOverlay_ctx]

theorem clearOverlay_openGate (b : BayNo) (s : State) (q : Selection) :
    (clearOverlay b s).openGate b q = s.openGate b q := by
  have h := clearOverlay_becomes b s
  exact openGate_congr h.journal h.time h.tariff h.card (h.reservations rfl) (h.field Bay.printer fun _ => rfl)

/-- Why a SELECT is refused with a code. -/
def SelectRefused (s : State) (b : BayNo) (q : Selection) (code : Code) : Prop :=
  (s.ctx b).state = .outOfService ∧ code = .outOfService ∨ (s.ctx b).state.isOpen = true ∧ code = .busy
    ∨ (s.ctx b).state = .idle ∧ s.openGate b q = .inl code

theorem select_of_refused (h : SelectRefused s b q code) : select q b s = refuse code b (clearOverlay b s) := by
  have hstate := clearOverlay_state b s
  have hgate := clearOverlay_openGate b s q
  unfold select
  dsimp only
  split
  next hout =>
    rw [hstate] at hout
    rcases h with ⟨-, rfl⟩ | ⟨hopen, -⟩ | ⟨hidle, -⟩
    · rfl
    · rw [hout] at hopen
      cases hopen
    · rw [hout] at hidle
      cases hidle
  next hidle =>
    rw [hstate] at hidle
    rcases h with ⟨hout, -⟩ | ⟨hopen, -⟩ | ⟨-, hcode⟩
    · rw [hidle] at hout
      cases hout
    · rw [hidle] at hopen
      cases hopen
    · rw [hgate, hcode]
  next hnotOut hnotIdle =>
    rw [hstate] at hnotOut hnotIdle
    rcases h with ⟨hout, -⟩ | ⟨-, rfl⟩ | ⟨hidle, -⟩
    · exact absurd hout hnotOut
    · rfl
    · exact absurd hidle hnotIdle

theorem refuse_ctx_of {c : Ctx} {h : HoldCause} (hctx : s.ctx b = { c with overlay := .none, holdCause := h }) :
    (refuse code b s).ctx b = { c with
      lastRefusal := some code, overlay := .refusal code, holdCause := ((refuse code b s).ctx b).holdCause } :=
  (refuse_ctx code b s).trans (by rw [hctx])

theorem select_refused (h : s.HandsOn b (.key (.select q))) (hcase : SelectRefused s b q code) :
    ∃ t, exec .select s = .next t ∧ Handed s t ∧ OtherBays b s t ∧ t.tariff = s.tariff ∧ t.journal = s.journal
      ∧ t.card = s.card ∧ t.link = s.link
      ∧ t.ctx b = { s.ctx b with
          lastRefusal := some code, overlay := .refusal code, holdCause := (t.ctx b).holdCause }
      ∧ (t.bay b).term.tone = .double ∧ (t.bay b).term.tonePending = true := by
  have hselect : select q b (handed s) = refuse code b (clearOverlay b (handed s)) := by
    refine select_of_refused ?_
    exact hcase
  have hclear := clearOverlay_becomes b (handed s)
  have hrefused := (hclear.step (g := fun y => { y with ctx := { y.ctx with lastRefusal := some code } })
    (refuse_becomes code b _) fun _ => rfl)
  obtain ⟨htone, hpending⟩ := refuse_tone code b (clearOverlay b (handed s))
  have hctx := refuse_ctx_of (code := code) (clearOverlay_ctx b (handed s))
  obtain ⟨t, e, ht⟩ := exec_section (c := .select) rfl h rfl
  rw [hselect] at ht
  generalize refuse code b (clearOverlay b (handed s)) = u at hrefused htone hpending hctx ht
  refine ⟨t, e, handed_of_bus (ht.bus.trans hrefused.bus), fun c hc => (ht.bay c).trans (hrefused.others c hc),
    ht.tariff.trans hrefused.tariff, ht.journal.trans hrefused.journal, ht.card.trans hrefused.card,
    ht.link.trans hrefused.link, ?_, ?_, ?_⟩
  · rw [ht.ctx]
    exact hctx
  · rw [ht.bay]
    exact htone
  · rw [ht.bay]
    exact hpending

/-! ### A transaction opens (R5, R6) -/

/-- A record whose exchange has begun in PRESENTING, a READ handed over where the card slot is empty. -/
def presentedBay (y : Bay) : Bay :=
  match y.card.phase, y.term.cardSlot with
  | .presenting, none => { y with term := y.term.hand .read .exchange }
  | _, _ => y

theorem presentedBay_plain : Plain presentedBay := by
  intro y
  have hphase : (core y).card.phase = y.card.phase := rfl
  have hslot : (core y).term.cardSlot = y.term.cardSlot := rfl
  unfold presentedBay
  rw [hphase, hslot]
  split <;> rfl

theorem presentedBay_card (y : Bay) : (presentedBay y).card = y.card := by
  unfold presentedBay
  split <;> rfl

theorem presentedBay_ctx (y : Bay) : (presentedBay y).ctx = y.ctx := by
  unfold presentedBay
  split <;> rfl

theorem presentedBay_reserved (y : Bay) : (presentedBay y).reserved = y.reserved := by
  unfold presentedBay
  split <;> rfl

theorem presentRead_bay_self (b : BayNo) (s : State) : (presentRead b s).bay b = presentedBay (s.bay b) := by
  cases hp : (s.bay b).card.phase <;> cases hs : (s.bay b).term.cardSlot <;>
    simp only [presentRead, presentedBay, handCommand, State.modTerm, State.exch, State.slot, hp, hs, State.bay_modBay_self]

theorem presentRead_becomes (b : BayNo) (s : State) : Becomes b s (presentRead b s) (presentedBay (s.bay b)) := by
  refine ⟨?_, fun c hc => ?_, by rw [presentRead_bay_self]⟩
  · unfold presentRead
    split <;> rfl
  · unfold presentRead handCommand State.modTerm
    split
    · exact State.bay_modBay_ne s hc _
    · rfl

/-- A record whose exchange has just started. -/
def startedBay (p : Purpose) (req : Option WriteRequest) (now : Ms) (y : Bay) : Bay :=
  presentedBay { y with card := ⟨.presenting, some p, req, if p = .write then some now else none, none, none, none⟩ }

theorem startedBay_plain (p : Purpose) (req : Option WriteRequest) (now : Ms) : Plain (startedBay p req now) :=
  presentedBay_plain.comp (f := fun y =>
    { y with card := ⟨.presenting, some p, req, if p = .write then some now else none, none, none, none⟩ }) fun _ => rfl

theorem startExchange_becomes (p : Purpose) (req : Option WriteRequest) (b : BayNo) (s : State) :
    Becomes b s (startExchange p req b s) (startedBay p req s.now (s.bay b)) := by
  unfold startExchange State.modExch
  exact (Becomes.modBay b s _).step (presentRead_becomes b _) presentedBay_plain

end

end Sys2Proof.Proofs

/-! PROOFS. A SELECT that opens its transaction (R5, R6). -/

namespace Sys2Proof.Proofs

open Sys2Proof Sys2Proof.Machine Sys2Proof.Laws

/-- A tariff with a request placed holds it. -/
def Placed (t : Tariff) (r : PriceRequest) : Prop := t.evaluating = some r ∨ r ∈ t.queue

theorem place_placed (t : Tariff) (r : PriceRequest) : Placed (t.place r) r := by
  unfold Placed Tariff.place Tariff.evalStart
  dsimp only
  split
  next r' rs hnone hqueue =>
    cases hq : t.queue with
    | nil =>
      rw [hq, List.nil_append, List.cons.injEq] at hqueue
      exact .inl (congrArg some hqueue.1.symm)
    | cons x xs =>
      rw [hq, List.cons_append, List.cons.injEq] at hqueue
      rw [← hqueue.2]
      exact .inr (List.mem_append_right _ List.mem_cons_self)
  next => exact .inr (List.mem_append_right _ List.mem_cons_self)

theorem place_kept (t : Tariff) (r : PriceRequest) :
    (t.place r).active = t.active ∧ (∀ k, (t.place r).pins k = t.pins k) ∧ (t.place r).site = t.site := by
  unfold Tariff.place Tariff.evalStart
  split <;> exact ⟨rfl, fun k => by cases k <;> rfl, rfl⟩

theorem pin_kept (t : Tariff) (k : Bank) : (t.pin k).pins k = t.pins k + 1 ∧ (t.pin k).active = t.active := by
  cases k <;> exact ⟨rfl, rfl⟩

section
variable {s t : State} {b : BayNo} {p : Product} {q : Selection}

theorem opening_turns (p : Product) (q : Selection) (b : BayNo) (s : State) :
    Turns b s (enter .opening b (selected p q b s)) (opened p q s.tariff.active s.time.calendar s.now (s.bay b)) := by
  have hselecting := (Becomes.modBay b s (selecting p q s.tariff.active s.time.calendar)).turns
  have hpinned : Turns b (s.modBay b (selecting p q s.tariff.active s.time.calendar)) (selected p q b s)
      ((s.modBay b (selecting p q s.tariff.active s.time.calendar)).bay b) :=
    .of_bays rfl rfl rfl (by unfold selected; cases s.tariff.active <;> rfl)
  exact (hselecting.shown hpinned).thereby (g := fun now _ => enteredBay .opening now) (enter_becomes .opening b _).turns
    fun _ => rfl

theorem opening_units (p : Product) (q : Selection) (b : BayNo) (s : State) :
    (enter .opening b (selected p q b s)).journal = s.journal
    ∧ (enter .opening b (selected p q b s)).card = s.card
    ∧ (enter .opening b (selected p q b s)).tariff = s.tariff.pin s.tariff.active := by
  have h := enter_becomes .opening b (selected p q b s)
  exact ⟨h.journal, h.card, h.tariff⟩

theorem enterCardRead_becomes (b : BayNo) (s : State) : Becomes b s (enterCardRead b s)
    (startedBay .read none s.now (enteredBay .cardRead s.now (s.bay b))) := by
  have hentered := enter_becomes .cardRead b s
  have h := startExchange_becomes .read none b (enter .cardRead b s)
  rw [show (enter .cardRead b s).now = s.now from congrArg Time.ms hentered.time] at h
  exact hentered.step h (startedBay_plain _ _ _)

theorem placeRequest_turns (b : BayNo) (s : State) : Turns b s (placeRequest b s) (s.bay b) :=
  .of_bays rfl rfl rfl (congrArg Table.entries (place_kept s.tariff _).2.2)

theorem enterPricing_turns (b : BayNo) (s : State) : Turns b s (enterPricing b s) (enteredBay .pricing s.now (s.bay b)) :=
  (enter_becomes .pricing b s).turns.shown (placeRequest_turns b _)

theorem enterPricing_units (b : BayNo) (s : State) : (enterPricing b s).journal = s.journal ∧ (enterPricing b s).card = s.card
    ∧ (enterPricing b s).tariff = s.tariff.place ((enter .pricing b s).priceRequest b) := by
  have h := enter_becomes .pricing b s
  exact ⟨h.journal, h.card, congrArg (fun t : Tariff => t.place _) h.tariff⟩

/-- Where a transaction stands once it has opened: a READ is outstanding, or its price is asked for. -/
theorem openTxn_withCard (hcard : p.withCard q = true) :
    Turns b s (openTxn p q b s) (startedBay .read none s.now (enteredBay .cardRead s.now
      (opened p q s.tariff.active s.time.calendar s.now (s.bay b))))
    ∧ (openTxn p q b s).journal = s.journal ∧ (openTxn p q b s).card = s.card
    ∧ (openTxn p q b s).tariff = s.tariff.pin s.tariff.active := by
  obtain ⟨hjournal, hcardUnit, htariff⟩ := opening_units p q b s
  have hopening := opening_turns p q b s
  rw [openTxn_eq, if_pos hcard]
  have hread := enterCardRead_becomes b (enter .opening b (selected p q b s))
  exact ⟨hopening.thereby (g := fun now _ y => startedBay .read none now (enteredBay .cardRead now y)) hread.turns
      ((startedBay_plain _ _ _).comp (f := enteredBay .cardRead s.now) fun _ => rfl),
    hread.journal.trans hjournal, hread.card.trans hcardUnit, hread.tariff.trans htariff⟩

theorem openTxn_priced (hcard : p.withCard q = false) :
    Turns b s (openTxn p q b s) (enteredBay .pricing s.now (opened p q s.tariff.active s.time.calendar s.now (s.bay b)))
    ∧ (openTxn p q b s).journal = s.journal ∧ (openTxn p q b s).card = s.card
    ∧ ∃ r, (openTxn p q b s).tariff = (s.tariff.pin s.tariff.active).place r ∧ r.bay = b ∧ r.product = q.product
        ∧ r.bank = s.tariff.active := by
  obtain ⟨hjournal, hcardUnit, htariff⟩ := opening_units p q b s
  have hopening := opening_turns p q b s
  rw [openTxn_eq, if_neg (by rw [hcard]; decide)]
  generalize enter .opening b (selected p q b s) = u at hopening hjournal hcardUnit htariff
  obtain ⟨hjournal', hcard', htariff'⟩ := enterPricing_units b u
  have hentered := hopening.thereby (g := fun now _ => enteredBay .pricing now) (enter_becomes .pricing b u).turns fun _ => rfl
  have hpriced := hopening.thereby (g := fun now _ => enteredBay .pricing now) (enterPricing_turns b u) fun _ => rfl
  rw [htariff] at htariff'
  generalize enter .pricing b u = v at htariff' hentered
  refine ⟨hpriced, hjournal'.trans hjournal, hcard'.trans hcardUnit, v.priceRequest b, htariff', rfl, ?_, ?_⟩
  · have hproduct := hentered.field (fun y => y.ctx.product) fun _ => rfl
    exact congrArg (fun o : Option Nat => o.getD 0) hproduct
  · have hbank := hentered.field (fun y => y.ctx.bank) fun _ => rfl
    exact congrArg (fun o : Option Bank => o.getD .a) hbank

end

end Sys2Proof.Proofs

/-! PROOFS. Every SELECT is refused or opens its transaction (R4 to R6, R8). -/

namespace Sys2Proof.Proofs

open Sys2Proof Sys2Proof.Machine Sys2Proof.Laws

section
variable {s : State} {b : BayNo} {p : Product} {q : Selection}

theorem select_of_opens (hidle : (s.ctx b).state = .idle) (hgate : s.openGate b q = .inr p) :
    select q b s = openTxn p q b (clearOverlay b s) := by
  have hstate := clearOverlay_state b s
  have hgate' := clearOverlay_openGate b s q
  unfold select
  dsimp only
  split
  next h =>
    rw [hstate, hidle] at h
    cases h
  next => rw [hgate', hgate]
  next h => exact absurd (hstate.trans hidle) h

/-- What the context takes of its selection (R5). -/
theorem open_takes (c : Ctx) (p : Product) (q : Selection) (k : Bank) (time : Calendar) :
    let d := c.open p q k time
    d.product = some q.product ∧ d.cls = some q.cls ∧ d.quantity = q.quantity ∧ d.cardIntended = q.cardIntended
    ∧ d.bank = some k ∧ d.openTime = some time
    ∧ (p.usesZones = true → d.origin = q.zones.map (·.1) ∧ d.destination = q.zones.map (·.2))
    ∧ (p.kind = .topup → d.topupAmount = q.topup)
    ∧ (p.usesZones = false → d.origin = none ∧ d.destination = none)
    ∧ (p.kind ≠ .topup → d.topupAmount = none) :=
  ⟨rfl, rfl, rfl, rfl, rfl, rfl, fun h => ⟨if_pos h, if_pos h⟩, fun h => if_pos h,
    fun h => ⟨if_neg (by rw [h]; decide), if_neg (by rw [h]; decide)⟩, fun h => if_neg h⟩

theorem select_opens (h : s.HandsOn b (.key (.select q))) (hidle : (s.ctx b).state = .idle)
    (hgate : s.openGate b q = .inr p) :
    ∃ t, exec .select s = .next t ∧ Handed s t ∧ OtherBays b s t ∧ t.journal = s.journal ∧ t.card = s.card
      ∧ t.time = s.time ∧ t.tariff.pins s.tariff.active = s.tariff.pins s.tariff.active + 1
      ∧ t.tariff.active = s.tariff.active
      ∧ (t.ctx b).product = some q.product ∧ (t.ctx b).cls = some q.cls ∧ (t.ctx b).quantity = q.quantity
      ∧ (t.ctx b).cardIntended = q.cardIntended ∧ (t.ctx b).bank = some s.tariff.active
      ∧ (t.ctx b).openTime = some s.time.calendar ∧ (t.ctx b).lastChange = s.time.ms
      ∧ (p.usesZones = true → (t.ctx b).origin = q.zones.map (·.1) ∧ (t.ctx b).destination = q.zones.map (·.2))
      ∧ (p.kind = .topup → (t.ctx b).topupAmount = q.topup)
      ∧ (p.usesZones = false → (t.ctx b).origin = none ∧ (t.ctx b).destination = none)
      ∧ (p.kind ≠ .topup → (t.ctx b).topupAmount = none)
      ∧ (t.bay b).reserved = p.withCard q
      ∧ (p.withCard q = true → (t.ctx b).state = .cardRead ∧ (t.exch b).phase = .presenting
          ∧ (t.exch b).purpose = some .read)
      ∧ (p.withCard q = false → (t.ctx b).state = .pricing
          ∧ ∃ r, (t.tariff.evaluating = some r ∨ r ∈ t.tariff.queue) ∧ r.bay = b ∧ r.product = q.product
              ∧ r.bank = s.tariff.active) := by
  have hselect : select q b (handed s) = openTxn p q b (clearOverlay b (handed s)) := select_of_opens hidle hgate
  have hclear := clearOverlay_becomes b (handed s)
  obtain ⟨t, e, ht⟩ := exec_section (c := .select) rfl h rfl
  rw [hselect] at ht
  generalize clearOverlay b (handed s) = u at hclear ht
  have htariff : u.tariff = s.tariff := hclear.tariff
  have hnow : u.now = s.time.ms := congrArg Time.ms hclear.time
  have hcalendar : u.time.calendar = s.time.calendar := congrArg Time.calendar hclear.time
  obtain ⟨hpinned, hactive⟩ := pin_kept s.tariff s.tariff.active
  cases hcard : p.withCard q with
  | true =>
    obtain ⟨hopened, hjournal, hcardUnit, htariff'⟩ := openTxn_withCard (s := u) (b := b) hcard
    rw [htariff, hnow, hcalendar] at hopened
    generalize openTxn p q b u = v at ht hopened hjournal hcardUnit htariff'
    have hctx : ∀ {α : Type} (f : Ctx → α), (∀ c, f { c with holdCause := .none, overlay := .none } = f c) →
        f (t.ctx b) = f (entered .cardRead s.time.ms (entered .opening s.time.ms
          ((u.ctx b).open p q s.tariff.active s.time.calendar))) := by
      intro α f hf
      rw [ht.ctx, State.ctx, hopened.field (fun y => f y.ctx) fun _ => hf _, startedBay, presentedBay_ctx]
      rfl
    have hexch : t.exch b = ⟨.presenting, some .read, none, none, none, none, none⟩ := by
      rw [ht.exch]
      refine (hopened.field Bay.card fun _ => rfl).trans ?_
      rw [startedBay, presentedBay_card]
      rfl
    have hreserved : (t.bay b).reserved = p.withCard q := by
      rw [ht.bay, hopened.field Bay.reserved fun _ => rfl, startedBay, presentedBay_reserved]
      rfl
    obtain ⟨-, -, -, -, -, -, hzones, htop, hnozones, hnotop⟩ :=
      open_takes (u.ctx b) p q s.tariff.active s.time.calendar
    refine ⟨t, e, handed_of_bus (ht.bus.trans (hopened.bus.trans hclear.bus)),
      fun c hc => (ht.bay c).trans ((hopened.others c hc).trans (hclear.others c hc)),
      ht.journal.trans (hjournal.trans hclear.journal), ht.card.trans (hcardUnit.trans hclear.card),
      ht.time.trans (hopened.time.trans hclear.time), ?_, ?_, hctx Ctx.product fun _ => rfl, hctx Ctx.cls fun _ => rfl,
      hctx Ctx.quantity fun _ => rfl, hctx Ctx.cardIntended fun _ => rfl, hctx Ctx.bank fun _ => rfl,
      hctx Ctx.openTime fun _ => rfl, hctx Ctx.lastChange fun _ => rfl, fun hz => ?_, fun hk => ?_, fun hz => ?_, fun hk => ?_,
      hcard ▸ hreserved, fun _ => ⟨hctx Ctx.state fun _ => rfl, by rw [hexch], by rw [hexch]⟩, fun hno => by cases hno⟩
    · rw [ht.tariff, htariff', htariff]; exact hpinned
    · rw [ht.tariff, htariff', htariff]; exact hactive
    · exact ⟨(hctx Ctx.origin fun _ => rfl).trans (hzones hz).1, (hctx Ctx.destination fun _ => rfl).trans (hzones hz).2⟩
    · exact (hctx Ctx.topupAmount fun _ => rfl).trans (htop hk)
    · exact ⟨(hctx Ctx.origin fun _ => rfl).trans (hnozones hz).1, (hctx Ctx.destination fun _ => rfl).trans (hnozones hz).2⟩
    · exact (hctx Ctx.topupAmount fun _ => rfl).trans (hnotop hk)
  | false =>
    obtain ⟨hopened, hjournal, hcardUnit, r, htariff', hbay, hproduct, hbank⟩ := openTxn_priced (s := u) (b := b) hcard
    rw [htariff, hnow, hcalendar] at hopened
    rw [htariff] at htariff'
    obtain ⟨hkeptActive, hkeptPins, -⟩ := place_kept (s.tariff.pin s.tariff.active) r
    generalize openTxn p q b u = v at ht hopened hjournal hcardUnit htariff'
    have hctx : ∀ {α : Type} (f : Ctx → α), (∀ c, f { c with holdCause := .none, overlay := .none } = f c) →
        f (t.ctx b) = f (entered .pricing s.time.ms (entered .opening s.time.ms
          ((u.ctx b).open p q s.tariff.active s.time.calendar))) := by
      intro α f hf
      rw [ht.ctx, State.ctx, hopened.field (fun y => f y.ctx) fun _ => hf _]
      rfl
    have hreserved : (t.bay b).reserved = p.withCard q := by
      rw [ht.bay, hopened.field Bay.reserved fun _ => rfl]
      rfl
    obtain ⟨-, -, -, -, -, -, hzones, htop, hnozones, hnotop⟩ :=
      open_takes (u.ctx b) p q s.tariff.active s.time.calendar
    refine ⟨t, e, handed_of_bus (ht.bus.trans (hopened.bus.trans hclear.bus)),
      fun c hc => (ht.bay c).trans ((hopened.others c hc).trans (hclear.others c hc)),
      ht.journal.trans (hjournal.trans hclear.journal), ht.card.trans (hcardUnit.trans hclear.card),
      ht.time.trans (hopened.time.trans hclear.time), ?_, ?_, hctx Ctx.product fun _ => rfl, hctx Ctx.cls fun _ => rfl,
      hctx Ctx.quantity fun _ => rfl, hctx Ctx.cardIntended fun _ => rfl, hctx Ctx.bank fun _ => rfl,
      hctx Ctx.openTime fun _ => rfl, hctx Ctx.lastChange fun _ => rfl, fun hz => ?_, fun hk => ?_, fun hz => ?_, fun hk => ?_,
      hcard ▸ hreserved, (fun hyes => by cases hyes), fun _ => ⟨hctx Ctx.state fun _ => rfl, r, ?_, hbay, hproduct,
        hbank.trans (congrArg Tariff.active htariff)⟩⟩
    · rw [ht.tariff, htariff', hkeptPins]; exact hpinned
    · rw [ht.tariff, htariff', hkeptActive]; exact hactive
    · exact ⟨(hctx Ctx.origin fun _ => rfl).trans (hzones hz).1, (hctx Ctx.destination fun _ => rfl).trans (hzones hz).2⟩
    · exact (hctx Ctx.topupAmount fun _ => rfl).trans (htop hk)
    · exact ⟨(hctx Ctx.origin fun _ => rfl).trans (hnozones hz).1, (hctx Ctx.destination fun _ => rfl).trans (hnozones hz).2⟩
    · exact (hctx Ctx.topupAmount fun _ => rfl).trans (hnotop hk)
    · rw [ht.tariff, htariff']; exact place_placed _ r

end

/-- Settles O37. -/
theorem selectRefusedOrOpens : Obligations.SelectRefusedOrOpens :=
  ⟨fun _ _ _ _ h hcase => select_refused h hcase, fun s b q => openGate_order s b q,
    fun _ _ _ _ h hidle hgate => select_opens h hidle hgate⟩

end Sys2Proof.Proofs

/-! PROOFS. CANCEL (R7, R18). -/

namespace Sys2Proof.Proofs

open Sys2Proof Sys2Proof.Machine Sys2Proof.Laws

/-! ### What a close and a refund leave of the other units -/

section
variable {b : BayNo} {s t : State}

theorem endExchange_units (b : BayNo) (s : State) : (endExchange b s).journal = s.journal
    ∧ (endExchange b s).tariff = s.tariff ∧ (endExchange b s).card = s.card := by
  unfold endExchange endAuth
  split <;> exact ⟨rfl, rfl, rfl⟩

theorem chirpFrom_journal (was : CtxState) (b : BayNo) (s : State) : (chirpFrom was b s).journal = s.journal :=
  (chirpFrom_becomes was b s).journal

/-- A tariff with the bank of a context unpinned. -/
def unpinnedOf (o : Option Bank) (t : Tariff) : Tariff := o.elim t t.unpin

/-- The bank of a context, and the journal, once its transaction has closed. -/
theorem closeTxn_units (b : BayNo) (s : State) :
    (closeTxn b s).card = s.card
    ∧ (closeTxn b s).tariff = unpinnedOf (s.ctx b).bank s.tariff
    ∧ (siteAbsent s.site b = false → (closeTxn b s).journal = s.journal) := by
  have hemptied := emptied_becomes b s
  have hbank : ((if (s.ctx b).coins = [] then s else requestReturn b s).ctx b).bank = (s.ctx b).bank := by
    refine (hemptied.field (fun y => y.ctx.bank) fun _ => rfl).trans ?_
    unfold emptiedBay
    split
    · rfl
    · rw [returnedBay_ctx]
      rfl
  unfold closeTxn
  dsimp only
  generalize (if (s.ctx b).coins = [] then s else requestReturn b s) = u at hemptied hbank
  have hunpinned : (unpinBank b u).card = s.card ∧ (unpinBank b u).journal = s.journal
      ∧ (unpinBank b u).tariff = unpinnedOf (s.ctx b).bank s.tariff := by
    unfold unpinBank
    rw [hbank]
    cases (s.ctx b).bank with
    | none => exact ⟨hemptied.card, hemptied.journal, hemptied.tariff⟩
    | some k => exact ⟨hemptied.card, hemptied.journal, congrArg (Tariff.unpin · k) hemptied.tariff⟩
  have hsite := (unpinBank_turns b u).site.trans hemptied.site
  generalize unpinBank b u = v at hunpinned hsite
  obtain ⟨hcard, hjournal, htariff⟩ := hunpinned
  have hrested := rest_becomes ((v.modBay b fun y => { y with reserved := false }).restState b) b
    (v.modBay b fun y => { y with reserved := false })
  generalize rest _ b (v.modBay b fun y => { y with reserved := false }) = w at hrested
  have hchirp := chirpFrom_becomes (s.ctx b).state b (settleAbsent b w)
  have hsettled : (settleAbsent b w).card = w.card ∧ (settleAbsent b w).tariff = w.tariff
      ∧ (siteAbsent s.site b = false → (settleAbsent b w).journal = w.journal) := by
    unfold settleAbsent
    split
    next h =>
      refine ⟨rfl, rfl, fun hno => ?_⟩
      rw [hrested.site] at h
      have hyes : siteAbsent v.site b = true := h.1
      rw [hsite, hno] at hyes
      cases hyes
    next => exact ⟨rfl, rfl, fun _ => rfl⟩
  obtain ⟨hcard', htariff', hjournal'⟩ := hsettled
  exact ⟨hchirp.card.trans (hcard'.trans (hrested.card.trans hcard)),
    hchirp.tariff.trans (htariff'.trans (hrested.tariff.trans htariff)),
    fun h => hchirp.journal.trans ((hjournal' h).trans (hrested.journal.trans hjournal))⟩

theorem withdraw_pins (t : Tariff) (b : BayNo) (k : Bank) : (t.withdraw b).pins k = t.pins k := by
  cases k <;> rfl

theorem refunding_units (b : BayNo) (s : State) : (refunding b s).journal = s.journal
    ∧ ∀ k, ((refunding b s).tariff.pins k) = s.tariff.pins k := by
  have hunpriced : (unpriced b s).journal = s.journal ∧ ∀ k, ((unpriced b s).tariff.pins k) = s.tariff.pins k := by
    unfold unpriced
    split
    · exact ⟨rfl, fun k => withdraw_pins _ _ k⟩
    · exact ⟨rfl, fun _ => rfl⟩
  obtain ⟨hjournal, hpins⟩ := hunpriced
  obtain ⟨hjournal', htariff', -⟩ := endExchange_units b (unpriced b s)
  unfold refunding
  generalize endExchange b (unpriced b s) = u at hjournal' htariff'
  have hentered := enter_becomes .refund b (dropOwnEntry b u)
  generalize enter .refund b (dropOwnEntry b u) = v at hentered
  have hreturned := requestReturn_becomes b v
  refine ⟨hreturned.journal.trans (hentered.journal.trans (hjournal'.trans hjournal)), fun k => ?_⟩
  rw [hreturned.tariff, hentered.tariff, show (dropOwnEntry b u).tariff = u.tariff from rfl, htariff']
  exact hpins k

/-- A cancelled transaction with nothing owed has closed: its bank is unpinned and its context is cleared. -/
theorem enterRefund_closed {k : Bank} (howed : (s.ctx b).overflowValue = 0) (habsent : siteAbsent s.site b = false)
    (hbank : (s.ctx b).bank = some k) :
    (enterRefund b s).tariff.pins k = s.tariff.pins k - 1 ∧ (enterRefund b s).journal = s.journal
    ∧ ((enterRefund b s).ctx b).state = (if (s.ctx b).causes.isEmpty then .idle else .outOfService)
    ∧ ((enterRefund b s).ctx b).bank = none ∧ ((enterRefund b s).ctx b).product = none
    ∧ ((enterRefund b s).ctx b).price = none ∧ ((enterRefund b s).ctx b).causes = (s.ctx b).causes
    ∧ ((enterRefund b s).bay b).reserved = false := by
  obtain ⟨heq, hclosed⟩ := enterRefund_closes howed
  have hctx : ∀ {α : Type} (p : Ctx → α), (∀ c, p { c with holdCause := .none, overlay := .none } = p c) →
      p ((enterRefund b s).ctx b) = p ((refundBay s.now (s.bay b)).ctx.clear
        (restOf s.site b (refundBay s.now (s.bay b)).ctx.causes) s.now) := by
    intro α p hp
    rw [State.ctx, hclosed.field (fun y => p y.ctx) fun _ => hp _, closedBay_ctx_eq]
  have hcauses : (refundBay s.now (s.bay b)).ctx.causes = (s.ctx b).causes := returnedBay_causes _ _
  have hreserved : (closedBay s.site b s.now (refundBay s.now (s.bay b))).reserved = false := by
    unfold closedBay settledBay
    split <;> rfl
  obtain ⟨hjournal, hpins⟩ := refunding_units b s
  have hturns := refunding_turns b s
  generalize enterRefund b s = t at heq hclosed hctx ⊢
  generalize refunding b s = u at heq hturns hjournal hpins
  have hbank' : (u.ctx b).bank = some k := by
    refine (hturns.field (fun y => y.ctx.bank) fun _ => rfl).trans ?_
    rw [refundBay_ctx]
    exact hbank
  obtain ⟨-, htariff, hkept⟩ := closeTxn_units b u
  have hsite := hturns.site
  rw [hbank'] at htariff
  refine ⟨?_, ?_, ?_, hctx Ctx.bank fun _ => rfl, hctx Ctx.product fun _ => rfl, hctx Ctx.price fun _ => rfl,
    (hctx Ctx.causes fun _ => rfl).trans hcauses, (hclosed.field Bay.reserved fun _ => rfl).trans hreserved⟩
  · rw [heq, htariff]
    exact ((unpin_pins _ k k).trans (by rw [if_pos rfl])).trans (congrArg (· - 1) (hpins k))
  · rw [heq, hkept (hsite ▸ habsent), hjournal]
  · rw [hctx Ctx.state fun _ => rfl, hcauses]
    show restOf s.site b _ = _
    rw [restOf, habsent, Bool.not_false, Bool.and_true]

/-- A cancelled transaction stands in one of three states. -/
theorem cancelled_state (h : Cancelled s t b) : (t.ctx b).state ∈ [CtxState.refund, .idle, .outOfService] := by
  obtain ⟨-, -, howed, hrest⟩ := h
  by_cases h : 0 < (s.ctx b).overflowValue
  · rw [howed h]
    exact List.mem_cons_self
  · obtain ⟨hstate, -⟩ := hrest (by omega)
    rw [hstate]
    split <;> decide

/-! ### CANCEL -/

theorem cancel_early (htakes : (s.ctx b).wait ≠ .places) (hstate : (s.ctx b).state ∈ [CtxState.cardRead, .pricing, .priced, .tender]) :
    cancel b s = enterRefund b (clearOverlay b s) := by
  have hclear := clearOverlay_becomes b s
  have hwait : ((clearOverlay b s).ctx b).wait = (s.ctx b).wait := hclear.field (fun y => y.ctx.wait) fun _ => rfl
  have hsame := clearOverlay_state b s
  unfold cancel
  rw [if_pos (by rw [Ctx.takes, hwait]; exact decide_eq_true htakes)]
  rw [← hsame] at hstate
  generalize clearOverlay b s = u at hstate
  generalize (u.ctx b).state = st at hstate
  fin_cases hstate <;> rfl

theorem cancel_waits (htakes : (s.ctx b).wait ≠ .places) (hstate : (s.ctx b).state = .cardWrite ∨ (s.ctx b).state = .tearWait) :
    cancel b s = refresh b ((clearOverlay b s).modCtx b fun c => { c with overlay := .pleaseWait }) := by
  have hclear := clearOverlay_becomes b s
  have hwait : ((clearOverlay b s).ctx b).wait = (s.ctx b).wait := hclear.field (fun y => y.ctx.wait) fun _ => rfl
  have hsame := clearOverlay_state b s
  unfold cancel
  rw [if_pos (by rw [Ctx.takes, hwait]; exact decide_eq_true htakes)]
  rw [← hsame] at hstate
  rcases hstate with h | h <;> simp only [h]

theorem cancel_ignored (hstate : (s.ctx b).state ∈ [CtxState.opening, .commit, .payout, .print, .refund, .idle, .outOfService]) :
    cancel b s = clearOverlay b s := by
  have hsame := clearOverlay_state b s
  rw [← hsame] at hstate
  unfold cancel
  generalize clearOverlay b s = u at hstate
  generalize hst : (u.ctx b).state = st at hstate
  fin_cases hstate <;> simp only [hst, ite_self]

/-- What CANCEL makes of a state, its section handed on. -/
theorem cancel_turns (b : BayNo) (s : State) (htakes : (s.ctx b).wait ≠ .places) : ∃ y, Turns b s (cancel b s) y := by
  have hclear := (clearOverlay_becomes b s).turns
  have hexhaust : (s.ctx b).state ∈ [CtxState.cardRead, .pricing, .priced, .tender]
      ∨ ((s.ctx b).state = .cardWrite ∨ (s.ctx b).state = .tearWait)
      ∨ (s.ctx b).state ∈ [CtxState.opening, .commit, .payout, .print, .refund, .idle, .outOfService] := by
    cases (s.ctx b).state <;> decide
  rcases hexhaust with h | h | h
  · rw [cancel_early htakes h]
    generalize clearOverlay b s = u at hclear
    by_cases howed : 0 < (u.ctx b).overflowValue
    · obtain ⟨w, x, -, h'⟩ := enterRefund_owes howed
      exact ⟨_, h'.behind hclear⟩
    · obtain ⟨-, h'⟩ := enterRefund_closes (show (u.ctx b).overflowValue = 0 by omega)
      exact ⟨_, h'.behind hclear⟩
  · rw [cancel_waits htakes h]
    exact ⟨_, ((Becomes.modBay b _ _).shown (refresh_becomes b _)).turns.behind hclear⟩
  · rw [cancel_ignored h]
    exact ⟨_, hclear⟩

theorem exch_refresh (b : BayNo) (s : State) : (refresh b s).exch b = s.exch b :=
  (refresh_becomes b s).field Bay.card fun _ => rfl

/-- Settles O39. -/
theorem cancelClosesWaitsOrIsIgnored : Obligations.CancelClosesWaitsOrIsIgnored := by
  intro s b h htakes
  obtain ⟨t, e, ht⟩ := exec_section (c := .cancel) rfl h rfl
  have htakes' : ((handed s).ctx b).wait ≠ .places := htakes
  obtain ⟨y, hturns⟩ := cancel_turns b (handed s) htakes'
  have hclear := clearOverlay_becomes b (handed s)
  have hclearCtx := clearOverlay_ctx b (handed s)
  refine ⟨t, e, handed_of_bus (ht.bus.trans hturns.bus),
    fun c hc => congrArg Bay.ctx ((ht.bay c).trans (hturns.others c hc)), fun hstate => ?_, fun hstate => ?_, fun hstate => ?_⟩
  · rw [cancel_early htakes' hstate] at ht
    have howed : ((clearOverlay b (handed s)).ctx b).overflowValue = (s.ctx b).overflowValue :=
      hclear.field (fun y => y.ctx.overflowValue) fun _ => rfl
    have hpulse : ((clearOverlay b (handed s)).bay b).escrow.pulse = (s.bay b).escrow.pulse :=
      hclear.field (fun y => y.escrow.pulse) fun _ => rfl
    have hbank : ((clearOverlay b (handed s)).ctx b).bank = (s.ctx b).bank :=
      hclear.field (fun y => y.ctx.bank) fun _ => rfl
    have hcauses : ((clearOverlay b (handed s)).ctx b).causes = (s.ctx b).causes :=
      hclear.field (fun y => y.ctx.causes) fun _ => rfl
    have hcancelled := cancelled_enterRefund b (clearOverlay b (handed s))
    have hclosed := fun k => enterRefund_closed (b := b) (s := clearOverlay b (handed s)) (k := k)
    rw [howed, hbank, hcauses, hclear.site, hclear.journal, hclear.tariff] at hclosed
    have hsince := cancelled_since hcancelled howed hpulse hclear.time
    generalize enterRefund b (clearOverlay b (handed s)) = u at ht hsince hclosed
    have hinState := cancelled_state hsince
    obtain ⟨hidle, hreturn, hrefund, -⟩ := hsince
    rw [ht.ctx, ht.exch, ht.bay, ht.tariff, ht.journal]
    exact ⟨hinState, hidle, hrefund, hreturn, fun hnone hsite k hk => hclosed k hnone hsite hk⟩
  · rw [cancel_waits htakes' hstate] at ht
    have hshown := refresh_becomes b ((clearOverlay b (handed s)).modCtx b fun c => { c with overlay := .pleaseWait })
    have hctx := refresh_ctx b ((clearOverlay b (handed s)).modCtx b fun c => { c with overlay := .pleaseWait })
    have hexch := exch_refresh b ((clearOverlay b (handed s)).modCtx b fun c => { c with overlay := .pleaseWait })
    rw [State.ctx_modCtx_self, hclearCtx] at hctx
    have hexch' : (clearOverlay b (handed s)).exch b = s.exch b := hclear.field Bay.card fun _ => rfl
    have hmod : ((clearOverlay b (handed s)).modCtx b fun c => { c with overlay := .pleaseWait }).exch b = s.exch b := by
      rw [← hexch', State.exch, State.modCtx, State.bay_modBay_self]
      rfl
    rw [ht.ctx, ht.exch, ht.card, ht.journal]
    exact ⟨hctx, hexch.trans hmod, hshown.card.trans hclear.card, hshown.journal.trans hclear.journal⟩
  · rw [cancel_ignored (s := handed s) (List.mem_cons_of_mem _ hstate)] at ht
    rw [ht.ctx, ht.exch, ht.card, ht.journal]
    exact ⟨hclearCtx, hclear.field Bay.card fun _ => rfl, hclear.card, hclear.journal⟩

end

end Sys2Proof.Proofs

/-! PROOFS. The Receipt Unit's jobs, and REPRINT (R139 to R148). -/

namespace Sys2Proof.Proofs

open Sys2Proof Sys2Proof.Machine Sys2Proof.Laws

/-! ### Expansion (R140, R141) -/

/-- A bay's record but for what expansion moves: the ring, and how far the sequencer has come. -/
def paged (y : Bay) : Bay :=
  { y with
    ring := []
    seq := { y.seq with
      state := .idle, copy := 0, step := 0, skip := 0, voucher := false, inVoucher := false, ringFull := false } }

theorem endCopy_paged (y : Bay) (j : Job) : paged (y.endCopy j) = paged y := by
  unfold Bay.endCopy
  split
  · rfl
  · split <;> rfl

/-- Expansion moves the ring and the sequencer's place alone. -/
theorem expandRun_paged (k : BankTables) (fuel : Nat) (y : Bay) : paged (expandRun k fuel y) = paged y := by
  induction fuel generalizing y with
  | zero => rfl
  | succ fuel ih =>
    unfold expandRun
    split
    · split
      · rfl
      · split
        · split
          · split
            · exact (ih _).trans rfl
            · rfl
          · rfl
        · split
          · exact (ih _).trans (endCopy_paged _ _)
          · split
            · exact (ih _).trans rfl
            · split
              · exact (ih _).trans (endCopy_paged _ _)
              · exact (ih _).trans rfl
              · dsimp only
                split
                · exact (ih _).trans rfl
                · rfl
    · rfl

/-- A field of the bay's record that expansion does not move. -/
theorem expandRun_field {α : Type} (p : Bay → α) (hp : ∀ y, p (paged y) = p y) (k : BankTables) (fuel : Nat) (y : Bay) :
    p (expandRun k fuel y) = p y := by
  rw [← hp, expandRun_paged, hp]

/-! ### Jobs (R139, R145) -/

/-- How a job that has gone on expanding ends, if it ends. -/
def drainedOutcome (y : Bay) : Option ReceiptOutcome := if y.seq.state = .draining ∧ y.ring = [] then some .printed else none

/-- A record whose REPRINT has ended, with no SALE job waiting. -/
def reprintedBay (o : ReceiptOutcome) (y : Bay) : Bay :=
  { y.clearJob with seq := { y.clearJob.seq with lastReprint := o, waiting := none } }

section
variable {b : BayNo} {s : State} {j : Job} {o : ReceiptOutcome}

theorem runJob_runs (hjob : (s.bay b).seq.job = some j)
    (hfresh : ¬ ((s.bay b).seq.state = .expanding ∧ (s.bay b).seq.ringFull = false
      ∧ j.stale (s.tariff.bank j.bank) = true)) :
    runJob b s = (s.modBay b fun _ => expandRun (s.tariff.bank j.bank) expandFuel (s.bay b),
      drainedOutcome (expandRun (s.tariff.bank j.bank) expandFuel (s.bay b))) := by
  unfold runJob
  simp only [hjob]
  rw [if_neg hfresh]
  rfl

theorem finishJob_sale (hjob : (s.bay b).seq.job = some j) (hkind : j.kind = .sale) :
    finishJob b o s = (keepReceipt b j o (s.modBay b Bay.clearJob), some o) := by
  unfold finishJob
  simp only [hjob, hkind]

theorem finishJob_reprint (hjob : (s.bay b).seq.job = some j) (hkind : j.kind = .reprint)
    (hwaiting : (s.bay b).seq.waiting = none) : finishJob b o s = (s.modBay b (reprintedBay o), none) := by
  have hw : ((s.modBay b Bay.clearJob).bay b).seq.waiting = none := by
    rw [State.bay_modBay_self]
    exact hwaiting
  unfold finishJob
  simp only [hjob, hkind, hw]
  rw [modBay_modBay]
  rfl

/-- A job asked for at an IDLE sequencer of a terminal not LOST begins to expand. -/
theorem startJob_runs (hlost : j.lostMark = false) (hterm : (s.bay b).term.state ≠ .lost)
    (hfresh : (j.stamp s.site).stale (s.tariff.bank (j.stamp s.site).bank) = false) :
    startJob b j s =
      let y := (s.bay b).takeJob (j.stamp s.site) s.now
      (s.modBay b fun _ => expandRun (s.tariff.bank (j.stamp s.site).bank) expandFuel y,
        drainedOutcome (expandRun (s.tariff.bank (j.stamp s.site).bank) expandFuel y)) := by
  have hmark : (j.stamp s.site).lostMark = false := by
    unfold Job.stamp
    split <;> exact hlost
  unfold startJob
  dsimp only
  generalize j.stamp s.site = k at hmark hfresh ⊢
  have hruns := runJob_runs (b := b) (s := s.modBay b fun y => y.takeJob k s.now) (j := k)
    (by rw [State.bay_modBay_self]; rfl) (fun ⟨_, _, hstale⟩ => by
      rw [show (s.modBay b fun y => y.takeJob k s.now).tariff = s.tariff from rfl, hfresh] at hstale
      cases hstale)
  rw [modBay_modBay, State.bay_modBay_self, show (s.modBay b fun y => y.takeJob k s.now).tariff = s.tariff from rfl] at hruns
  rw [if_neg, hruns]
  rintro (hyes | hyes)
  · rw [hmark] at hyes
    cases hyes
  · rw [State.bay_modBay_self] at hyes
    exact hterm hyes

/-! ### What a job can reach -/

/-- A bay's record but for what the Receipt Unit writes. -/
def sheet (y : Bay) : Bay :=
  { y with ring := [], inFlight := 0, chunkMark := none, lastReceipt := none, seq := Sequencer.reset }

/-- From s to t the Receipt Unit has worked at bay b. -/
def Prints (b : BayNo) (s t : State) : Prop := ∃ y, t = s.modBay b (fun _ => y) ∧ sheet y = sheet (s.bay b)

theorem Prints.refl (b : BayNo) (s : State) : Prints b s s :=
  ⟨s.bay b, by simp [State.modBay, State.bay], rfl⟩

theorem Prints.modBay {f : Bay → Bay} (h : sheet (f (s.bay b)) = sheet (s.bay b)) : Prints b s (s.modBay b f) :=
  ⟨f (s.bay b), rfl, h⟩

theorem Prints.trans {t u : State} (h : Prints b s t) (h' : Prints b t u) : Prints b s u := by
  obtain ⟨y, rfl, hy⟩ := h
  obtain ⟨z, rfl, hz⟩ := h'
  rw [State.bay_modBay_self] at hz
  exact ⟨z, modBay_modBay s b _ _, hz.trans hy⟩

theorem runJob_prints (b : BayNo) (s : State) : Prints b s (runJob b s).1 := by
  unfold runJob
  dsimp only
  split
  · exact .refl b s
  · split
    · exact .refl b s
    next j _ _ =>
      have hkept := expandRun_field sheet (fun _ => rfl) (s.tariff.bank j.bank) expandFuel (s.bay b)
      generalize expandRun (s.tariff.bank j.bank) expandFuel (s.bay b) = y at *
      exact .modBay (f := fun _ => y) hkept

theorem startJob_prints (b : BayNo) (j : Job) (s : State) : Prints b s (startJob b j s).1 := by
  unfold startJob
  dsimp only
  have htaken : Prints b s (s.modBay b fun y => y.takeJob (j.stamp s.site) s.now) := .modBay rfl
  split
  · exact htaken
  · exact htaken.trans (runJob_prints b _)

theorem keepReceipt_prints (b : BayNo) (j : Job) (o : ReceiptOutcome) (s : State) : Prints b s (keepReceipt b j o s) := by
  unfold keepReceipt
  split
  · exact .modBay rfl
  · exact .refl b s

theorem finishJob_prints (b : BayNo) (o : ReceiptOutcome) (s : State) : Prints b s (finishJob b o s).1 := by
  unfold finishJob
  split
  · exact .refl b s
  · have hcleared : Prints b s (s.modBay b Bay.clearJob) := .modBay rfl
    dsimp only
    split
    · exact hcleared.trans (keepReceipt_prints b _ _ _)
    · have hended := hcleared.trans (t := s.modBay b Bay.clearJob) (u := (s.modBay b Bay.clearJob).modBay b fun y =>
        { y with seq := { y.seq with lastReprint := o, waiting := none } }) (.modBay rfl)
      split
      · exact hended
      next w _ =>
        have hstarted := hended.trans (startJob_prints b w _)
        split
        next h => 
          rw [h] at hstarted
          exact (hstarted.trans (.modBay (f := Bay.clearJob) rfl)).trans (keepReceipt_prints b _ _ _)
        next h =>
          rw [h] at hstarted
          exact hstarted

theorem requestJob_prints (b : BayNo) (j : Job) (s : State) : Prints b s (requestJob b j s).1 := by
  unfold requestJob
  split
  · have hstarted := startJob_prints b j s
    split
    next h =>
      rw [h] at hstarted
      exact hstarted.trans (finishJob_prints b _ _)
    next h =>
      rw [h] at hstarted
      exact hstarted
  · exact .modBay (f := fun y => { y with seq := { y.seq with waiting := some j } }) rfl

theorem driveJob_prints (b : BayNo) (s : State) : Prints b s (driveJob b s).1 := by
  have hran := runJob_prints b s
  unfold driveJob
  split
  next h =>
    rw [h] at hran
    exact hran.trans (finishJob_prints b _ _)
  next h =>
    rw [h] at hran
    exact hran

theorem Prints.field {α : Type} {t : State} (h : Prints b s t) (p : Bay → α) (hp : ∀ y, p (sheet y) = p y) :
    p (t.bay b) = p (s.bay b) := by
  obtain ⟨y, rfl, hy⟩ := h
  rw [State.bay_modBay_self, ← hp, hy, hp]

theorem Prints.others {t : State} (h : Prints b s t) : OtherBays b s t := by
  obtain ⟨y, rfl, -⟩ := h
  exact fun c hc => State.bay_modBay_ne s hc _

theorem Prints.rest {t : State} (h : Prints b s t) : t = { s with bays := t.bays } := by
  obtain ⟨y, rfl, -⟩ := h
  rfl

theorem Prints.becomes {t : State} (h : Prints b s t) : Becomes b s t (t.bay b) := ⟨h.rest, h.others, rfl⟩

/-- Outside PRINT a job's outcome is discarded (R3). -/
theorem receiptTaken?_discarded {r : State × Option ReceiptOutcome} (h : (r.1.ctx b).state ≠ .print) : receiptTaken? b r = r.1 := by
  obtain ⟨t, o⟩ := r
  cases o with
  | none => rfl
  | some o => exact if_neg fun hp => h hp.1

/-! ### REPRINT (R8, R148) -/

theorem drainedOutcome_printed {y : Bay} (h : drainedOutcome y = some o) : o = .printed := by
  unfold drainedOutcome at h
  split at h
  · exact (Option.some.inj h).symm
  · cases h

theorem stale_job {r : LastReceipt} (h : s.unchanged r = true) : r.job.stale (s.tariff.bank r.bank) = false := by
  unfold State.unchanged at h
  unfold Job.stale
  dsimp only at h
  show (true && !_) = false
  rw [Bool.true_and, Bool.not_eq_false']
  exact h

/-- The job of a last receipt whose tables stand runs, or has printed nothing and is over. -/
theorem requestJob_reprint {r : LastReceipt} (hstands : s.unchanged r = true) (hidle : (s.bay b).seq.state = .idle)
    (hwaiting : (s.bay b).seq.waiting = none) (hterm : (s.bay b).term.state ≠ .lost) :
    ∃ y, receiptTaken? b (requestJob b r.job s) = s.modBay b (fun _ => y) ∧ y.ctx = (s.bay b).ctx
      ∧ y.lastReceipt = (s.bay b).lastReceipt
      ∧ (y.seq.job = some r.job ∨ y.seq.job = none ∧ y.seq.lastReprint = .printed) := by
  have hruns := startJob_runs (b := b) (s := s) (j := r.job) rfl hterm (stale_job hstands)
  unfold requestJob
  rw [if_pos hidle, hruns]
  dsimp only
  generalize hz : (s.bay b).takeJob (r.job.stamp s.site) s.now = z
  have hkept := fun {α : Type} (p : Bay → α) hp =>
    expandRun_field p hp (s.tariff.bank (r.job.stamp s.site).bank) expandFuel z
  generalize expandRun (s.tariff.bank (r.job.stamp s.site).bank) expandFuel z = y at hkept
  have hctx : y.ctx = (s.bay b).ctx := (hkept Bay.ctx fun _ => rfl).trans (by rw [← hz]; rfl)
  have hreceipt : y.lastReceipt = (s.bay b).lastReceipt := (hkept Bay.lastReceipt fun _ => rfl).trans (by rw [← hz]; rfl)
  have hjob : y.seq.job = some r.job := (hkept (fun y => y.seq.job) fun _ => rfl).trans (by rw [← hz]; rfl)
  have hwait : y.seq.waiting = none := (hkept (fun y => y.seq.waiting) fun _ => rfl).trans (by rw [← hz]; exact hwaiting)
  cases ho : drainedOutcome y with
  | none => exact ⟨y, rfl, hctx, hreceipt, .inl hjob⟩
  | some o =>
    obtain rfl := drainedOutcome_printed ho
    dsimp only
    rw [finishJob_reprint (j := r.job) (by rw [State.bay_modBay_self]; exact hjob) rfl
      (by rw [State.bay_modBay_self]; exact hwait), modBay_modBay]
    exact ⟨reprintedBay .printed y, rfl, hctx, hreceipt, .inr ⟨rfl, rfl⟩⟩

/-- A REPRINT in IDLE, section handed on and overlay gone, either refuses or starts its job. -/
theorem reprint_refused {code : Code} (h : (s.bay b).lastReceipt = none ∧ code = .noReceipt
    ∨ ∃ r, (s.bay b).lastReceipt = some r ∧ (s.recent r = false ∧ code = .noReceipt
      ∨ s.recent r = true ∧ (s.bay b).printer.paper = .out ∧ code = .noPaper
      ∨ s.recent r = true ∧ (s.bay b).printer.paper ≠ .out ∧ s.unchanged r = false ∧ code = .noReceipt)) :
    reprint b s = refuse code b s := by
  unfold reprint
  rcases h with ⟨hnone, rfl⟩ | ⟨r, hr, ⟨hold, rfl⟩ | ⟨hnew, hout, rfl⟩ | ⟨hnew, hin, hchanged, rfl⟩⟩
  · simp only [hnone]
  · simp only [hr, hold, if_true]
  · simp only [hr, hnew, hout, if_true, Bool.true_eq_false, if_false]
  · simp only [hr, hnew, hin, hchanged, if_true, Bool.true_eq_false, if_false]

theorem reprint_starts {r : LastReceipt} (hr : (s.bay b).lastReceipt = some r) (hnew : s.recent r = true)
    (hin : (s.bay b).printer.paper ≠ .out) (hstands : s.unchanged r = true) :
    reprint b s = receiptTaken? b (requestJob b r.job (s.modBay b fun y => { y with lastReceipt := none })) := by
  unfold reprint
  simp only [hr, hnew, hin, hstands, Bool.true_eq_false, if_false]

/-- REPRINT elsewhere starts its job. -/
theorem reprint_prints (b : BayNo) (s : State) (hidle : (s.ctx b).state = .idle) :
    (∃ code, reprint b s = refuse code b s) ∨ Prints b s (reprint b s) := by
  unfold reprint
  split
  · exact .inl ⟨_, rfl⟩
  · split
    · exact .inl ⟨_, rfl⟩
    · split
      · exact .inl ⟨_, rfl⟩
      · split
        · exact .inl ⟨_, rfl⟩
        next r _ _ _ _ =>
          refine .inr ?_
          have htaken : Prints b s (s.modBay b fun y => { y with lastReceipt := none }) := .modBay rfl
          have hasked := htaken.trans (requestJob_prints b r.job _)
          have hstate := hasked.field (fun y => y.ctx.state) fun _ => rfl
          rw [receiptTaken?_discarded]
          · exact hasked
          · rw [show ((requestJob b r.job _).1.ctx b).state = (s.ctx b).state from hstate, hidle]
            decide

/-- Settles O40. -/
theorem reprintRefusesOrStartsJob : Obligations.ReprintRefusesOrStartsJob := by
  intro s b h hidle
  obtain ⟨t, e, ht⟩ := exec_section (c := .reprint) rfl h rfl
  have hclear := clearOverlay_becomes b (handed s)
  have hidle' := clearOverlay_state b (handed s)
  dsimp only at ht
  rw [if_pos (hidle'.trans hidle)] at ht
  have hreceipt : ((clearOverlay b (handed s)).bay b).lastReceipt = (s.bay b).lastReceipt :=
    hclear.field Bay.lastReceipt fun _ => rfl
  have hprinter : ((clearOverlay b (handed s)).bay b).printer = (s.bay b).printer := hclear.field Bay.printer fun _ => rfl
  have hseq : ((clearOverlay b (handed s)).bay b).seq = (s.bay b).seq := hclear.field Bay.seq fun _ => rfl
  have hterm : ((clearOverlay b (handed s)).bay b).term.state = (s.bay b).term.state :=
    hclear.field (fun y => y.term.state) fun _ => rfl
  have hrefusal : ((clearOverlay b (handed s)).ctx b).lastRefusal = (s.ctx b).lastRefusal :=
    hclear.field (fun y => y.ctx.lastRefusal) fun _ => rfl
  have hrecent : ∀ r, (clearOverlay b (handed s)).recent r = decide ((s.time.ms - r.printedAt).toNat < 60000) := fun r => by
    rw [State.recent, State.now, hclear.time]
    rfl
  have hstands : ∀ r, (clearOverlay b (handed s)).unchanged r = s.unchanged r := fun r => by
    rw [State.unchanged, hclear.tariff]
    rfl
  generalize clearOverlay b (handed s) = u at *
  have hrefuse : ∀ {code}, reprint b u = refuse code b u →
      (t.ctx b).lastRefusal = some code ∧ (t.bay b).seq = (s.bay b).seq := fun {code} hcode => by
    rw [hcode] at ht
    have hrefused := refuse_becomes code b u
    rw [ht.ctx, ht.bay]
    exact ⟨hrefused.field (fun y => y.ctx.lastRefusal) fun _ => rfl, (hrefused.field Bay.seq fun _ => rfl).trans hseq⟩
  refine ⟨t, e, ?_⟩
  have hgeneral : ∃ y, Becomes b u (reprint b u) y ∧ y.ctx.state = (u.ctx b).state := by
    rcases reprint_prints b u (hidle'.trans hidle) with ⟨code, hcode⟩ | hprints
    · rw [hcode]
      exact ⟨_, refuse_becomes code b u, rfl⟩
    · exact ⟨_, hprints.becomes, hprints.field (fun y => y.ctx.state) fun _ => rfl⟩
  obtain ⟨y, hy, hstate⟩ := hgeneral
  refine ⟨handed_of_bus (ht.bus.trans (hy.bus.trans hclear.bus)),
    fun c hc => (ht.bay c).trans ((hy.others c hc).trans (hclear.others c hc)), ht.tariff.trans (hy.tariff.trans hclear.tariff),
    ht.journal.trans (hy.journal.trans hclear.journal), ?_, fun hnone => ?_, fun r hr => ⟨fun hold => ?_, fun hnew hout => ?_,
      fun hnew hin hunchanged hseqIdle hwaiting hlost => ?_⟩⟩
  · rw [ht.ctx]
    exact (hy.field (fun y => y.ctx.state) fun _ => rfl).trans (hstate.trans (hidle'.trans hidle))
  · exact hrefuse (reprint_refused (.inl ⟨hreceipt.trans hnone, rfl⟩))
  · refine hrefuse (reprint_refused (.inr ⟨r, hreceipt.trans hr, .inl ⟨?_, rfl⟩⟩))
    rw [hrecent, decide_eq_false_iff_not]
    omega
  · refine hrefuse (reprint_refused (.inr ⟨r, hreceipt.trans hr, .inr (.inl ⟨?_, ?_, rfl⟩)⟩))
    · rw [hrecent, decide_eq_true hnew]
    · rw [hprinter, hout]
  · rw [reprint_starts (hreceipt.trans hr) (by rw [hrecent, decide_eq_true hnew]) (by rw [hprinter]; exact hin)
      ((hstands r).trans hunchanged)] at ht
    have hgone : (u.modBay b fun y => { y with lastReceipt := none }).bay b = { u.bay b with lastReceipt := none } :=
      State.bay_modBay_self u b _
    obtain ⟨z, hz, hzctx, hzreceipt, hzjob⟩ := requestJob_reprint (b := b) (r := r)
      (s := u.modBay b fun y => { y with lastReceipt := none }) ((hstands r).trans hunchanged)
      (by rw [hgone]; exact (congrArg Sequencer.state hseq).trans hseqIdle)
      (by rw [hgone]; exact (congrArg Sequencer.waiting hseq).trans hwaiting)
      (by rw [hgone]; exact hterm.symm ▸ hlost)
    rw [hz] at ht
    have hbay : t.bay b = z := (ht.bay b).trans (State.bay_modBay_self _ b _)
    rw [State.ctx, hbay, hzctx, hzreceipt, hgone]
    refine ⟨hrefusal, rfl, ?_⟩
    rcases hzjob with hrunning | hover
    · exact .inl ⟨hrunning, rfl⟩
    · exact .inr hover

end

end Sys2Proof.Proofs

/-! PROOFS. Append requests and the entries of a transaction's later states (R12 to R15, R155). -/

namespace Sys2Proof.Proofs

open Sys2Proof Sys2Proof.Machine Sys2Proof.Laws

/-! ### The requests that stand (R155) -/

/-- The append requests that stand, in the queue and on the wait list. -/
def asked (j : Journal) : List Append := j.queue ++ j.waitList

/-- A journal but for what the engine writes and erases. -/
def lists (j : Journal) : List Append × List Append := (j.queue, j.waitList)

section
variable {j k : Journal} {s : State} {r q : Append}

theorem asked_of_lists (h : lists j = lists k) : asked j = asked k := by
  have hqueue : j.queue = k.queue := congrArg Prod.fst h
  have hwait : j.waitList = k.waitList := congrArg Prod.snd h
  rw [asked, hqueue, hwait, asked]

theorem modBlock_lists (j : Journal) (i : Nat) (f : Block → Block) : lists (j.modBlock i f) = lists j := by
  unfold Journal.modBlock
  split <;> rfl

theorem modRow_lists (j : Journal) (i : Nat) (f : Row → Row) : lists (j.modRow i f) = lists j := by
  unfold Journal.modRow
  split <;> rfl

theorem closeActive_lists (j : Journal) : lists j.closeActive = lists j := by
  unfold Journal.closeActive
  split
  · exact (modRow_lists _ _ _).trans (modBlock_lists _ _ _)
  · rfl

theorem activate_lists (h : j.activate = some k) : lists k = lists j := by
  unfold Journal.activate at h
  split at h
  · cases h
    exact (modRow_lists _ _ _).trans (modBlock_lists _ _ _)
  · cases h

theorem settleErase_lists (j : Journal) (now : Ms) (low : Bool) : lists (j.settleErase now low) = lists j := by
  unfold Journal.settleErase
  split
  · split
    · split <;> rfl
    · split <;> rfl
  · rfl

theorem notify?_journal (n : Option Notice) (s : State) : (notify? n s).journal = s.journal := by
  unfold notify?
  split <;> rfl

/-- The engine begins and ends its work without touching the requests. -/
theorem engineTake_lists (s : State) : lists (engineTake s).journal = lists s.journal := by
  unfold engineTake
  dsimp only
  split
  · split
    · rfl
    · split
      · rfl
      · split
        next h =>
          rw [notify?_journal]
          exact (activate_lists h).trans (closeActive_lists _)
        next => rfl
  · rfl

theorem journalKick_lists (s : State) : lists (journalKick s).journal = lists s.journal :=
  (settleErase_lists _ _ _).trans (engineTake_lists s)

theorem request_placed (hlink : r.isLink = false) (htable : r.isTable = false) (j : Journal) :
    j.request r = if j.queue.length < Config.appendPlaces then { j with queue := j.queue ++ [r] }
      else { j with waitList := j.waitList ++ [r] } := by
  unfold Journal.request
  split
  next hbody =>
    rw [Append.isLink, hbody] at hlink
    cases hlink
  next hbody =>
    rw [Append.isTable, hbody] at htable
    cases htable
  next => rfl

/-- A request other than a LINK or TABLE one joins those that stand. -/
theorem asked_append (hlink : r.isLink = false) (htable : r.isTable = false) (s : State) :
    q ∈ asked (append r s).journal ↔ q ∈ asked s.journal ∨ q = r := by
  rw [append, asked_of_lists (journalKick_lists _)]
  show q ∈ asked (s.journal.request r) ↔ _
  rw [request_placed hlink htable]
  have hasked : asked s.journal = s.journal.queue ++ s.journal.waitList := rfl
  split
  · rw [asked, hasked]
    simp only [List.mem_append, List.mem_singleton]
    tauto
  · rw [asked, hasked]
    simp only [List.mem_append, List.mem_singleton]
    tauto

end

end Sys2Proof.Proofs

/-! PROOFS. Entries to COMMIT, CARD_WRITE and TEAR_WAIT, and what follows PRICED (R12 to R15). -/

namespace Sys2Proof.Proofs

open Sys2Proof Sys2Proof.Machine Sys2Proof.Laws

/-! ### Commit routing (R92, R93) -/

theorem route_core (y : Bay) (c : Coin) : core (y.route c) = (core y).route c := by
  have hbox : (core y).box = y.box := rfl
  have htubes : (core y).tubes = y.tubes := rfl
  unfold Bay.route
  rw [hbox, htubes]
  split
  · split
    · split <;> rfl
    · rfl
  · split
    · rfl
    · split
      · rfl
      · split <;> rfl

theorem foldl_route_core (cs : List Coin) (y : Bay) : core (cs.foldl Bay.route y) = cs.foldl Bay.route (core y) := by
  induction cs generalizing y with
  | nil => rfl
  | cons c cs ih => rw [List.foldl_cons, List.foldl_cons, ih, route_core]

/-- Routing moves tubes and box alone. -/
theorem foldl_route_beside {α : Type} (p : Bay → α) (hp : ∀ y u x, p { y with tubes := u, box := x } = p y)
    (cs : List Coin) (y : Bay) : p (cs.foldl Bay.route y) = p y := by
  induction cs generalizing y with
  | nil => rfl
  | cons c cs ih =>
    rw [List.foldl_cons, ih]
    obtain ⟨u, x, h⟩ : ∃ u x, y.route c = { y with tubes := u, box := x } := by
      unfold Bay.route Bay.fill
      split
      · split
        · split <;> exact ⟨_, _, rfl⟩
        · exact ⟨_, _, rfl⟩
      · split
        · exact ⟨_, _, rfl⟩
        · split
          · exact ⟨_, _, rfl⟩
          · split <;> exact ⟨_, _, rfl⟩
    rw [h, hp]

/-- A record whose escrow list has been routed. -/
def routedBay (y : Bay) : Bay :=
  let z := y.ctx.coins.foldl Bay.route y
  { z with ctx := { z.ctx with coins := [] } }

theorem routedBay_ctx (y : Bay) : (routedBay y).ctx = { y.ctx with coins := [] } := by
  unfold routedBay
  dsimp only
  rw [foldl_route_beside Bay.ctx (fun _ _ _ => rfl)]

theorem routedBay_card (y : Bay) : (routedBay y).card = y.card := foldl_route_beside Bay.card (fun _ _ _ => rfl) _ _

theorem routedBay_term (y : Bay) : (routedBay y).term = y.term := foldl_route_beside Bay.term (fun _ _ _ => rfl) _ _

theorem routedBay_plain : Plain routedBay := by
  intro y
  have hcoins : (core y).ctx.coins = y.ctx.coins := rfl
  unfold routedBay
  dsimp only
  rw [hcoins]
  have h := foldl_route_core y.ctx.coins y
  have hagain := foldl_route_core y.ctx.coins (core y)
  have hcc : core (core y) = core y := rfl
  rw [hcc] at hagain
  have hsame := h.trans hagain.symm
  exact Plain.congr (g := fun z => { z with ctx := { z.ctx with coins := [] } }) (fun _ => rfl) hsame

section
variable {b : BayNo} {s : State}

theorem routeEscrow_becomes (b : BayNo) (s : State) : Becomes b s (routeEscrow b s) (routedBay (s.bay b)) :=
  (Becomes.modBay b s routedBay).shown (recomputeMask_becomes b _)

/-! ### Entry to COMMIT (R15) -/

/-- A context whose transaction commits. -/
def committed (now : Ms) (c : Ctx) : Ctx :=
  { entered .commit now c with coins := [], changeDue := some c.due, changePaid := 0, shortPay := 0, wait := .sale }

/-- A record whose transaction commits. -/
def committedBay (now : Ms) (y : Bay) : Bay :=
  let z := routedBay (enteredBay .commit now (ended y))
  { z with ctx := { z.ctx with changeDue := some z.ctx.due, changePaid := 0, shortPay := 0, wait := .sale } }

theorem committedBay_ctx (now : Ms) (y : Bay) : (committedBay now y).ctx = committed now y.ctx := by
  unfold committedBay
  dsimp only
  rw [routedBay_ctx]
  rfl

theorem committedBay_card (now : Ms) (y : Bay) : (committedBay now y).card = .reset := routedBay_card _

theorem committedBay_slot (now : Ms) (y : Bay) :
    (committedBay now y).term.cardSlot = y.term.cardSlot.bind CardSlot.leave :=
  congrArg Terminal.cardSlot (routedBay_term (enteredBay .commit now (ended y)))

theorem committedBay_plain (now : Ms) : Plain (committedBay now) :=
  Plain.comp (g := fun z =>
      { z with ctx := { z.ctx with changeDue := some z.ctx.due, changePaid := 0, shortPay := 0, wait := .sale } })
    (fun _ => rfl) (routedBay_plain.comp (Plain.comp (g := enteredBay .commit now) (fun _ => rfl) ended_plain))

/-- A transaction that commits has its SALE requested. -/
theorem enterCommit_turns (b : BayNo) (s : State) : Turns b s (enterCommit b s) (committedBay s.now (s.bay b))
    ∧ (enterCommit b s).card = s.card ∧ (enterCommit b s).tariff = s.tariff
    ∧ ∃ x, (∀ q, q ∈ asked (enterCommit b s).journal ↔ q ∈ asked s.journal ∨ q = ⟨.sale x, some b, .ctx b⟩) := by
  have hended := endExchange_turns b s
  obtain ⟨hjournal, htariff, hcard⟩ := endExchange_units b s
  unfold enterCommit
  dsimp only
  generalize endExchange b s = t at hended hjournal htariff hcard
  have hentered := enter_becomes .commit b t
  have hcommitted := hended.thereby (g := fun now _ => enteredBay .commit now) hentered.turns fun _ => rfl
  generalize enter .commit b t = u at hentered hcommitted
  have hrouted := routeEscrow_becomes b u
  have hcommitted' := hcommitted.step hrouted.turns routedBay_plain
  generalize routeEscrow b u = v at hrouted hcommitted'
  have hfixed := hcommitted'.mod (fun z =>
    { z with ctx := { z.ctx with changeDue := some z.ctx.due, changePaid := 0, shortPay := 0 } }) fun _ => rfl
  have hwaits := await_becomes .sale b (v.modBay b fun z =>
    { z with ctx := { z.ctx with changeDue := some z.ctx.due, changePaid := 0, shortPay := 0 } })
  have hwaits' := hfixed.step (g := fun z => { z with ctx := { z.ctx with wait := .sale } }) hwaits.turns fun _ => rfl
  unfold State.modCtx
  generalize await .sale b (v.modBay b _) = w at hwaits hwaits'
  have hjournal' : w.journal = s.journal := hwaits.journal.trans (hrouted.journal.trans (hentered.journal.trans hjournal))
  have hcard' : w.card = s.card := hwaits.card.trans (hrouted.card.trans (hentered.card.trans hcard))
  have htariff' : w.tariff = s.tariff := hwaits.tariff.trans (hrouted.tariff.trans (hentered.tariff.trans htariff))
  generalize hsale : (⟨.sale (w.saleBody b (s.ctx b).coins), some b, .ctx b⟩ : Machine.Append) = r
  have hbeside := append_beside r w
  refine ⟨(hwaits'.shown (append_turns b w r)).of_core rfl, (congrArg Beside.card hbeside).trans hcard',
    (congrArg Beside.tariff hbeside).trans htariff', w.saleBody b (s.ctx b).coins, fun q => ?_⟩
  rw [asked_append (by rw [← hsale]; rfl) (by rw [← hsale]; rfl), hjournal', hsale]

/-! ### Entries that start an exchange (R14) -/

theorem enterCardWrite_becomes (b : BayNo) (s : State) : ∃ r, Becomes b s (enterCardWrite b s)
    (startedBay .write (some r) s.now (enteredBay .cardWrite s.now (s.bay b))) := by
  have hentered := enter_becomes .cardWrite b s
  have h := startExchange_becomes .write (some (s.writeRequest b)) b (enter .cardWrite b s)
  rw [show (enter .cardWrite b s).now = s.now from congrArg Time.ms hentered.time] at h
  exact ⟨_, hentered.step h (startedBay_plain _ _ _)⟩

theorem enterTearWait_becomes (b : BayNo) (s : State) : Becomes b s (enterTearWait b s)
    (startedBay .retrn none s.now (enteredBay .tearWait s.now (s.bay b))) := by
  have hentered := enter_becomes .tearWait b s
  have h := startExchange_becomes .retrn none b (enter .tearWait b s)
  rw [show (enter .tearWait b s).now = s.now from congrArg Time.ms hentered.time] at h
  exact hentered.step h (startedBay_plain _ _ _)

end

end Sys2Proof.Proofs

/-! PROOFS. CONFIRM, and what follows PRICED (R11, R12). -/

namespace Sys2Proof.Proofs

open Sys2Proof Sys2Proof.Machine Sys2Proof.Laws

section
variable {b : BayNo} {s t : State}

/-! ### The acceptance mask (R82 to R84) -/

/-- The mask depends on the bay's record but for what it is shown, the lines and the site table. -/
theorem maskOf_congr (hbay : core (t.bay b) = core (s.bay b)) (htime : t.time = s.time) (hsite : t.site = s.site) :
    t.maskOf b = s.maskOf b := by
  have field : ∀ {α : Type} (p : Bay → α), (∀ x, p (core x) = p x) → p (t.bay b) = p (s.bay b) := fun p hp => by
    rw [← hp, hbay, hp]
  have hstate := field (fun y => y.ctx.state) fun _ => rfl
  have hwait := field (fun y => y.ctx.wait) fun _ => rfl
  have hbox := field Bay.box fun _ => rfl
  have hcauses := field (fun y => y.ctx.causes) fun _ => rfl
  have hcoins := field (fun y => y.ctx.coins) fun _ => rfl
  have hcoin := field Bay.coin fun _ => rfl
  have htendered := field (fun y => y.ctx.tendered) fun _ => rfl
  have hprice := field (fun y => y.ctx.price) fun _ => rfl
  have htubes := field Bay.tubes fun _ => rfl
  have hlow : t.supplyLow = s.supplyLow := by rw [State.supplyLow, htime, State.supplyLow]
  have henables : t.enables b = s.enables b := by
    funext x p k
    simp only [State.enables, State.changePlan, hsite, htubes]
  unfold State.maskOf State.maskShut
  simp only [State.ctx, hstate, hwait, hbox, hcauses, hcoins, hcoin, htendered, hprice, hlow, henables]

theorem refresh_mask (b : BayNo) (s : State) : ((refresh b s).bay b).mask = (s.bay b).mask := by
  unfold refresh State.modCtx
  simp only [State.bay_modBay_self]

/-- On entry the mask is that of the state entered. -/
theorem enter_mask (st : CtxState) (b : BayNo) (s : State) : ((enter st b s).bay b).mask = (enter st b s).maskOf b := by
  unfold enter
  dsimp only
  generalize entryTone _ st b _ = u
  have hshown := (recomputeMask_becomes b u).shown (refresh_becomes b _)
  rw [refresh_mask, recomputeMask, State.bay_modBay_self]
  exact (maskOf_congr hshown.bay hshown.time hshown.site).symm

/-! ### What follows PRICED (R12) -/

/-- The balance of the card record, 0 without one. -/
def cardBalanceOf (c : Ctx) : Nat := (c.card.map CardValues.balance).getD 0

/-- What a transaction that leaves PRICED leads to. -/
theorem leavePriced_eq (b : BayNo) (s : State) : leavePriced b s =
    if (s.ctx b).method = some .purse ∧ cardBalanceOf (s.ctx b) < (s.ctx b).price.getD 0 then
      refuse .insufficient b (s.modCtx b fun c => { c with method := none })
    else if (s.ctx b).price.getD 0 = 0 then (if s.writesCard b then enterCardWrite b s else enterCommit b s)
    else if (s.ctx b).method = some .purse then enterCardWrite b s
    else enter .tender b s := by
  unfold leavePriced
  dsimp only
  cases h : (s.ctx b).card with
  | none => simp only [cardBalanceOf, h, Option.map_none, Option.getD_none]
  | some v => simp only [cardBalanceOf, h, Option.map_some, Option.getD_some]

theorem leavePriced_turns (b : BayNo) (s : State) :
    ∃ y, Turns b s (leavePriced b s) y ∧ y.ctx.receiptWanted = (s.ctx b).receiptWanted
      ∧ y.ctx.price = (s.ctx b).price ∧ y.ctx.priceMethod = (s.ctx b).priceMethod := by
  have hwrite : ∃ y, Turns b s (enterCardWrite b s) y ∧ y.ctx.receiptWanted = (s.ctx b).receiptWanted
      ∧ y.ctx.price = (s.ctx b).price ∧ y.ctx.priceMethod = (s.ctx b).priceMethod := by
    obtain ⟨r, h⟩ := enterCardWrite_becomes b s
    refine ⟨_, h.turns, ?_⟩
    rw [startedBay, presentedBay_ctx]
    exact ⟨rfl, rfl, rfl⟩
  rw [leavePriced_eq]
  split
  · exact ⟨_, ((Becomes.modBay b s _).turns.step (g := fun y => { y with ctx := { y.ctx with lastRefusal := some .insufficient } })
      (refuse_becomes .insufficient b _).turns fun _ => rfl), rfl, rfl, rfl⟩
  · split
    · split
      · exact hwrite
      · refine ⟨_, (enterCommit_turns b s).1, ?_⟩
        rw [committedBay_ctx]
        exact ⟨rfl, rfl, rfl⟩
    · split
      · exact hwrite
      · exact ⟨_, (enter_becomes .tender b s).turns, rfl, rfl, rfl⟩

theorem enterCardWrite_ctx (b : BayNo) (s : State) : ((enterCardWrite b s).ctx b).state = .cardWrite
    ∧ ((enterCardWrite b s).ctx b).method = (s.ctx b).method := by
  obtain ⟨r, h⟩ := enterCardWrite_becomes b s
  have hctx : (startedBay .write (some r) s.now (enteredBay .cardWrite s.now (s.bay b))).ctx = entered .cardWrite s.now (s.ctx b) := by
    rw [startedBay, presentedBay_ctx]
    rfl
  exact ⟨(h.field (fun y => y.ctx.state) fun _ => rfl).trans (congrArg Ctx.state hctx),
    (h.field (fun y => y.ctx.method) fun _ => rfl).trans ((congrArg Ctx.method hctx).trans rfl)⟩

theorem enterCommit_ctx {α : Type} (p : Ctx → α) (hp : ∀ c, p { c with holdCause := .none, overlay := .none } = p c)
    (b : BayNo) (s : State) : p ((enterCommit b s).ctx b) = p (committed s.now (s.ctx b)) := by
  rw [State.ctx, (enterCommit_turns b s).1.field (fun y => p y.ctx) fun _ => hp _, committedBay_ctx]
  rfl

/-- PURSE with a card balance below the price. -/
theorem leavePriced_short (hmethod : (s.ctx b).method = some .purse)
    (hshort : cardBalanceOf (s.ctx b) < (s.ctx b).price.getD 0) :
    ((leavePriced b s).ctx b).state = (s.ctx b).state ∧ ((leavePriced b s).ctx b).method = none
    ∧ ((leavePriced b s).ctx b).lastRefusal = some .insufficient := by
  rw [leavePriced_eq, if_pos ⟨hmethod, hshort⟩]
  have h := (Becomes.modBay b s fun y => { y with ctx := { y.ctx with method := none } }).step
    (g := fun y => { y with ctx := { y.ctx with lastRefusal := some .insufficient } }) (refuse_becomes .insufficient b _) fun _ => rfl
  exact ⟨h.field (fun y => y.ctx.state) fun _ => rfl, h.field (fun y => y.ctx.method) fun _ => rfl,
    h.field (fun y => y.ctx.lastRefusal) fun _ => rfl⟩

/-- A price of 0. -/
theorem leavePriced_free (hfree : (s.ctx b).price.getD 0 = 0) : ((leavePriced b s).ctx b).method = (s.ctx b).method
    ∧ ((leavePriced b s).ctx b).state = (if s.writesCard b then .cardWrite else .commit) := by
  rw [leavePriced_eq, if_neg (by omega), if_pos hfree]
  split
  next =>
    obtain ⟨hstate, hmethod⟩ := enterCardWrite_ctx b s
    exact ⟨hmethod, hstate⟩
  next =>
    exact ⟨enterCommit_ctx Ctx.method (fun _ => rfl) b s, enterCommit_ctx Ctx.state (fun _ => rfl) b s⟩

/-- PURSE with a balance that pays a price above 0. -/
theorem leavePriced_purse (hmethod : (s.ctx b).method = some .purse) (hprice : 0 < (s.ctx b).price.getD 0)
    (hpays : (s.ctx b).price.getD 0 ≤ cardBalanceOf (s.ctx b)) : leavePriced b s = enterCardWrite b s := by
  rw [leavePriced_eq, if_neg (by omega), if_neg (by omega), if_pos hmethod]

/-- COINS for a price above 0. -/
theorem leavePriced_coins (hmethod : (s.ctx b).method = some .coins) (hprice : 0 < (s.ctx b).price.getD 0) :
    leavePriced b s = enter .tender b s := by
  rw [leavePriced_eq, if_neg (by rw [hmethod]; exact fun h => by cases h.1), if_neg (by omega),
    if_neg (by rw [hmethod]; exact fun h => by cases h)]

/-! ### CONFIRM (R11) -/

theorem product_congr (hbay : core (t.bay b) = core (s.bay b)) (htariff : t.tariff = s.tariff) : t.product b = s.product b := by
  have hbank : (core (t.bay b)).ctx.bank = (core (s.bay b)).ctx.bank := by rw [hbay]
  have hproduct : (core (t.bay b)).ctx.product = (core (s.bay b)).ctx.product := by rw [hbay]
  unfold State.product
  rw [show (t.ctx b).bank = (s.ctx b).bank from hbank, show (t.ctx b).product = (s.ctx b).product from hproduct, htariff]

theorem confirmFailure_congr {p : Product} {m : Method} {y : Bay} (h : Becomes b s t y) (hy : y = s.bay b) :
    t.confirmFailure b p m = s.confirmFailure b p m := by
  subst hy
  have hcard : (t.ctx b).card = (s.ctx b).card := h.field (fun y => y.ctx.card) fun _ => rfl
  have htopup : (t.ctx b).topupAmount = (s.ctx b).topupAmount := h.field (fun y => y.ctx.topupAmount) fun _ => rfl
  unfold State.confirmFailure State.methodFits State.offlineFits State.online
  rw [hcard, htopup, h.site, h.card, h.link]

theorem writesCard_of_product {p : Product} (h : s.product b = some p) :
    s.writesCard b = decide (p.kind ≠ .passPrinted) := by
  unfold State.writesCard
  rw [h, Option.map_some]
  cases p.kind <;> rfl

theorem confirm_taken {m : Method} {w : Bool} {p : Product} (hstate : (s.ctx b).state = .priced)
    (htakes : (s.ctx b).wait ≠ .places) (hproduct : s.product b = some p) :
    (∀ code, s.confirmFailure b p m = some code → confirm m w b s = refuse code b (clearOverlay b s))
    ∧ (s.confirmFailure b p m = none → confirm m w b s = confirmed p m w b (clearOverlay b s)) := by
  have hclear := clearOverlay_becomes b s
  have hstate' : ((clearOverlay b s).ctx b).state = .priced := (clearOverlay_state b s).trans hstate
  have htakes' : ((clearOverlay b s).ctx b).takes = true := by
    have hwait : ((clearOverlay b s).ctx b).wait = (s.ctx b).wait := hclear.field (fun y => y.ctx.wait) fun _ => rfl
    rw [Ctx.takes, hwait]
    exact decide_eq_true htakes
  have hproduct' := (product_congr hclear.bay hclear.tariff).trans hproduct
  have hfailure := confirmFailure_congr (p := p) (m := m) hclear rfl
  unfold confirm
  dsimp only
  rw [if_pos ⟨hstate', htakes'⟩]
  simp only [hproduct', hfailure]
  exact ⟨fun code h => by simp only [h], fun h => by simp only [h]⟩

/-- The context of a CONFIRM that passes. -/
def confirmedCtx (p : Product) (m : Method) (w : Bool) (c : Ctx) : Ctx :=
  { c with method := some m, receiptWanted := w || decide (p.kind = .passPrinted) }

theorem confirmed_eq (p : Product) (m : Method) (w : Bool) (b : BayNo) (s : State) : confirmed p m w b s =
    if (s.ctx b).priceMethod = some m then leavePriced b (s.modCtx b (confirmedCtx p m w))
    else enterPricing b (s.modCtx b (confirmedCtx p m w)) := by
  unfold confirmed
  dsimp only
  rw [State.ctx_modCtx_self]
  rfl

theorem methodOf_of_method {m : Method} (h : (s.ctx b).method = some m) : s.methodOf b = m := by
  unfold State.methodOf
  rw [h]

theorem enterPricing_placed (b : BayNo) (s : State) : ∃ r, Placed (enterPricing b s).tariff r ∧ r.bay = b
    ∧ (∀ m, (s.ctx b).method = some m → r.method = m) ∧ r.slots = (s.ctx b).card.map CardValues.slots := by
  obtain ⟨-, -, htariff⟩ := enterPricing_units b s
  have hentered := enter_becomes .pricing b s
  refine ⟨_, htariff ▸ place_placed _ _, rfl, fun m hm => ?_, ?_⟩
  · exact methodOf_of_method ((hentered.field (fun y => y.ctx.method) fun _ => rfl).trans hm)
  · exact congrArg (fun o : Option CardValues => o.map CardValues.slots) (hentered.field (fun y => y.ctx.card) fun _ => rfl)

/-- What a CONFIRM that passes makes of its context. -/
theorem confirmed_leads {p : Product} (hproduct : s.product b = some p) (m : Method) (w : Bool) :
    let price := (s.ctx b).price.getD 0
    let t := confirmed p m w b s
    (∃ y, Turns b s t y) ∧ (t.ctx b).receiptWanted = (w || decide (p.kind = .passPrinted))
    ∧ ((s.ctx b).priceMethod ≠ some m → (t.ctx b).state = .pricing ∧ (t.ctx b).method = some m
        ∧ ∃ r, Placed t.tariff r ∧ r.bay = b ∧ r.method = m)
    ∧ ((s.ctx b).priceMethod = some m →
        (m = .purse → cardBalanceOf (s.ctx b) < price → (t.ctx b).state = (s.ctx b).state ∧ (t.ctx b).method = none
          ∧ (t.ctx b).lastRefusal = some .insufficient)
        ∧ (price = 0 → (t.ctx b).method = some m ∧ (t.ctx b).state = (if p.kind = .passPrinted then .commit else .cardWrite))
        ∧ (m = .purse → 0 < price → price ≤ cardBalanceOf (s.ctx b) → (t.ctx b).state = .cardWrite
          ∧ (t.ctx b).method = some .purse)
        ∧ (m = .coins → 0 < price → (t.ctx b).state = .tender ∧ (t.ctx b).method = some .coins
          ∧ (t.bay b).mask = t.maskOf b)) := by
  have hmod := Becomes.modBay b s fun y => { y with ctx := confirmedCtx p m w y.ctx }
  have hctx : (s.modCtx b (confirmedCtx p m w)).ctx b = confirmedCtx p m w (s.ctx b) := State.ctx_modCtx_self ..
  have hwrites : (s.modCtx b (confirmedCtx p m w)).writesCard b = decide (p.kind ≠ .passPrinted) := by
    refine writesCard_of_product (Eq.trans ?_ hproduct)
    unfold State.product
    rw [hctx]
    rfl
  dsimp only
  rw [confirmed_eq]
  change Becomes b s (s.modCtx b (confirmedCtx p m w)) _ at hmod
  generalize s.modCtx b (confirmedCtx p m w) = u at *
  have hmethod : (u.ctx b).method = some m := congrArg Ctx.method hctx
  have hwanted : (u.ctx b).receiptWanted = (w || decide (p.kind = .passPrinted)) := congrArg Ctx.receiptWanted hctx
  have hprice : (u.ctx b).price = (s.ctx b).price := (congrArg Ctx.price hctx).trans rfl
  have hstate : (u.ctx b).state = (s.ctx b).state := (congrArg Ctx.state hctx).trans rfl
  have hbalance : cardBalanceOf (u.ctx b) = cardBalanceOf (s.ctx b) := (congrArg cardBalanceOf hctx).trans rfl
  by_cases hsame : (s.ctx b).priceMethod = some m
  · rw [if_pos hsame]
    obtain ⟨y, hturns, hy, -⟩ := leavePriced_turns b u
    refine ⟨⟨y, hturns.behind hmod.turns⟩, (hturns.field (fun y => y.ctx.receiptWanted) fun _ => rfl).trans (hy.trans hwanted),
      fun hno => absurd hsame hno, fun _ => ⟨?_, ?_, ?_, ?_⟩⟩
    · rintro rfl hshort
      rw [← hstate]
      exact leavePriced_short hmethod (by rw [hbalance, hprice]; exact hshort)
    · intro hfree
      obtain ⟨hkept, hnow⟩ := leavePriced_free (b := b) (s := u) (by rw [hprice]; exact hfree)
      rw [hkept, hnow, hwrites]
      refine ⟨hmethod, ?_⟩
      by_cases hk : p.kind = .passPrinted <;> simp only [hk, ne_eq, not_true_eq_false, not_false_eq_true, decide_true,
        decide_false, if_true, if_false, Bool.false_eq_true]
    · rintro rfl hpos hpays
      rw [leavePriced_purse hmethod (by rw [hprice]; exact hpos) (by rw [hprice, hbalance]; exact hpays)]
      obtain ⟨hnow, hkept⟩ := enterCardWrite_ctx b u
      exact ⟨hnow, hkept.trans hmethod⟩
    · rintro rfl hpos
      rw [leavePriced_coins hmethod (by rw [hprice]; exact hpos)]
      have hentered := enter_becomes .tender b u
      exact ⟨hentered.field (fun y => y.ctx.state) fun _ => rfl, (hentered.field (fun y => y.ctx.method) fun _ => rfl).trans hmethod,
        enter_mask .tender b u⟩
  · rw [if_neg hsame]
    have hpricing := enterPricing_turns b u
    obtain ⟨r, hplaced, hbay, hasks, -⟩ := enterPricing_placed b u
    exact ⟨⟨_, hpricing.behind hmod.turns⟩, (hpricing.field (fun y => y.ctx.receiptWanted) fun _ => rfl).trans hwanted,
      fun _ => ⟨hpricing.field (fun y => y.ctx.state) fun _ => rfl,
        (hpricing.field (fun y => y.ctx.method) fun _ => rfl).trans hmethod, r, hplaced, hbay, hasks m hmethod⟩,
      fun hyes => absurd hyes hsame⟩

theorem refuse_maintains (code : Code) (b : BayNo) (s : State) : ((refuse code b s).ctx b).state = (s.ctx b).state
    ∧ ((refuse code b s).ctx b).lastRefusal = some code ∧ ((refuse code b s).ctx b).method = (s.ctx b).method
    ∧ ((refuse code b s).ctx b).lastChange = (s.ctx b).lastChange := by
  rw [refuse_ctx]
  exact ⟨rfl, rfl, rfl, rfl⟩

/-- Settles O38. -/
theorem confirmRefusesOrLeadsOn : Obligations.ConfirmRefusesOrLeadsOn := by
  intro s b m w p h hstate htakes hproduct
  obtain ⟨t, e, ht⟩ := exec_section (c := .confirm) (a := (m, w)) rfl h rfl
  dsimp only at ht
  obtain ⟨hrefuses, hpasses⟩ := confirm_taken (b := b) (s := handed s) (m := m) (w := w) (p := p) hstate htakes hproduct
  have hclear := clearOverlay_becomes b (handed s)
  have hproduct' := (product_congr hclear.bay hclear.tariff).trans hproduct
  have field : ∀ {α : Type} (f : Ctx → α), (∀ c, f { c with holdCause := .none, overlay := .none } = f c) →
      f ((clearOverlay b (handed s)).ctx b) = f (s.ctx b) := fun f hf => hclear.field (fun y => f y.ctx) fun _ => hf _
  have hstate' := (field Ctx.state fun _ => rfl).trans hstate
  have hmethod := field Ctx.method fun _ => rfl
  have hchange := field Ctx.lastChange fun _ => rfl
  have hpriceMethod := field Ctx.priceMethod fun _ => rfl
  have hprice := field Ctx.price fun _ => rfl
  have hbalance := field cardBalanceOf fun _ => rfl
  generalize clearOverlay b (handed s) = u at *
  cases hfailure : s.confirmFailure b p m with
  | some code =>
    rw [hrefuses code hfailure] at ht
    have hrefused := refuse_becomes code b u
    obtain ⟨hkept, hcode, hsame, hlast⟩ := refuse_maintains code b u
    refine ⟨t, e, handed_of_bus (ht.bus.trans (hrefused.bus.trans hclear.bus)), fun c hc => congrArg Bay.ctx
      ((ht.bay c).trans ((hrefused.others c hc).trans (hclear.others c hc))), ?_, fun hno => by cases hno⟩
    rintro code' ⟨⟩
    rw [ht.ctx]
    exact ⟨hkept.trans hstate', hcode, hsame.trans hmethod, hlast.trans hchange⟩
  | none =>
    rw [hpasses hfailure] at ht
    obtain ⟨⟨y, hturns⟩, hwanted, hpricing, hleads⟩ := confirmed_leads hproduct' m w
    rw [hprice, hbalance, hstate', hpriceMethod] at hleads
    rw [hpriceMethod] at hpricing
    generalize confirmed p m w b u = v at *
    have hmask : (v.bay b).mask = v.maskOf b → (t.bay b).mask = t.maskOf b := fun hmask => by
      rw [ht.bay, hmask]
      exact (maskOf_congr (by rw [ht.bay]) ht.time ht.site).symm
    refine ⟨t, e, handed_of_bus (ht.bus.trans (hturns.bus.trans hclear.bus)), fun c hc => congrArg Bay.ctx
      ((ht.bay c).trans ((hturns.others c hc).trans (hclear.others c hc))), (fun code hcode => by cases hcode), fun _ => ?_⟩
    rw [ht.ctx, ht.tariff]
    refine ⟨hwanted, hpricing, fun hsame => ?_⟩
    obtain ⟨hshort, hfree, hpurse, hcoins⟩ := hleads hsame
    exact ⟨hshort, hfree, hpurse, fun hm hpos => ⟨(hcoins hm hpos).1, (hcoins hm hpos).2.1, hmask (hcoins hm hpos).2.2⟩⟩

end

end Sys2Proof.Proofs

/-! PROOFS. Card answers by the mark in the slot, and the good read (R9, R111 to R113, R198). -/

namespace Sys2Proof.Proofs

open Sys2Proof Sys2Proof.Machine Sys2Proof.Laws

/-! ### What a cancel leaves of the exchange -/

section
variable {b : BayNo} {s t : State} {code : Code}

/-- A close changes the context, the reservation, the terminal and the escrow alone. -/
theorem closedBay_field {α : Type} (p : Bay → α)
    (hp : ∀ y c e r u, p { y with ctx := c, escrow := e, reserved := r, term := u } = p y)
    (site : List (List Byte)) (b : BayNo) (now : Ms) (y : Bay) : p (closedBay site b now y) = p y := by
  have hemptied : p (emptiedBay now y) = p y := by
    unfold emptiedBay returnedBay
    split
    · rfl
    · split
      · exact hp y _ _ y.reserved y.term
      · exact hp y y.ctx _ y.reserved y.term
  rw [← hemptied]
  unfold closedBay settledBay
  split
  · exact hp (emptiedBay now y) _ (emptiedBay now y).escrow _ _
  · exact hp (emptiedBay now y) _ (emptiedBay now y).escrow _ (emptiedBay now y).term

theorem returnedBay_authWait (now : Ms) (y : Bay) : (returnedBay now y).authWait = y.authWait := by
  unfold returnedBay
  split <;> rfl

/-- A cancelled transaction's exchange has ended, and with it its authorisation wait. -/
theorem enterRefund_turns (b : BayNo) (s : State) :
    ∃ y, Turns b s (enterRefund b s) y ∧ y.card = .reset ∧ y.authWait = none := by
  have hwait : (refundBay s.now (s.bay b)).authWait = none := returnedBay_authWait _ _
  by_cases howed : 0 < (s.ctx b).overflowValue
  · obtain ⟨w, x, -, h⟩ := enterRefund_owes howed
    exact ⟨_, h, refundBay_card s.now _, hwait⟩
  · obtain ⟨-, h⟩ := enterRefund_closes (show (s.ctx b).overflowValue = 0 by omega)
    refine ⟨_, h, ?_, ?_⟩
    · rw [closedBay_card, refundBay_card]
    · rw [closedBay_field Bay.authWait fun _ _ _ _ _ => rfl, hwait]

/-- Bay b's exchange and its authorisation wait have ended from s to t with a refusal. -/
structure Refused (b : BayNo) (code : Code) (s t : State) : Prop where
  turns : ∃ y, Turns b s t y
  exch : t.exch b = .reset
  wait : (t.bay b).authWait = none
  refusal : (t.ctx b).lastRefusal = some code
  state : (t.ctx b).state = .refund ∨ (t.ctx b).state = .idle ∨ (t.ctx b).state = .outOfService

theorem cancelWith_refused (code : Code) (b : BayNo) (s : State) : Refused b code s (cancelWith code b s) := by
  obtain ⟨y, hturns, hcard, hwait⟩ := enterRefund_turns b s
  have h := hturns.step (g := fun y => { y with ctx := { y.ctx with lastRefusal := some code } })
    (refuse_becomes code b _).turns fun _ => rfl
  refine ⟨⟨_, h⟩, (h.field Bay.card fun _ => rfl).trans hcard, (h.field Bay.authWait fun _ => rfl).trans hwait,
    cancelWith_refusal code b s, ?_⟩
  have hstate := cancelled_state (cancelled_cancelWith code b s)
  simpa only [List.mem_cons, List.not_mem_nil, or_false] using hstate

theorem Refused.of_resealed {u v : State} {z : Bay} (h : Refused b code u v) (hbefore : Turns b s u z) (h' : Resealed v t) :
    Refused b code s t := by
  obtain ⟨⟨y, hturns⟩, hexch, hwait, hrefusal, hstate⟩ := h
  obtain ⟨hothers, htime, hbus, hsite, hbay⟩ := hturns.behind hbefore
  refine ⟨⟨y, ⟨fun c hc => (h'.bay c).trans (hothers c hc), h'.time.trans htime, h'.bus.trans hbus, h'.site.trans hsite,
    (congrArg core (h'.bay b)).trans hbay⟩⟩, (h'.exch b).trans hexch, ?_, ?_, ?_⟩
  · rw [h'.bay]; exact hwait
  · rw [h'.ctx]; exact hrefusal
  · rw [h'.ctx]; exact hstate

/-! ### An answer with the mark in the slot (R198) -/

/-- A record whose card slot has been emptied. -/
def freedBay (y : Bay) : Bay := { y with term := { y.term with cardSlot := none } }

/-- The section handed on, and bay b's card slot empty. -/
def freed (b : BayNo) (s : State) : State := emptySlot b (handed s)

theorem freed_bay (b : BayNo) (s : State) : (freed b s).bay b = freedBay (s.bay b) := State.bay_modBay_self (handed s) b _

theorem freed_turns (b : BayNo) (s : State) : Turns b (handed s) (freed b s) (freedBay (s.bay b)) :=
  (Becomes.modBay b (handed s) freedBay).turns

theorem answerSlot_taken {c : CardSlot} {m : Nat} {act : CardSlot → State → State} (hslot : s.slot b = some c)
    (hmark : c.mark = m) : answerSlot m act b (handed s) = act c (freed b s) := by
  have hslot' : (handed s).slot b = some c := hslot
  unfold answerSlot
  simp only [hslot', hmark, if_true]
  rfl

theorem answerSlot_discarded {c : CardSlot} {m : Nat} {act : CardSlot → State → State} (hslot : s.slot b = some c)
    (hmark : c.mark ≠ m) : answerSlot m act b (handed s) = handed s := by
  have hslot' : (handed s).slot b = some c := hslot
  unfold answerSlot
  simp only [hslot', hmark, if_false]

/-- Where the retained items and the check stand, the check is not written again. -/
theorem reseal_of_area {u : State} (h : area u = area s) : s.reseal u = u :=
  reseal_of_retained (congrArg Prod.snd h) (congrArg Prod.fst h)

theorem presentRead_area (b : BayNo) (s : State) : area (presentRead b s) = area s := by
  unfold presentRead
  split
  · exact modTerm_area s b _
  · rfl

theorem freed_area (b : BayNo) (s : State) : area (freed b s) = area s := modTerm_area (handed s) b _

/-- Settles O41. -/
theorem cardAnswersNeedTheSlotMark : Obligations.CardAnswersNeedTheSlotMark := by
  intro s b m c hslot
  refine ⟨fun h => ?_, fun h hread => ?_⟩
  · refine ⟨_, congrArg Host.Outcome.next (takeSection_eq _ h rfl), rfl, fun d hd => State.bay_modBay_ne _ hd _, rfl, ?_⟩
    refine (State.bay_modBay_self (handed s) b _).trans ?_
    have hslot' : ((handed s).bay b).term.cardSlot = some c := hslot
    simp only [hslot', Option.map_some]
    rfl
  · have hexec : ∀ u, answerSlot m (fun c s => commandExpired c b s) b (handed s) = u →
        area u = area s → exec .cardAnswerNoCard s = .next u := fun u hu harea => by
      have hdone : exec .cardAnswerNoCard s = .next (s.reseal (answerSlot m (fun c s => commandExpired c b s) b (handed s))) :=
        congrArg (done s) (takeSection_eq (fun b m s => answerSlot m (fun c s => commandExpired c b s) b s) h rfl)
      rw [hdone, hu, reseal_of_area harea]
    by_cases hmark : c.mark = m
    · obtain ⟨hcommand, howner⟩ : c.command = .read ∧ c.owner ≠ .reapplication := by
        rcases hread with hno | hyes
        · exact absurd hmark hno
        · exact hyes
      have hact : commandExpired c b (freed b s) = presentRead b (freed b s) := by
        unfold commandExpired
        rw [hcommand]
        cases ho : c.owner with
        | reapplication => exact absurd ho howner
        | exchange => rfl
        | late => rfl
      have hbay : (presentRead b (freed b s)).bay b = presentedBay (freedBay (s.bay b)) := by
        rw [presentRead_bay_self, freed_bay]
      have hbecomes := presentRead_becomes b (freed b s)
      have hrest : presentRead b (freed b s) = { s with
          bays := (presentRead b (freed b s)).bays, bus := (presentRead b (freed b s)).bus } := by
        rw [hbecomes.bus, hbecomes.rest]
        rfl
      refine ⟨_, hexec _ ((answerSlot_taken hslot hmark).trans hact) ((presentRead_area b _).trans (freed_area b s)), congrArg Bus.inbox hbecomes.bus,
        fun d hd => (hbecomes.others d hd).trans (State.bay_modBay_ne _ hd _), hrest, ?_, ?_, fun hno => absurd hmark hno,
        fun _ hphase => ?_, fun _ hphase => ?_⟩
      · rw [State.ctx, hbay, presentedBay_ctx]
        rfl
      · rw [State.exch, hbay, presentedBay_card]
        rfl
      · have hpresented : presentedBay (freedBay (s.bay b)) =
            { freedBay (s.bay b) with term := (freedBay (s.bay b)).term.hand .read .exchange } := by
          have hp : (freedBay (s.bay b)).card.phase = .presenting := hphase
          have hs : (freedBay (s.bay b)).term.cardSlot = none := rfl
          simp only [presentedBay, hp, hs]
        rw [State.slot, hbay, hpresented]
        exact ⟨rfl, rfl⟩
      · have hkept : presentedBay (freedBay (s.bay b)) = freedBay (s.bay b) := by
          unfold presentedBay
          split
          next hp _ => exact absurd hp hphase
          next => rfl
        rw [State.slot, hbay, hkept]
        rfl
    · refine ⟨handed s, hexec _ (answerSlot_discarded hslot hmark) rfl, rfl, fun _ _ => rfl, rfl, rfl, rfl, fun _ => rfl,
        fun hyes => absurd hyes hmark, fun hyes => absurd hyes hmark⟩

end

end Sys2Proof.Proofs

/-! PROOFS. Good reads, fresh reads and answered writes (R112 to R119). -/

namespace Sys2Proof.Proofs

open Sys2Proof Sys2Proof.Machine Sys2Proof.Laws

section
variable {b : BayNo} {s t : State} {v : CardValues}

/-! ### A CARD answer to the READ of an exchange (R111) -/

/-- The slot's READ of a presenting exchange is answered next with a card's values. -/
structure Reads (b : BayNo) (v : CardValues) (s : State) : Prop where
  slot : ∃ c, s.slot b = some c ∧ c.command = .read ∧ c.owner = .exchange ∧ s.HandsOn b (.answer c.mark (.card v))
  phase : (s.exch b).phase = .presenting

theorem cardAnswer_reads (h : Reads b v s) :
    ∃ t, exec .cardAnswerCard s = .next t ∧ Resealed (readTaken v b (freed b s)) t := by
  obtain ⟨⟨c, hslot, hcommand, howner, hnext⟩, hphase⟩ := h
  obtain ⟨t, e, ht⟩ := exec_section (c := .cardAnswerCard) (a := (c.mark, v)) rfl hnext rfl
  refine ⟨t, e, ?_⟩
  have hphase' : ((freed b s).exch b).phase = .presenting := by
    rw [State.exch, freed_bay]
    exact hphase
  have hact : answerSlot c.mark (cardRead v b) b (handed s) = readTaken v b (freed b s) := by
    rw [answerSlot_taken hslot rfl]
    unfold cardRead
    simp only [hcommand, howner, hphase']
  rw [← hact]
  exact ht

theorem freed_exch (b : BayNo) (s : State) : (freed b s).exch b = s.exch b := by
  rw [State.exch, freed_bay]
  rfl

theorem freed_ctx (b : BayNo) (s : State) : (freed b s).ctx b = s.ctx b := by
  rw [State.ctx, freed_bay]
  rfl

theorem freed_others (b : BayNo) (s : State) : OtherBays b s (freed b s) := fun _ hc => State.bay_modBay_ne (handed s) hc _

/-- Changes at bay b from where its card slot was emptied are changes at bay b. -/
theorem otherContexts_of_freed {u : State} {y : Bay} (h : Turns b (freed b s) u y) (h' : Resealed u t) : OtherContexts b s t :=
  fun c hc => congrArg Bay.ctx ((h'.bay c).trans ((h.others c hc).trans (freed_others b s c hc)))

theorem handed_of_freed {u : State} {y : Bay} (h : Turns b (freed b s) u y) (h' : Resealed u t) : Handed s t :=
  handed_of_bus (h'.bus.trans h.bus)

/-! ### The good read (R9, R112, R113) -/

theorem denied_iff (s : State) (serial : BitVec 32) : s.denied serial = true ↔
    s.tariff.deny.valid = false ∨ ∃ e ∈ s.tariff.deny.entries, beNat e = serial.toNat := by
  unfold State.denied
  rw [Bool.or_eq_true, Bool.not_eq_true', List.any_eq_true]
  simp only [decide_eq_true_iff]

theorem readTaken_good (htear : s.tearOf v.serial = none) (hpurpose : (s.exch b).purpose = some .read) :
    readTaken v b s = goodRead v b s := by
  unfold readTaken purposeRead
  simp only [htear, hpurpose]

/-- A good read keeps the card's values and asks for a price. -/
theorem goodRead_prices (h : s.denied v.serial = false) :
    Turns b s (goodRead v b s)
      (enteredBay .pricing s.now (ended { s.bay b with ctx := { s.ctx b with card := some v } }))
    ∧ ∃ r, Placed (goodRead v b s).tariff r ∧ r.bay = b ∧ r.slots = some v.slots := by
  unfold goodRead
  rw [if_neg (by rw [h]; decide)]
  have hkept := (Becomes.modBay b s fun y => { y with ctx := { y.ctx with card := some v } }).turns
  unfold State.modCtx
  generalize s.modBay b _ = u at hkept
  have hended := hkept.step (endExchange_turns b u) ended_plain
  generalize endExchange b u = w at hended
  have hpriced := hended.thereby (g := fun now _ => enteredBay .pricing now) (enterPricing_turns b w) fun _ => rfl
  obtain ⟨r, hplaced, hbay, -, hslots⟩ := enterPricing_placed b w
  refine ⟨hpriced, r, hplaced, hbay, hslots.trans ?_⟩
  have hcard := hended.field (fun y => y.ctx.card) fun _ => rfl
  exact congrArg (fun o : Option CardValues => o.map CardValues.slots) hcard

/-- Settles O42. -/
theorem goodReadPricesDeniedCancels : Obligations.GoodReadPricesDeniedCancels := by
  intro s b v c hslot hcommand howner hnext hphase hpurpose htear
  obtain ⟨t, e, ht⟩ := cardAnswer_reads ⟨⟨c, hslot, hcommand, howner, hnext⟩, hphase⟩
  rw [readTaken_good (b := b) (s := freed b s) htear ((congrArg Exchange.purpose (freed_exch b s)).trans hpurpose)] at ht
  cases hdenied : s.denied v.serial with
  | true =>
    have hno := (denied_iff s v.serial).mp hdenied
    have hcancels : goodRead v b (freed b s) = cancelWith .cardDenied b (freed b s) := if_pos hdenied
    rw [hcancels] at ht
    have hrefused := cancelWith_refused .cardDenied b (freed b s)
    obtain ⟨y, hturns⟩ := hrefused.turns
    have hend := hrefused.of_resealed (Turns.refl b _) ht
    refine ⟨t, e, handed_of_freed hturns ht, otherContexts_of_freed hturns ht, fun hvalid hlisted => ?_, fun _ =>
      ⟨hend.refusal, by rw [hend.exch]; rfl, hend.state⟩⟩
    rcases hno with hinvalid | ⟨x, hx, hserial⟩
    · rw [hvalid] at hinvalid
      cases hinvalid
    · exact absurd hserial (hlisted x hx)
  | false =>
    obtain ⟨hturns, r, hplaced, hbay, hslots⟩ := goodRead_prices (b := b) (s := freed b s) (v := v) hdenied
    refine ⟨t, e, handed_of_freed hturns ht, otherContexts_of_freed hturns ht, fun _ _ => ?_, fun hyes => ?_⟩
    · rw [ht.ctx, ht.exch, ht.tariff]
      exact ⟨hturns.field (fun y => y.ctx.card) fun _ => rfl, hturns.field (fun y => y.ctx.state) fun _ => rfl,
        hturns.field (fun y => y.card.phase) fun _ => rfl, r, hplaced, hbay, hslots⟩
    · rw [(denied_iff s v.serial).mpr hyes] at hdenied
      cases hdenied

end

end Sys2Proof.Proofs

/-! PROOFS. The fresh read and the issue of a write (R116 to R118, R121). -/

namespace Sys2Proof.Proofs

open Sys2Proof Sys2Proof.Machine Sys2Proof.Laws

/-- A record whose write has been issued. -/
def issuedBay (r : WriteRequest) (v : CardValues) (y : Bay) : Bay :=
  { y with
    card := { y.card with phase := .writing }
    ctx := { y.ctx with issuedBalance := some v.balance }
    term := y.term.hand (r.command v) .exchange }

/-- A record whose exchange reads the card again. -/
def againBay (y : Bay) : Bay :=
  presentedBay { y with
    card := { y.card with phase := .presenting, resolving := none }, reapply := y.reapply.bind Reapplication.leave }

section
variable {b : BayNo} {s t : State} {v : CardValues} {r : WriteRequest}

theorem issueWrite_becomes (hrequest : (s.exch b).request = some r) (hfresh : (s.exch b).fresh = some v) :
    Becomes b s (issueWrite b s) (issuedBay r v (s.bay b)) := by
  unfold issueWrite handCommand State.modTerm State.modCtx State.modExch
  simp only [hrequest, hfresh, modBay_modBay]
  exact .modBay b s (issuedBay r v)

theorem presentAgain_becomes (b : BayNo) (s : State) : Becomes b s (presentAgain b s) (againBay (s.bay b)) :=
  (Becomes.modBay b s _).step (presentRead_becomes b _) presentedBay_plain

theorem againBay_card (y : Bay) : (againBay y).card = { y.card with phase := .presenting, resolving := none } :=
  presentedBay_card _

theorem againBay_slot (y : Bay) (h : y.term.cardSlot = none) : (againBay y).term.cardSlot.map CardSlot.command = some .read := by
  unfold againBay presentedBay
  simp only [h]
  rfl

/-- Where a fresh read leads: to the issue of the write for this request and card, or elsewhere. -/
inductive Issues (b : BayNo) (r : WriteRequest) (v : CardValues) (s t : State) : Prop where
  | issued (turns : Turns b s t (issuedBay r v (s.bay b))) (supply : s.supplyLow = false)
  | elsewhere (turns : ∃ y, Turns b s t y ∧ y.card.phase ≠ .writing)

theorem issues_of_cancel (code : Code) (b : BayNo) (s : State) : Issues b r v s (cancelWith code b s) := by
  obtain ⟨y, hturns⟩ := (cancelWith_refused code b s).turns
  have hexch := (cancelWith_refused code b s).exch
  refine .elsewhere ⟨_, hturns, fun hw => ?_⟩
  have hcard : ((cancelWith code b s).bay b).card = y.card := hturns.field Bay.card fun _ => rfl
  rw [← hcard, show ((cancelWith code b s).bay b).card = .reset from hexch] at hw
  cases hw

theorem goWrite_issues (hrequest : (s.exch b).request = some r) (hfresh : (s.exch b).fresh = some v) :
    Issues b r v s (goWrite b s) := by
  unfold goWrite
  simp only [hrequest]
  cases hsupply : s.supplyLow with
  | true =>
    rw [if_pos rfl]
    exact .elsewhere ⟨_, (Becomes.modBay b s _).turns, nofun⟩
  | false =>
    rw [if_neg (by decide)]
    split
    · refine .elsewhere ⟨_, (presentAgain_becomes b s).turns, ?_⟩
      rw [againBay_card]
      exact nofun
    · split
      · split
        · have hcounted : Turns b s (s.modCard fun c => { c with offlineTotal := c.offlineTotal + r.amount }) (s.bay b) :=
            .of_bays rfl rfl rfl rfl
          have hissued := issueWrite_becomes (b := b)
            (s := s.modCard fun c => { c with offlineTotal := c.offlineTotal + r.amount }) hrequest hfresh
          exact .issued (hissued.turns.behind hcounted) hsupply
        · exact issues_of_cancel _ b s
      · exact .issued (issueWrite_becomes hrequest hfresh).turns hsupply

theorem requestAuth_turns (r : WriteRequest) (v : CardValues) (b : BayNo) (s : State) :
    ∃ y, Turns b s (requestAuth r v b s) y ∧ y.card = { s.exch b with phase := .authorising } := by
  unfold requestAuth
  dsimp only
  have hcounted : Turns b s (s.modCard fun c => { c with nextRef := c.nextRef + 1 }) (s.bay b) := .of_bays rfl rfl rfl rfl
  have hwaits := hcounted.mod (fun y =>
    { y with authWait := some ⟨s.card.nextRef, s.now⟩, card := { y.card with phase := .authorising } }) fun _ => rfl
  generalize (s.modCard fun c => { c with nextRef := c.nextRef + 1 }).modBay b _ = u at hwaits
  have hasked := hwaits.shown (u := u.modLink (·.authReq s.card.nextRef b v.serial r.amount v.balance))
    (.of_bays rfl rfl rfl rfl)
  exact ⟨_, hasked.shown (refresh_becomes b _).turns, rfl⟩

/-- A record whose exchange checks a fresh read. -/
def checkingBay (y : Bay) : Bay := { y with card := { y.card with phase := .checking } }

theorem afterFresh_issues (hrequest : (s.exch b).request = some r) (hfresh : (s.exch b).fresh = some v) :
    Issues b r v s (afterFresh r v b s) := by
  have hchecks := (Becomes.modBay b s checkingBay).turns
  have hexch : (s.modBay b checkingBay).exch b = { s.exch b with phase := .checking } := by
    rw [State.exch, State.bay_modBay_self]
    rfl
  have hsupply : (s.modBay b checkingBay).supplyLow = s.supplyLow := rfl
  have hgo := goWrite_issues (b := b) (s := s.modBay b checkingBay) (r := r) (v := v)
    (by rw [hexch]; exact hrequest) (by rw [hexch]; exact hfresh)
  have hissued : issuedBay r v ((s.modBay b checkingBay).bay b) = issuedBay r v (s.bay b) := by
    rw [State.bay_modBay_self]
    rfl
  unfold afterFresh
  dsimp only
  change Issues b r v s (if _ then _ else goWrite b (s.modBay b checkingBay))
  have lift : ∀ {t}, Issues b r v (s.modBay b checkingBay) t → Issues b r v s t := fun h => by
    cases h with
    | issued hturns hlow =>
      rw [hissued] at hturns
      exact .issued (hturns.behind hchecks) hlow
    | elsewhere h =>
      obtain ⟨y, hturns, hphase⟩ := h
      exact .elsewhere ⟨y, hturns.behind hchecks, hphase⟩
  split
  · split
    · obtain ⟨y, hturns, hcard⟩ := requestAuth_turns r v b (s.modBay b checkingBay)
      exact lift (.elsewhere ⟨y, hturns, by rw [hcard]; exact nofun⟩)
    · exact lift (issues_of_cancel _ b _)
  · exact lift hgo

/-! ### A fresh read (R116) -/

/-- A record with the values of a fresh read. -/
def freshBay (v : CardValues) (y : Bay) : Bay := { y with card := { y.card with fresh := some v } }

theorem freshRead_eq (hrequest : (s.exch b).request = some r) : freshRead v b s =
    if (s.ctx b).cardIs v.serial then
      (s.freshFailure b r v).elim (afterFresh r v b (s.modBay b (freshBay v)))
        (fun code => cancelWith code b (s.modBay b (freshBay v)))
    else presentRead b (refuse .wrongCard b (s.modBay b (freshBay v))) := by
  have hexch : ((s.modBay b (freshBay v)).exch b).request = some r := by
    rw [State.exch, State.bay_modBay_self]
    exact hrequest
  have hctx : ((s.modBay b (freshBay v)).ctx b) = s.ctx b := by
    rw [State.ctx, State.bay_modBay_self]
    rfl
  have hfailure : (s.modBay b (freshBay v)).freshFailure b r v = s.freshFailure b r v := rfl
  have hmod : (s.modExch b fun x => { x with fresh := some v }) = s.modBay b (freshBay v) := rfl
  unfold freshRead
  dsimp only
  rw [hmod]
  simp only [hexch, hctx, hfailure]
  cases s.freshFailure b r v <;> rfl

theorem readTaken_write (htear : s.tearOf v.serial = none) (hpurpose : (s.exch b).purpose = some .write) :
    readTaken v b s = freshRead v b s := by
  unfold readTaken purposeRead
  simp only [htear, hpurpose]

/-- A write another bay has outstanding to the card bars this one (R121). -/
theorem writeBarred_iff (hfresh : (s.exch b).fresh = some v) (htear : s.tearOf v.serial = none) :
    s.writeBarred b = true ↔ ∃ d, d ≠ b ∧ s.writingTo d v.serial = true := by
  have htears : s.card.tears.any (fun t => t.serial == v.serial && !(t.isOwn b && !t.closing)) = false := by
    rw [List.any_eq_false]
    intro x hx
    have hother := List.find?_eq_none.mp htear x hx
    rw [Bool.not_eq_true] at hother
    rw [hother, Bool.false_and]
    decide
  have hbays : ∀ d : BayNo, d ∈ allBays := fun d => List.mem_finRange d
  unfold State.writeBarred
  simp only [hfresh, htears, Bool.false_or, List.any_eq_true, Bool.and_eq_true, decide_eq_true_iff]
  exact ⟨fun ⟨d, _, hd⟩ => ⟨d, hd⟩, fun ⟨d, hd⟩ => ⟨d, hbays d, hd⟩⟩

/-- Online, below the threshold and with the supply good, a fresh read that passed its checks goes to the issue. -/
theorem afterFresh_online (hrequest : (s.exch b).request = some r) (hsupply : s.supplyLow = false) (honline : s.link.online = true)
    (hthreshold : r.amount ≤ siteThreshold s.site) : afterFresh r v b s =
      if (s.modBay b checkingBay).writeBarred b then presentAgain b (s.modBay b checkingBay)
      else issueWrite b (s.modBay b checkingBay) := by
  have hexch : ((s.modBay b checkingBay).exch b).request = some r := by
    rw [State.exch, State.bay_modBay_self]
    exact hrequest
  have hsite : (s.modBay b checkingBay).site = s.site := rfl
  have hlow : (s.modBay b checkingBay).supplyLow = false := hsupply
  have hon : (s.modBay b checkingBay).online = true := honline
  have hmod : (s.modExch b fun x => { x with phase := .checking }) = s.modBay b checkingBay := rfl
  unfold afterFresh
  dsimp only
  rw [hmod]
  generalize s.modBay b checkingBay = u at *
  have hbelow : decide (siteThreshold u.site < r.amount) = false := by
    rw [hsite, decide_eq_false_iff_not]
    omega
  have htested : u.offlineTested b r = false := by
    rw [State.offlineTested, hon, Bool.not_true, Bool.and_false, Bool.false_and]
  rw [hbelow, Bool.and_false, Bool.false_and, Bool.false_and, if_neg (by decide)]
  unfold goWrite
  simp only [hexch, hlow, htested, Bool.false_eq_true, if_false]

theorem presentationLimit_unlimited (h : (t.exch b).phase.limited = false) : exec (.presentationLimitExpiry b) t = .next t := by
  have hkept : ∀ u, u = t → done t u = .next t := fun u hu => by
    rw [hu, done, reseal_of_area rfl]
  refine hkept _ ?_
  split
  · rw [h, if_neg (fun hno => by cases hno.1)]
  · rfl

theorem freshFailure_none (h : s.freshFailure b r v = none) : s.denied v.serial = false
    ∧ 0 ≤ balanceAfterOp r.op v.balance r.amount
    ∧ balanceAfterOp r.op v.balance r.amount ≤ (siteCeiling s.site : Int) := by
  unfold State.freshFailure at h
  dsimp only at h
  split at h
  · cases h
  next hallowed =>
    split at h
    · cases h
    · split at h
      · cases h
      next hwithin =>
        rw [not_or, not_lt, not_lt] at hwithin
        exact ⟨by simpa using hallowed, hwithin⟩

/-- The record of bay b once its fresh read is kept. -/
theorem freshly_bay (b : BayNo) (s : State) :
    ((freed b s).modBay b (freshBay v)).bay b = freshBay v (freedBay (s.bay b)) := by
  rw [State.bay_modBay_self, freed_bay]

theorem freshly_turns (b : BayNo) (s : State) : Turns b (freed b s) ((freed b s).modBay b (freshBay v)) (freshBay v (freedBay (s.bay b))) := by
  have h := (Becomes.modBay b (freed b s) (freshBay v)).turns
  rwa [freed_bay] at h

/-- Settles O43. -/
theorem freshReadIssuesWithinPurse : Obligations.FreshReadIssuesWithinPurse := by
  intro s b v r c hslot hcommand howner hnext hphase hpurpose hrequest htear
  obtain ⟨t, e, ht⟩ := cardAnswer_reads ⟨⟨c, hslot, hcommand, howner, hnext⟩, hphase⟩
  have hexch := freed_exch b s
  have hfailure : (freed b s).freshFailure b r v = s.freshFailure b r v := rfl
  rw [readTaken_write (b := b) (s := freed b s) htear (by rw [hexch]; exact hpurpose),
    freshRead_eq (by rw [hexch]; exact hrequest), freed_ctx, hfailure] at ht
  have hfreshly := freshly_turns (v := v) b s
  have hbay := freshly_bay (v := v) b s
  have hrequest' : (((freed b s).modBay b (freshBay v)).exch b).request = some r := by
    rw [State.exch, hbay]
    exact hrequest
  have hfresh : (((freed b s).modBay b (freshBay v)).exch b).fresh = some v := by
    rw [State.exch, hbay]
    rfl
  have hwriting : ∀ d, d ≠ b → ((freed b s).modBay b (freshBay v)).writingTo d v.serial = s.writingTo d v.serial := fun d hd => by
    have hd' : ((freed b s).modBay b (freshBay v)).bay d = s.bay d :=
      (State.bay_modBay_ne _ hd _).trans (freed_others b s d hd)
    unfold State.writingTo State.exch
    rw [hd']
  have hcard : ((freed b s).modBay b (freshBay v)).card = s.card := rfl
  have hsupplyKept : ((freed b s).modBay b (freshBay v)).supplyLow = s.supplyLow := rfl
  have hlinkKept : ((freed b s).modBay b (freshBay v)).link = s.link := rfl
  have hsiteKept : ((freed b s).modBay b (freshBay v)).site = s.site := rfl
  generalize (freed b s).modBay b (freshBay v) = u at *
  cases his : (s.ctx b).cardIs v.serial with
  | false =>
    rw [his, if_neg (by decide)] at ht
    have hpresented := (hfreshly.step (g := fun y => { y with ctx := { y.ctx with lastRefusal := some .wrongCard } })
      (refuse_becomes .wrongCard b u).turns fun _ => rfl).step (presentRead_becomes b _).turns presentedBay_plain
    have hphase' : (t.exch b).phase = .presenting := by
      rw [ht.exch, State.exch, hpresented.field Bay.card fun _ => rfl, presentedBay_card]
      exact hphase
    refine ⟨t, e, otherContexts_of_freed hpresented ht, fun hw => ?_, (fun hyes => by cases hyes), fun _ => ⟨?_, ?_, hphase'⟩⟩
    · rw [hphase'] at hw
      cases hw
    · rw [ht.ctx, State.ctx, hpresented.field (fun y => y.ctx.lastRefusal) fun _ => rfl, presentedBay_ctx]
    · rw [ht.ctx, State.ctx, hpresented.field (fun y => y.ctx.state) fun _ => rfl, presentedBay_ctx]
      rfl
  | true =>
    rw [his, if_pos rfl] at ht
    cases hfails : s.freshFailure b r v with
    | some code =>
      rw [hfails] at ht
      have hrefused := cancelWith_refused code b u
      obtain ⟨y, hturns⟩ := hrefused.turns
      have hend := hrefused.of_resealed hfreshly ht
      refine ⟨t, e, otherContexts_of_freed (hturns.behind hfreshly) ht, fun hw => ?_, (fun _ hno => by cases hno),
        fun hno => by cases hno⟩
      rw [hend.exch] at hw
      cases hw
    | none =>
      rw [hfails] at ht
      change Resealed (afterFresh r v b u) t at ht
      obtain ⟨hallowed, hlow, hhigh⟩ := freshFailure_none hfails
      have hissues := afterFresh_issues hrequest' hfresh
      have hothers : OtherContexts b s t := by
        cases hissues with
        | issued hturns _ => exact otherContexts_of_freed (hturns.behind hfreshly) ht
        | elsewhere h =>
          obtain ⟨y, hturns, -⟩ := h
          exact otherContexts_of_freed (hturns.behind hfreshly) ht
      refine ⟨t, e, hothers, fun hw => ?_, fun _ _ hsupply honline hthreshold => ?_, fun hno => by cases hno⟩
      · cases hissues with
        | elsewhere h =>
          obtain ⟨y, hturns, hnot⟩ := h
          rw [ht.exch, State.exch, hturns.field Bay.card fun _ => rfl] at hw
          exact absurd hw hnot
        | issued hturns hsupply =>
          rw [hbay] at hturns
          have hunlimited : (t.exch b).phase.limited = false := by rw [hw]; rfl
          rw [ht.slot, ht.ctx, ht.exch]
          exact ⟨hturns.field (fun y => y.term.cardSlot) fun _ => rfl, rfl, hallowed, hsupplyKept.symm.trans hsupply, hlow, hhigh,
            hturns.field (fun y => y.ctx.state) fun _ => rfl, hturns.field (fun y => y.card.limitStart) fun _ => rfl,
            presentationLimit_unlimited hunlimited⟩
      · rw [afterFresh_online hrequest' (hsupplyKept.trans hsupply) (by rw [hlinkKept]; exact honline)
          (by rw [hsiteKept]; exact hthreshold)] at ht
        have hcheck := Becomes.modBay b u checkingBay
        have hbarred := writeBarred_iff (b := b) (s := u.modBay b checkingBay) (v := v)
          (by rw [State.exch, State.bay_modBay_self]; exact hfresh)
          (by rw [State.tearOf, hcheck.card, hcard]; exact htear)
        have hwriting' : ∀ d, d ≠ b → (u.modBay b checkingBay).writingTo d v.serial = s.writingTo d v.serial := fun d hd => by
          rw [← hwriting d hd]
          unfold State.writingTo State.exch
          rw [State.bay_modBay_ne u hd]
        have hcheckRequest : ((u.modBay b checkingBay).exch b).request = some r := by
          rw [State.exch, State.bay_modBay_self]; exact hrequest'
        have hcheckFresh : ((u.modBay b checkingBay).exch b).fresh = some v := by
          rw [State.exch, State.bay_modBay_self]; exact hfresh
        have hslotFree : ((u.modBay b checkingBay).bay b).term.cardSlot = none := by
          rw [State.bay_modBay_self, hbay]
          rfl
        have hcardKept : (u.modBay b checkingBay).card = s.card := hcheck.card.trans hcard
        generalize u.modBay b checkingBay = w at *
        split at ht
        next hyes =>
          obtain ⟨d, hd, hwrites⟩ := hbarred.mp hyes
          have hagain := presentAgain_becomes b w
          refine ⟨ht.card.trans (hagain.card.trans hcardKept), fun hnone => ?_, fun _ => ⟨?_, ?_⟩⟩
          · rw [hwriting' d hd, hnone d hd] at hwrites
            cases hwrites
          · rw [ht.exch, State.exch, hagain.field Bay.card fun _ => rfl, againBay_card]
          · rw [ht.slot, State.slot, hagain.field (fun y => y.term.cardSlot) fun _ => rfl]
            exact againBay_slot _ hslotFree
        next hno =>
          have hissued := issueWrite_becomes hcheckRequest hcheckFresh
          refine ⟨ht.card.trans (hissued.card.trans hcardKept), fun _ => ?_, fun hsome => ?_⟩
          · rw [ht.exch, State.exch, hissued.field Bay.card fun _ => rfl]
            rfl
          · obtain ⟨d, hd, hwrites⟩ := hsome
            exact absurd (hbarred.mpr ⟨d, hd, (hwriting' d hd).trans hwrites⟩) hno

end

end Sys2Proof.Proofs

/-! PROOFS. Answered and unanswered writes, tears and limits (R14, R109, R115, R119 to R123, R127, R128, R130). -/

namespace Sys2Proof.Proofs

open Sys2Proof Sys2Proof.Machine Sys2Proof.Laws

section
variable {b : BayNo} {s t : State} {v : CardValues} {r : WriteRequest} {c : CardSlot}

/-! ### Answers to writes (R119) -/

theorem writeOk_done {balance : Nat} (hcommand : c.command ≠ .read) (howner : c.owner = .exchange) :
    writeOk balance b c s = writeDone balance b s := by
  unfold writeOk
  cases hc : c.command with
  | read => exact absurd hc hcommand
  | write => simp only [howner]

theorem writeNo_refused {why : CardRefusal} (hcommand : c.command ≠ .read) (howner : c.owner = .exchange) :
    writeNo why b c s = cancelWith why.code b s := by
  unfold writeNo
  cases hc : c.command with
  | read => exact absurd hc hcommand
  | write =>
    simp only [howner]
    rfl

/-- A record with the outcome of its card work. -/
def outcomeBay (o : CardOutcome) (balance : Option Nat) (y : Bay) : Bay :=
  { y with ctx := { y.ctx with cardOutcome := o, balanceAfter := balance } }

theorem writeDone_turns (balance : Nat) (b : BayNo) (s : State) :
    Turns b s (writeDone balance b s) (committedBay s.now (outcomeBay .done (some balance) (s.bay b)))
    ∧ ∃ x, ⟨.sale x, some b, .ctx b⟩ ∈ asked (writeDone balance b s).journal := by
  have hmod := ((dropOwnEntry_turns b s).mod (outcomeBay .done (some balance)) fun _ => rfl)
  unfold writeDone
  change Turns b s (enterCommit b ((dropOwnEntry b s).modBay b (outcomeBay .done (some balance)))) _
    ∧ ∃ x, _ ∈ asked (enterCommit b ((dropOwnEntry b s).modBay b (outcomeBay .done (some balance)))).journal
  generalize (dropOwnEntry b s).modBay b (outcomeBay .done (some balance)) = u at hmod
  obtain ⟨hcommitted, -, -, x, hasked⟩ := enterCommit_turns b u
  exact ⟨hmod.thereby (g := fun now _ => committedBay now) hcommitted (committedBay_plain _), x, (hasked _).mpr (.inr rfl)⟩

theorem writeAnswerOk_commits {balance : Nat} {pseq : BitVec 16} (hslot : s.slot b = some c) (hcommand : c.command ≠ .read)
    (howner : c.owner = .exchange) (hnext : s.HandsOn b (.answer c.mark (.ok balance pseq))) :
    ∃ t, exec .writeAnswerOk s = .next t ∧ Handed s t ∧ OtherContexts b s t
      ∧ (t.ctx b).state = .commit ∧ (t.ctx b).cardOutcome = .done ∧ (t.ctx b).balanceAfter = some balance
      ∧ (t.ctx b).coins = [] ∧ (t.exch b).phase = .idle ∧ t.slot b = none
      ∧ ∃ x, ⟨.sale x, some b, .ctx b⟩ ∈ t.journal.queue ++ t.journal.waitList := by
  obtain ⟨t, e, ht⟩ := exec_section (c := .writeAnswerOk) (a := (c.mark, balance)) rfl hnext rfl
  dsimp only at ht
  rw [answerSlot_taken hslot rfl, writeOk_done hcommand howner] at ht
  obtain ⟨hturns, x, hsale⟩ := writeDone_turns balance b (freed b s)
  have hctx : ∀ {α : Type} (p : Ctx → α), (∀ c, p { c with holdCause := .none, overlay := .none } = p c) →
      p (t.ctx b) = p (committed (freed b s).now (outcomeBay .done (some balance) ((freed b s).bay b)).ctx) := by
    intro α p hp
    rw [ht.ctx, State.ctx, hturns.field (fun y => p y.ctx) fun _ => hp _, committedBay_ctx]
  refine ⟨t, e, handed_of_freed hturns ht, otherContexts_of_freed hturns ht, hctx Ctx.state fun _ => rfl,
    hctx Ctx.cardOutcome fun _ => rfl, hctx Ctx.balanceAfter fun _ => rfl, hctx Ctx.coins fun _ => rfl, ?_, ?_, x, ?_⟩
  · rw [ht.exch, State.exch, hturns.field Bay.card fun _ => rfl, committedBay_card]
    rfl
  · rw [ht.slot, State.slot, hturns.field (fun y => y.term.cardSlot) fun _ => rfl, committedBay_slot, freed_bay]
    rfl
  · rw [ht.journal]
    exact hsale

theorem writeAnswerRefused_cancels {why : CardRefusal} (hslot : s.slot b = some c) (hcommand : c.command ≠ .read)
    (howner : c.owner = .exchange) (hnext : s.HandsOn b (.answer c.mark (.refused why))) :
    ∃ t, exec .writeAnswerRefused s = .next t ∧ Handed s t ∧ OtherContexts b s t
      ∧ (t.ctx b).lastRefusal = some why.code ∧ (t.exch b).phase = .idle
      ∧ ((t.ctx b).state = .refund ∨ (t.ctx b).state = .idle ∨ (t.ctx b).state = .outOfService) := by
  obtain ⟨t, e, ht⟩ := exec_section (c := .writeAnswerRefused) (a := (c.mark, why)) rfl hnext rfl
  dsimp only at ht
  rw [answerSlot_taken hslot rfl, writeNo_refused hcommand howner] at ht
  have hrefused := cancelWith_refused why.code b (freed b s)
  obtain ⟨y, hturns⟩ := hrefused.turns
  have hend := hrefused.of_resealed (Turns.refl b _) ht
  exact ⟨t, e, handed_of_freed hturns ht, otherContexts_of_freed hturns ht, hend.refusal, by rw [hend.exch]; rfl, hend.state⟩

/-! ### A write without an answer (R119, R120, R121) -/

theorem formTear_turns (b : BayNo) (s : State) : (∃ x, Turns b s (formTear b s) { s.bay b with reserved := x })
    ∧ (formTear b s).journal = s.journal := by
  have hreleased : Turns b s (s.modBay b fun y => { y with reserved := false }) { s.bay b with reserved := false } :=
    (Becomes.modBay b s _).turns
  unfold formTear
  split
  · split
    · exact ⟨⟨_, .of_bays rfl rfl rfl rfl⟩, rfl⟩
    · split
      · exact ⟨⟨_, hreleased⟩, rfl⟩
      · exact ⟨⟨_, hreleased.shown (.of_bays rfl rfl rfl rfl)⟩, rfl⟩
  · exact ⟨⟨_, .refl b s⟩, rfl⟩

/-- The entry of a write that is no retry, to a card without an entry (R119, R120). -/
theorem formTear_new (hrequest : (s.exch b).request = some r) (hfresh : (s.exch b).fresh = some v)
    (hretry : s.retrying b = false) (hreserved : (s.bay b).reserved = true) (htear : s.tearOf v.serial = none) :
    ((formTear b s).bay b).reserved = false ∧ (formTear b s).card = { s.card with tears := s.card.tears ++
      [⟨v.serial, b, r.op, r.amount, r.pass, v.pseq, v.balance, s.time.calendar, .openTxn, false⟩] } := by
  unfold formTear
  simp only [hrequest, hfresh, hretry, htear, hreserved, Bool.false_eq_true, if_false, Option.isSome_none, or_self,
    Bool.true_eq_false]
  refine ⟨?_, rfl⟩
  have h : (s.modBay b fun y => { y with reserved := false }).bay b = { s.bay b with reserved := false } :=
    State.bay_modBay_self s b _
  exact congrArg Bay.reserved h

/-- A record whose transaction waits in TEAR_WAIT. -/
def tornBay (now : Ms) (y : Bay) : Bay := startedBay .retrn none now (enteredBay .tearWait now (ended y))

theorem writeUnknown_turns (b : BayNo) (s : State) :
    ∃ x, Turns b s (writeUnknown b s) (tornBay s.now { s.bay b with reserved := x })
      ∧ ((formTear b s).bay b).reserved = x
      ∧ (writeUnknown b s).journal = s.journal ∧ (writeUnknown b s).card = (formTear b s).card := by
  obtain ⟨⟨x, hformed⟩, hjournal⟩ := formTear_turns b s
  obtain ⟨hjournal', -, hcard⟩ := endExchange_units b (formTear b s)
  have hreserved := hformed.field Bay.reserved fun _ => rfl
  unfold writeUnknown
  generalize formTear b s = u at *
  have hended := hformed.step (endExchange_turns b u) ended_plain
  generalize endExchange b u = w at *
  have hwaits := enterTearWait_becomes b w
  have hshown := refresh_becomes b (enterTearWait b w)
  refine ⟨x, ?_, hreserved, hshown.journal.trans (hwaits.journal.trans (hjournal'.trans hjournal)),
    hshown.card.trans (hwaits.card.trans hcard)⟩
  exact (hended.thereby (g := fun now _ y => startedBay .retrn none now (enteredBay .tearWait now y)) hwaits.turns
    ((startedBay_plain _ _ _).comp (f := enteredBay .tearWait s.now) fun _ => rfl)).shown hshown.turns

theorem presentedBay_tone (y : Bay) : (presentedBay y).term.tone = y.term.tone := by
  unfold presentedBay
  split <;> rfl

theorem enter_tearWait_tone (b : BayNo) (s : State) : ((enter .tearWait b s).bay b).term.tone = .rept := by
  unfold enter
  dsimp only
  rw [(refresh_tone b _).1, recomputeMask, State.bay_modBay_self]
  unfold entryTone sound
  rw [if_pos rfl, State.bay_modBay_self]
  rfl

theorem writeUnknown_tone (b : BayNo) (s : State) : ((writeUnknown b s).bay b).term.tone = .rept := by
  unfold writeUnknown
  rw [(refresh_tone b _).1]
  unfold enterTearWait startExchange State.modExch
  rw [presentRead_bay_self, presentedBay_tone, State.bay_modBay_self]
  exact enter_tearWait_tone b _

theorem tornBay_ctx (now : Ms) (y : Bay) : (tornBay now y).ctx = entered .tearWait now y.ctx := presentedBay_ctx _

theorem tornBay_card (now : Ms) (y : Bay) : (tornBay now y).card = ⟨.presenting, some .retrn, none, none, none, none, none⟩ :=
  presentedBay_card _

theorem tornBay_reserved (now : Ms) (y : Bay) : (tornBay now y).reserved = y.reserved := presentedBay_reserved _

theorem tornBay_slot (now : Ms) (y : Bay) (h : y.term.cardSlot = none) :
    (tornBay now y).term.cardSlot.map CardSlot.command = some .read := by
  have hslot : (ended y).term.cardSlot = none := by
    show y.term.cardSlot.bind CardSlot.leave = none
    rw [h]
    rfl
  unfold tornBay startedBay presentedBay enteredBay
  simp only [hslot]
  rfl

/-! ### A command without an answer (R109) -/

theorem done_resealed (s u : State) : ∃ t, done s u = .next t ∧ Resealed u t := ⟨_, rfl, reseal_resealed s u⟩

theorem emptySlot_bay (b : BayNo) (s : State) : (emptySlot b s).bay b = freedBay (s.bay b) := State.bay_modBay_self s b _

theorem emptySlot_turns (b : BayNo) (s : State) : Turns b s (emptySlot b s) (freedBay (s.bay b)) :=
  (Becomes.modBay b s freedBay).turns

theorem passed_of {m : Ms} {n : Nat} (h : n ≤ (s.time.ms - m).toNat) : s.passed m n = true := decide_eq_true h

theorem commandTimeout_expires {m : Ms} (hslot : s.slot b = some c) (hsent : c.firstSent = some m)
    (hlate : 500 ≤ (s.time.ms - m).toNat) :
    ∃ t, exec (.cardCommandTimeout b) s = .next t ∧ Resealed (commandExpired c b (emptySlot b s)) t := by
  have hexec : exec (.cardCommandTimeout b) s = done s (commandExpired c b (emptySlot b s)) := by
    show execCardCommandTimeout b s = _
    unfold execCardCommandTimeout
    simp only [hslot, hsent]
    rw [if_pos (passed_of (n := Config.commandLimit) hlate)]
  rw [hexec]
  exact done_resealed s _

/-- Settles O44. -/
theorem writeAnsweredOrLost : Obligations.WriteAnsweredOrLost := by
  refine ⟨fun s b c hslot hcommand howner =>
    ⟨fun _ _ hnext => writeAnswerOk_commits hslot hcommand howner hnext,
      fun _ hnext => writeAnswerRefused_cancels hslot hcommand howner hnext⟩, fun s b c m hslot hsent howner hlate => ?_⟩
  obtain ⟨t, e, ht⟩ := commandTimeout_expires hslot hsent hlate
  have hfreed := emptySlot_turns b s
  have hbay := emptySlot_bay b s
  have hjournal : (emptySlot b s).journal = s.journal := rfl
  have hcard : (emptySlot b s).card = s.card := rfl
  cases hc : c.command with
  | read =>
    have hact : commandExpired c b (emptySlot b s) = presentRead b (emptySlot b s) := by
      unfold commandExpired
      simp only [hc, howner]
    rw [hact] at ht
    have hread := presentRead_becomes b (emptySlot b s)
    have hreadBay := presentRead_bay_self b (emptySlot b s)
    generalize emptySlot b s = u at *
    refine ⟨t, e, fun d hd => (ht.bay d).trans ((hread.others d hd).trans (hfreed.others d hd)),
      ht.journal.trans (hread.journal.trans hjournal), fun _ hphase => ⟨?_, ht.card.trans (hread.card.trans hcard), ?_⟩,
      fun _ _ hno => absurd rfl hno⟩
    · rw [ht.ctx, State.ctx, hreadBay, presentedBay_ctx, hbay]
      rfl
    · have hp : (freedBay (s.bay b)).card.phase = .presenting := hphase
      have hs : (freedBay (s.bay b)).term.cardSlot = none := rfl
      rw [ht.slot, State.slot, hreadBay, hbay]
      unfold presentedBay
      simp only [hp, hs]
      rfl
  | write op serial amount seq pass =>
    have hact : commandExpired c b (emptySlot b s) = writeUnknown b (emptySlot b s) := by
      unfold commandExpired
      simp only [hc, howner]
    rw [hact] at ht
    obtain ⟨x, hturns, hreserved, hjournal', hcard'⟩ := writeUnknown_turns b (emptySlot b s)
    have htone := writeUnknown_tone b (emptySlot b s)
    refine ⟨t, e, fun d hd => (ht.bay d).trans ((hturns.others d hd).trans (hfreed.others d hd)),
      ht.journal.trans (hjournal'.trans hjournal), (fun hno => by cases hno), fun r v _ hrequest hfresh _ hretry hres htear => ?_⟩
    obtain ⟨hspent, hentered⟩ := formTear_new (b := b) (s := emptySlot b s) (r := r) (v := v)
      (by rw [State.exch, hbay]; exact hrequest) (by rw [State.exch, hbay]; exact hfresh) hretry
      (by rw [hbay]; exact hres) htear
    have hfield : ∀ {α : Type} (p : Bay → α), (∀ y, p (core y) = p y) →
        p (t.bay b) = p (tornBay (emptySlot b s).now { (emptySlot b s).bay b with reserved := x }) := fun p hp => by
      rw [ht.bay, hturns.field p hp]
    refine ⟨(hfield (fun y => y.ctx.state) fun _ => rfl).trans ?_, (hfield Bay.reserved fun _ => rfl).trans ?_,
      (hfield (fun y => y.card.purpose) fun _ => rfl).trans ?_, (hfield (fun y => y.card.phase) fun _ => rfl).trans ?_,
      (hfield (fun y => y.term.cardSlot.map CardSlot.command) fun _ => rfl).trans ?_, ?_, ?_⟩
    · rw [tornBay_ctx]; rfl
    · rw [tornBay_reserved]; exact hreserved.symm.trans hspent
    · rw [tornBay_card]
    · rw [tornBay_card]
    · exact tornBay_slot _ _ (by rw [hbay]; rfl)
    · rw [ht.bay]; exact htone
    · exact ht.card.trans (hcard'.trans hentered)

end

end Sys2Proof.Proofs

/-! PROOFS. The owner's card settles its own tear, and the limits end their waits (R7, R14, R115, R122, R123, R127 to R130). -/

namespace Sys2Proof.Proofs

open Sys2Proof Sys2Proof.Machine Sys2Proof.Laws

section
variable {b : BayNo} {s t : State} {v : CardValues} {e : Tear}

/-! ### The own tear (R122, R123) -/

theorem tearOf_serial (h : s.tearOf v.serial = some e) : e.serial = v.serial := by
  have := List.find?_some h
  simpa using this

theorem readTaken_own (htear : s.tearOf v.serial = some e) (hopen : e.closing = false) (howner : e.owner = .openTxn)
    (hbay : e.bay = b) (hpurpose : (s.exch b).purpose = some .retrn) : readTaken v b s = settleOwn e v b s := by
  unfold readTaken entryRead
  simp only [htear, hopen, howner, hbay, hpurpose, Bool.false_eq_true, if_false, if_true]

theorem settleOwn_applied (hjudge : e.judge v = .applied) : settleOwn e v b s =
    enterCommit b ((removeTear e.serial s).modBay b (outcomeBay .done (some v.balance))) := by
  unfold settleOwn
  simp only [hjudge]
  rfl

theorem settleOwn_notApplied (hjudge : e.judge v = .notApplied) : settleOwn e v b s =
    if (s.ctx b).writeRetried then enterRefund b s
    else enterCardWrite b (s.modCtx b fun c => { c with writeRetried := true }) := by
  unfold settleOwn
  simp only [hjudge]

/-- A record whose card outcome is PENDING. -/
def pendingBay (y : Bay) : Bay := { y with ctx := { y.ctx with cardOutcome := .pending } }

theorem settleOwn_conflict (hjudge : e.judge v = .conflict) : settleOwn e v b s =
    enterCommit b ((closeTear e .conflict (some b) .none s).modBay b pendingBay) := by
  unfold settleOwn
  simp only [hjudge]
  rfl

theorem closeTear_turns (e : Tear) (res : Resolution) (who : Option BayNo) (why : TearReason) (b : BayNo) (s : State) :
    Turns b s (closeTear e res who why s) (s.bay b) :=
  (Turns.of_bays rfl rfl rfl rfl : Turns b s (s.modTear e.serial fun t => { t with closing := true }) (s.bay b)).shown
    (append_turns b _ _)

theorem closeTear_card (e : Tear) (res : Resolution) (who : Option BayNo) (why : TearReason) (s : State) :
    (closeTear e res who why s).card = { s.card with
      tears := s.card.tears.map fun x => if x.serial = e.serial then { x with closing := true } else x } :=
  congrArg Beside.card (append_beside _ _)

/-- A commit with an outcome set before it. -/
theorem commit_with {u : State} {f : Bay → Bay} (hu : Turns b s u (s.bay b)) (hf : Plain f) :
    Turns b s (enterCommit b (u.modBay b f)) (committedBay s.now (f (s.bay b)))
    ∧ (enterCommit b (u.modBay b f)).card = u.card := by
  have hmod := hu.mod f hf
  have hcard : (u.modBay b f).card = u.card := rfl
  generalize u.modBay b f = w at hmod hcard
  obtain ⟨hcommitted, hkept, -⟩ := enterCommit_turns b w
  exact ⟨hmod.thereby (g := fun now _ => committedBay now) hcommitted (committedBay_plain _), hkept.trans hcard⟩

theorem committed_field {α : Type} {u : State} {y : Bay} {now : Ms} (h : Turns b s u (committedBay now y)) (h' : Resealed u t)
    (p : Ctx → α) (hp : ∀ c, p { c with holdCause := .none, overlay := .none } = p c) :
    p (t.ctx b) = p (committed now y.ctx) := by
  rw [h'.ctx, State.ctx, h.field (fun y => p y.ctx) fun _ => hp _, committedBay_ctx]

theorem find?_closed {l : List Tear} (h : l.find? (fun t => t.serial == v.serial) = some e) (hserial : e.serial = v.serial) :
    ∃ f, (l.map fun x => if x.serial = e.serial then { x with closing := true } else x).find?
      (fun t => t.serial == v.serial) = some f ∧ f.closing = true := by
  induction l with
  | nil => cases h
  | cons x xs ih =>
    rw [List.map_cons, List.find?_cons]
    rw [List.find?_cons] at h
    by_cases hx : x.serial = v.serial
    · rw [if_pos (hx.trans hserial.symm)]
      simp only [hx, beq_self_eq_true]
      exact ⟨_, rfl, rfl⟩
    · rw [if_neg fun hno => hx (hno.trans hserial)]
      have hno : (x.serial == v.serial) = false := beq_false_of_ne hx
      rw [hno] at h ⊢
      exact ih h

/-- Settles O45. -/
theorem ownTearSettled : Obligations.OwnTearSettled := by
  intro s b v c e hslot hcommand howner hnext hphase hpurpose htear hclosing hopen hbay
  obtain ⟨t, he, ht⟩ := cardAnswer_reads ⟨⟨c, hslot, hcommand, howner, hnext⟩, hphase⟩
  have hserial := tearOf_serial htear
  rw [readTaken_own (s := freed b s) htear hclosing hopen hbay (by rw [freed_exch]; exact hpurpose)] at ht
  have hcard : (freed b s).card = s.card := rfl
  cases hjudge : e.judge v with
  | applied =>
    rw [settleOwn_applied hjudge] at ht
    have hremoved : Turns b (freed b s) (removeTear e.serial (freed b s)) ((freed b s).bay b) := .of_bays rfl rfl rfl rfl
    obtain ⟨hturns, hcard'⟩ := commit_with (f := outcomeBay .done (some v.balance)) hremoved fun _ => rfl
    refine ⟨t, he, otherContexts_of_freed hturns ht, fun _ => ⟨committed_field hturns ht Ctx.state fun _ => rfl,
      committed_field hturns ht Ctx.cardOutcome fun _ => rfl, ?_⟩, nofun, nofun⟩
    rw [State.tearOf, ht.card, hcard', List.find?_eq_none]
    intro x hx
    have hne : x.serial ≠ e.serial := of_decide_eq_true (List.mem_filter.mp hx).2
    rw [hserial] at hne
    simpa using hne
  | notApplied =>
    rw [settleOwn_notApplied hjudge] at ht
    split at ht
    next hretried =>
      obtain ⟨y, hturns, -⟩ := enterRefund_turns b (freed b s)
      refine ⟨t, he, otherContexts_of_freed hturns ht, nofun, fun _ hno => ?_, nofun⟩
      rw [freed_ctx, hno] at hretried
      cases hretried
    next =>
      have hmod := (Becomes.modBay b (freed b s) fun y => { y with ctx := { y.ctx with writeRetried := true } })
      obtain ⟨r, hwrite⟩ := enterCardWrite_becomes b ((freed b s).modCtx b fun c => { c with writeRetried := true })
      have hwrite' := hmod.step (g := fun y => startedBay .write (some r)
          ((freed b s).modCtx b fun c => { c with writeRetried := true }).now
          (enteredBay .cardWrite ((freed b s).modCtx b fun c => { c with writeRetried := true }).now y)) hwrite
        ((startedBay_plain _ _ _).comp (f := enteredBay .cardWrite _) fun _ => rfl)
      generalize enterCardWrite b ((freed b s).modCtx b fun c => { c with writeRetried := true }) = w at ht hwrite'
      have hstarted : ∀ {α : Type} (p : Bay → α), (∀ y, p (core y) = p y) → p (t.bay b) = p (startedBay .write (some r) s.time.ms
          (enteredBay .cardWrite s.time.ms { (freed b s).bay b with ctx := { ((freed b s).bay b).ctx with writeRetried := true } })) :=
        fun p hp => by rw [ht.bay, hwrite'.field p hp]; rfl
      refine ⟨t, he, otherContexts_of_freed hwrite'.turns ht, nofun, fun _ _ => ⟨?_, ?_, ht.card.trans hwrite'.card, ?_, ?_⟩, nofun⟩
      · rw [State.ctx, hstarted (fun y => y.ctx.state) fun _ => rfl, startedBay, presentedBay_ctx]; rfl
      · rw [State.ctx, hstarted (fun y => y.ctx.writeRetried) fun _ => rfl, startedBay, presentedBay_ctx]; rfl
      · rw [State.exch, hstarted (fun y => y.card.purpose) fun _ => rfl, startedBay, presentedBay_card]
      · rw [State.exch, hstarted (fun y => y.card.limitStart) fun _ => rfl, startedBay, presentedBay_card]; rfl
  | conflict =>
    rw [settleOwn_conflict hjudge] at ht
    have hclosed := closeTear_turns e .conflict (some b) .none b (freed b s)
    obtain ⟨hturns, hcard'⟩ := commit_with (f := pendingBay) hclosed fun _ => rfl
    refine ⟨t, he, otherContexts_of_freed hturns ht, nofun, nofun, fun _ => ⟨committed_field hturns ht Ctx.state fun _ => rfl,
      committed_field hturns ht Ctx.cardOutcome fun _ => rfl, ?_⟩⟩
    rw [State.tearOf, ht.card, hcard', closeTear_card]
    exact find?_closed htear hserial

/-! ### Limits (R7, R115, R130) -/

theorem presentationLimit_cancels {m : Ms} (hstart : (s.exch b).limitStart = some m) (hlimited : (s.exch b).phase.limited = true)
    (hlate : 20000 ≤ (s.time.ms - m).toNat) :
    ∃ t, exec (.presentationLimitExpiry b) s = .next t ∧ Refused b .cardTimeout s t := by
  have hexec : exec (.presentationLimitExpiry b) s = done s (cancelWith .cardTimeout b s) := by
    show execPresentationLimitExpiry b s = _
    unfold execPresentationLimitExpiry
    simp only [hstart]
    rw [if_pos ⟨hlimited, passed_of (n := Config.presentationLimit) hlate⟩]
  obtain ⟨t, e, ht⟩ := done_resealed s (cancelWith .cardTimeout b s)
  exact ⟨t, hexec.trans e, (cancelWith_refused .cardTimeout b s).of_resealed (.refl b s) ht⟩

theorem endAuth_turns (b : BayNo) (s : State) : Turns b s (endAuth b s) { s.bay b with authWait := none } := by
  have hbay := endAuth_bay_self b s
  refine ⟨fun c hc => ?_, ?_, ?_, ?_, by rw [hbay]⟩
  all_goals
    unfold endAuth
    split
  · exact (State.bay_modBay_ne s hc fun y => { y with authWait := none } :)
  all_goals rfl

theorem authWait_cancels {w : AuthWait} (hwait : (s.bay b).authWait = some w) (hlate : 3000 ≤ (s.time.ms - w.sentAt).toNat) :
    ∃ t, exec (.authWaitExpiry b) s = .next t ∧ Refused b .authTimeout s t := by
  have hexec : exec (.authWaitExpiry b) s = done s (authFailed .authTimeout b s) := by
    show execAuthWaitExpiry b s = _
    unfold execAuthWaitExpiry
    simp only [hwait]
    rw [if_pos (passed_of (n := Config.authLimit) hlate)]
  obtain ⟨t, e, ht⟩ := done_resealed s (authFailed .authTimeout b s)
  exact ⟨t, hexec.trans e, (cancelWith_refused .authTimeout b (endAuth b s)).of_resealed (endAuth_turns b s) ht⟩

theorem Refused.otherContexts {code : Code} (h : Refused b code s t) : OtherContexts b s t := by
  obtain ⟨⟨y, hturns⟩, -⟩ := h
  exact fun c hc => congrArg Bay.ctx (hturns.others c hc)

theorem Refused.idle {code : Code} (h : Refused b code s t) : (t.exch b).phase = .idle := by
  rw [h.exch]
  rfl

/-- What a context's limit does once it has passed. -/
theorem contextTimeout_acts {n : Nat} (hwait : (s.ctx b).wait = .none) (hlimit : (s.ctx b).state.limit = some n)
    (hlate : n ≤ (s.time.ms - (s.ctx b).lastChange).toNat) :
    ∃ t, exec (.contextTimeout b) s = .next t ∧ Resealed (timeout b s) t := by
  have hexec : exec (.contextTimeout b) s = done s (timeout b s) := by
    show execContextTimeout b s = _
    unfold execContextTimeout
    simp only [hlimit]
    rw [if_pos ⟨passed_of hlate, by rw [Ctx.takes, hwait]; rfl⟩]
  rw [hexec]
  exact done_resealed s _

theorem timeout_turns (b : BayNo) (s : State) : ∃ y, Turns b s (timeout b s) y := by
  unfold timeout
  split
  · exact (cancelWith_refused .cardTimeout b s).turns
  · exact ⟨_, (commit_with (f := pendingBay) (.refl b s) fun _ => rfl).1⟩
  · obtain ⟨y, hturns, -⟩ := enterRefund_turns b s
    exact ⟨y, hturns⟩

/-- A limit that has not passed does nothing. -/
theorem contextTimeout_others (b : BayNo) (s : State) : ∃ t, exec (.contextTimeout b) s = .next t ∧ OtherContexts b s t := by
  refine ⟨_, rfl, fun c hc => ?_⟩
  obtain ⟨y, hturns⟩ := timeout_turns b s
  show State.ctx (match (s.ctx b).state.limit with
    | some n => _
    | none => s) c = s.ctx c
  cases (s.ctx b).state.limit with
  | none => rfl
  | some n =>
    dsimp only
    split
    · exact congrArg Bay.ctx (hturns.others c hc)
    · rfl

theorem timeout_tearWait (h : (s.ctx b).state = .tearWait) : timeout b s = enterCommit b (s.modBay b pendingBay) := by
  unfold timeout
  simp only [h]
  rfl

theorem timeout_cardRead (h : (s.ctx b).state = .cardRead) : timeout b s = cancelWith .cardTimeout b s := by
  unfold timeout
  simp only [h]

theorem timeout_refund (h : (s.ctx b).state = .priced ∨ (s.ctx b).state = .tender) : timeout b s = enterRefund b s := by
  unfold timeout
  rcases h with h | h <;> simp only [h]

theorem limits_end (s : State) (b : BayNo) : (s.ctx b).wait = .none →
    ∃ t, exec (.contextTimeout b) s = .next t ∧ OtherContexts b s t
      ∧ ((s.ctx b).state = .tearWait → 20000 ≤ (s.time.ms - (s.ctx b).lastChange).toNat →
          (t.ctx b).state = .commit ∧ (t.ctx b).cardOutcome = .pending ∧ t.card = s.card)
      ∧ ((s.ctx b).state = .cardRead → 30000 ≤ (s.time.ms - (s.ctx b).lastChange).toNat →
          (t.ctx b).lastRefusal = some .cardTimeout ∧ (t.exch b).phase = .idle)
      ∧ ((s.ctx b).state = .priced ∧ 60000 ≤ (s.time.ms - (s.ctx b).lastChange).toNat
            ∨ (s.ctx b).state = .tender ∧ 90000 ≤ (s.time.ms - (s.ctx b).lastChange).toNat →
          ((t.ctx b).state = .refund ∨ (t.ctx b).state = .idle ∨ (t.ctx b).state = .outOfService)
          ∧ ((s.bay b).escrow.pulse = none → (t.ctx b).coins = [])) := by
  intro hwait
  obtain ⟨t, e, hothers⟩ := contextTimeout_others b s
  have hthis : ∀ n, (s.ctx b).state.limit = some n → n ≤ (s.time.ms - (s.ctx b).lastChange).toNat → Resealed (timeout b s) t :=
    fun n hlimit hlate => by
      obtain ⟨t', e', ht'⟩ := contextTimeout_acts hwait hlimit hlate
      rw [e] at e'
      cases e'
      exact ht'
  refine ⟨t, e, hothers, fun hstate hlate => ?_, fun hstate hlate => ?_, fun hcase => ?_⟩
  · have ht := hthis 20000 (by rw [hstate]; rfl) hlate
    rw [timeout_tearWait hstate] at ht
    obtain ⟨hturns, hcard⟩ := commit_with (f := pendingBay) (.refl b s) fun _ => rfl
    exact ⟨committed_field hturns ht Ctx.state fun _ => rfl, committed_field hturns ht Ctx.cardOutcome fun _ => rfl,
      ht.card.trans hcard⟩
  · have ht := hthis 30000 (by rw [hstate]; rfl) hlate
    rw [timeout_cardRead hstate] at ht
    have hrefused := (cancelWith_refused .cardTimeout b s).of_resealed (.refl b s) ht
    exact ⟨hrefused.refusal, hrefused.idle⟩
  · have ht : Resealed (enterRefund b s) t := by
      rcases hcase with ⟨hstate, hlate⟩ | ⟨hstate, hlate⟩
      · rw [← timeout_refund (.inl hstate)]
        exact hthis 60000 (by rw [hstate]; rfl) hlate
      · rw [← timeout_refund (.inr hstate)]
        exact hthis 90000 (by rw [hstate]; rfl) hlate
    have hcancelled := cancelled_enterRefund b s
    have hstate := cancelled_state hcancelled
    obtain ⟨-, hreturn, -⟩ := hcancelled
    rw [ht.ctx]
    exact ⟨by simpa only [List.mem_cons, List.not_mem_nil, or_false] using hstate, fun hpulse => (hreturn hpulse).2⟩

/-! ### The oldest expired entry (R127, R128) -/

theorem tearExpiry_closes (s : State) : ∃ t, exec .tearExpiry s = .next t ∧ t.bays = s.bays ∧ t.tariff = s.tariff
    ∧ t.time = s.time ∧ (s.time.isSet = false → t = s)
    ∧ (s.up = true → ∀ e, s.card.tears.find? s.expired = some e →
        t.card = { s.card with
          tears := s.card.tears.map fun x => if x.serial = e.serial then { x with closing := true } else x }
        ∧ ∃ r ∈ t.journal.queue ++ t.journal.waitList,
            r.body = .tear .expired e.serial e.op e.amount e.owner.sequence none .none) := by
  have hkept : ∀ u, u = s → ∃ t, done s u = .next t ∧ t = s := fun u hu => ⟨s, by rw [hu, done, reseal_of_area rfl], rfl⟩
  show ∃ t, execTearExpiry s = .next t ∧ _
  unfold execTearExpiry State.whenUp
  cases hfind : s.card.tears.find? s.expired with
  | none =>
    obtain ⟨t, e, rfl⟩ := hkept (if s.up then s else s) (ite_self s)
    exact ⟨_, e, rfl, rfl, rfl, fun _ => rfl, fun _ _ hno => by cases hno⟩
  | some e =>
    cases hup : s.up with
    | false => exact (hkept s rfl).elim fun t h => ⟨t, h.1, by rw [h.2], by rw [h.2], by rw [h.2], fun _ => h.2, fun hno => by cases hno⟩
    | true =>
      dsimp only
      rw [if_pos rfl]
      obtain ⟨t, ht, hresealed⟩ := done_resealed s (closeTear e .expired none .none s)
      have hbeside : beside (closeTear e .expired none .none s) = beside (s.modTear e.serial fun t => { t with closing := true }) :=
        append_beside _ _
      refine ⟨t, ht, ?_, hresealed.tariff.trans (congrArg Beside.tariff hbeside), hresealed.time.trans (congrArg Beside.time hbeside),
        fun hunset => ?_, fun _ x hx => ?_⟩
      · rw [hresealed]
        exact congrArg Beside.bays hbeside
      · have hexpired := List.find?_some hfind
        rw [State.expired, hunset, Bool.false_and, Bool.false_and, Bool.false_and, Bool.false_and] at hexpired
        cases hexpired
      · cases hx
        refine ⟨hresealed.card.trans (closeTear_card _ _ _ _ _),
          ⟨.tear .expired e.serial e.op e.amount e.owner.sequence none .none, some e.bay, .tear e.serial⟩, ?_, rfl⟩
        rw [hresealed.journal]
        exact (asked_append rfl rfl _).mpr (.inr rfl)

/-- Settles O46. -/
theorem limitsAndExpiryEndTheirWaits : Obligations.LimitsAndExpiryEndTheirWaits := by
  refine ⟨fun s b => ⟨fun m hstart hlimited hlate => ?_, fun w hwait hlate => ?_, limits_end s b⟩, tearExpiry_closes⟩
  · obtain ⟨t, e, h⟩ := presentationLimit_cancels hstart hlimited hlate
    exact ⟨t, e, h.otherContexts, h.refusal, h.idle, h.wait⟩
  · obtain ⟨t, e, h⟩ := authWait_cancels hwait hlate
    exact ⟨t, e, h.otherContexts, h.refusal, h.idle, h.wait⟩

end

end Sys2Proof.Proofs

/-! PROOFS. The end of an evaluation (R10, R12, R41, R46 to R48). -/

namespace Sys2Proof.Proofs

open Sys2Proof Sys2Proof.Machine Sys2Proof.Laws

section
variable {b : BayNo} {s t : State} {r : PriceRequest}

/-! ### The pricing requests (R46, R48) -/

/-- The request evaluated and those that wait. -/
def pricing (t : Tariff) : Option PriceRequest × List PriceRequest := (t.evaluating, t.queue)

theorem unpinnedOf_pricing (o : Option Bank) (t : Tariff) : pricing (unpinnedOf o t) = pricing t := by
  cases o with
  | none => rfl
  | some k => cases k <;> rfl

theorem adjustAndWait_tariff (reason : AdjustReason) (amount : Nat) (b : BayNo) (s : State) :
    (adjustAndWait reason amount b s).tariff = s.tariff :=
  (await_becomes .adjust b _).tariff.trans (congrArg Beside.tariff (append_beside _ s))

theorem refundEnded_pricing (paid : Nat) (b : BayNo) (s : State) : pricing (refundEnded paid b s).tariff = pricing s.tariff := by
  unfold refundEnded
  dsimp only
  split
  · rw [adjustAndWait_tariff]
  · rw [(closeTxn_units b s).2.1, unpinnedOf_pricing]

theorem refunding_pricing (b : BayNo) (s : State) : pricing (refunding b s).tariff = pricing (unpriced b s).tariff := by
  obtain ⟨-, htariff, -⟩ := endExchange_units b (unpriced b s)
  unfold refunding
  generalize endExchange b (unpriced b s) = u at htariff
  have hentered := enter_becomes .refund b (dropOwnEntry b u)
  rw [(requestReturn_becomes b _).tariff, hentered.tariff, show (dropOwnEntry b u).tariff = u.tariff from rfl, htariff]

/-- A cancel withdraws a request in PRICING, and touches no other. -/
theorem enterRefund_pricing (b : BayNo) (s : State) : pricing (enterRefund b s).tariff = pricing (unpriced b s).tariff := by
  have hrefunding := refunding_pricing b s
  rw [enterRefund_eq]
  generalize refunding b s = u at hrefunding
  split
  · have hwaits := await_becomes .payout b (u.modCtx b fun c => { c with refundOwed := (s.ctx b).overflowValue })
    generalize await .payout b (u.modCtx b fun c => { c with refundOwed := (s.ctx b).overflowValue }) = w at hwaits
    have hstarted := startPayout_becomes b .refund (s.ctx b).overflowValue w
    generalize startPayout b .refund (s.ctx b).overflowValue w = p at hstarted
    have hp : pricing p.1.tariff = pricing u.tariff := by
      rw [hstarted.tariff, hwaits.tariff]
      rfl
    rw [← hrefunding, ← hp]
    unfold refunded
    split
    · exact refundEnded_pricing _ b p.1
    · rfl
  · rw [(closeTxn_units b u).2.1, unpinnedOf_pricing, hrefunding]

theorem unpriced_pricing (halone : ∀ q ∈ s.tariff.queue, q.bay ≠ b) (hidle : s.tariff.evaluating = none) :
    pricing (unpriced b s).tariff = pricing s.tariff := by
  unfold unpriced
  split
  · have hqueue : (s.tariff.withdraw b).queue = s.tariff.queue := List.filter_eq_self.mpr fun q hq => decide_eq_true (halone q hq)
    have hevaluating : (s.tariff.withdraw b).evaluating = s.tariff.evaluating := by
      show s.tariff.evaluating.map _ = _
      rw [hidle]
      rfl
    exact Prod.ext hevaluating hqueue
  · rfl

theorem leavePriced_tariff (b : BayNo) (s : State) : (leavePriced b s).tariff = s.tariff := by
  have hwrite : (enterCardWrite b s).tariff = s.tariff := by
    obtain ⟨r, h⟩ := enterCardWrite_becomes b s
    exact h.tariff
  rw [leavePriced_eq]
  split
  · exact (refuse_becomes .insufficient b _).tariff
  · split
    · split
      · exact hwrite
      · exact (enterCommit_turns b s).2.2.1
    · split
      · exact hwrite
      · exact (enter_becomes .tender b s).tariff

/-- The idle evaluator takes the head of the queue. -/
theorem evalStart_takes {t : Tariff} (h : t.evaluating = none) :
    t.evalStart.evaluating = t.queue.head? ∧ t.evalStart.queue = t.queue.drop 1 := by
  unfold Tariff.evalStart
  split
  next hqueue => exact ⟨by rw [hqueue]; rfl, by rw [hqueue]; rfl⟩
  next hno =>
    have hempty : t.queue = [] := by
      cases hq : t.queue with
      | nil => rfl
      | cons q qs => exact absurd hq (hno q qs h)
    rw [h, hempty]
    exact ⟨rfl, rfl⟩

/-! ### The display of a price (R19, R41) -/

theorem show_screen (t : Terminal) (sc : Screen) (h : HoldCause) : (t.show sc h).screen = sc := by
  unfold Terminal.show
  split
  next hsame => exact hsame.1
  next => rfl

/-- What a bay's terminal shows is what its context gives. -/
theorem refresh_screen (b : BayNo) (s : State) : ((refresh b s).bay b).term.screen.amounts = shownAmounts (s.ctx b)
    ∧ ((refresh b s).bay b).term.screen.flags = shownFlags (s.ctx b) := by
  unfold refresh
  dsimp only
  rw [State.bay_modBay_self, show_screen]
  unfold State.screenOf
  dsimp only
  rw [State.ctx_modCtx_self]
  exact ⟨rfl, rfl⟩

/-! ### A price delivered (R10) -/

/-- A context with the price of its request. -/
def pricedCtx (r : PriceRequest) (amount : Nat) (flags : EvalFlags) (plan : Option PassPlan) (c : Ctx) : Ctx :=
  { c with price := some amount, priceMethod := some r.method, evalFlags := flags, passPlan := plan }

/-- A record whose context enters PRICED with its price. -/
def pricedBay (r : PriceRequest) (amount : Nat) (flags : EvalFlags) (plan : Option PassPlan) (now : Ms) (y : Bay) : Bay :=
  enteredBay .priced now { y with ctx := pricedCtx r amount flags plan y.ctx }

theorem enterPriced_becomes (r : PriceRequest) (amount : Nat) (flags : EvalFlags) (plan : Option PassPlan) (s : State) :
    Becomes r.bay s (enter .priced r.bay (s.modCtx r.bay (pricedCtx r amount flags plan)))
      (pricedBay r amount flags plan s.now (s.bay r.bay)) :=
  (Becomes.modBay r.bay s _).step (g := enteredBay .priced s.now) (enter_becomes .priced r.bay _) fun _ => rfl

theorem priced_eq (r : PriceRequest) (amount : Nat) (flags : EvalFlags) (plan : Option PassPlan) (s : State) :
    priced r amount flags plan s =
      if (s.ctx r.bay).method.isSome then leavePriced r.bay (enter .priced r.bay (s.modCtx r.bay (pricedCtx r amount flags plan)))
      else enter .priced r.bay (s.modCtx r.bay (pricedCtx r amount flags plan)) := by
  have hmethod : ((enter .priced r.bay (s.modCtx r.bay (pricedCtx r amount flags plan))).ctx r.bay).method
      = (s.ctx r.bay).method := (enterPriced_becomes r amount flags plan s).field (fun y => y.ctx.method) fun _ => rfl
  unfold priced
  change (if ((enter .priced r.bay (s.modCtx r.bay (pricedCtx r amount flags plan))).ctx r.bay).method.isSome then _ else _) = _
  rw [hmethod]
  rfl

theorem enter_screen (st : CtxState) (b : BayNo) (s : State) :
    ((enter st b s).bay b).term.screen.amounts = shownAmounts ((enter st b s).ctx b)
    ∧ ((enter st b s).bay b).term.screen.flags = shownFlags ((enter st b s).ctx b) := by
  unfold enter
  dsimp only
  generalize recomputeMask b _ = u
  have hscreen := refresh_screen b u
  have hctx := refresh_ctx b u
  rw [hctx]
  exact hscreen

theorem priced_turns (r : PriceRequest) (amount : Nat) (flags : EvalFlags) (plan : Option PassPlan) (s : State) :
    (∃ y, Turns r.bay s (priced r amount flags plan s) y) ∧ (priced r amount flags plan s).tariff = s.tariff := by
  have hentered := enterPriced_becomes r amount flags plan s
  rw [priced_eq]
  generalize enter .priced r.bay (s.modCtx r.bay (pricedCtx r amount flags plan)) = u at hentered
  split
  · obtain ⟨y, hturns, -⟩ := leavePriced_turns r.bay u
    exact ⟨⟨y, hturns.behind hentered.turns⟩, (leavePriced_tariff r.bay u).trans hentered.tariff⟩
  · exact ⟨⟨_, hentered.turns⟩, hentered.tariff⟩

/-- A result before any CONFIRM stays in PRICED. -/
theorem priced_stays {amount : Nat} {flags : EvalFlags} {plan : Option PassPlan} (hnone : (s.ctx r.bay).method = none) :
    let t := priced r amount flags plan s
    (t.ctx r.bay).state = .priced ∧ (t.ctx r.bay).price = some amount
    ∧ (t.ctx r.bay).priceMethod = some r.method ∧ (t.ctx r.bay).evalFlags = flags
    ∧ (t.ctx r.bay).passPlan = plan ∧ (t.ctx r.bay).lastChange = s.time.ms
    ∧ (t.bay r.bay).term.screen.amounts = [amount] ∧ (t.bay r.bay).term.screen.flags = some flags := by
  have hentered := enterPriced_becomes r amount flags plan s
  obtain ⟨hamounts, hflags⟩ := enter_screen .priced r.bay (s.modCtx r.bay (pricedCtx r amount flags plan))
  dsimp only
  rw [priced_eq, hnone, if_neg (by decide)]
  generalize enter .priced r.bay (s.modCtx r.bay (pricedCtx r amount flags plan)) = u at *
  have hctx : ∀ {α : Type} (p : Ctx → α), (∀ c, p { c with holdCause := .none, overlay := .none } = p c) →
      p (u.ctx r.bay) = p (pricedBay r amount flags plan s.now (s.bay r.bay)).ctx := fun p hp =>
    hentered.field (fun y => p y.ctx) fun _ => hp _
  exact ⟨hctx Ctx.state fun _ => rfl, hctx Ctx.price fun _ => rfl, hctx Ctx.priceMethod fun _ => rfl,
    hctx Ctx.evalFlags fun _ => rfl, hctx Ctx.passPlan fun _ => rfl, hctx Ctx.lastChange fun _ => rfl,
    hamounts.trans (hctx shownAmounts fun _ => rfl), hflags.trans (hctx shownFlags fun _ => rfl)⟩

/-- A result after a CONFIRM is carried through (R12). -/
theorem priced_leads {amount : Nat} {flags : EvalFlags} {plan : Option PassPlan} {m : Method}
    (hmethod : (s.ctx r.bay).method = some m) :
    let t := priced r amount flags plan s
    (m = .coins → 0 < amount → (t.ctx r.bay).state = .tender ∧ (t.ctx r.bay).price = some amount
      ∧ (t.ctx r.bay).priceMethod = some r.method ∧ (t.ctx r.bay).method = some .coins)
    ∧ (m = .purse → cardBalanceOf (s.ctx r.bay) < amount → (t.ctx r.bay).state = .priced ∧ (t.ctx r.bay).price = some amount
      ∧ (t.ctx r.bay).method = none ∧ (t.ctx r.bay).lastRefusal = some .insufficient)
    ∧ (m = .purse → 0 < amount → amount ≤ cardBalanceOf (s.ctx r.bay) → (t.ctx r.bay).state = .cardWrite
      ∧ (t.ctx r.bay).price = some amount) := by
  have hentered := enterPriced_becomes r amount flags plan s
  dsimp only
  rw [priced_eq, hmethod, Option.isSome_some, if_pos rfl]
  generalize enter .priced r.bay (s.modCtx r.bay (pricedCtx r amount flags plan)) = u at *
  have hctx : ∀ {α : Type} (p : Ctx → α), (∀ c, p { c with holdCause := .none, overlay := .none } = p c) →
      p (u.ctx r.bay) = p (pricedBay r amount flags plan s.now (s.bay r.bay)).ctx := fun p hp =>
    hentered.field (fun y => p y.ctx) fun _ => hp _
  have hprice : (u.ctx r.bay).price = some amount := hctx Ctx.price fun _ => rfl
  have hstate : (u.ctx r.bay).state = .priced := hctx Ctx.state fun _ => rfl
  have hpriceMethod : (u.ctx r.bay).priceMethod = some r.method := hctx Ctx.priceMethod fun _ => rfl
  have hconfirmed : (u.ctx r.bay).method = some m := (hctx Ctx.method fun _ => rfl).trans hmethod
  have hbalance : cardBalanceOf (u.ctx r.bay) = cardBalanceOf (s.ctx r.bay) := hctx cardBalanceOf fun _ => rfl
  obtain ⟨y, hturns, -, hkept, hkeptMethod⟩ := leavePriced_turns r.bay u
  have hpriceAfter : ((leavePriced r.bay u).ctx r.bay).price = some amount :=
    (hturns.field (fun y => y.ctx.price) fun _ => rfl).trans (hkept.trans hprice)
  refine ⟨?_, ?_, ?_⟩
  · rintro rfl hpos
    have heq := leavePriced_coins hconfirmed (by rw [hprice]; exact hpos)
    have htender := enter_becomes .tender r.bay u
    refine ⟨?_, hpriceAfter, (hturns.field (fun y => y.ctx.priceMethod) fun _ => rfl).trans (hkeptMethod.trans hpriceMethod), ?_⟩
    · rw [heq]; exact htender.field (fun y => y.ctx.state) fun _ => rfl
    · rw [heq]; exact (htender.field (fun y => y.ctx.method) fun _ => rfl).trans hconfirmed
  · rintro rfl hshort
    obtain ⟨hnow, hgone, hrefusal⟩ := leavePriced_short hconfirmed (by rw [hprice, hbalance]; exact hshort)
    exact ⟨hnow.trans hstate, hpriceAfter, hgone, hrefusal⟩
  · rintro rfl hpos hpays
    have heq := leavePriced_purse hconfirmed (by rw [hprice]; exact hpos) (by rw [hprice, hbalance]; exact hpays)
    exact ⟨by rw [heq]; exact (enterCardWrite_ctx r.bay u).1, hpriceAfter⟩

end

end Sys2Proof.Proofs

/-! PROOFS. What an evaluation leads to (R10, R46 to R48). -/

namespace Sys2Proof.Proofs

open Sys2Proof Sys2Proof.Machine Sys2Proof.Laws

section
variable {s t : State} {r : PriceRequest}

/-- The state whose evaluator is idle. -/
def evaluated (s : State) : State := s.modTariff fun t => { t with evaluating := none }

theorem evaluationEnd_delivers (h : s.tariff.evaluating = some r) : ∃ t, exec .evaluationEnd s = .next t
    ∧ Resealed ((priceTaken r (evaluated s)).modTariff Tariff.evalStart) t := by
  have hexec : exec .evaluationEnd s = done s ((priceTaken r (evaluated s)).modTariff Tariff.evalStart) := by
    show execEvaluationEnd s = _
    unfold execEvaluationEnd
    simp only [h]
    rfl
  rw [hexec]
  exact done_resealed s _

/-- The context takes its result. -/
def Taken (r : PriceRequest) (s : State) : Prop :=
  r.withdrawn = false ∧ (s.ctx r.bay).state = .pricing ∧ (s.ctx r.bay).takes = true

theorem priceTaken_discarded (h : ¬ Taken r s) : priceTaken r s = s := if_neg h

theorem priceTaken_price {amount : Nat} {flags : EvalFlags} {plan : Option PassPlan} (h : Taken r s)
    (hresult : (s.tariff.bank r.bank).evaluate r = .price amount flags plan) :
    priceTaken r s = priced r amount flags plan s := by
  unfold priceTaken
  rw [if_pos (show _ ∧ _ from h)]
  simp only [hresult]

theorem priceTaken_runaway (h : Taken r s) (hresult : (s.tariff.bank r.bank).evaluate r = .runaway) :
    priceTaken r s = cancelWith .tariffError r.bay s := by
  unfold priceTaken
  rw [if_pos (show _ ∧ _ from h)]
  simp only [hresult]

theorem priceTaken_noSlot (h : Taken r s) (hresult : (s.tariff.bank r.bank).evaluate r = .noSlot) :
    priceTaken r s = cancelWith .noSlot r.bay s := by
  unfold priceTaken
  rw [if_pos (show _ ∧ _ from h)]
  simp only [hresult]

theorem cancelWith_pricing (code : Code) (b : BayNo) (s : State) :
    pricing (cancelWith code b s).tariff = pricing (unpriced b s).tariff := by
  unfold cancelWith
  rw [(refuse_becomes code b _).tariff, enterRefund_pricing]

theorem priceTaken_turns (r : PriceRequest) (s : State) : (∃ y, Turns r.bay s (priceTaken r s) y)
    ∧ ((∀ q ∈ s.tariff.queue, q.bay ≠ r.bay) → s.tariff.evaluating = none →
        pricing (priceTaken r s).tariff = pricing s.tariff) := by
  unfold priceTaken
  split
  · split
    · obtain ⟨hturns, htariff⟩ := priced_turns r _ _ _ s
      exact ⟨hturns, fun _ _ => congrArg pricing htariff⟩
    · exact ⟨(cancelWith_refused .tariffError r.bay s).turns, fun halone hidle =>
        (cancelWith_pricing _ _ _).trans (unpriced_pricing halone hidle)⟩
    · exact ⟨(cancelWith_refused .noSlot r.bay s).turns, fun halone hidle =>
        (cancelWith_pricing _ _ _).trans (unpriced_pricing halone hidle)⟩
  · exact ⟨⟨_, .refl r.bay s⟩, fun _ _ => rfl⟩

/-- The evaluator takes the next head where the pricing requests stand. -/
theorem evaluator_takes {u : State} (h : pricing u.tariff = pricing (evaluated s).tariff)
    (ht : Resealed (u.modTariff Tariff.evalStart) t) :
    t.tariff.evaluating = s.tariff.queue.head? ∧ t.tariff.queue = s.tariff.queue.drop 1 := by
  have hevaluating : u.tariff.evaluating = none := congrArg Prod.fst h
  have hqueue : u.tariff.queue = s.tariff.queue := congrArg Prod.snd h
  rw [ht.tariff, ← hqueue]
  exact evalStart_takes hevaluating

/-- Settles O47. -/
theorem evaluationResultPricesOrEnds : Obligations.EvaluationResultPricesOrEnds := by
  intro s r hevaluating
  obtain ⟨t, e, ht⟩ := evaluationEnd_delivers hevaluating
  obtain ⟨⟨y, hturns⟩, hpricing⟩ := priceTaken_turns r (evaluated s)
  have hctx : ∀ c, t.ctx c = (priceTaken r (evaluated s)).ctx c := fun c => ht.ctx c
  have hbay : ∀ c, t.bay c = (priceTaken r (evaluated s)).bay c := fun c => ht.bay c
  have hothers : OtherBays r.bay s t := fun c hc => (hbay c).trans (hturns.others c hc)
  refine ⟨t, e, fun c hc => congrArg Bay.ctx (hothers c hc), ht.time.trans hturns.time, fun hwithdrawn => ?_,
    fun halone => evaluator_takes (hpricing halone rfl) ht, fun hlive hstate hwait => ?_⟩
  · rw [priceTaken_discarded fun h => by rw [h.1] at hwithdrawn; cases hwithdrawn] at ht
    exact ⟨by rw [ht]; rfl, evaluator_takes rfl ht⟩
  · have htaken : Taken r (evaluated s) := ⟨hlive, hstate, decide_eq_true hwait⟩
    refine ⟨fun amount flags plan hresult => ?_, fun hresult => ?_, fun hresult => ?_⟩
    · have hpriced := priceTaken_price (s := evaluated s) htaken hresult
      have htariff := (priced_turns r amount flags plan (evaluated s)).2
      rw [hpriced] at hctx hbay ht
      refine ⟨fun hnone => ?_, fun hcoins hpos => ?_, fun m v hmethod hcard => ?_⟩
      · rw [hctx, hbay]
        obtain ⟨hnow, hprice, hpriceMethod, hflags, hplan, hchange, hamounts, hshown⟩ :=
          priced_stays (r := r) (s := evaluated s) (amount := amount) (flags := flags) (plan := plan) hnone
        exact ⟨hothers, hnow, hprice, hpriceMethod, hflags, hplan, hchange, hamounts, hshown,
          evaluator_takes (congrArg pricing htariff) ht⟩
      · rw [hctx]
        exact (priced_leads (s := evaluated s) hcoins).1 rfl hpos
      · have hbalance : cardBalanceOf ((evaluated s).ctx r.bay) = v.balance := by
          show ((s.ctx r.bay).card.map CardValues.balance).getD 0 = _
          rw [hcard]
          rfl
        obtain ⟨-, hshort, hpays⟩ := priced_leads (r := r) (s := evaluated s) (amount := amount) (flags := flags) (plan := plan) hmethod
        rw [hbalance] at hshort hpays
        rw [hctx]
        exact ⟨hshort, hpays⟩
    · have hrefused := cancelWith_refused .tariffError r.bay (evaluated s)
      rw [hctx, priceTaken_runaway htaken hresult]
      exact ⟨hrefused.refusal, hrefused.state⟩
    · have hrefused := cancelWith_refused .noSlot r.bay (evaluated s)
      rw [hctx, priceTaken_noSlot htaken hresult]
      exact ⟨hrefused.refusal, hrefused.state⟩

end

end Sys2Proof.Proofs

/-! PROOFS. Causes that join and leave, coin faults and return pulses (R20 to R22, R73, R74, R86). -/

namespace Sys2Proof.Proofs

open Sys2Proof Sys2Proof.Machine Sys2Proof.Laws

/-! ### Causes (R20 to R22) -/

/-- A cause that only takes a bay in IDLE out of sale. -/
def Cause.mild (k : Cause) : Prop := k ≠ .boxAbsent ∧ k ≠ .terminalLost

/-- A record whose causes hold k, or no more. -/
def causedBay (k : Cause) (v : Bool) (y : Bay) : Bay := { y with ctx := { y.ctx with causes := y.ctx.causes.put k v } }

/-- A record that k joins: a bay in IDLE leaves sale. -/
def joinedBay (k : Cause) (now : Ms) (y : Bay) : Bay :=
  if y.ctx.causes.has k then y
  else if y.ctx.state = .idle then enteredBay .outOfService now (causedBay k true y) else causedBay k true y

theorem joinedBay_plain (k : Cause) (now : Ms) : Plain (joinedBay k now) := by
  intro y
  have hcauses : (core y).ctx.causes = y.ctx.causes := rfl
  have hstate : (core y).ctx.state = y.ctx.state := rfl
  unfold joinedBay
  rw [hcauses, hstate]
  split
  · rfl
  · split <;> rfl

section
variable {b : BayNo} {s t : State} {k : Cause}

theorem causeReaction_of_mild (hk : Cause.mild k) (b : BayNo) (s : State) :
    causeReaction k b s = if (s.ctx b).state = .idle then enter .outOfService b s else s := by
  obtain ⟨hbox, hlost⟩ := hk
  unfold causeReaction
  dsimp only
  split
  next h => rw [if_pos h]
  next h => rw [if_neg (by rw [h]; decide)]
  next => exact absurd rfl hbox
  next => exact absurd rfl hlost
  next hidle _ => rw [if_neg hidle]

theorem recomputeMask_mask (b : BayNo) (s : State) : ((recomputeMask b s).bay b).mask = (recomputeMask b s).maskOf b := by
  have h := recomputeMask_becomes b s
  rw [maskOf_congr h.bay h.time h.site, recomputeMask, State.bay_modBay_self]

/-- What every cause does as it joins. -/
theorem joinCause_eq (h : (s.ctx b).causes.has k = false) : joinCause k b s =
    recomputeMask b (causeReaction k b (recomputeMask b (s.modBay b (causedBay k true)))) := by
  unfold joinCause
  rw [h, if_neg (by decide)]
  rfl

theorem joinCause_mask (h : (s.ctx b).causes.has k = false) :
    ((joinCause k b s).bay b).mask = (joinCause k b s).maskOf b := by
  rw [joinCause_eq h]
  exact recomputeMask_mask b _

theorem joinCause_becomes (hk : Cause.mild k) (b : BayNo) (s : State) :
    Becomes b s (joinCause k b s) (joinedBay k s.now (s.bay b)) := by
  cases h : (s.ctx b).causes.has k with
  | true =>
    have heq : joinCause k b s = s := if_pos h
    rw [heq, joinedBay, if_pos (show (s.bay b).ctx.causes.has k = true from h)]
    exact .refl b s
  | false =>
    have hput := (Becomes.modBay b s (causedBay k true)).shown (recomputeMask_becomes b _)
    rw [joinCause_eq h, causeReaction_of_mild hk, joinedBay, if_neg (show ¬ (s.bay b).ctx.causes.has k = true by
      rw [show (s.bay b).ctx.causes.has k = false from h]; decide)]
    have hnow : (recomputeMask b (s.modBay b (causedBay k true))).now = s.now := rfl
    have hstate : ((recomputeMask b (s.modBay b (causedBay k true))).ctx b).state = (s.bay b).ctx.state :=
      hput.field (fun y => y.ctx.state) fun _ => rfl
    generalize recomputeMask b (s.modBay b (causedBay k true)) = u at hput hnow hstate
    rw [hstate]
    split
    · have hentered := enter_becomes .outOfService b u
      rw [hnow] at hentered
      exact (hput.step hentered fun _ => rfl).shown (recomputeMask_becomes b _)
    · exact hput.shown (recomputeMask_becomes b _)

theorem leaveCause_becomes (k : Cause) (b : BayNo) (s : State) :
    Becomes b s (leaveCause k b s) (causedBay k false (s.bay b)) :=
  (Becomes.modBay b s (causedBay k false)).shown (recomputeMask_becomes b _)

theorem leaveCause_mask (k : Cause) (b : BayNo) (s : State) :
    ((leaveCause k b s).bay b).mask = (leaveCause k b s).maskOf b := recomputeMask_mask b _

theorem has_put (c : Causes) (k : Cause) (v : Bool) : (c.put k v).has k = v := by
  cases k <;> rfl

/-- The causes and the state of a bay that a mild cause joins. -/
theorem joinedBay_ctx (k : Cause) (now : Ms) (y : Bay) :
    (joinedBay k now y).ctx.causes.has k = true
    ∧ (y.ctx.causes.has k = false → (joinedBay k now y).ctx.causes = y.ctx.causes.put k true)
    ∧ (y.ctx.causes.has k = false → y.ctx.state = .idle → (joinedBay k now y).ctx.state = .outOfService)
    ∧ (y.ctx.state ≠ .idle → (joinedBay k now y).ctx.state = y.ctx.state) := by
  cases h : y.ctx.causes.has k with
  | true =>
    rw [joinedBay, if_pos h]
    exact ⟨h, nofun, nofun, fun _ => rfl⟩
  | false =>
    have heq : joinedBay k now y =
        if y.ctx.state = .idle then enteredBay .outOfService now (causedBay k true y) else causedBay k true y :=
      if_neg (by rw [h]; decide)
    rw [heq]
    split
    next hidle => exact ⟨has_put _ k true, fun _ => rfl, fun _ _ => rfl, fun hno => absurd hidle hno⟩
    next hno => exact ⟨has_put _ k true, fun _ => rfl, fun _ hidle => absurd hidle hno, fun _ => rfl⟩

/-- A joining cause changes the context alone. -/
theorem joinedBay_field {α : Type} (p : Bay → α) (hp : ∀ y c, p { y with ctx := c } = p y) (k : Cause) (now : Ms) (y : Bay) :
    p (joinedBay k now y) = p y := by
  unfold joinedBay
  split
  · rfl
  · split
    · exact hp y _
    · exact hp y _

/-! ### Coin line faults (R73, R74) -/

theorem satInc_eq (n : Nat) : satInc n = min (n + 1) 65535 := rfl

theorem maskOf_fault (h : (s.ctx b).causes.coinLineFault = true) : s.maskOf b = [] := by
  have hfault : (s.bay b).ctx.causes.coinLineFault = true := h
  have hshut : s.maskShut b = true := by
    unfold State.maskShut
    simp only [hfault, Bool.or_true, Bool.true_or]
  exact if_pos hshut

/-- A record whose coin line is declared in fault. -/
def faultyBay (y : Bay) : Bay :=
  { y with
    coin := { y.coin.discard with fault := true, recoveryStart := none, stuckFrom := none, waitHigh := false }
    counters := { y.counters with fault := satInc y.counters.fault } }

theorem notify_bay (n : Notice) (s : State) (b : BayNo) : (notify n s).bay b = s.bay b := rfl

theorem lineStuck_faults {m : Ms} (hup : s.up = true) (hlow : (s.bay b).coin.lowSince = some m)
    (hfiltered : (s.bay b).coin.filteredHigh = false) (hfault : (s.bay b).coin.fault = false)
    (hlate : 400 ≤ (s.time.ms - m).toNat) :
    ∃ t, exec (.lineStuck b) s = .next t ∧ OtherBays b s t ∧ (t.bay b).coin.fault = true
      ∧ (t.bay b).coin.capture = .idle ∧ (t.ctx b).causes.coinLineFault = true
      ∧ (t.bay b).counters = { (s.bay b).counters with fault := min ((s.bay b).counters.fault + 1) 65535 }
      ∧ ((s.ctx b).causes.coinLineFault = false → (t.bay b).mask = []
          ∧ ((s.ctx b).state = .idle → (t.ctx b).state = .outOfService))
      ∧ ((s.ctx b).state ≠ .idle → (t.ctx b).state = (s.ctx b).state) := by
  have hexec : exec (.lineStuck b) s = done s (notify (.coinFault b false) (joinCause .coinLineFault b (s.modBay b faultyBay))) := by
    show execLineStuck b s = _
    unfold execLineStuck State.whenUp
    simp only [hup, hlow, if_true]
    rw [if_pos ⟨hfiltered, hfault, passed_of (n := Config.stuckLimit) hlate⟩]
    rfl
  obtain ⟨t, e, ht⟩ := done_resealed s (notify (.coinFault b false) (joinCause .coinLineFault b (s.modBay b faultyBay)))
  have hbay : ∀ c, t.bay c = (joinCause .coinLineFault b (s.modBay b faultyBay)).bay c := fun c => ht.bay c
  have hfaulty := Becomes.modBay b s faultyBay
  have hjoined := hfaulty.step (joinCause_becomes (k := .coinLineFault) ⟨nofun, nofun⟩ b _) (joinedBay_plain _ _)
  have hmask := joinCause_mask (b := b) (k := .coinLineFault) (s := s.modBay b faultyBay)
  have hctx : (s.modBay b faultyBay).ctx b = s.ctx b := (congrArg Bay.ctx (State.bay_modBay_self s b faultyBay)).trans rfl
  rw [hctx] at hmask
  generalize joinCause .coinLineFault b (s.modBay b faultyBay) = u at *
  obtain ⟨hhas, -, hidle, hstays⟩ := joinedBay_ctx .coinLineFault (s.modBay b faultyBay).now (faultyBay (s.bay b))
  have hcauses : (u.ctx b).causes.coinLineFault = true := (hjoined.field (fun y => y.ctx.causes.coinLineFault) fun _ => rfl).trans hhas
  refine ⟨t, hexec.trans e, ?_⟩
  rw [show t.ctx b = u.ctx b from congrArg Bay.ctx (hbay b), hbay b]
  refine ⟨fun c hc => (hbay c).trans (hjoined.others c hc), ?_, ?_, hcauses, ?_, fun hno => ⟨?_, fun hi => ?_⟩,
    fun hi => ?_⟩
  · rw [hjoined.field (fun y => y.coin.fault) fun _ => rfl, joinedBay_field (fun y => y.coin.fault) fun _ _ => rfl]
    rfl
  · rw [hjoined.field (fun y => y.coin.capture) fun _ => rfl, joinedBay_field (fun y => y.coin.capture) fun _ _ => rfl]
    rfl
  · rw [hjoined.field Bay.counters fun _ => rfl, joinedBay_field Bay.counters fun _ _ => rfl]
    rfl
  · rw [hmask hno, maskOf_fault hcauses]
  · exact (hjoined.field (fun y => y.ctx.state) fun _ => rfl).trans (hidle hno hi)
  · exact (hjoined.field (fun y => y.ctx.state) fun _ => rfl).trans (hstays hi)

/-- A record whose coin line's fault has ended. -/
def soundBay (y : Bay) : Bay := { y with coin := { y.coin with fault := false, recoveryStart := none, capture := .idle } }

theorem faultEnd_ends {m : Ms} (hup : s.up = true) (hstart : (s.bay b).coin.recoveryStart = some m)
    (hfault : (s.bay b).coin.fault = true) (hlate : 1000 ≤ (s.time.ms - m).toNat) :
    ∃ t, exec (.faultEnd b) s = .next t ∧ OtherBays b s t ∧ (t.bay b).coin.fault = false
      ∧ (t.ctx b).causes = { (s.ctx b).causes with coinLineFault := false }
      ∧ (t.ctx b).state = (s.ctx b).state ∧ (t.bay b).counters = (s.bay b).counters := by
  have hexec : exec (.faultEnd b) s = done s (notify (.coinFault b true) (leaveCause .coinLineFault b (s.modBay b soundBay))) := by
    show execFaultEnd b s = _
    unfold execFaultEnd State.whenUp
    simp only [hup, hstart, if_true]
    rw [if_pos ⟨hfault, passed_of (n := Config.faultEndLimit) hlate⟩]
    rfl
  obtain ⟨t, e, ht⟩ := done_resealed s (notify (.coinFault b true) (leaveCause .coinLineFault b (s.modBay b soundBay)))
  have hbay : ∀ c, t.bay c = (leaveCause .coinLineFault b (s.modBay b soundBay)).bay c := fun c => ht.bay c
  have hleft := (Becomes.modBay b s soundBay).step (leaveCause_becomes .coinLineFault b _) fun _ => rfl
  generalize leaveCause .coinLineFault b (s.modBay b soundBay) = u at *
  refine ⟨t, hexec.trans e, ?_⟩
  rw [show t.ctx b = u.ctx b from congrArg Bay.ctx (hbay b), hbay b]
  exact ⟨fun c hc => (hbay c).trans (hleft.others c hc), hleft.field (fun y => y.coin.fault) fun _ => rfl,
    hleft.field (fun y => y.ctx.causes) fun _ => rfl, hleft.field (fun y => y.ctx.state) fun _ => rfl,
    hleft.field Bay.counters fun _ => rfl⟩

/-! ### Return pulses (R86) -/

theorem escrowPulse_ends {m : Ms} (hpulse : (s.bay b).escrow.pulse = some m) (hlate : 200 ≤ (s.time.ms - m).toNat) :
    ∃ t, exec (.escrowPulseEnd b) s = .next t ∧ OtherBays b s t ∧ t = { s with bays := t.bays }
      ∧ ((s.bay b).escrow.pending = false → t.bay b = { s.bay b with escrow := ⟨none, false⟩ })
      ∧ ((s.bay b).escrow.pending = true → t.bay b = { s.bay b with
          escrow := ⟨some s.time.ms, false⟩, ctx := { s.ctx b with coins := [] } }) := by
  have hexec : ∀ f : Bay → Bay, (∀ y, (f y).tubes = y.tubes) → (∀ y, (f y).box = y.box) →
      (if (s.bay b).escrow.pending then startPulse b s else s.modBay b fun y => { y with escrow := ⟨none, false⟩ }) = s.modBay b f →
      exec (.escrowPulseEnd b) s = .next (s.modBay b f) := fun f htubes hbox hf => by
    show execEscrowPulseEnd b s = _
    unfold execEscrowPulseEnd
    simp only [hpulse]
    rw [if_pos (passed_of (n := Config.returnPulse) hlate), hf, done, reseal_of_area (modBay_area s b f htubes hbox)]
  cases hpending : (s.bay b).escrow.pending with
  | false =>
    refine ⟨_, hexec (fun y => { y with escrow := ⟨none, false⟩ }) (fun _ => rfl) (fun _ => rfl) ?_,
      fun c hc => State.bay_modBay_ne s hc _, rfl, fun _ => State.bay_modBay_self s b _, nofun⟩
    rw [hpending, if_neg (by decide)]
  | true =>
    refine ⟨_, hexec (fun y => { y with escrow := ⟨some s.now, false⟩, ctx := { y.ctx with coins := [] } })
      (fun _ => rfl) (fun _ => rfl) ?_, fun c hc => State.bay_modBay_ne s hc _, rfl, nofun,
      fun _ => State.bay_modBay_self s b _⟩
    rw [hpending, if_pos rfl]
    rfl

/-- Settles O53. -/
theorem coinFaultsAndReturnPulseEnd : Obligations.CoinFaultsAndReturnPulseEnd := fun _ _ _ =>
  ⟨lineStuck_faults, faultEnd_ends, escrowPulse_ends⟩

end

end Sys2Proof.Proofs

/-! PROOFS. What a coin becomes (R13, R72, R76 to R80). -/

namespace Sys2Proof.Proofs

open Sys2Proof Sys2Proof.Machine Sys2Proof.Laws

/-! ### The stages of a coin, on a bay's record -/

/-- A record whose train has ended. -/
def trainedBay (y : Bay) : Bay := { y with coin := y.coin.discard }

/-- A record that has counted a coin that is not credited. -/
def countedBay (c : Coin) (y : Bay) : Bay :=
  { y with counters := match c.standing with
    | .credited => y.counters
    | .stray => { y.counters with stray := satInc y.counters.stray }
    | .unvalued => { y.counters with unvalued := satInc y.counters.unvalued } }

/-- A record whose tender has grown by a credited coin. -/
def creditedBay (c : Coin) (now : Ms) (y : Bay) : Bay :=
  { y with ctx := { y.ctx with tendered := y.ctx.tendered + c.value, lastChange := now } }

/-- A record whose escrow list a coin joins. -/
def escrowedBay (c : Coin) (now : Ms) (y : Bay) : Bay :=
  let z := { y with ctx := { y.ctx with coins := y.ctx.coins ++ [c] } }
  if y.ctx.state = .idle ∨ y.ctx.state = .outOfService then returnedBay now z else z

/-- A record that an overflow coin has passed. -/
def overflowedBay (c : Coin) (y : Bay) : Bay :=
  { y with
    box := y.box.put c.kind
    counters := { y.counters with overflow := satInc y.counters.overflow }
    ctx := if c.standing = .credited then { y.ctx with overflow := y.ctx.overflow + 1 } else y.ctx }

/-- A record whose coin has found its place. -/
def placedBay (c : Coin) (now : Ms) (y : Bay) : Bay :=
  if y.ctx.coins.length < Config.escrowPlaces then escrowedBay c now y else overflowedBay c y

theorem escrowedBay_plain (c : Coin) (now : Ms) : Plain (escrowedBay c now) := by
  intro y
  have hstate : (core y).ctx.state = y.ctx.state := rfl
  have hcoins : (core y).ctx.coins = y.ctx.coins := rfl
  unfold escrowedBay
  dsimp only
  rw [hstate, hcoins]
  split
  · exact (returnedBay_plain now).comp (f := fun z => { z with ctx := { z.ctx with coins := y.ctx.coins ++ [c] } })
      (fun _ => rfl) y
  · rfl

theorem overflowedBay_plain (c : Coin) : Plain (overflowedBay c) := by
  intro y
  unfold overflowedBay
  split <;> rfl

theorem placedBay_plain (c : Coin) (now : Ms) : Plain (placedBay c now) := by
  intro y
  have hcoins : (core y).ctx.coins = y.ctx.coins := rfl
  unfold placedBay
  rw [hcoins]
  split
  · exact escrowedBay_plain c now y
  · exact overflowedBay_plain c y

section
variable {b : BayNo} {s t : State} {c : Coin}

theorem countCoin_turns (c : Coin) (pulses : Nat) (malformed : Bool) (b : BayNo) (s : State) :
    Turns b s (countCoin c pulses malformed b s) (countedBay c (s.bay b))
    ∧ (countCoin c pulses malformed b s).tariff = s.tariff
    ∧ (c.standing = .unvalued → (countCoin c pulses malformed b s).link = (notify (.unvalued b pulses malformed) s).link)
    ∧ (c.standing ≠ .unvalued → (countCoin c pulses malformed b s).link = s.link) := by
  have hmod := fun (f : CoinCounters → CoinCounters) => (Becomes.modBay b s fun y => { y with counters := f y.counters }).turns
  unfold countCoin countedBay State.modCounters
  cases hc : c.standing with
  | credited => exact ⟨.refl b s, rfl, nofun, fun _ => rfl⟩
  | stray => exact ⟨hmod fun n => { n with stray := satInc n.stray }, rfl, nofun, fun _ => rfl⟩
  | unvalued => exact ⟨(hmod fun n => { n with unvalued := satInc n.unvalued }).shown (notify_turns b _ _), rfl, fun _ => rfl, fun hno => absurd rfl hno⟩

theorem joinEscrow_becomes (c : Coin) (b : BayNo) (s : State) : Becomes b s (joinEscrow c b s) (escrowedBay c s.now (s.bay b)) := by
  have hjoined := Becomes.modBay b s fun y => { y with ctx := { y.ctx with coins := y.ctx.coins ++ [c] } }
  have hstate : ((s.modCtx b fun x => { x with coins := x.coins ++ [c] }).ctx b).state = (s.bay b).ctx.state := by
    rw [State.ctx_modCtx_self]
    rfl
  have hnow : (s.modCtx b fun x => { x with coins := x.coins ++ [c] }).now = s.now := rfl
  change Becomes b s (s.modCtx b fun x => { x with coins := x.coins ++ [c] }) _ at hjoined
  unfold joinEscrow escrowedBay
  dsimp only
  rw [hstate]
  generalize s.modCtx b (fun x => { x with coins := x.coins ++ [c] }) = u at *
  have hreturned := hjoined.step (requestReturn_becomes b u) (returnedBay_plain _)
  rw [hnow] at hreturned
  split
  next h => rw [if_pos (.inl h)]; exact hreturned
  next h => rw [if_pos (.inr h)]; exact hreturned
  next hidle hout => rw [if_neg (by rintro (h | h); exacts [hidle h, hout h])]; exact hjoined

theorem placeCoin_becomes (c : Coin) (b : BayNo) (s : State) : Becomes b s (placeCoin c b s) (placedBay c s.now (s.bay b)) := by
  unfold placeCoin placedBay
  split
  next h => rw [if_pos (show (s.bay b).ctx.coins.length < _ from h)]; exact joinEscrow_becomes c b s
  next h => rw [if_neg (show ¬ (s.bay b).ctx.coins.length < _ from h)]; exact .modBay b s (overflowedBay c)

/-- A coin that is not credited has found its place. -/
theorem takeCoin_uncredited {pulses : Nat} {malformed : Bool} (hcoin : s.coinOf b pulses malformed = c)
    (hstanding : c.standing ≠ .credited) :
    Turns b s (takeCoin pulses malformed b s) (placedBay c s.now (countedBay c (s.bay b)))
    ∧ (c.standing = .unvalued → (takeCoin pulses malformed b s).link = (notify (.unvalued b pulses malformed) s).link)
    ∧ (c.standing ≠ .unvalued → (takeCoin pulses malformed b s).link = s.link) := by
  obtain ⟨hcounted, -, hnoticed, hquiet⟩ := countCoin_turns c pulses malformed b s
  unfold takeCoin
  rw [hcoin]
  dsimp only
  generalize countCoin c pulses malformed b s = u at *
  have hcredit : creditCoin c b u = u := by
    unfold creditCoin
    cases hc : c.standing with
    | credited => exact absurd hc hstanding
    | stray => rfl
    | unvalued => rfl
  rw [hcredit]
  have hplaced := placeCoin_becomes c b u
  have hall := hcounted.thereby (g := fun now _ => placedBay c now) hplaced.turns (placedBay_plain _ _)
  generalize placeCoin c b u = w at *
  have hpay : payIfComplete c b w = refresh b (recomputeMask b w) := if_neg fun h => hstanding h.1
  rw [hpay]
  have hshown := (recomputeMask_becomes b w).shown (refresh_becomes b _)
  exact ⟨hall.shown hshown.turns, fun h => (hshown.link.trans hplaced.link).trans (hnoticed h),
    fun h => (hshown.link.trans hplaced.link).trans (hquiet h)⟩

/-! ### Where a coin goes -/

theorem bump_get (v : Vector Nat 9) (k : Nat) (i : Fin 9) : (bump v k)[i] = if i.val = k then min (v[i] + 1) 65535 else v[i] := by
  unfold bump
  split
  next h =>
    rw [Fin.getElem_fin, Vector.getElem_set]
    by_cases hi : i.val = k
    · subst hi
      rw [if_pos rfl, if_pos rfl]
      rfl
    · rw [if_neg (Ne.symm hi), if_neg hi]
      rfl
  next h => rw [if_neg (show ¬ i.val = k by omega)]

theorem put_get (x : Box) (k : Nat) (i : Fin 9) :
    (x.put k).counts[i] = (if x.present = true ∧ i.val = k then min (x.counts[i] + 1) 65535 else x.counts[i])
    ∧ (x.put k).holds[i] = (if x.present = false ∧ i.val = k then min (x.holds[i] + 1) 65535 else x.holds[i]) := by
  unfold Box.put
  cases h : x.present with
  | true =>
    simp only [if_true, true_and, Bool.true_eq_false, false_and, if_false, and_true]
    exact bump_get _ _ _
  | false =>
    simp only [Bool.false_eq_true, if_false, false_and, true_and]
    exact bump_get _ _ _

theorem escrowedBay_ctx (c : Coin) (now : Ms) (y : Bay) :
    (escrowedBay c now y).ctx = { y.ctx with coins := (escrowedBay c now y).ctx.coins } := by
  unfold escrowedBay
  dsimp only
  split
  · exact (returnedBay_ctx now _).trans rfl
  · rfl

theorem escrowedBay_field {α : Type} (p : Bay → α) (hp : ∀ y x e, p { y with ctx := x, escrow := e } = p y)
    (c : Coin) (now : Ms) (y : Bay) : p (escrowedBay c now y) = p y := by
  unfold escrowedBay returnedBay
  dsimp only
  split
  · split
    · exact hp y _ _
    · exact hp y _ _
  · exact hp y _ y.escrow

/-- In IDLE and OUT_OF_SERVICE a coin is returned at once; elsewhere it stays in the list. -/
theorem escrowedBay_coins (c : Coin) (now : Ms) (y : Bay) :
    ((y.ctx.state = .idle ∨ y.ctx.state = .outOfService) → y.escrow.pulse = none →
      (escrowedBay c now y).ctx.coins = [] ∧ (escrowedBay c now y).escrow.pulse = some now)
    ∧ (y.ctx.state ≠ .idle → y.ctx.state ≠ .outOfService → (escrowedBay c now y).ctx.coins = y.ctx.coins ++ [c]) := by
  refine ⟨fun hrest hpulse => ?_, fun hidle hout => ?_⟩
  · unfold escrowedBay
    dsimp only
    have hreturned := returnedBay_of_none now { y with ctx := { y.ctx with coins := y.ctx.coins ++ [c] } } hpulse
    rw [if_pos hrest, hreturned]
    exact ⟨rfl, rfl⟩
  · unfold escrowedBay
    dsimp only
    rw [if_neg (by rintro (h | h); exacts [hidle h, hout h])]

end

end Sys2Proof.Proofs

/-! PROOFS. A credited coin, and the end of a train (R13, R72, R77 to R80, R82). -/

namespace Sys2Proof.Proofs

open Sys2Proof Sys2Proof.Machine Sys2Proof.Laws

section
variable {b : BayNo} {s t : State} {c : Coin}

/-! ### The mask outside TENDER (R82) -/

theorem maskOf_elsewhere (h : (s.ctx b).state ≠ .tender) : s.maskOf b = [] := by
  have hstate : (s.bay b).ctx.state ≠ .tender := h
  have hshut : s.maskShut b = true := by
    unfold State.maskShut
    simp only [hstate, ne_eq, not_false_eq_true, decide_true, Bool.true_or]
  exact if_pos hshut

theorem presentedBay_mask (y : Bay) : (presentedBay y).mask = y.mask := by
  unfold presentedBay
  split <;> rfl

theorem enterCardWrite_mask (b : BayNo) (s : State) : ((enterCardWrite b s).bay b).mask = [] := by
  have hentered := enter_becomes .cardWrite b s
  have hmask := enter_mask .cardWrite b s
  have hstate : ((enter .cardWrite b s).ctx b).state = .cardWrite := hentered.field (fun y => y.ctx.state) fun _ => rfl
  rw [maskOf_elsewhere (by rw [hstate]; decide)] at hmask
  unfold enterCardWrite startExchange State.modExch
  rw [presentRead_bay_self, presentedBay_mask, State.bay_modBay_self]
  exact hmask

theorem await_mask (w : Wait) (b : BayNo) (s : State) : ((await w b s).bay b).mask = (s.bay b).mask := by
  unfold await State.modCtx
  rw [refresh_mask, State.bay_modBay_self]

theorem append_bay (r : Machine.Append) (s : State) (b : BayNo) : (append r s).bay b = s.bay b := by
  rw [State.bay, show (append r s).bays = s.bays from congrArg Beside.bays (append_beside r s), State.bay]

theorem enterCommit_mask (b : BayNo) (s : State) : ((enterCommit b s).bay b).mask = [] := by
  unfold enterCommit
  dsimp only
  rw [append_bay, await_mask, State.modCtx, State.bay_modBay_self]
  have hentered := enter_becomes .commit b (endExchange b s)
  generalize enter .commit b (endExchange b s) = u at hentered
  have hrouted := routeEscrow_becomes b u
  have hstate : ((routeEscrow b u).ctx b).state = .commit := by
    rw [State.ctx, hrouted.field (fun y => y.ctx.state) fun _ => rfl, routedBay_ctx]
    exact hentered.field (fun y => y.ctx.state) fun _ => rfl
  show ((routeEscrow b u).bay b).mask = []
  have hmask : ((routeEscrow b u).bay b).mask = (routeEscrow b u).maskOf b := recomputeMask_mask b _
  rw [hmask, maskOf_elsewhere (by rw [hstate]; decide)]

/-! ### Payment (R13) -/

theorem writesCard_congr (hbank : (t.ctx b).bank = (s.ctx b).bank) (hproduct : (t.ctx b).product = (s.ctx b).product)
    (htariff : t.tariff = s.tariff) : t.writesCard b = s.writesCard b := by
  unfold State.writesCard State.product
  rw [hbank, hproduct, htariff]

/-- Below the price the context stays, its mask recomputed. -/
theorem payIfComplete_short (h : ¬ (c.standing = .credited ∧ (s.ctx b).price.getD 0 ≤ (s.ctx b).tendered)) :
    Becomes b s (payIfComplete c b s) (s.bay b)
    ∧ ((payIfComplete c b s).bay b).mask = (payIfComplete c b s).maskOf b := by
  have heq : payIfComplete c b s = refresh b (recomputeMask b s) := if_neg h
  have hshown := refresh_becomes b (recomputeMask b s)
  rw [heq]
  refine ⟨(recomputeMask_becomes b s).shown hshown, ?_⟩
  rw [refresh_mask, recomputeMask_mask, maskOf_congr hshown.bay hshown.time hshown.site]

theorem committedBay_counters (now : Ms) (y : Bay) : (committedBay now y).counters = y.counters :=
  foldl_route_beside Bay.counters (fun _ _ _ => rfl) _ _

/-- A coin that completes the payment leads out of TENDER. -/
theorem payIfComplete_paid (hcredited : c.standing = .credited) (hpaid : (s.ctx b).price.getD 0 ≤ (s.ctx b).tendered) :
    ∃ y, Turns b s (payIfComplete c b s) y ∧ y.coin = (s.bay b).coin ∧ y.counters = (s.bay b).counters
      ∧ y.ctx.tendered = (s.ctx b).tendered ∧ y.ctx.overflow = (s.ctx b).overflow ∧ y.ctx.lastChange = s.now
      ∧ ((payIfComplete c b s).bay b).mask = []
      ∧ (s.writesCard b = true → y.ctx.state = .cardWrite)
      ∧ (s.writesCard b = false → y.ctx.state = .commit ∧ y.ctx.coins = []) := by
  have heq : payIfComplete c b s = if s.writesCard b then enterCardWrite b s else enterCommit b s := if_pos ⟨hcredited, hpaid⟩
  rw [heq]
  cases hw : s.writesCard b with
  | true =>
    rw [if_pos rfl]
    obtain ⟨r, h⟩ := enterCardWrite_becomes b s
    have hctx : (startedBay .write (some r) s.now (enteredBay .cardWrite s.now (s.bay b))).ctx = entered .cardWrite s.now (s.ctx b) :=
      presentedBay_ctx _
    refine ⟨_, h.turns, ?_, ?_, ?_, ?_, ?_, enterCardWrite_mask b s, fun _ => ?_, nofun⟩
    · unfold startedBay presentedBay
      split <;> rfl
    · unfold startedBay presentedBay
      split <;> rfl
    all_goals
      rw [hctx]
      rfl
  | false =>
    rw [if_neg (by decide)]
    refine ⟨_, (enterCommit_turns b s).1, foldl_route_beside Bay.coin (fun _ _ _ => rfl) _ _, committedBay_counters _ _, ?_, ?_, ?_,
      enterCommit_mask b s, nofun, fun _ => ⟨?_, ?_⟩⟩
    all_goals
      rw [committedBay_ctx]
      rfl

/-! ### The credited coin -/

/-- A record whose tender a credited coin has grown, the coin in its place. -/
def paidBay (c : Coin) (now : Ms) (y : Bay) : Bay := placedBay c now (creditedBay c now y)

theorem takeCoin_credited {pulses : Nat} {malformed : Bool} (hcoin : s.coinOf b pulses malformed = c)
    (hstanding : c.standing = .credited) :
    ∃ u, takeCoin pulses malformed b s = payIfComplete c b u ∧ Becomes b s u (paidBay c s.now (s.bay b)) := by
  have hcount : countCoin c pulses malformed b s = s := by
    unfold countCoin
    simp only [hstanding]
  have hcredit : creditCoin c b s = s.modBay b (creditedBay c s.now) := by
    unfold creditCoin
    simp only [hstanding]
    rfl
  refine ⟨placeCoin c b (s.modBay b (creditedBay c s.now)), ?_, ?_⟩
  · unfold takeCoin
    rw [hcoin]
    dsimp only
    rw [hcount, hcredit]
  · exact (Becomes.modBay b s (creditedBay c s.now)).step (g := placedBay c s.now) (placeCoin_becomes c b _) (placedBay_plain _ _)

theorem placedBay_room {now : Ms} {y : Bay} (h : y.ctx.coins.length < 16) : placedBay c now y = escrowedBay c now y := if_pos h

theorem placedBay_full {now : Ms} {y : Bay} (h : 16 ≤ y.ctx.coins.length) : placedBay c now y = overflowedBay c y :=
  if_neg (show ¬ y.ctx.coins.length < 16 by omega)

/-- Placing a coin keeps every field of the context but the escrow list and the overflow count. -/
theorem placedBay_ctx {α : Type} (p : Ctx → α) (hp : ∀ c l n, p { c with coins := l, overflow := n } = p c)
    (c : Coin) (now : Ms) (y : Bay) : p (placedBay c now y).ctx = p y.ctx := by
  unfold placedBay
  split
  · rw [escrowedBay_ctx]
    exact hp y.ctx _ y.ctx.overflow
  · unfold overflowedBay
    dsimp only
    split
    · exact hp y.ctx y.ctx.coins _
    · rfl

theorem placedBay_coin (c : Coin) (now : Ms) (y : Bay) : (placedBay c now y).coin = y.coin := by
  unfold placedBay
  split
  · exact escrowedBay_field Bay.coin (fun _ _ _ => rfl) c now y
  · rfl

/-! ### What the coin of a train is (R76, R77) -/

theorem coinOf_unvalued {pulses : Nat} {malformed : Bool} (h : malformed = true ∨ kindOf s.site pulses = none) :
    s.coinOf b pulses malformed = ⟨0, .unvalued, 0⟩ := by
  unfold State.coinOf
  rcases h with rfl | h
  · rfl
  · cases malformed with
    | true => rfl
    | false => simp only [h]

theorem coinOf_stray {pulses k v : Nat} (hkind : kindOf s.site pulses = some (k, v))
    (h : (s.ctx b).state ≠ .tender ∨ 999999 < (s.ctx b).tendered + v) : s.coinOf b pulses false = ⟨k, .stray, 0⟩ := by
  unfold State.coinOf
  simp only [hkind]
  refine if_neg ?_
  rintro ⟨hstate, -, hwithin⟩
  have hwithin' : (s.ctx b).tendered + v ≤ 999999 := hwithin
  rcases h with h | h
  · exact h hstate
  · omega

theorem coinOf_in_tender {pulses k v : Nat} (hkind : kindOf s.site pulses = some (k, v)) (hstate : (s.ctx b).state = .tender)
    (htakes : (s.ctx b).wait ≠ .places) (hwithin : (s.ctx b).tendered + v ≤ 999999) :
    s.coinOf b pulses false = ⟨k, .credited, v⟩ := by
  unfold State.coinOf
  simp only [hkind]
  exact if_pos ⟨hstate, decide_eq_true htakes, hwithin⟩

end

end Sys2Proof.Proofs

/-! PROOFS. The end of a train is a coin (R13, R72, R76 to R80). -/

namespace Sys2Proof.Proofs

open Sys2Proof Sys2Proof.Machine Sys2Proof.Laws

section
variable {b : BayNo} {s t : State}

/-- A coin of a kind has gone to the box of a record, or to its hold counts. -/
def Boxed (y z : Bay) (k : Nat) : Prop := ∀ i : Fin 9,
  z.box.counts[i] = (if y.box.present = true ∧ i.val = k then min (y.box.counts[i] + 1) 65535 else y.box.counts[i])
  ∧ z.box.holds[i] = (if y.box.present = false ∧ i.val = k then min (y.box.holds[i] + 1) 65535 else y.box.holds[i])

theorem boxed_put (y : Bay) {z : Bay} {k : Nat} (h : z.box = y.box.put k) : Boxed y z k := fun i => by
  rw [h]
  exact put_get y.box k i

/-- A coin that is not credited has passed a bay. -/
structure Uncredited (s t : State) (b : BayNo) (x : Coin) (n : CoinCounters) : Prop where
  state : (t.ctx b).state = (s.ctx b).state
  tendered : (t.ctx b).tendered = (s.ctx b).tendered
  overflow : (t.ctx b).overflow = (s.ctx b).overflow
  room : ¬ 16 ≤ (s.ctx b).coins.length → (t.bay b).counters = n ∧ (t.bay b).box = (s.bay b).box
    ∧ ((s.ctx b).state = .idle ∨ (s.ctx b).state = .outOfService → (s.bay b).escrow.pulse = none →
        (t.ctx b).coins = [] ∧ (t.bay b).escrow.pulse = some s.time.ms)
    ∧ ((s.ctx b).state ≠ .idle → (s.ctx b).state ≠ .outOfService → (t.ctx b).coins = (s.ctx b).coins ++ [x])
  full : 16 ≤ (s.ctx b).coins.length → (t.ctx b).coins = (s.ctx b).coins
    ∧ (t.bay b).counters = { n with overflow := min (n.overflow + 1) 65535 } ∧ Boxed (s.bay b) (t.bay b) x.kind

theorem placedBay_overflow {x : Coin} (hx : x.standing ≠ .credited) (now : Ms) (y : Bay) :
    (placedBay x now y).ctx.overflow = y.ctx.overflow := by
  unfold placedBay
  split
  · rw [escrowedBay_ctx]
  · unfold overflowedBay
    dsimp only
    rw [if_neg hx]

theorem uncredited_of_core {x : Coin} {n : CoinCounters} (hx : x.standing ≠ .credited)
    (hn : (countedBay x (trainedBay (s.bay b))).counters = n)
    (hbay : core (t.bay b) = core (placedBay x s.time.ms (countedBay x (trainedBay (s.bay b))))) : Uncredited s t b x n := by
  have field : ∀ {α : Type} (p : Bay → α), (∀ y, p (core y) = p y) →
      p (t.bay b) = p (placedBay x s.time.ms (countedBay x (trainedBay (s.bay b)))) := fun p hp => by rw [← hp, hbay, hp]
  refine ⟨?_, ?_, ?_, fun hroom => ?_, fun hfull => ?_⟩
  · exact (field (fun y => y.ctx.state) fun _ => rfl).trans (placedBay_ctx Ctx.state (fun _ _ _ => rfl) _ _ _)
  · exact (field (fun y => y.ctx.tendered) fun _ => rfl).trans (placedBay_ctx Ctx.tendered (fun _ _ _ => rfl) _ _ _)
  · exact (field (fun y => y.ctx.overflow) fun _ => rfl).trans (placedBay_overflow hx _ _)
  · have heq := placedBay_room (c := x) (now := s.time.ms) (y := countedBay x (trainedBay (s.bay b)))
      (show (s.ctx b).coins.length < 16 by omega)
    rw [heq] at field
    obtain ⟨hreturned, hjoined⟩ := escrowedBay_coins x s.time.ms (countedBay x (trainedBay (s.bay b)))
    refine ⟨?_, ?_, fun hrest hpulse => ?_, fun hidle hout => ?_⟩
    · exact ((field Bay.counters fun _ => rfl).trans (escrowedBay_field Bay.counters (fun _ _ _ => rfl) _ _ _)).trans hn
    · exact (field Bay.box fun _ => rfl).trans (escrowedBay_field Bay.box (fun _ _ _ => rfl) _ _ _)
    · obtain ⟨hcoins, hstarted⟩ := hreturned hrest hpulse
      exact ⟨(field (fun y => y.ctx.coins) fun _ => rfl).trans hcoins, (field (fun y => y.escrow.pulse) fun _ => rfl).trans hstarted⟩
    · exact (field (fun y => y.ctx.coins) fun _ => rfl).trans (hjoined hidle hout)
  · have heq := placedBay_full (c := x) (now := s.time.ms) (y := countedBay x (trainedBay (s.bay b))) hfull
    rw [heq] at field
    refine ⟨?_, ?_, boxed_put _ (field Bay.box fun _ => rfl)⟩
    · refine (field (fun y => y.ctx.coins) fun _ => rfl).trans ?_
      unfold overflowedBay
      dsimp only
      rw [if_neg hx]
      rfl
    · refine (field Bay.counters fun _ => rfl).trans ?_
      rw [← hn]
      rfl

theorem trainEnd_takes (h : s.trainDue b = true) : ∃ t, exec (.trainEnd b) s = .next t
    ∧ Resealed (takeCoin (s.bay b).coin.pulses (s.bay b).coin.malformed b (s.modBay b trainedBay)) t := by
  have hexec : exec (.trainEnd b) s =
      done s (takeCoin (s.bay b).coin.pulses (s.bay b).coin.malformed b (s.modBay b trainedBay)) := by
    show execTrainEnd b s = _
    unfold execTrainEnd
    rw [if_pos h]
    rfl
  rw [hexec]
  exact done_resealed s _

theorem trained_bay (b : BayNo) (s : State) : (s.modBay b trainedBay).bay b = trainedBay (s.bay b) := State.bay_modBay_self s b _

theorem trained_ctx (b : BayNo) (s : State) : (s.modBay b trainedBay).ctx b = s.ctx b := by
  rw [State.ctx, trained_bay]
  rfl

/-- A coin of a train that is not credited. -/
theorem train_uncredited {x : Coin} {n : CoinCounters} (hdue : s.trainDue b = true)
    (hcoin : (s.modBay b trainedBay).coinOf b (s.bay b).coin.pulses (s.bay b).coin.malformed = x)
    (hx : x.standing ≠ .credited) (hn : (countedBay x (trainedBay (s.bay b))).counters = n) :
    ∃ t, exec (.trainEnd b) s = .next t ∧ OtherContexts b s t ∧ (t.bay b).coin.capture = .idle ∧ Uncredited s t b x n
      ∧ (x.standing = .unvalued →
          t.link = (notify (.unvalued b (s.bay b).coin.pulses (s.bay b).coin.malformed) s).link)
      ∧ (x.standing ≠ .unvalued → t.link = s.link) := by
  obtain ⟨t, e, ht⟩ := trainEnd_takes hdue
  obtain ⟨hturns, hnoticed, hquiet⟩ := takeCoin_uncredited hcoin hx
  have hothers : OtherBays b s (s.modBay b trainedBay) := fun c hc => State.bay_modBay_ne s hc _
  rw [trained_bay] at hturns
  generalize takeCoin (s.bay b).coin.pulses (s.bay b).coin.malformed b (s.modBay b trainedBay) = u at *
  refine ⟨t, e, fun c hc => congrArg Bay.ctx ((ht.bay c).trans ((hturns.others c hc).trans (hothers c hc))), ?_,
    uncredited_of_core hx hn (by rw [ht.bay]; exact hturns.bay), fun h => ht.link.trans (hnoticed h),
    fun h => ht.link.trans (hquiet h)⟩
  rw [ht.bay, hturns.field (fun y => y.coin.capture) fun _ => rfl, placedBay_coin]
  rfl

/-! ### A credited coin -/

/-- What a credited coin of kind k and value v makes of a bay in TENDER. -/
structure Credited (s t : State) (b : BayNo) (k v : Nat) : Prop where
  tendered : (t.ctx b).tendered = (s.ctx b).tendered + v
  change : (t.ctx b).lastChange = s.time.ms
  room : ¬ 16 ≤ (s.ctx b).coins.length → (t.bay b).counters = (s.bay b).counters ∧ (t.ctx b).overflow = (s.ctx b).overflow
  full : 16 ≤ (s.ctx b).coins.length →
    (t.bay b).counters = { (s.bay b).counters with overflow := min ((s.bay b).counters.overflow + 1) 65535 }
    ∧ (t.ctx b).overflow = (s.ctx b).overflow + 1
  short : (s.ctx b).tendered + v < (s.ctx b).price.getD 0 → (t.ctx b).state = .tender ∧ (t.bay b).mask = t.maskOf b
    ∧ (¬ 16 ≤ (s.ctx b).coins.length → (t.ctx b).coins = (s.ctx b).coins ++ [⟨k, .credited, v⟩] ∧ (t.bay b).box = (s.bay b).box)
    ∧ (16 ≤ (s.ctx b).coins.length → (t.ctx b).coins = (s.ctx b).coins ∧ Boxed (s.bay b) (t.bay b) k)
  paid : (s.ctx b).price.getD 0 ≤ (s.ctx b).tendered + v → (t.bay b).mask = []
    ∧ (s.writesCard b = true → (t.ctx b).state = .cardWrite)
    ∧ (s.writesCard b = false → (t.ctx b).state = .commit ∧ (t.ctx b).coins = [])

/-- Where the coin of a full or a roomy escrow has gone, on the record of the bay. -/
theorem paidBay_place (k v : Nat) (now : Ms) (y : Bay) (hstate : y.ctx.state = .tender) :
    (¬ 16 ≤ y.ctx.coins.length → (paidBay ⟨k, .credited, v⟩ now y).counters = y.counters
      ∧ (paidBay ⟨k, .credited, v⟩ now y).ctx.overflow = y.ctx.overflow ∧ (paidBay ⟨k, .credited, v⟩ now y).box = y.box
      ∧ (paidBay ⟨k, .credited, v⟩ now y).ctx.coins = y.ctx.coins ++ [⟨k, .credited, v⟩])
    ∧ (16 ≤ y.ctx.coins.length →
      (paidBay ⟨k, .credited, v⟩ now y).counters = { y.counters with overflow := min (y.counters.overflow + 1) 65535 }
      ∧ (paidBay ⟨k, .credited, v⟩ now y).ctx.overflow = y.ctx.overflow + 1
      ∧ (paidBay ⟨k, .credited, v⟩ now y).box = y.box.put k ∧ (paidBay ⟨k, .credited, v⟩ now y).ctx.coins = y.ctx.coins) := by
  refine ⟨fun hroom => ?_, fun hfull => ?_⟩
  · have heq : paidBay ⟨k, .credited, v⟩ now y = escrowedBay ⟨k, .credited, v⟩ now (creditedBay ⟨k, .credited, v⟩ now y) :=
      placedBay_room (show y.ctx.coins.length < 16 by omega)
    rw [heq]
    refine ⟨escrowedBay_field Bay.counters (fun _ _ _ => rfl) _ _ _, ?_, escrowedBay_field Bay.box (fun _ _ _ => rfl) _ _ _, ?_⟩
    · rw [escrowedBay_ctx]
      rfl
    · exact (escrowedBay_coins _ _ _).2 (by show y.ctx.state ≠ _; rw [hstate]; decide) (by show y.ctx.state ≠ _; rw [hstate]; decide)
  · have heq : paidBay ⟨k, .credited, v⟩ now y = overflowedBay ⟨k, .credited, v⟩ (creditedBay ⟨k, .credited, v⟩ now y) :=
      placedBay_full hfull
    rw [heq]
    exact ⟨rfl, rfl, rfl, rfl⟩

theorem paidBay_ctx {α : Type} (p : Ctx → α) (hp : ∀ c l n, p { c with coins := l, overflow := n } = p c)
    (k v : Nat) (now : Ms) (y : Bay) : p (paidBay ⟨k, .credited, v⟩ now y).ctx
      = p { y.ctx with tendered := y.ctx.tendered + v, lastChange := now } :=
  placedBay_ctx p hp _ now _

theorem train_credited {k v : Nat} (hdue : s.trainDue b = true)
    (hcoin : (s.modBay b trainedBay).coinOf b (s.bay b).coin.pulses (s.bay b).coin.malformed = ⟨k, .credited, v⟩)
    (hstate : (s.ctx b).state = .tender) :
    ∃ t, exec (.trainEnd b) s = .next t ∧ OtherContexts b s t ∧ (t.bay b).coin.capture = .idle ∧ Credited s t b k v := by
  obtain ⟨t, e, ht⟩ := trainEnd_takes hdue
  obtain ⟨u, hu, hpaid⟩ := takeCoin_credited hcoin rfl
  rw [hu] at ht
  have htrained := Becomes.modBay b s trainedBay
  rw [trained_bay] at hpaid
  have hnow : (s.modBay b trainedBay).now = s.time.ms := rfl
  rw [hnow] at hpaid
  have hothers : OtherBays b s u := fun c hc => (hpaid.others c hc).trans (htrained.others c hc)
  have htariff : u.tariff = s.tariff := hpaid.tariff.trans htrained.tariff
  have htime : u.now = s.time.ms := congrArg Time.ms hpaid.time
  have hctx : ∀ {α : Type} (p : Ctx → α), (∀ c l n, p { c with coins := l, overflow := n } = p c) →
      (∀ c, p { c with holdCause := .none, overlay := .none } = p c) →
      p (u.ctx b) = p { s.ctx b with tendered := (s.ctx b).tendered + v, lastChange := s.time.ms } := fun p hp hp' =>
    (hpaid.field (fun y => p y.ctx) fun _ => hp' _).trans (paidBay_ctx p hp k v s.time.ms (trainedBay (s.bay b)))
  have hprice := hctx Ctx.price (fun _ _ _ => rfl) fun _ => rfl
  have htendered := hctx Ctx.tendered (fun _ _ _ => rfl) fun _ => rfl
  have hchange := hctx Ctx.lastChange (fun _ _ _ => rfl) fun _ => rfl
  have hstill := hctx Ctx.state (fun _ _ _ => rfl) fun _ => rfl
  have hwrites := writesCard_congr (hctx Ctx.bank (fun _ _ _ => rfl) fun _ => rfl)
    (hctx Ctx.product (fun _ _ _ => rfl) fun _ => rfl) htariff
  obtain ⟨hroom, hfull⟩ := paidBay_place k v s.time.ms (trainedBay (s.bay b)) hstate
  have hcapture : (u.bay b).coin.capture = .idle := by
    rw [hpaid.field (fun y => y.coin.capture) fun _ => rfl, paidBay, placedBay_coin]
    rfl
  have hcounters := hpaid.field Bay.counters fun _ => rfl
  have hoverflow := hpaid.field (fun y => y.ctx.overflow) fun _ => rfl
  have hbox := hpaid.field Bay.box fun _ => rfl
  have hcoins := hpaid.field (fun y => y.ctx.coins) fun _ => rfl
  by_cases hcomplete : (s.ctx b).price.getD 0 ≤ (s.ctx b).tendered + v
  · obtain ⟨y, hturns, hcoin', hcounters', htendered', hoverflow', hchange', hmask, hwrite, hcommit⟩ :=
      payIfComplete_paid (c := ⟨k, .credited, v⟩) (b := b) (s := u) rfl (by rw [hprice, htendered]; exact hcomplete)
    have hy : ∀ {α : Type} (p : Bay → α), (∀ y, p (core y) = p y) → p (t.bay b) = p y := fun p hp => by
      rw [ht.bay, hturns.field p hp]
    refine ⟨t, e, fun c hc => congrArg Bay.ctx ((ht.bay c).trans ((hturns.others c hc).trans (hothers c hc))), ?_, ?_, ?_,
      fun h => ⟨?_, ?_⟩, fun h => ⟨?_, ?_⟩, fun h => absurd hcomplete (by omega), fun _ => ⟨?_, fun h => ?_, fun h => ?_⟩⟩
    · rw [hy (fun y => y.coin.capture) fun _ => rfl, hcoin', hcapture]
    · exact (hy (fun y => y.ctx.tendered) fun _ => rfl).trans (htendered'.trans htendered)
    · exact (hy (fun y => y.ctx.lastChange) fun _ => rfl).trans (hchange'.trans htime)
    · exact (hy Bay.counters fun _ => rfl).trans (hcounters'.trans (hcounters.trans (hroom h).1))
    · exact (hy (fun y => y.ctx.overflow) fun _ => rfl).trans (hoverflow'.trans (hoverflow.trans (hroom h).2.1))
    · exact (hy Bay.counters fun _ => rfl).trans (hcounters'.trans (hcounters.trans (hfull h).1))
    · exact (hy (fun y => y.ctx.overflow) fun _ => rfl).trans (hoverflow'.trans (hoverflow.trans (hfull h).2.1))
    · rw [ht.bay]
      exact hmask
    · exact (hy (fun y => y.ctx.state) fun _ => rfl).trans (hwrite (hwrites.trans h))
    · exact ⟨(hy (fun y => y.ctx.state) fun _ => rfl).trans (hcommit (hwrites.trans h)).1,
        (hy (fun y => y.ctx.coins) fun _ => rfl).trans (hcommit (hwrites.trans h)).2⟩
  · obtain ⟨hshort, hmask⟩ := payIfComplete_short (c := ⟨k, .credited, v⟩) (b := b) (s := u)
      (by rw [hprice, htendered]; exact fun h => hcomplete h.2)
    generalize payIfComplete ⟨k, .credited, v⟩ b u = w at *
    have hy : ∀ {α : Type} (p : Bay → α), (∀ y, p (core y) = p y) → p (t.bay b) = p (u.bay b) := fun p hp => by
      rw [ht.bay, hshort.field p hp]
    refine ⟨t, e, fun c hc => congrArg Bay.ctx ((ht.bay c).trans ((hshort.others c hc).trans (hothers c hc))), ?_, ?_, ?_,
      fun h => ⟨?_, ?_⟩, fun h => ⟨?_, ?_⟩, fun _ => ⟨?_, ?_, fun h => ⟨?_, ?_⟩, fun h => ⟨?_, ?_⟩⟩, fun h => absurd h hcomplete⟩
    · rw [hy (fun y => y.coin.capture) fun _ => rfl, hcapture]
    · exact (hy (fun y => y.ctx.tendered) fun _ => rfl).trans htendered
    · exact (hy (fun y => y.ctx.lastChange) fun _ => rfl).trans hchange
    · exact (hy Bay.counters fun _ => rfl).trans (hcounters.trans (hroom h).1)
    · exact (hy (fun y => y.ctx.overflow) fun _ => rfl).trans (hoverflow.trans (hroom h).2.1)
    · exact (hy Bay.counters fun _ => rfl).trans (hcounters.trans (hfull h).1)
    · exact (hy (fun y => y.ctx.overflow) fun _ => rfl).trans (hoverflow.trans (hfull h).2.1)
    · exact (hy (fun y => y.ctx.state) fun _ => rfl).trans (hstill.trans hstate)
    · rw [ht.bay, hmask]
      exact (maskOf_congr (by rw [ht.bay]) ht.time ht.site).symm
    · exact (hy (fun y => y.ctx.coins) fun _ => rfl).trans (hcoins.trans (hroom h).2.2.2)
    · exact (hy Bay.box fun _ => rfl).trans (hbox.trans (hroom h).2.2.1)
    · exact (hy (fun y => y.ctx.coins) fun _ => rfl).trans (hcoins.trans (hfull h).2.2.2)
    · exact boxed_put _ ((hy Bay.box fun _ => rfl).trans (hbox.trans (hfull h).2.2.1))

/-- Settles O52. -/
theorem coinIsCreditedStrayOrUnvalued : Obligations.CoinIsCreditedStrayOrUnvalued := by
  intro s b hdue htakes
  have hsite : (s.modBay b trainedBay).site = s.site := rfl
  have hctx := trained_ctx b s
  dsimp only
  by_cases hno : (s.bay b).coin.malformed = true ∨ kindOf s.site (s.bay b).coin.pulses = none
  · obtain ⟨t, e, hothers, hcapture, hun, hnoticed, -⟩ :=
      train_uncredited hdue (coinOf_unvalued (b := b) (s := s.modBay b trainedBay) hno) nofun rfl
    refine ⟨t, e, hothers, hcapture, fun _ => ⟨⟨hun.state, hun.tendered, hun.overflow, hun.room, hun.full⟩, hnoticed rfl⟩,
      fun k v hgood hkind => ?_⟩
    rcases hno with hbad | hnone
    · rw [hgood] at hbad
      cases hbad
    · rw [hnone] at hkind
      cases hkind
  · rw [not_or] at hno
    obtain ⟨hgood, hsome⟩ := hno
    rw [Bool.not_eq_true] at hgood
    obtain ⟨⟨k, v⟩, hkind⟩ := Option.ne_none_iff_exists'.mp hsome
    have hunique : ∀ k' v', kindOf s.site (s.bay b).coin.pulses = some (k', v') → k' = k ∧ v' = v := fun k' v' h => by
      rw [hkind] at h
      exact ⟨(congrArg Prod.fst (Option.some.inj h)).symm, (congrArg Prod.snd (Option.some.inj h)).symm⟩
    by_cases hcredit : (s.ctx b).state = .tender ∧ (s.ctx b).tendered + v ≤ 999999
    · obtain ⟨hstate, hwithin⟩ := hcredit
      have hcoin := coinOf_in_tender (b := b) (s := s.modBay b trainedBay) hkind (by rw [hctx]; exact hstate)
        (by rw [hctx]; exact htakes) (by rw [hctx]; exact hwithin)
      rw [← hgood] at hcoin
      obtain ⟨t, e, hothers, hcapture, hcr⟩ := train_credited hdue hcoin hstate
      refine ⟨t, e, hothers, hcapture, fun hbad => ?_, fun k' v' _ hk => ?_⟩
      · rcases hbad with hbad | hnone
        · rw [hgood] at hbad
          cases hbad
        · exact absurd hnone hsome
      · obtain ⟨rfl, rfl⟩ := hunique k' v' hk
        refine ⟨fun hstray => ?_, fun _ _ => ⟨hcr.tendered, hcr.change, hcr.room, hcr.full, hcr.short, hcr.paid⟩⟩
        rcases hstray with h | h
        · exact absurd hstate h
        · omega
    · have hstray : (s.ctx b).state ≠ .tender ∨ 999999 < (s.ctx b).tendered + v := by
        by_cases hstate : (s.ctx b).state = .tender
        · exact .inr (Nat.lt_of_not_le fun h => hcredit ⟨hstate, h⟩)
        · exact .inl hstate
      have hcoin := coinOf_stray (b := b) (s := s.modBay b trainedBay) hkind (by rw [hctx]; exact hstray)
      rw [← hgood] at hcoin
      obtain ⟨t, e, hothers, hcapture, hun, -, hquiet⟩ := train_uncredited hdue hcoin nofun rfl
      refine ⟨t, e, hothers, hcapture, fun hbad => ?_, fun k' v' _ hk => ?_⟩
      · rcases hbad with hbad | hnone
        · rw [hgood] at hbad
          cases hbad
        · exact absurd hnone hsome
      · obtain ⟨rfl, rfl⟩ := hunique k' v' hk
        exact ⟨fun _ => ⟨⟨hun.state, hun.tendered, hun.overflow, hun.room, hun.full⟩, hquiet nofun⟩,
          fun hstate hwithin => absurd ⟨hstate, hwithin⟩ hcredit⟩

end

end Sys2Proof.Proofs

/-! PROOFS. Receipts that end a transaction's work: a job's outcome, its ADJUST, and the entry to PRINT (R17, R147). -/

namespace Sys2Proof.Proofs

open Sys2Proof Sys2Proof.Machine Sys2Proof.Laws

section
variable {b : BayNo} {s t : State} {j : Job} {o : ReceiptOutcome}

/-! ### A SALE job's outcome (R139, R145 to R147) -/

theorem stamp_sale (hkind : j.kind = .sale) (site : List (List Byte)) :
    (j.stamp site).kind = .sale ∧ (j.stamp site).bank = j.bank ∧ (j.stamp site).layout = j.layout := by
  unfold Job.stamp
  simp only [hkind, and_self]

/-- A SALE job that starts is the sequencer's, and ends at once only FAILED or PRINTED. -/
theorem startJob_sale (hkind : j.kind = .sale) (b : BayNo) (s : State) :
    (∃ k, ((startJob b j s).1.bay b).seq.job = some k ∧ k.kind = .sale)
    ∧ ((startJob b j s).2 = none ∨ (startJob b j s).2 = some .failed ∨ (startJob b j s).2 = some .printed) := by
  obtain ⟨hstamp, -, -⟩ := stamp_sale hkind s.site
  unfold startJob
  dsimp only
  generalize j.stamp s.site = k at hstamp
  have htaken : ((s.modBay b fun y => y.takeJob k s.now).bay b).seq.job = some k := by
    rw [State.bay_modBay_self]
    rfl
  split
  · exact ⟨⟨k, htaken, hstamp⟩, .inr (.inl rfl)⟩
  · generalize s.modBay b (fun y => y.takeJob k s.now) = u at htaken
    rw [runJob_runs htaken (by
      rintro ⟨-, -, hstale⟩
      unfold Job.stale at hstale
      rw [hstamp] at hstale
      cases hstale)]
    refine ⟨⟨k, ?_, hstamp⟩, ?_⟩
    · dsimp only
      rw [State.bay_modBay_self]
      exact (expandRun_field (fun y => y.seq.job) (fun _ => rfl) _ _ _).trans htaken
    · dsimp only
      cases h : drainedOutcome (expandRun (u.tariff.bank k.bank) expandFuel (u.bay b)) with
      | none => exact .inl rfl
      | some o => exact .inr (.inr (congrArg some (drainedOutcome_printed h)))

/-- A SALE job asked for that has ended at once has FAILED, or is PRINTED with its record formed. -/
theorem requestJob_sale (hkind : j.kind = .sale) (h : (requestJob b j s).2 = some o) :
    o = .failed ∨ o = .printed ∧ ((requestJob b j s).1.bay b).lastReceipt.isSome = true := by
  revert h
  unfold requestJob
  split
  · obtain ⟨⟨k, hjob, hsale⟩, hends⟩ := startJob_sale hkind b s
    generalize startJob b j s = r at hjob hends
    obtain ⟨u, x⟩ := r
    cases x with
    | none => nofun
    | some x =>
      intro h
      have hfinished : finishJob b x u = (keepReceipt b k x (u.modBay b Bay.clearJob), some x) := finishJob_sale hjob hsale
      dsimp only at h hends ⊢
      rw [hfinished] at h ⊢
      obtain rfl : x = o := Option.some.inj h
      rcases hends with hno | hfailed | hprinted
      · cases hno
      · exact .inl (Option.some.inj hfailed)
      · refine .inr ⟨Option.some.inj hprinted, ?_⟩
        unfold keepReceipt
        rw [if_pos (Option.some.inj hprinted)]
        dsimp only
        rw [State.bay_modBay_self]
        rfl
  · nofun

/-! ### The ADJUST of a receipt, and the close from PRINT (R17) -/

/-- A record whose receipt has ended with o, its ADJUST waited for. -/
def adjustedBay (pass : Bool) (o : ReceiptOutcome) (y : Bay) : Bay :=
  { y with ctx :=
    { y.ctx with
      receiptOutcome := o, wait := .adjust
      causes := if pass then y.ctx.causes.put .server true else y.ctx.causes } }

/-- The ADJUST that a receipt not printed whole calls for. -/
def receiptBody (pass : Bool) (c : Ctx) : Body :=
  if pass then .adjust .passNotIssued (c.price.getD 0) c.txnSeq else .adjust .receiptFailed 0 c.txnSeq

theorem receiptAdjust_turns (who : AppendBy) (b : BayNo) (s : State) :
    Turns b s (receiptAdjust who b s) (if s.isPrintedPass b then causedBay .server true (s.bay b) else s.bay b)
    ∧ (receiptAdjust who b s).tariff = s.tariff
    ∧ ⟨receiptBody (s.isPrintedPass b) (s.ctx b), some b, who⟩ ∈ asked (receiptAdjust who b s).journal := by
  unfold receiptAdjust receiptBody appendAdjust
  split
  · exact ⟨(append_turns b s _).mod (causedBay .server true) fun _ => rfl, congrArg Beside.tariff (append_beside _ s),
      (asked_append rfl rfl s).mpr (.inr rfl)⟩
  · exact ⟨append_turns b s _, congrArg Beside.tariff (append_beside _ s), (asked_append rfl rfl s).mpr (.inr rfl)⟩

theorem isPrintedPass_congr (hbay : core (t.bay b) = core (s.bay b)) (htariff : t.tariff = s.tariff) :
    t.isPrintedPass b = s.isPrintedPass b := by
  unfold State.isPrintedPass
  rw [product_congr hbay htariff]

/-- A receipt not printed whole leads to its ADJUST. -/
theorem receiptTaken_adjusts (hstate : (s.ctx b).state = .print) (hwait : (s.ctx b).wait = .receipt)
    (ho : o = .failed ∨ o = .partly) :
    Turns b s (receiptTaken o b s) (adjustedBay (s.isPrintedPass b) o (s.bay b))
    ∧ ⟨receiptBody (s.isPrintedPass b) (s.ctx b), some b, .ctx b⟩ ∈ asked (receiptTaken o b s).journal := by
  have heq : receiptTaken o b s =
      await .adjust b (receiptAdjust (.ctx b) b (s.modBay b fun y => { y with ctx := { y.ctx with receiptOutcome := o } })) := by
    unfold receiptTaken
    rw [if_pos ⟨hstate, hwait⟩]
    rcases ho with rfl | rfl <;> rfl
  have hset := Becomes.modBay b s fun y => { y with ctx := { y.ctx with receiptOutcome := o } }
  have hbay : (s.modBay b fun y => { y with ctx := { y.ctx with receiptOutcome := o } }).bay b =
      { s.bay b with ctx := { s.ctx b with receiptOutcome := o } } := State.bay_modBay_self s b _
  have hpass : (s.modBay b fun y => { y with ctx := { y.ctx with receiptOutcome := o } }).isPrintedPass b = s.isPrintedPass b := by
    unfold State.isPrintedPass State.product
    rw [show (s.modBay b fun y => { y with ctx := { y.ctx with receiptOutcome := o } }).ctx b =
      { s.ctx b with receiptOutcome := o } from congrArg Bay.ctx hbay]
    rfl
  rw [heq]
  generalize s.modBay b (fun y => { y with ctx := { y.ctx with receiptOutcome := o } }) = u at hset hbay hpass
  obtain ⟨hturns, -, hasked⟩ := receiptAdjust_turns (.ctx b) b u
  have hbody : receiptBody (u.isPrintedPass b) (u.ctx b) = receiptBody (s.isPrintedPass b) (s.ctx b) := by
    rw [hpass, State.ctx, hbay]
    rfl
  have hwaits := await_becomes .adjust b (receiptAdjust (.ctx b) b u)
  generalize receiptAdjust (.ctx b) b u = v at hturns hasked hwaits
  refine ⟨?_, ?_⟩
  · have h := (hturns.step (g := fun y => { y with ctx := { y.ctx with wait := .adjust } }) hwaits.turns fun _ => rfl).behind hset.turns
    rw [hpass, hbay] at h
    refine h.of_core ?_
    unfold adjustedBay
    cases s.isPrintedPass b <;> rfl
  · rw [hwaits.journal, ← hbody]
    exact hasked

theorem receiptTaken_closes (hstate : (s.ctx b).state = .print) (hwait : (s.ctx b).wait = .receipt)
    (ho : o ≠ .failed ∧ o ≠ .partly) :
    receiptTaken o b s = closeTxn b (s.modBay b fun y => { y with ctx := { y.ctx with receiptOutcome := o } }) := by
  obtain ⟨hfailed, hpartly⟩ := ho
  unfold receiptTaken
  rw [if_pos ⟨hstate, hwait⟩]
  cases o
  case failed => exact absurd rfl hfailed
  case partly => exact absurd rfl hpartly
  all_goals rfl

/-- A close from PRINT sounds CHIRP. -/
theorem closeTxn_chirps (h : (s.ctx b).state = .print) :
    ((closeTxn b s).bay b).term.tone = .chirp ∧ ((closeTxn b s).bay b).term.tonePending = true := by
  unfold closeTxn
  dsimp only
  rw [h]
  unfold chirpFrom sound
  rw [if_pos rfl, State.bay_modBay_self]
  exact ⟨rfl, rfl⟩

/-! ### Entry to PRINT (R17) -/

theorem closedBay_waits (site : List (List Byte)) (b : BayNo) (now : Ms) (y : Bay) : (closedBay site b now y).ctx.wait ≠ .places := by
  rw [closedBay_ctx_eq]
  exact nofun

/-- What entry to PRINT leads to: a transaction that waits in PRINT, or one at rest, declined or with its receipt printed. -/
structure EntersPrint (b : BayNo) (s t : State) : Prop where
  turns : ∃ y, Turns b s t y ∧ y.tubes = (s.bay b).tubes ∧ y.payout = (s.bay b).payout ∧ y.ctx.wait ≠ .places
  declined : (s.ctx b).receiptWanted = false → (s.ctx b).shortPay = 0 → AtRest t b ∧ (t.bay b).term.tone = .chirp
  wanted : (s.ctx b).receiptWanted = true ∨ (s.ctx b).shortPay ≠ 0 →
    (t.ctx b).state = .print ∧ (t.ctx b).shortPay = (s.ctx b).shortPay ∧ (t.ctx b).txnSeq = (s.ctx b).txnSeq
    ∨ AtRest t b ∧ (t.bay b).lastReceipt.isSome = true

theorem receiptTaken?_some (b : BayNo) (s : State) (o : ReceiptOutcome) : receiptTaken? b (s, some o) = receiptTaken o b s := rfl

/-- A context in PRINT that waits for its receipt takes the outcome of a job asked for. -/
theorem receiptAwaited {u : State} {r : State × Option ReceiptOutcome} (hr : Prints b u r.1)
    (hends : ∀ o, r.2 = some o → o = .failed ∨ o = .printed ∧ (r.1.bay b).lastReceipt.isSome = true)
    (hstate : (u.ctx b).state = .print) (hwait : (u.ctx b).wait = .receipt) :
    (∃ y, Turns b u (receiptTaken? b r) y ∧ y.tubes = (u.bay b).tubes ∧ y.payout = (u.bay b).payout ∧ y.ctx.wait ≠ .places)
    ∧ (((receiptTaken? b r).ctx b).state = .print ∧ ((receiptTaken? b r).ctx b).shortPay = (u.ctx b).shortPay
        ∧ ((receiptTaken? b r).ctx b).txnSeq = (u.ctx b).txnSeq
      ∨ AtRest (receiptTaken? b r) b ∧ ((receiptTaken? b r).bay b).lastReceipt.isSome = true) := by
  obtain ⟨v, x⟩ := r
  have hctx : v.ctx b = u.ctx b := hr.field Bay.ctx fun _ => rfl
  have hbecomes := hr.becomes
  have htubes : (v.bay b).tubes = (u.bay b).tubes := hr.field Bay.tubes fun _ => rfl
  have hpayout : (v.bay b).payout = (u.bay b).payout := hr.field Bay.payout fun _ => rfl
  dsimp only at hr hends hbecomes
  cases x with
  | none =>
    refine ⟨⟨v.bay b, hbecomes.turns, htubes, hpayout, ?_⟩, .inl ?_⟩
    · show (v.ctx b).wait ≠ _
      rw [hctx, hwait]
      decide
    show (v.ctx b).state = _ ∧ (v.ctx b).shortPay = _ ∧ (v.ctx b).txnSeq = _
    rw [hctx]
    exact ⟨hstate, rfl, rfl⟩
  | some o =>
    rw [receiptTaken?_some]
    have hstate' : (v.ctx b).state = .print := by rw [hctx, hstate]
    have hwait' : (v.ctx b).wait = .receipt := by rw [hctx, hwait]
    rcases hends o rfl with rfl | ⟨rfl, hreceipt⟩
    · obtain ⟨hturns, -⟩ := receiptTaken_adjusts hstate' hwait' (.inl rfl)
      refine ⟨⟨_, hturns.behind hbecomes.turns, htubes, hpayout, nofun⟩, .inl ?_⟩
      refine ⟨(hturns.field (fun y => y.ctx.state) fun _ => rfl).trans hstate',
        (hturns.field (fun y => y.ctx.shortPay) fun _ => rfl).trans ?_,
        (hturns.field (fun y => y.ctx.txnSeq) fun _ => rfl).trans ?_⟩
      all_goals
        rw [← hctx]
        rfl
    · rw [receiptTaken_closes (o := .printed) hstate' hwait' ⟨nofun, nofun⟩]
      have hset := hbecomes.turns.mod (fun y => { y with ctx := { y.ctx with receiptOutcome := .printed } }) fun _ => rfl
      generalize v.modBay b (fun y => { y with ctx := { y.ctx with receiptOutcome := .printed } }) = w at hset
      have hclosed := hset.thereby (g := fun now site => closedBay site b now) (closeTxn_turns b w) (closedBay_plain _ _ _)
      refine ⟨⟨_, hclosed, ?_, ?_, closedBay_waits _ _ _ _⟩, .inr ⟨closeTxn_atRest b w, ?_⟩⟩
      · exact (closedBay_field Bay.tubes (fun _ _ _ _ _ => rfl) _ _ _ _).trans htubes
      · exact (closedBay_field Bay.payout (fun _ _ _ _ _ => rfl) _ _ _ _).trans hpayout
      · rw [hclosed.field Bay.lastReceipt fun _ => rfl, closedBay_field Bay.lastReceipt fun _ _ _ _ _ => rfl]
        exact hreceipt

theorem enterPrint_enters (b : BayNo) (s : State) : EntersPrint b s (enterPrint b s) := by
  have hentered := (enter_becomes .print b s).mod (fun y => { y with lastReceipt := none }) fun _ => rfl
  unfold enterPrint
  dsimp only
  generalize (enter .print b s).modBay b (fun y => { y with lastReceipt := none }) = u at hentered
  have hwanted : (u.ctx b).receiptWanted = (s.ctx b).receiptWanted := hentered.field (fun y => y.ctx.receiptWanted) fun _ => rfl
  have hshort : (u.ctx b).shortPay = (s.ctx b).shortPay := hentered.field (fun y => y.ctx.shortPay) fun _ => rfl
  rw [hwanted, hshort]
  by_cases hdeclined : (s.ctx b).receiptWanted = false ∧ (s.ctx b).shortPay = 0
  · rw [if_pos hdeclined]
    have hset := hentered.mod (fun y => { y with ctx := { y.ctx with receiptOutcome := .declined } }) fun _ => rfl
    unfold State.modCtx
    generalize u.modBay b (fun y => { y with ctx := { y.ctx with receiptOutcome := .declined } }) = v at hset
    have hclosed := hset.turns.thereby (g := fun now site => closedBay site b now) (closeTxn_turns b v) (closedBay_plain _ _ _)
    refine ⟨⟨_, hclosed, closedBay_field Bay.tubes (fun _ _ _ _ _ => rfl) _ _ _ _,
        closedBay_field Bay.payout (fun _ _ _ _ _ => rfl) _ _ _ _, closedBay_waits _ _ _ _⟩,
      fun _ _ => ⟨closeTxn_atRest b v, (closeTxn_chirps (hset.field (fun y => y.ctx.state) fun _ => rfl)).1⟩, fun hno => ?_⟩
    obtain ⟨hfalse, hzero⟩ := hdeclined
    rcases hno with h | h
    · rw [hfalse] at h
      cases h
    · exact absurd hzero h
  · rw [if_neg hdeclined]
    have hwaits := await_becomes .receipt b u
    have hawaits := hentered.step (g := fun y => { y with ctx := { y.ctx with wait := .receipt } }) hwaits fun _ => rfl
    have hstate : ((await .receipt b u).ctx b).state = .print := hawaits.field (fun y => y.ctx.state) fun _ => rfl
    have hwait : ((await .receipt b u).ctx b).wait = .receipt := hawaits.field (fun y => y.ctx.wait) fun _ => rfl
    have hshort' : ((await .receipt b u).ctx b).shortPay = (s.ctx b).shortPay := hawaits.field (fun y => y.ctx.shortPay) fun _ => rfl
    have hseq : ((await .receipt b u).ctx b).txnSeq = (s.ctx b).txnSeq := hawaits.field (fun y => y.ctx.txnSeq) fun _ => rfl
    have htubes : ((await .receipt b u).bay b).tubes = (s.bay b).tubes := hawaits.field Bay.tubes fun _ => rfl
    have hpayout : ((await .receipt b u).bay b).payout = (s.bay b).payout := hawaits.field Bay.payout fun _ => rfl
    generalize await .receipt b u = v at *
    have hgeneral : ∀ r : State × Option ReceiptOutcome, Prints b v r.1 →
        (∀ o, r.2 = some o → o = .failed ∨ o = .printed ∧ (r.1.bay b).lastReceipt.isSome = true) →
        EntersPrint b s (receiptTaken? b r) := fun r hr hends => by
      obtain ⟨⟨y, hturns, hyt, hyp, hyw⟩, hleads⟩ := receiptAwaited hr hends hstate hwait
      rw [hshort', hseq] at hleads
      exact ⟨⟨y, hturns.behind hawaits.turns, hyt.trans htubes, hyp.trans hpayout, hyw⟩, fun hfalse hzero => absurd ⟨hfalse, hzero⟩ hdeclined,
        fun _ => hleads⟩
    cases hp : u.product b with
    | none => exact hgeneral (v, some .failed) (.refl b v) fun o ho => .inl (Option.some.inj ho).symm
    | some p => exact hgeneral _ (requestJob_prints b _ v) fun o ho => requestJob_sale rfl ho

end

end Sys2Proof.Proofs

/-! PROOFS. The payout executor: its plan, its drives and its end (R16, R18, R94 to R98). -/

namespace Sys2Proof.Proofs

open Sys2Proof Sys2Proof.Machine Sys2Proof.Laws

section
variable {b : BayNo} {s t u : State}

/-! ### The end of a payout (R97) -/

/-- What a context's payout is for. -/
def dues (c : Ctx) : CtxState × Wait × Option Nat × Nat × Option Nat × Bool :=
  (c.state, c.wait, c.changeDue, c.refundOwed, c.txnSeq, c.receiptWanted)

theorem dues_fields {c d : Ctx} (h : dues c = dues d) : c.state = d.state ∧ c.wait = d.wait ∧ c.changeDue = d.changeDue
    ∧ c.refundOwed = d.refundOwed ∧ c.txnSeq = d.txnSeq ∧ c.receiptWanted = d.receiptWanted := by
  simpa only [dues, Prod.mk.injEq] using h

theorem adjustAndWait_asks (reason : AdjustReason) (amount : Nat) (b : BayNo) (s : State) :
    Requested (adjustAndWait reason amount b s) ⟨.adjust reason amount (adjustRef (s.ctx b) reason), some b, .ctx b⟩ := by
  unfold adjustAndWait appendAdjust
  generalize hr : (⟨.adjust reason amount (adjustRef (s.ctx b) reason), some b, .ctx b⟩ : Machine.Append) = r
  show r ∈ asked _
  rw [(await_becomes .adjust b (append r s)).journal]
  exact (asked_append (by rw [← hr]; rfl) (by rw [← hr]; rfl) s).mpr (.inr rfl)

/-- A record whose change is short by what has not been paid. -/
def shortBay (y : Bay) : Bay := { y with ctx := { y.ctx with shortPay := y.ctx.changeDue.getD 0 - y.ctx.changePaid } }

theorem changeEnded_eq (b : BayNo) (s : State) : changeEnded b s =
    if 0 < (s.ctx b).changeDue.getD 0 - (s.ctx b).changePaid then
      adjustAndWait .shortPay ((s.ctx b).changeDue.getD 0 - (s.ctx b).changePaid) b (s.modBay b shortBay)
    else enterPrint b (s.modBay b shortBay) := by
  have hshort : ((s.modBay b shortBay).ctx b).shortPay = (s.ctx b).changeDue.getD 0 - (s.ctx b).changePaid :=
    congrArg (fun y : Bay => y.ctx.shortPay) (State.bay_modBay_self s b shortBay)
  show (if 0 < ((s.modBay b shortBay).ctx b).shortPay then
    adjustAndWait .shortPay ((s.modBay b shortBay).ctx b).shortPay b (s.modBay b shortBay)
    else enterPrint b (s.modBay b shortBay)) = _
  rw [hshort]

theorem changeEnded_turns (b : BayNo) (s : State) :
    ∃ y, Turns b s (changeEnded b s) y ∧ y.tubes = (s.bay b).tubes ∧ y.payout = (s.bay b).payout := by
  have hset := (Becomes.modBay b s shortBay).turns
  have hbay := State.bay_modBay_self s b shortBay
  rw [changeEnded_eq]
  have htubes : ((s.modBay b shortBay).bay b).tubes = (s.bay b).tubes := by rw [hbay]; rfl
  have hpayout : ((s.modBay b shortBay).bay b).payout = (s.bay b).payout := by rw [hbay]; rfl
  generalize s.modBay b shortBay = u at hset htubes hpayout
  split
  · have h := adjustAndWait_turns .shortPay ((s.ctx b).changeDue.getD 0 - (s.ctx b).changePaid) b u
    exact ⟨_, h.behind hset, htubes, hpayout⟩
  · obtain ⟨y, h, hyt, hyp, -⟩ := (enterPrint_enters b u).turns
    exact ⟨y, h.behind hset, hyt.trans htubes, hyp.trans hpayout⟩

theorem refundEnded_turns (paid : Nat) (b : BayNo) (s : State) :
    ∃ y, Turns b s (refundEnded paid b s) y ∧ y.tubes = (s.bay b).tubes ∧ y.payout = (s.bay b).payout := by
  unfold refundEnded
  dsimp only
  split
  · exact ⟨_, adjustAndWait_turns _ _ b s, rfl, rfl⟩
  · exact ⟨_, closeTxn_turns b s, closedBay_field Bay.tubes (fun _ _ _ _ _ => rfl) _ _ _ _,
      closedBay_field Bay.payout (fun _ _ _ _ _ => rfl) _ _ _ _⟩

theorem payoutEnded_turns (b : BayNo) (s : State) :
    ∃ y, Turns b s (payoutEnded b s) y ∧ y.tubes = (s.bay b).tubes ∧ y.payout = (s.bay b).payout := by
  unfold payoutEnded
  dsimp only
  split
  · exact changeEnded_turns b s
  · exact refundEnded_turns _ b s
  · exact ⟨_, .refl b s, rfl, rfl⟩

/-- The end of change in PAYOUT (R16). -/
theorem changeEnded_ends {change : Nat} (hdues : dues (u.ctx b) = dues (s.ctx b)) (hchange : (u.ctx b).changePaid = change)
    (hstate : (s.ctx b).state = .payout) :
    let short := (s.ctx b).changeDue.getD 0 - change
    let d := (changeEnded b u).ctx b
    (0 < short → d.state = .payout ∧ d.wait = .adjust ∧ d.shortPay = short ∧ d.changePaid = change
      ∧ Requested (changeEnded b u) ⟨.adjust .shortPay short (s.ctx b).txnSeq, some b, .ctx b⟩)
    ∧ (short = 0 → (s.ctx b).receiptWanted = false →
        AtRest (changeEnded b u) b ∧ ((changeEnded b u).bay b).term.tone = .chirp)
    ∧ (short = 0 → (s.ctx b).receiptWanted = true →
        d.state = .print ∧ d.shortPay = 0 ∨ AtRest (changeEnded b u) b ∧ ((changeEnded b u).bay b).lastReceipt.isSome = true) := by
  dsimp only
  obtain ⟨hstate', -, hdue, -, hseq, hwanted⟩ := dues_fields hdues
  have hbay := State.bay_modBay_self u b shortBay
  have hctx : (u.modBay b shortBay).ctx b = { u.ctx b with shortPay := (u.ctx b).changeDue.getD 0 - (u.ctx b).changePaid } :=
    congrArg Bay.ctx hbay
  rw [changeEnded_eq]
  rw [hdue, hchange] at hctx ⊢
  generalize u.modBay b shortBay = v at hbay hctx
  refine ⟨fun hshort => ?_, fun hzero hno => ?_, fun hzero hyes => ?_⟩
  · rw [if_pos hshort]
    have h := adjustAndWait_turns .shortPay ((s.ctx b).changeDue.getD 0 - change) b v
    have hasks := adjustAndWait_asks .shortPay ((s.ctx b).changeDue.getD 0 - change) b v
    have hread := fun {α : Type} (p : Ctx → α) (hp : ∀ y : Bay, p (core y).ctx = p y.ctx) => h.field (fun y => p y.ctx) hp
    refine ⟨(hread Ctx.state fun _ => rfl).trans ?_, hread Ctx.wait fun _ => rfl, (hread Ctx.shortPay fun _ => rfl).trans ?_,
      (hread Ctx.changePaid fun _ => rfl).trans ?_, ?_⟩
    · show (v.ctx b).state = _
      rw [hctx]
      exact hstate'.trans hstate
    · show (v.ctx b).shortPay = _
      rw [hctx]
    · show (v.ctx b).changePaid = _
      rw [hctx]
      exact hchange
    · have href : adjustRef (v.ctx b) .shortPay = (s.ctx b).txnSeq := by
        show (v.ctx b).txnSeq = _
        rw [hctx]
        exact hseq
      rw [href] at hasks
      exact hasks
  all_goals
    rw [if_neg (show ¬ 0 < (s.ctx b).changeDue.getD 0 - change by omega)]
    have hv : (v.ctx b).shortPay = 0 := by rw [hctx]; exact hzero
    have hw : (v.ctx b).receiptWanted = (s.ctx b).receiptWanted := by rw [hctx]; exact hwanted
    obtain ⟨-, hdeclined, hprinted⟩ := enterPrint_enters b v
  · exact hdeclined (hw.trans hno) hv
  · rcases hprinted (.inl (hw.trans hyes)) with ⟨hprint, hpay, -⟩ | hrest
    · exact .inl ⟨hprint, hpay.trans hv⟩
    · exact .inr hrest

/-- The end of a REFUND's payout (R18). -/
theorem refundEnded_ends {paid : Nat} (hdues : dues (u.ctx b) = dues (s.ctx b)) (hstate : (s.ctx b).state = .refund) :
    let owed := (s.ctx b).refundOwed - paid
    let d := (refundEnded paid b u).ctx b
    (0 < owed → d.state = .refund ∧ d.wait = .adjust
      ∧ Requested (refundEnded paid b u) ⟨.adjust .refundShort owed none, some b, .ctx b⟩)
    ∧ (owed = 0 → AtRest (refundEnded paid b u) b) := by
  dsimp only
  obtain ⟨hstate', -, -, howed, -, -⟩ := dues_fields hdues
  unfold refundEnded
  dsimp only
  rw [howed]
  refine ⟨fun hshort => ?_, fun hzero => ?_⟩
  · rw [if_pos hshort]
    have h := adjustAndWait_turns .refundShort ((s.ctx b).refundOwed - paid) b u
    exact ⟨(h.field (fun y => y.ctx.state) fun _ => rfl).trans (hstate'.trans hstate),
      h.field (fun y => y.ctx.wait) fun _ => rfl, adjustAndWait_asks .refundShort _ b u⟩
  · rw [if_neg (by omega)]
    exact closeTxn_atRest b u

/-- The end of a payout of which u still holds what is due. -/
theorem payoutEnded_ends {paid change : Nat}
    (hpayout : (u.bay b).payout = { (s.bay b).payout with running := false, paid := paid, plan := [], drive := none })
    (hdues : (s.ctx b).state = .payout ∨ (s.ctx b).state = .refund →
      dues (u.ctx b) = dues (s.ctx b) ∧ (u.ctx b).changePaid = change) :
    PayoutEnds s (payoutEnded b u) b paid change := by
  obtain ⟨y, hturns, -, hkept⟩ := payoutEnded_turns b u
  refine ⟨(hturns.field Bay.payout fun _ => rfl).trans (hkept.trans hpayout), fun hrequester hstate hwait => ?_,
    fun hrequester hstate hwait => ?_⟩
  · obtain ⟨hd, hchange⟩ := hdues (.inl hstate)
    obtain ⟨hstate', hwait', -⟩ := dues_fields hd
    have heq : payoutEnded b u = changeEnded b u := by
      unfold payoutEnded
      simp only [hpayout, hrequester, hstate', hstate, hwait', hwait]
    rw [heq]
    exact changeEnded_ends hd hchange hstate
  · obtain ⟨hd, -⟩ := hdues (.inr hstate)
    obtain ⟨hstate', hwait', -⟩ := dues_fields hd
    have heq : payoutEnded b u = refundEnded paid b u := by
      unfold payoutEnded
      simp only [hpayout, hrequester, hstate', hstate, hwait', hwait]
    rw [heq]
    exact refundEnded_ends hd hstate

/-! ### Plans and drives (R95, R98) -/

theorem planPayout_drives {e : PlanEntry} {es : List PlanEntry}
    (h : s.changePlan b ((s.bay b).payout.amount - (s.bay b).payout.paid) = some (e :: es)) :
    planPayout b s = (s.modPayout b fun x => { x with plan := e :: es, drive := some (e.tube, s.now) }, false) := by
  unfold planPayout
  simp only [h]

theorem planPayout_stops (h : s.changePlan b ((s.bay b).payout.amount - (s.bay b).payout.paid) = none) :
    planPayout b s = (stopPayout b s, true) := by
  unfold planPayout
  simp only [h]

theorem changePlan_congr (hsite : t.site = s.site) (htubes : (t.bay b).tubes = (s.bay b).tubes) (n : Nat) :
    t.changePlan b n = s.changePlan b n := by
  unfold State.changePlan
  rw [hsite, htubes]

/-- A step of the executor keeps the tubes. -/
theorem payoutStep_turns {r : State × Bool} {y : Bay} (h : Turns b s r.1 y) :
    ∃ z, Turns b s (payoutStep b r) z ∧ z.tubes = y.tubes := by
  obtain ⟨u, ended⟩ := r
  have htubes : (u.bay b).tubes = y.tubes := h.field Bay.tubes fun _ => rfl
  cases ended with
  | true =>
    obtain ⟨z, hz, hkept, -⟩ := payoutEnded_turns b u
    exact ⟨z, hz.behind h, hkept.trans htubes⟩
  | false => exact ⟨y, h, rfl⟩

theorem nextDrive_turns (b : BayNo) (s : State) : ∃ y, Turns b s (nextDrive b s).1 y ∧ y.tubes = (s.bay b).tubes := by
  unfold nextDrive
  split
  next f fs _ =>
    split
    · have h := modPayout_becomes b s fun x => { x with drive := some (f.tube, s.now) }
      exact ⟨_, h.turns, rfl⟩
    · exact ⟨_, (planPayout_becomes b s).turns, rfl⟩
  · exact ⟨_, (planPayout_becomes b s).turns, rfl⟩

theorem nextDrive_drives {f : PlanEntry} {fs : List PlanEntry} (hplan : (s.bay b).payout.plan = f :: fs)
    (hok : (s.bay b).tubes[f.tube].state = .ok) (hcoins : 0 < (s.bay b).tubes[f.tube].count) :
    nextDrive b s = (s.modPayout b fun x => { x with drive := some (f.tube, s.now) }, false) := by
  unfold nextDrive
  simp only [hplan]
  exact if_pos ⟨hok, hcoins⟩

theorem nextDrive_plans (h : ∀ f ∈ (s.bay b).payout.plan.head?,
    (s.bay b).tubes[f.tube].state ≠ .ok ∨ (s.bay b).tubes[f.tube].count = 0) : nextDrive b s = planPayout b s := by
  unfold nextDrive
  split
  next f fs hplan =>
    refine if_neg ?_
    rintro ⟨hok, hcoins⟩
    rcases h f (by rw [hplan]; rfl) with hno | hno
    · exact hno hok
    · have hcoins' : 0 < (s.bay b).tubes[f.tube].count := hcoins
      omega
  next => rfl

end

end Sys2Proof.Proofs

/-! PROOFS. Payout senses and drive timeouts (R89 to R91, R95 to R100). -/

namespace Sys2Proof.Proofs

open Sys2Proof Sys2Proof.Machine Sys2Proof.Laws

/-! ### A plan drives tubes that are OK (R90, R91) -/

theorem mem_insertOffer {o p : Offer} {os : List Offer} (h : p ∈ insertOffer o os) : p = o ∨ p ∈ os := by
  induction os with
  | nil => exact .inl (List.mem_singleton.mp h)
  | cons x xs ih =>
    unfold insertOffer at h
    split at h
    · rcases List.mem_cons.mp h with rfl | hp
      · exact .inl rfl
      · exact .inr hp
    · rcases List.mem_cons.mp h with rfl | hp
      · exact .inr (List.mem_cons_self ..)
      · exact (ih hp).imp_right (List.mem_cons_of_mem x)

/-- An eligible tube is OK. -/
theorem eligible_ok {site : List (List Byte)} {tubes : Vector Tube 4} {o : Offer} (h : o ∈ eligible site tubes) :
    tubes[o.tube].state = .ok := by
  have hstep : ∀ (ts : List TubeNo) (os : List Offer), (∀ p ∈ os, tubes[p.tube].state = .ok) →
      ∀ p ∈ ts.foldl (fun os t =>
        let u := tubes[t]
        match siteKind site u.kind with
        | some (v, _) => if u.state = .ok ∧ 0 < u.count ∧ u.kind ≠ 0 then insertOffer ⟨t, v, u.count⟩ os else os
        | none => os) os, tubes[p.tube].state = .ok := fun ts => by
    induction ts with
    | nil => exact fun os hos => hos
    | cons t ts ih =>
      intro os hos
      refine ih _ ?_
      dsimp only
      split
      · split
        next hok =>
          obtain ⟨hstate, -, -⟩ := hok
          intro p hp
          rcases mem_insertOffer hp with rfl | hp
          · exact hstate
          · exact hos p hp
        next => exact hos
      · exact hos
  exact hstep allTubes [] nofun o h

theorem mem_planOf {os : List Offer} {ks : List Nat} {e : PlanEntry} (h : e ∈ planOf os ks) : ∃ o ∈ os, o.tube = e.tube := by
  induction os generalizing ks with
  | nil => cases h
  | cons o os ih =>
    cases ks with
    | nil => cases h
    | cons k ks =>
      have hlater : e ∈ planOf os ks → ∃ p ∈ o :: os, p.tube = e.tube := fun he => by
        obtain ⟨p, hp, heq⟩ := ih he
        exact ⟨p, List.mem_cons_of_mem o hp, heq⟩
      unfold planOf at h
      split at h
      · exact hlater h
      · rcases List.mem_cons.mp h with rfl | he
        · exact ⟨o, List.mem_cons_self .., rfl⟩
        · exact hlater he

section
variable {b : BayNo} {n : TubeNo} {s t u : State}

theorem changePlan_ok {m : Nat} {es : List PlanEntry} {e : PlanEntry} (h : s.changePlan b m = some es) (he : e ∈ es) :
    (s.bay b).tubes[e.tube].state = .ok := by
  obtain ⟨ks, hks⟩ : ∃ ks, es = planOf (eligible s.site (s.bay b).tubes) ks := by
    unfold State.changePlan planFor at h
    dsimp only at h
    split at h
    · exact ⟨_, (Option.some.inj h).symm⟩
    · obtain ⟨ks, -, hks⟩ := Option.map_eq_some_iff.mp h
      exact ⟨ks, hks.symm⟩
  rw [hks] at he
  obtain ⟨o, ho, heq⟩ := mem_planOf he
  have hok : ∀ k : TubeNo, o.tube = k → (s.bay b).tubes[k].state = .ok := by
    rintro _ rfl
    exact eligible_ok ho
  exact hok _ heq

/-! ### A tube's change (R89) -/

/-- A record whose tube n has become x. -/
def tubedBay (n : TubeNo) (x : Tube) (y : Bay) : Bay := { y with tubes := y.tubes.set n x }

theorem notify?_link (n : Option Notice) (s : State) : ∃ l, notify? n s = { s with link := l } := by
  cases n with
  | none => exact ⟨s.link, rfl⟩
  | some n => exact ⟨_, rfl⟩

/-- A tube's change keeps everything but the bay's tubes and mask, and the port. -/
theorem changeTube_bay (n : TubeNo) (f : Tube → Tube) (b : BayNo) (s : State) :
    (changeTube b n f s).bay b =
        { tubedBay n (f (s.bay b).tubes[n]) (s.bay b) with mask := (changeTube b n f s).maskOf b }
    ∧ OtherBays b s (changeTube b n f s)
    ∧ changeTube b n f s = { s with bays := (changeTube b n f s).bays, link := (changeTube b n f s).link }
    ∧ (changeTube b n f s).link = (notify? (lowNotice b n (s.bay b).tubes[n] (f (s.bay b).tubes[n])) s).link := by
  unfold changeTube
  dsimp only
  have hset : (s.modTube b n f).bay b = tubedBay n (f (s.bay b).tubes[n]) (s.bay b) := State.bay_modBay_self s b _
  have hlink : (notify? (lowNotice b n (s.tube b n) (f (s.tube b n))) (s.modTube b n f)).link =
      (notify? (lowNotice b n (s.tube b n) (f (s.tube b n))) s).link := by
    cases lowNotice b n (s.tube b n) (f (s.tube b n)) with
    | none => rfl
    | some x => rfl
  obtain ⟨l, hl⟩ := notify?_link (lowNotice b n (s.tube b n) (f (s.tube b n))) (s.modTube b n f)
  rw [hl] at hlink ⊢
  have hbay : ({ s.modTube b n f with link := l } : State).bay b = tubedBay n (f (s.bay b).tubes[n]) (s.bay b) := hset
  have hmask := recomputeMask_mask b { s.modTube b n f with link := l }
  refine ⟨?_, fun c hc => ?_, rfl, hlink⟩
  · rw [← hmask, recomputeMask, State.bay_modBay_self, hbay]
  · have htubes : (s.modTube b n f).bay c = s.bay c := State.bay_modBay_ne s hc _
    exact (State.bay_modBay_ne _ hc _).trans htubes

/-! ### A paid coin (R95) -/

/-- What is paid to a context of its change, behind a coin of value v. -/
def changeOf (r : Requester) (change v : Nat) : Nat :=
  match r with
  | .payout => change + v
  | .refund => change

/-- A record behind a paid coin. -/
def coinPaidBay (v : Nat) (y : Bay) : Bay :=
  { y with
    payout := { y.payout with paid := y.payout.paid + v, plan := usePlan y.payout.plan, drive := none }
    ctx := { y.ctx with changePaid := changeOf y.payout.requester y.ctx.changePaid v } }

theorem payCoin_eq (v : Nat) (b : BayNo) (s : State) : payCoin v b s = s.modBay b (coinPaidBay v) := by
  have hrequester : ∀ f : Executor → Executor, ((s.modPayout b f).bay b).payout = f (s.bay b).payout := fun f =>
    congrArg Bay.payout (State.bay_modBay_self s b _)
  have hput : ∀ y, s.bay b = y → s.modBay b (coinPaidBay v) = s.modBay b fun _ => coinPaidBay v y := fun y hy => by
    unfold State.modBay
    rw [show s.bays[b] = y from hy]
  unfold payCoin
  dsimp only
  rw [hrequester, hput (s.bay b) rfl]
  dsimp only
  cases hr : (s.bay b).payout.requester with
  | payout =>
    refine (modBay_modBay s b _ _).trans ?_
    unfold State.modBay coinPaidBay
    simp only [State.bay] at hr ⊢
    rw [hr]
    rfl
  | refund =>
    unfold State.modPayout State.modBay coinPaidBay
    simp only [State.bay] at hr ⊢
    rw [hr]
    rfl

/-- A record behind a coin of value v that has left tube n. -/
def answeredBay (n : TubeNo) (v : Nat) (m : List Nat) (y : Bay) : Bay :=
  coinPaidBay v { tubedBay n y.tubes[n].leave y with mask := m }

/-- The state in which a sense of the driven tube has been paid. -/
def answered (n : TubeNo) (b : BayNo) (s : State) : State :=
  payCoin (kindValue s.site (s.tube b n).kind) b (changeTube b n Tube.leave s)

theorem answered_bay (n : TubeNo) (b : BayNo) (s : State) :
    (∃ m, (answered n b s).bay b = answeredBay n (kindValue s.site (s.bay b).tubes[n].kind) m (s.bay b))
    ∧ OtherBays b s (answered n b s) ∧ (answered n b s).journal = s.journal ∧ (answered n b s).site = s.site
    ∧ (answered n b s).now = s.now := by
  obtain ⟨hbay, hothers, hrest, -⟩ := changeTube_bay n Tube.leave b s
  unfold answered
  rw [payCoin_eq]
  generalize changeTube b n Tube.leave s = u at hbay hothers hrest
  refine ⟨⟨u.maskOf b, ?_⟩, fun c hc => (State.bay_modBay_ne u hc _).trans (hothers c hc), ?_, ?_, ?_⟩
  · rw [State.bay_modBay_self, hbay]
    rfl
  all_goals
    rw [hrest]
    rfl

theorem answerDrive_eq (n : TubeNo) (b : BayNo) (s : State) : answerDrive n b s =
    if ((answered n b s).bay b).payout.amount ≤ ((answered n b s).bay b).payout.paid then
      payoutEnded b (stopPayout b (answered n b s))
    else payoutStep b (nextDrive b (answered n b s)) := rfl

theorem stopPayout_bay (b : BayNo) (s : State) : (stopPayout b s).bay b =
    payingBay { (s.bay b).payout with running := false, plan := [], drive := none } (s.bay b) := State.bay_modBay_self s b _

end

end Sys2Proof.Proofs

/-! PROOFS. What a payout sense and a drive timeout lead to (R95 to R100). -/

namespace Sys2Proof.Proofs

open Sys2Proof Sys2Proof.Machine Sys2Proof.Laws

section
variable {b : BayNo} {n : TubeNo} {s : State}

/-! ### Planning anew (R95, R98) -/

/-- What planning the rest anew leads to, from u to t. -/
theorem replan_leads {u t : State} (ht : Resealed (payoutStep b (planPayout b u)) t) :
    (∀ f fs, t.changePlan b ((u.bay b).payout.amount - (u.bay b).payout.paid) = some (f :: fs) →
      t.journal = u.journal ∧ t.ctx b = u.ctx b
      ∧ (t.bay b).payout = { (u.bay b).payout with plan := f :: fs, drive := some (f.tube, u.now) }
      ∧ (u.bay b).tubes[f.tube].state = .ok)
    ∧ (t.changePlan b ((u.bay b).payout.amount - (u.bay b).payout.paid) = none →
      Resealed (payoutEnded b (stopPayout b u)) t)
    ∧ ∃ y, Turns b u t y ∧ y.tubes = (u.bay b).tubes := by
  obtain ⟨y, hturns, htubes⟩ := payoutStep_turns (planPayout_becomes b u).turns
  have hturns' : Turns b u t y := ⟨fun c hc => (ht.bay c).trans (hturns.others c hc), ht.time.trans hturns.time,
    ht.bus.trans hturns.bus, ht.site.trans hturns.site, (congrArg core (ht.bay b)).trans hturns.bay⟩
  have hplan : ∀ k, t.changePlan b k = u.changePlan b k :=
    changePlan_congr hturns'.site ((hturns'.field Bay.tubes fun _ => rfl).trans htubes)
  refine ⟨fun f fs h => ?_, fun h => ?_, y, hturns', htubes⟩
  · rw [hplan] at h
    rw [planPayout_drives h] at ht
    have hbay : t.bay b = payingBay { (u.bay b).payout with plan := f :: fs, drive := some (f.tube, u.now) } (u.bay b) :=
      (ht.bay b).trans (State.bay_modBay_self u b _)
    rw [State.ctx, hbay]
    exact ⟨ht.journal, rfl, rfl, changePlan_ok h (List.mem_cons_self ..)⟩
  · rw [hplan] at h
    rw [planPayout_stops h] at ht
    exact ht

theorem payoutEnds_resealed {s u t : State} {paid change : Nat} (h : PayoutEnds s u b paid change) (ht : Resealed u t) :
    PayoutEnds s t b paid change := by
  rw [ht]
  exact h

/-- What PayoutEnds says of a payout stopped in u. -/
theorem stopped_ends {u t : State} {paid change : Nat} (ht : Resealed (payoutEnded b (stopPayout b u)) t)
    (hpaid : ∃ plan drive, (u.bay b).payout = { (s.bay b).payout with paid := paid, plan := plan, drive := drive })
    (hdues : (s.ctx b).state = .payout ∨ (s.ctx b).state = .refund →
      dues (u.ctx b) = dues (s.ctx b) ∧ (u.ctx b).changePaid = change) : PayoutEnds s t b paid change := by
  obtain ⟨plan, drive, hx⟩ := hpaid
  have hbay := stopPayout_bay b u
  have hctx : (stopPayout b u).ctx b = u.ctx b := (congrArg Bay.ctx hbay).trans rfl
  refine payoutEnds_resealed (payoutEnded_ends ?_ ?_) ht
  · rw [hbay, hx]
    rfl
  · rw [hctx]
    exact hdues

/-! ### A sense of the driven tube (R95, R97, R98) -/

theorem sense_answers {m : Ms} (hup : s.up = true) (hdrive : (s.bay b).payout.drive = some (n, m)) :
    exec (.payoutSense b n) s = done s (answerDrive n b s) := by
  show execPayoutSense b n s = _
  unfold execPayoutSense State.whenUp
  simp only [hup, hdrive, if_true]

theorem sense_extra (hup : s.up = true)
    (hdrive : (s.bay b).payout.drive = none ∨ ∃ n' m, (s.bay b).payout.drive = some (n', m) ∧ n' ≠ n) :
    exec (.payoutSense b n) s = done s (extraCoin n b s) := by
  show execPayoutSense b n s = _
  unfold execPayoutSense State.whenUp
  rcases hdrive with hnone | ⟨n', m, hother, hne⟩
  · simp only [hup, hnone, if_true]
  · simp only [hup, hother, if_true, if_neg hne]

/-- Below the amount, a sense drives the next entry, or plans the rest anew. -/
theorem sense_goes_on {m : Ms} {e : PlanEntry} {es : List PlanEntry} {paid change : Nat} {left : List PlanEntry}
    (hpaid : paid = (s.bay b).payout.paid + kindValue s.site (s.bay b).tubes[n].kind)
    (hchange : change = changeOf (s.bay b).payout.requester (s.ctx b).changePaid (kindValue s.site (s.bay b).tubes[n].kind))
    (hleft : left = usePlan (e :: es))
    (hup : s.up = true) (hdrive : (s.bay b).payout.drive = some (n, m)) (hplan : (s.bay b).payout.plan = e :: es)
    (hbelow : paid < (s.bay b).payout.amount) :
    ∃ t, exec (.payoutSense b n) s = .next t ∧ OtherBays b s t
      ∧ (t.bay b).tubes = (s.bay b).tubes.set n (s.bay b).tubes[n].leave
      ∧ (∀ f fs, left = f :: fs → (t.bay b).tubes[f.tube].state = .ok → 0 < (t.bay b).tubes[f.tube].count →
          t.journal = s.journal ∧ t.ctx b = { s.ctx b with changePaid := change }
          ∧ (t.bay b).payout = { (s.bay b).payout with paid := paid, plan := f :: fs, drive := some (f.tube, s.time.ms) })
      ∧ ((∀ f ∈ left.head?, (t.bay b).tubes[f.tube].state ≠ .ok ∨ (t.bay b).tubes[f.tube].count = 0) →
          (∀ f fs, t.changePlan b ((s.bay b).payout.amount - paid) = some (f :: fs) →
            t.journal = s.journal ∧ t.ctx b = { s.ctx b with changePaid := change }
            ∧ (t.bay b).payout = { (s.bay b).payout with paid := paid, plan := f :: fs, drive := some (f.tube, s.time.ms) })
          ∧ (t.changePlan b ((s.bay b).payout.amount - paid) = none → PayoutEnds s t b paid change)) := by
  obtain ⟨⟨mask, hbay⟩, hothers, hjournal, hsite, hnow⟩ := answered_bay n b s
  have heq := answerDrive_eq n b s
  generalize answered n b s = u at *
  have hpayout : (u.bay b).payout = { (s.bay b).payout with paid := paid, plan := left, drive := none } := by
    rw [hbay, hpaid, hleft, ← hplan]
    rfl
  have hctx : u.ctx b = { s.ctx b with changePaid := change } := by
    rw [State.ctx, hbay, hchange]
    rfl
  have htubes : (u.bay b).tubes = (s.bay b).tubes.set n (s.bay b).tubes[n].leave := congrArg Bay.tubes hbay
  have hstep : answerDrive n b s = payoutStep b (nextDrive b u) := by
    rw [heq, hpayout]
    exact if_neg (show ¬ (s.bay b).payout.amount ≤ paid by omega)
  obtain ⟨t, e', ht⟩ := done_resealed s (answerDrive n b s)
  rw [hstep] at ht
  obtain ⟨z, hz, hztubes⟩ := nextDrive_turns b u
  obtain ⟨y, hturns, hytubes⟩ := payoutStep_turns hz
  have htubes' : (t.bay b).tubes = (u.bay b).tubes := by
    rw [ht.bay, hturns.field Bay.tubes fun _ => rfl, hytubes, hztubes]
  refine ⟨t, (sense_answers hup hdrive).trans e', fun c hc => (ht.bay c).trans ((hturns.others c hc).trans (hothers c hc)),
    htubes'.trans htubes, fun f fs hf hok hcoins => ?_, fun hshut => ?_⟩
  · rw [htubes'] at hok hcoins
    rw [nextDrive_drives (by rw [hpayout]; exact hf) hok hcoins] at ht
    have hbay' : t.bay b = payingBay { (u.bay b).payout with drive := some (f.tube, u.now) } (u.bay b) :=
      (ht.bay b).trans (State.bay_modBay_self u b _)
    rw [State.ctx, hbay', hpayout, hf, hnow]
    exact ⟨ht.journal.trans hjournal, hctx, rfl⟩
  · rw [htubes'] at hshut
    rw [nextDrive_plans (by rw [hpayout]; exact hshut)] at ht
    obtain ⟨hdrives, hends, -⟩ := replan_leads ht
    rw [hpayout, hjournal, hctx, hnow] at hdrives
    rw [hpayout] at hends
    refine ⟨fun f fs h => ?_, fun h => stopped_ends (hends h) ⟨left, none, hpayout⟩ fun _ => ?_⟩
    · obtain ⟨hj, hc, hp, -⟩ := hdrives f fs h
      exact ⟨hj, hc, hp⟩
    · rw [hctx]
      exact ⟨rfl, rfl⟩

/-- At the amount, a sense ends the payout. -/
theorem sense_ends {m : Ms} {paid change : Nat}
    (hpaid : paid = (s.bay b).payout.paid + kindValue s.site (s.bay b).tubes[n].kind)
    (hchange : change = changeOf (s.bay b).payout.requester (s.ctx b).changePaid (kindValue s.site (s.bay b).tubes[n].kind))
    (hup : s.up = true) (hdrive : (s.bay b).payout.drive = some (n, m)) (hfull : (s.bay b).payout.amount ≤ paid) :
    ∃ t, exec (.payoutSense b n) s = .next t ∧ OtherBays b s t
      ∧ (t.bay b).tubes = (s.bay b).tubes.set n (s.bay b).tubes[n].leave ∧ PayoutEnds s t b paid change := by
  obtain ⟨⟨mask, hbay⟩, hothers, -, -, -⟩ := answered_bay n b s
  have heq := answerDrive_eq n b s
  generalize answered n b s = u at *
  have hpayout : (u.bay b).payout = { (s.bay b).payout with paid := paid, plan := usePlan (s.bay b).payout.plan, drive := none } := by
    rw [hbay, hpaid]
    rfl
  have hctx : u.ctx b = { s.ctx b with changePaid := change } := by
    rw [State.ctx, hbay, hchange]
    rfl
  have hended : answerDrive n b s = payoutEnded b (stopPayout b u) := by
    rw [heq, hpayout]
    exact if_pos hfull
  obtain ⟨t, e, ht⟩ := done_resealed s (answerDrive n b s)
  rw [hended] at ht
  obtain ⟨y, hturns, htubes, -⟩ := payoutEnded_turns b (stopPayout b u)
  have hstopped : OtherBays b u (stopPayout b u) := fun c hc => State.bay_modBay_ne u hc _
  refine ⟨t, (sense_answers hup hdrive).trans e,
    fun c hc => (ht.bay c).trans ((hturns.others c hc).trans ((hstopped c hc).trans (hothers c hc))), ?_,
    stopped_ends ht ⟨_, none, hpayout⟩ fun _ => ?_⟩
  · rw [ht.bay, hturns.field Bay.tubes fun _ => rfl, htubes, stopPayout_bay]
    exact congrArg Bay.tubes hbay
  · rw [hctx]
    exact ⟨rfl, rfl⟩

/-! ### Extra coins (R100) -/

/-- Tube u behind an extra coin. -/
def Tube.extraLeft (u : Tube) : Tube := { u with count := u.count - 1, extra := min (u.extra + 1) 65535 }

theorem lowNotice_extra (b : BayNo) (n : TubeNo) (u : Tube) : lowNotice b n u (Tube.extraLeft u) =
    if u.lowLevel < u.count ∧ u.count - 1 ≤ u.lowLevel then some (.tubeLow b n (u.count - 1)) else none := rfl

theorem extra_leaves (hup : s.up = true)
    (hdrive : (s.bay b).payout.drive = none ∨ ∃ n' m, (s.bay b).payout.drive = some (n', m) ∧ n' ≠ n) :
    ∃ t, exec (.payoutSense b n) s = .next t ∧ OtherBays b s t ∧ t.journal = s.journal
      ∧ (t.bay b).tubes = (s.bay b).tubes.set n (Tube.extraLeft (s.bay b).tubes[n])
      ∧ t.ctx b = s.ctx b ∧ (t.bay b).payout = (s.bay b).payout ∧ (t.bay b).mask = t.maskOf b
      ∧ t.link = (if (s.bay b).tubes[n].lowLevel < (s.bay b).tubes[n].count
            ∧ (s.bay b).tubes[n].count - 1 ≤ (s.bay b).tubes[n].lowLevel
          then (notify (.tubeLow b n ((s.bay b).tubes[n].count - 1)) s).link else s.link) := by
  obtain ⟨hbay, hothers, hrest, hlink⟩ := changeTube_bay n Tube.extraLeft b s
  have hexec : exec (.payoutSense b n) s = done s (changeTube b n Tube.extraLeft s) := sense_extra hup hdrive
  obtain ⟨t, e, ht⟩ := done_resealed s (changeTube b n Tube.extraLeft s)
  generalize changeTube b n Tube.extraLeft s = u at *
  have hmask : t.maskOf b = u.maskOf b := maskOf_congr (congrArg core (ht.bay b)) ht.time ht.site
  refine ⟨t, hexec.trans e, fun c hc => (ht.bay c).trans (hothers c hc), ht.journal.trans (by rw [hrest]), ?_⟩
  rw [hmask, State.ctx, ht.bay, ht.link, hlink, hbay]
  refine ⟨rfl, rfl, rfl, rfl, ?_⟩
  rw [lowNotice_extra]
  split <;> rfl

/-! ### Drive timeouts (R96, R98) -/

/-- A cause tested behind a tube's change changes nothing of what is due. -/
theorem testJamAll_becomes (b : BayNo) (s : State) : ∃ y, Becomes b s (testJamAll b s) y
    ∧ y.tubes = (s.bay b).tubes ∧ y.payout = (s.bay b).payout ∧ y.ctx.changePaid = (s.ctx b).changePaid
    ∧ ((s.ctx b).state ≠ .idle → dues y.ctx = dues (s.ctx b)) := by
  unfold testJamAll
  split
  · refine ⟨_, joinCause_becomes (k := .jamAll) ⟨nofun, nofun⟩ b s, joinedBay_field Bay.tubes (fun _ _ => rfl) _ _ _,
      joinedBay_field Bay.payout (fun _ _ => rfl) _ _ _, ?_, fun hopen => ?_⟩
    · unfold joinedBay
      split
      · rfl
      · split <;> rfl
    · unfold joinedBay
      split
      · rfl
      · rw [if_neg (show ¬ (s.bay b).ctx.state = .idle from hopen)]
        rfl
  · exact ⟨_, leaveCause_becomes .jamAll b s, rfl, rfl, rfl, fun _ => rfl⟩

/-- A tube that has gone unanswered. -/
def Tube.jammed (u : Tube) : Tube := { u with state := .jammed }

/-- The state in which an unanswered drive has jammed its tube. -/
def jammed (n : TubeNo) (b : BayNo) (s : State) : State :=
  testJamAll b (notify (.jam b n) (changeTube b n Tube.jammed (s.modPayout b fun x => { x with drive := none })))

theorem jammed_becomes (n : TubeNo) (b : BayNo) (s : State) :
    OtherBays b s (jammed n b s) ∧ (jammed n b s).journal = s.journal ∧ (jammed n b s).now = s.now
    ∧ ((jammed n b s).bay b).tubes = (s.bay b).tubes.set n (Tube.jammed (s.bay b).tubes[n])
    ∧ ((jammed n b s).bay b).payout = { (s.bay b).payout with drive := none }
    ∧ ((jammed n b s).ctx b).changePaid = (s.ctx b).changePaid
    ∧ ((s.ctx b).state ≠ .idle → dues ((jammed n b s).ctx b) = dues (s.ctx b)) := by
  unfold jammed
  have hx : (s.modPayout b fun x => { x with drive := none }).bay b = payingBay { (s.bay b).payout with drive := none } (s.bay b) :=
    State.bay_modBay_self s b _
  have hxo : OtherBays b s (s.modPayout b fun x => { x with drive := none }) := fun c hc => State.bay_modBay_ne s hc _
  have hxj : (s.modPayout b fun x => { x with drive := none }).journal = s.journal ∧
    (s.modPayout b fun x => { x with drive := none }).now = s.now := ⟨rfl, rfl⟩
  generalize s.modPayout b (fun x => { x with drive := none }) = v at hx hxo hxj
  obtain ⟨hxj, hxn⟩ := hxj
  obtain ⟨hbay, hothers, hrest, -⟩ := changeTube_bay n Tube.jammed b v
  generalize changeTube b n Tube.jammed v = w at hbay hothers hrest
  obtain ⟨y, hy, htubes, hpayout, hpaid, hdues⟩ := testJamAll_becomes b (notify (.jam b n) w)
  have hw : (notify (.jam b n) w).bay b = w.bay b := rfl
  have hwctx : (notify (.jam b n) w).ctx b = s.ctx b := by
    show (w.bay b).ctx = _
    rw [hbay, hx]
    rfl
  rw [hw] at htubes hpayout
  rw [hwctx] at hpaid hdues
  generalize testJamAll b (notify (.jam b n) w) = t at hy
  refine ⟨fun c hc => (hy.others c hc).trans ((hothers c hc).trans (hxo c hc)),
    hy.journal.trans ((show w.journal = v.journal by rw [hrest]).trans hxj),
    (congrArg Time.ms hy.time).trans ((show w.now = v.now by rw [hrest]; rfl).trans hxn), ?_, ?_, ?_, fun hopen => ?_⟩
  · rw [hy.field Bay.tubes fun _ => rfl, htubes, hbay, hx]
    rfl
  · rw [hy.field Bay.payout fun _ => rfl, hpayout, hbay, hx]
    rfl
  · exact (hy.field (fun y => y.ctx.changePaid) fun _ => rfl).trans hpaid
  · exact (hy.field (fun y => dues y.ctx) fun _ => rfl).trans (hdues hopen)

theorem timeout_jams {m : Ms} (hdrive : (s.bay b).payout.drive = some (n, m)) (hlate : 400 ≤ (s.time.ms - m).toNat) :
    ∃ t, exec (.driveTimeout b) s = .next t ∧ OtherContexts b s t
      ∧ (t.bay b).tubes = (s.bay b).tubes.set n (Tube.jammed (s.bay b).tubes[n])
      ∧ (t.bay b).payout.paid = (s.bay b).payout.paid
      ∧ (∀ f fs, t.changePlan b ((s.bay b).payout.amount - (s.bay b).payout.paid) = some (f :: fs) →
          f.tube ≠ n ∧ t.journal = s.journal ∧ (t.ctx b).changePaid = (s.ctx b).changePaid
          ∧ (t.bay b).payout = { (s.bay b).payout with plan := f :: fs, drive := some (f.tube, s.time.ms) })
      ∧ (t.changePlan b ((s.bay b).payout.amount - (s.bay b).payout.paid) = none →
          PayoutEnds s t b (s.bay b).payout.paid (s.ctx b).changePaid) := by
  have hexec : exec (.driveTimeout b) s = done s (payoutStep b (planPayout b (jammed n b s))) := by
    show execDriveTimeout b s = _
    unfold execDriveTimeout
    simp only [hdrive]
    rw [if_pos (passed_of (n := Config.driveLimit) hlate)]
    rfl
  obtain ⟨t, e, ht⟩ := done_resealed s (payoutStep b (planPayout b (jammed n b s)))
  obtain ⟨hothers, hjournal, hnow, htubes, hpayout, hchange, hdues⟩ := jammed_becomes n b s
  generalize jammed n b s = u at *
  obtain ⟨hdrives, hends, y, hturns, hytubes⟩ := replan_leads ht
  obtain ⟨z, hz, -, hzpayout⟩ := payoutEnded_turns b (stopPayout b u)
  rw [hpayout] at hdrives hends
  have hpaid : (t.bay b).payout.paid = (s.bay b).payout.paid := by
    rw [ht.bay]
    have hplanned := planPayout_executor b u
    generalize planPayout b u = r at hplanned
    obtain ⟨v, ended⟩ := r
    obtain ⟨-, -, hkept⟩ := hplanned
    have hkept' : (v.bay b).payout.paid = (s.bay b).payout.paid := hkept.trans (by rw [hpayout])
    cases ended with
    | true =>
      obtain ⟨z, hz, -, hzpayout⟩ := payoutEnded_turns b v
      show ((payoutEnded b v).bay b).payout.paid = _
      rw [hz.field Bay.payout fun _ => rfl, hzpayout, hkept']
    | false => exact hkept'
  refine ⟨t, hexec.trans e, fun c hc => congrArg Bay.ctx ((hturns.others c hc).trans (hothers c hc)), ?_, hpaid,
    fun f fs h => ?_, fun h => stopped_ends (hends h) ⟨_, _, hpayout⟩ fun hopen => ⟨hdues ?_, hchange⟩⟩
  · rw [hturns.field Bay.tubes fun _ => rfl, hytubes, htubes]
  · obtain ⟨hj, hc, hp, hok⟩ := hdrives f fs h
    refine ⟨fun hn => ?_, hj.trans hjournal, by rw [hc, hchange], by rw [hp, hnow]; rfl⟩
    have hjam : ∀ k : TubeNo, k = n → (u.bay b).tubes[k].state = .jammed := by
      rintro _ rfl
      simp only [htubes, Fin.getElem_fin, Vector.getElem_set_self]
      rfl
    rw [hjam _ hn] at hok
    cases hok
  · rcases hopen with h | h
    all_goals
      rw [h]
      decide

/-- Settles O54. -/
theorem sensePaysOrIsExtraCoin : Obligations.SensePaysOrIsExtraCoin := fun _ _ _ =>
  ⟨fun _ _ _ hup hdrive hplan hbelow => sense_goes_on rfl rfl rfl hup hdrive hplan hbelow,
    fun _ hup hdrive hfull => sense_ends rfl rfl hup hdrive hfull,
    extra_leaves, fun _ hdrive hlate => timeout_jams hdrive hlate⟩

end

end Sys2Proof.Proofs

/-! PROOFS. The cabinet lines and the clock's second (R101 to R104, R165, R203, R206, R207). -/

namespace Sys2Proof.Proofs

open Sys2Proof Sys2Proof.Machine Sys2Proof.Laws

/-! ### What a refund keeps of a bay's record and of the append queue -/

section
variable {b : BayNo} {s t : State} {r q : Machine.Append}

theorem refundBay_field {α : Type} (p : Bay → α)
    (hp : ∀ y c e x w a u, p { y with ctx := c, escrow := e, card := x, authWait := w, reapply := a, term := u } = p y) (now : Ms) (y : Bay) :
    p (refundBay now y) = p y := by
  unfold refundBay returnedBay
  split
  · exact hp y _ _ _ _ _ _
  · exact hp y _ _ _ _ _ _

/-- A refund changes the context, the escrow, the card work, the terminal and the executor alone, and keeps the causes. -/
theorem enterRefund_keeps (b : BayNo) (s : State) : ∃ y, Turns b s (enterRefund b s) y ∧ y.box = (s.bay b).box
    ∧ y.lines = (s.bay b).lines ∧ y.tubes = (s.bay b).tubes ∧ y.ctx.causes = (s.ctx b).causes := by
  have hctx := congrArg Ctx.causes (refundBay_ctx s.now (s.bay b))
  have hbox := refundBay_field Bay.box (fun _ _ _ _ _ _ _ => rfl) s.now (s.bay b)
  have hlines := refundBay_field Bay.lines (fun _ _ _ _ _ _ _ => rfl) s.now (s.bay b)
  have htubes := refundBay_field Bay.tubes (fun _ _ _ _ _ _ _ => rfl) s.now (s.bay b)
  by_cases howed : 0 < (s.ctx b).overflowValue
  · obtain ⟨w, x, -, h⟩ := enterRefund_owes howed
    exact ⟨_, h, hbox, hlines, htubes, hctx⟩
  · obtain ⟨-, h⟩ := enterRefund_closes (show (s.ctx b).overflowValue = 0 by omega)
    refine ⟨_, h, (closedBay_field Bay.box (fun _ _ _ _ _ => rfl) _ _ _ _).trans hbox,
      (closedBay_field Bay.lines (fun _ _ _ _ _ => rfl) _ _ _ _).trans hlines,
      (closedBay_field Bay.tubes (fun _ _ _ _ _ => rfl) _ _ _ _).trans htubes, ?_⟩
    rw [closedBay_ctx_eq]
    exact hctx

theorem closeTxn_journal (b : BayNo) (s : State) : (closeTxn b s).journal = s.journal := by
  have hemptied := (emptied_becomes b s).journal
  unfold closeTxn
  dsimp only
  generalize (if (s.ctx b).coins = [] then s else requestReturn b s) = u at hemptied
  have hunpinned : (unpinBank b u).journal = u.journal := by
    unfold unpinBank
    split <;> rfl
  generalize unpinBank b u = v at hunpinned
  have hrested := (rest_becomes ((v.modBay b fun y => { y with reserved := false }).restState b) b
    (v.modBay b fun y => { y with reserved := false })).journal
  generalize rest _ b (v.modBay b fun y => { y with reserved := false }) = w at hrested
  have hsettled : (settleAbsent b w).journal = w.journal := by
    unfold settleAbsent
    split <;> rfl
  rw [chirpFrom_journal, hsettled, hrested]
  exact hunpinned.trans hemptied

theorem append_queue (hlink : r.isLink = false) (htable : r.isTable = false) (s : State) :
    lists (append r s).journal = if s.journal.queue.length < 16 then (s.journal.queue ++ [r], s.journal.waitList)
      else (s.journal.queue, s.journal.waitList ++ [r]) := by
  rw [append, journalKick_lists]
  show lists (s.journal.request r) = _
  rw [request_placed hlink htable]
  exact apply_ite lists _ _ _

theorem mem_queue_append (hlink : r.isLink = false) (htable : r.isTable = false) (h : q ∈ s.journal.queue) :
    q ∈ (append r s).journal.queue := by
  have hlists := congrArg Prod.fst (append_queue hlink htable s)
  rw [show (append r s).journal.queue = (lists (append r s).journal).1 from rfl, hlists]
  split
  · exact List.mem_append_left _ h
  · exact h

/-- What waits in the append queue waits there still behind a refund. -/
theorem mem_queue_enterRefund (h : q ∈ s.journal.queue) : q ∈ (enterRefund b s).journal.queue := by
  obtain ⟨hjournal, -⟩ := refunding_units b s
  rw [enterRefund_eq]
  generalize refunding b s = u at hjournal
  split
  · have hwaits := (await_becomes .payout b (u.modBay b fun y => { y with ctx := { y.ctx with refundOwed := (s.ctx b).overflowValue } })).journal
    unfold State.modCtx
    generalize await .payout b (u.modBay b _) = v at hwaits
    have hstarted := (startPayout_becomes b .refund (s.ctx b).overflowValue v).journal
    generalize startPayout b .refund (s.ctx b).overflowValue v = x at hstarted
    have hx : q ∈ x.1.journal.queue := by
      rw [hstarted, hwaits]
      show q ∈ u.journal.queue
      rw [hjournal]
      exact h
    unfold refunded
    split
    · unfold refundEnded
      dsimp only
      split
      · rw [adjustAndWait, (await_becomes .adjust b _).journal]
        exact mem_queue_append rfl rfl hx
      · rw [closeTxn_journal]
        exact hx
    · exact hx
  · rw [closeTxn_journal, hjournal]
    exact h

/-! ### BOX_ABSENT (R20, R22) -/

theorem causeReaction_boxAbsent (b : BayNo) (s : State) : causeReaction .boxAbsent b s =
    if (s.ctx b).state = .idle then enter .outOfService b s
    else if (s.ctx b).wait ≠ .places ∧ (s.ctx b).state.isEarly = true then enterRefund b s else s := by
  unfold causeReaction Ctx.takes
  dsimp only
  split
  next h => rw [if_pos h]
  next h => rw [if_neg (by rw [h]; decide), if_neg (by rw [h]; exact fun h' => nomatch h'.2)]
  next hidle _ =>
    rw [if_neg hidle]
    simp only [Bool.and_eq_true, decide_eq_true_eq]
  next heq _ _ => cases heq
  next hno _ => exact absurd rfl hno

/-- What BOX_ABSENT leads to as it joins. -/
theorem boxAbsent_joins (h : (s.ctx b).causes.boxAbsent = false) :
    ((s.ctx b).state = .idle →
      Becomes b s (joinCause .boxAbsent b s) (enteredBay .outOfService s.now (causedBay .boxAbsent true (s.bay b))))
    ∧ ((s.ctx b).wait ≠ .places → (s.ctx b).state.isEarly = true →
      ∃ u, Becomes b s u (causedBay .boxAbsent true (s.bay b)) ∧ joinCause .boxAbsent b s = recomputeMask b (enterRefund b u))
    ∧ ((s.ctx b).state ≠ .idle → ¬ ((s.ctx b).wait ≠ .places ∧ (s.ctx b).state.isEarly = true) →
      Becomes b s (joinCause .boxAbsent b s) (causedBay .boxAbsent true (s.bay b))) := by
  rw [joinCause_eq (k := .boxAbsent) h, causeReaction_boxAbsent]
  have hput := (Becomes.modBay b s (causedBay .boxAbsent true)).shown (recomputeMask_becomes b _)
  have hnow : (recomputeMask b (s.modBay b (causedBay .boxAbsent true))).now = s.now := rfl
  have hstate : ((recomputeMask b (s.modBay b (causedBay .boxAbsent true))).ctx b).state = (s.ctx b).state :=
    hput.field (fun y => y.ctx.state) fun _ => rfl
  have hwait : ((recomputeMask b (s.modBay b (causedBay .boxAbsent true))).ctx b).wait = (s.ctx b).wait :=
    hput.field (fun y => y.ctx.wait) fun _ => rfl
  generalize recomputeMask b (s.modBay b (causedBay .boxAbsent true)) = u at hput hnow hstate hwait
  rw [hstate, hwait]
  refine ⟨fun hidle => ?_, fun htakes hearly => ⟨u, hput, ?_⟩, fun hno hlate => ?_⟩
  · rw [if_pos hidle]
    have hentered := enter_becomes .outOfService b u
    rw [hnow] at hentered
    exact (hput.step hentered fun _ => rfl).shown (recomputeMask_becomes b _)
  · rw [if_neg (fun hidle => by rw [hidle] at hearly; cases hearly), if_pos ⟨htakes, hearly⟩]
  · rw [if_neg hno, if_neg hlate]
    exact hput.shown (recomputeMask_becomes b _)

end

end Sys2Proof.Proofs

/-! PROOFS. Boxes removed and inserted, doors, the supply warning and the second (R101 to R104, R165, R203, R206, R207). -/

namespace Sys2Proof.Proofs

open Sys2Proof Sys2Proof.Machine Sys2Proof.Laws

section
variable {b : BayNo} {s t : State}

/-! ### Doors (R20, R206) -/

/-- A record whose samplers have changed. -/
def linedBay (f : BayLines → BayLines) (y : Bay) : Bay := { y with lines := f y.lines }

/-- A mild cause that follows its condition. -/
theorem setCause_becomes {k : Cause} (hk : Cause.mild k) (v : Bool) (b : BayNo) (s : State) :
    ∃ y, Becomes b s (setCause k v b s) y ∧ y.lines = (s.bay b).lines
      ∧ y.ctx.causes = (s.ctx b).causes.put k v
      ∧ ((s.ctx b).state = .idle → v = true → (s.ctx b).causes.has k = false → y.ctx.state = .outOfService)
      ∧ ((s.ctx b).state ≠ .idle ∨ v = false → y.ctx.state = (s.ctx b).state) := by
  cases v with
  | false => exact ⟨_, leaveCause_becomes k b s, rfl, rfl, nofun, fun _ => rfl⟩
  | true =>
    obtain ⟨-, hput, hidle, hstays⟩ := joinedBay_ctx k s.now (s.bay b)
    refine ⟨_, joinCause_becomes hk b s, joinedBay_field Bay.lines (fun _ _ => rfl) _ _ _, ?_, fun hi _ hno => hidle hno hi, ?_⟩
    · cases hhas : (s.bay b).ctx.causes.has k with
      | false => exact hput hhas
      | true =>
        rw [joinedBay, if_pos hhas]
        show (s.bay b).ctx.causes = (s.bay b).ctx.causes.put k true
        generalize (s.bay b).ctx.causes = c at hhas
        obtain ⟨⟩ := c
        cases k
        all_goals
          obtain rfl := hhas
          rfl
    · rintro (hno | hno)
      · exact hstays hno
      · cases hno

theorem serviceDoor_changes {isOpen : Bool} (hup : s.up = true) (hnew : (s.bay b).lines.serviceDoor.accepted ≠ isOpen) :
    ∃ t, exec (.serviceDoorChange b isOpen) s = .next t ∧ OtherBays b s t ∧ t.tariff = s.tariff
      ∧ t.journal = s.journal ∧ (t.bay b).lines.serviceDoor.accepted = isOpen
      ∧ (t.ctx b).causes = { (s.ctx b).causes with serviceDoor := isOpen }
      ∧ ((s.ctx b).state = .idle → isOpen = true → (s.ctx b).causes.serviceDoor = false → (t.ctx b).state = .outOfService)
      ∧ ((s.ctx b).state ≠ .idle ∨ isOpen = false → (t.ctx b).state = (s.ctx b).state) := by
  have hexec : exec (.serviceDoorChange b isOpen) s = done s (notify (.door b false isOpen)
      (setCause .serviceDoor isOpen b (s.modBay b (linedBay fun l => { l with serviceDoor := .start isOpen })))) := by
    show execServiceDoorChange b isOpen s = _
    unfold execServiceDoorChange State.whenUp
    simp only [hup, if_true]
    rw [if_neg hnew]
    rfl
  obtain ⟨t, e, ht⟩ := done_resealed s (notify (.door b false isOpen)
    (setCause .serviceDoor isOpen b (s.modBay b (linedBay fun l => { l with serviceDoor := .start isOpen }))))
  have hlined := Becomes.modBay b s (linedBay fun l => { l with serviceDoor := .start isOpen })
  have hbay := State.bay_modBay_self s b (linedBay fun l => { l with serviceDoor := .start isOpen })
  generalize s.modBay b (linedBay fun l => { l with serviceDoor := .start isOpen }) = u at *
  obtain ⟨y, hy, hlines, hcauses, hidle, hstays⟩ := setCause_becomes (k := .serviceDoor) ⟨nofun, nofun⟩ isOpen b u
  have hctx : u.ctx b = s.ctx b := (congrArg Bay.ctx hbay).trans rfl
  rw [hctx] at hcauses hidle hstays
  have htbay : ∀ c, t.bay c = (setCause .serviceDoor isOpen b u).bay c := fun c => ht.bay c
  have hstate : (t.ctx b).state = y.ctx.state := by
    rw [State.ctx, htbay]
    exact hy.field (fun y => y.ctx.state) fun _ => rfl
  rw [← hstate] at hidle hstays
  refine ⟨t, hexec.trans e, fun c hc => (htbay c).trans ((hy.others c hc).trans (hlined.others c hc)),
    ht.tariff.trans (hy.tariff.trans hlined.tariff), ht.journal.trans (hy.journal.trans hlined.journal), ?_, ?_, hidle, hstays⟩
  · rw [htbay, hy.field Bay.lines fun _ => rfl, hlines, hbay]
    rfl
  · rw [State.ctx, htbay]
    exact (hy.field (fun y => y.ctx.causes) fun _ => rfl).trans hcauses

theorem boxDoor_changes {isOpen : Bool} (hup : s.up = true) (hnew : (s.bay b).lines.boxDoor.accepted ≠ isOpen) :
    ∃ t, exec (.boxDoorChange b isOpen) s = .next t ∧ OtherBays b s t ∧ t.tariff = s.tariff ∧ t.journal = s.journal
      ∧ t.bay b = { s.bay b with lines := { (s.bay b).lines with boxDoor := ⟨isOpen, isOpen⟩ } } := by
  refine ⟨notify (.door b true isOpen) (s.modBay b (linedBay fun l => { l with boxDoor := .start isOpen })), ?_,
    fun c hc => State.bay_modBay_ne s hc _, rfl, rfl, State.bay_modBay_self s b _⟩
  show execBoxDoorChange b isOpen s = _
  unfold execBoxDoorChange State.whenUp
  rw [if_pos hup, if_neg hnew]
  rfl

/-! ### The supply warning (R82, R207) -/

theorem maskOf_low (h : s.supplyLow = true) (b : BayNo) : s.maskOf b = [] := by
  have hshut : s.maskShut b = true := by
    unfold State.maskShut
    simp only [h, Bool.or_true, Bool.true_or]
  exact if_pos hshut

/-- Under the supply warning every mask recomputed is empty. -/
theorem masks_shut (l : List BayNo) (s : State) (h : s.supplyLow = true) :
    let t := l.foldl (fun t b => recomputeMask b t) s
    t = { s with bays := t.bays } ∧ (∀ b ∈ l, t.bay b = { s.bay b with mask := [] }) ∧ ∀ b, b ∉ l → t.bay b = s.bay b := by
  induction l generalizing s with
  | nil => exact ⟨rfl, nofun, fun _ _ => rfl⟩
  | cons a l ih =>
    obtain ⟨hrest, hin, hout⟩ := ih (recomputeMask a s) h
    have hself : (recomputeMask a s).bay a = { s.bay a with mask := [] } := by
      rw [recomputeMask, State.bay_modBay_self, maskOf_low h]
    have hother : OtherBays a s (recomputeMask a s) := fun c hc => State.bay_modBay_ne s hc _
    dsimp only [List.foldl_cons] at hrest hin hout ⊢
    generalize l.foldl (fun t b => recomputeMask b t) (recomputeMask a s) = t at hrest hin hout
    refine ⟨hrest, fun b hb => ?_, fun b hb => ?_⟩
    · by_cases hl : b ∈ l
      · rw [hin b hl]
        by_cases hba : b = a
        · rw [hba, hself]
        · rw [hother b hba]
      · have hba : b = a := (List.mem_cons.mp hb).resolve_right hl
        rw [hout b hl, hba, hself]
    · rw [hout b fun hl => hb (List.mem_cons_of_mem a hl)]
      exact hother b fun hba => hb (hba ▸ List.mem_cons_self ..)

theorem mem_allBays (b : BayNo) : b ∈ allBays := by
  revert b
  decide

theorem supply_shuts (hup : s.up = true) (hgood : s.time.supply.accepted = false) :
    ∃ t, exec (.supplyWarningChange true) s = .next t ∧ t.supplyLow = true ∧ t.tariff = s.tariff ∧ t.card = s.card
      ∧ t.link = s.link ∧ ∀ b, t.bay b = { s.bay b with mask := [] } := by
  obtain ⟨hrest, hmasks, -⟩ := masks_shut allBays { s with time := { s.time with supply := .start true } } rfl
  have hexec : exec (.supplyWarningChange true) s = done s (settleErase
      (allBays.foldl (fun t b => recomputeMask b t) { s with time := { s.time with supply := .start true } })) := by
    show execSupplyWarningChange true s = _
    unfold execSupplyWarningChange State.whenUp
    simp only [hup, hgood, if_true]
    rfl
  rw [hexec]
  dsimp only at hrest
  generalize allBays.foldl (fun t b => recomputeMask b t) { s with time := { s.time with supply := .start true } } = u at *
  obtain ⟨t, e, ht⟩ := done_resealed s (settleErase u)
  have hkept : u.tariff = s.tariff ∧ u.card = s.card ∧ u.link = s.link := by
    rw [hrest]
    exact ⟨rfl, rfl, rfl⟩
  obtain ⟨htariff, hcard, hlink⟩ := hkept
  refine ⟨t, e, ?_, ht.tariff.trans htariff, ht.card.trans hcard, ht.link.trans hlink, fun b => (ht.bay b).trans (hmasks b (mem_allBays b))⟩
  rw [State.supplyLow, ht.time]
  show u.time.supply.accepted = true
  rw [hrest]
  rfl

/-! ### The second (R203) -/

/-- A second later, and no later than the last second of day 65,535. -/
theorem tick_advances {c : Calendar} (hday : c.day ≤ 65535) (hminute : c.minute ≤ 1439) (hsecond : c.second ≤ 59) :
    c.tick.seconds = min (c.seconds + 1) 5662310399 ∧ c.tick.day ≤ 65535 ∧ c.tick.minute ≤ 1439 ∧ c.tick.second ≤ 59 := by
  have hmax : Config.maxDay = 65535 := rfl
  unfold Calendar.tick Calendar.seconds
  split
  · dsimp only
    omega
  · split
    · dsimp only
      omega
    · split
      · dsimp only
        omega
      · omega

/-! ### Boxes (R101 to R104) -/

/-- A record whose closure slot is l. -/
def slottedBay (l : List Closure) (y : Bay) : Bay := { y with box := { y.box with slot := l } }

theorem askBox_turns (b : BayNo) (s : State) : ∃ l, Turns b s (askBox b s) (slottedBay l (s.bay b)) := by
  unfold askBox
  split
  next c rest _ =>
    split
    · exact ⟨_, .refl b s⟩
    · split
      · exact ⟨_, .of_bays rfl rfl rfl rfl⟩
      · exact ⟨_, (Becomes.modBay b s (slottedBay ({ c with requested := s.appendRoom } :: rest))).turns.shown (append_turns b _ _)⟩
  next => exact ⟨_, .refl b s⟩

/-- The record of a box alone in its slot is asked for. -/
theorem askBox_asks {x : BoxRecord} (hslot : (s.bay b).box.slot = [⟨x, false⟩]) (hroom : s.journal.queue.length < 16)
    (hwaits : ∀ q ∈ s.journal.waitList, q.requester ≠ .box b) :
    ⟨.box x, some b, .box b⟩ ∈ (askBox b s).journal.queue := by
  have hno : s.journal.waitList.any (Append.isBoxOf b) = false := by
    rw [List.any_eq_false]
    intro q hq h
    exact hwaits q hq (eq_of_beq h)
  have heq : askBox b s = append ⟨.box x, some b, .box b⟩
      (s.modBay b fun y => { y with box := { y.box with slot := [⟨x, s.appendRoom⟩] } }) := by
    unfold askBox
    simp only [hslot, hno, Bool.false_eq_true, if_false]
  rw [heq]
  generalize hr : (⟨.box x, some b, .box b⟩ : Machine.Append) = r
  have hroom' : (s.modBay b fun y => { y with box := { y.box with slot := [⟨x, s.appendRoom⟩] } }).journal.queue.length < 16 := hroom
  generalize s.modBay b (fun y => { y with box := { y.box with slot := [⟨x, s.appendRoom⟩] } }) = u at hroom'
  have hlists := congrArg Prod.fst (append_queue (r := r) (by rw [← hr]; rfl) (by rw [← hr]; rfl) u)
  rw [if_pos hroom'] at hlists
  rw [show (append r u).journal.queue = u.journal.queue ++ [r] from hlists]
  exact List.mem_append_right _ (List.mem_singleton.mpr rfl)

/-- The record of the box of y, whose period closes. -/
def boxRecordOf (site : List (List Byte)) (y : Bay) : BoxRecord :=
  ⟨y.box.period, y.box.counts, totalValue site y.box.counts, false⟩

/-- A record whose box is gone, its period closed. -/
def boxlessBay (site : List (List Byte)) (y : Bay) : Bay :=
  { y with box :=
    { y.box with
      slot := addClosure y.box.slot (boxRecordOf site y), period := y.box.period + 1, counts := Vector.replicate 9 0, present := false } }

theorem removeBox_turns (b : BayNo) (s : State) :
    (∃ l, Turns b s (removeBox b s) (slottedBay l (boxlessBay s.site (s.bay b))))
    ∧ ((s.bay b).box.slot = [] → s.journal.queue.length < 16 → (∀ q ∈ s.journal.waitList, q.requester ≠ .box b) →
        ⟨.box (boxRecordOf s.site (s.bay b)), some b, .box b⟩ ∈ (removeBox b s).journal.queue) := by
  have hclosed : closePeriod b s = s.modBay b (boxlessBay s.site) := rfl
  have hturns := (Becomes.modBay b s (boxlessBay s.site)).turns.shown (notify_turns b _ (.box b false (s.bay b).box.period))
  have hbay : (notify (.box b false (s.bay b).box.period) (s.modBay b (boxlessBay s.site))).bay b = boxlessBay s.site (s.bay b) :=
    State.bay_modBay_self s b _
  have hjournal : (notify (.box b false (s.bay b).box.period) (s.modBay b (boxlessBay s.site))).journal = s.journal := rfl
  unfold removeBox
  dsimp only
  rw [hclosed]
  generalize notify (.box b false (s.bay b).box.period) (s.modBay b (boxlessBay s.site)) = u at hturns hbay hjournal
  obtain ⟨l, hasked⟩ := askBox_turns b u
  refine ⟨⟨l, hturns.step (g := slottedBay l) hasked fun _ => rfl⟩, fun hslot hroom hwaits => ?_⟩
  refine askBox_asks ?_ (by rw [hjournal]; exact hroom) (by rw [hjournal]; exact hwaits)
  rw [hbay]
  show addClosure (s.bay b).box.slot _ = _
  rw [hslot]
  rfl

/-- What BOX_ABSENT that joins leads to, its bay's box and tubes and the append queue kept. -/
theorem boxAbsent_leads (b : BayNo) (s : State) :
    let t := recomputeMask b (joinCause .boxAbsent b s)
    (∃ y, Turns b s t y ∧ y.box = (s.bay b).box ∧ y.lines = (s.bay b).lines ∧ y.tubes = (s.bay b).tubes
      ∧ y.ctx.causes.boxAbsent = true)
    ∧ (∀ q ∈ s.journal.queue, q ∈ t.journal.queue)
    ∧ ((s.ctx b).causes.boxAbsent = false →
        ((s.ctx b).state = .idle → (t.ctx b).state = .outOfService)
        ∧ ((s.ctx b).wait ≠ .places → (s.ctx b).state.isEarly = true → Cancelled s t b)
        ∧ ((s.ctx b).state ≠ .idle → (s.ctx b).state.isEarly = false → (t.ctx b).state = (s.ctx b).state)) := by
  dsimp only
  cases hhas : (s.ctx b).causes.boxAbsent with
  | true =>
    have heq : joinCause .boxAbsent b s = s := if_pos hhas
    rw [heq]
    exact ⟨⟨_, (recomputeMask_becomes b s).turns, rfl, rfl, rfl, hhas⟩, fun q hq => hq, nofun⟩
  | false =>
    obtain ⟨hidle, hearly, hlate⟩ := boxAbsent_joins hhas
    have hsimple : ∀ y, Becomes b s (joinCause .boxAbsent b s) y → y.box = (s.bay b).box → y.lines = (s.bay b).lines →
        y.tubes = (s.bay b).tubes → y.ctx.causes.boxAbsent = true →
        (∃ y, Turns b s (recomputeMask b (joinCause .boxAbsent b s)) y ∧ y.box = (s.bay b).box ∧ y.lines = (s.bay b).lines
          ∧ y.tubes = (s.bay b).tubes ∧ y.ctx.causes.boxAbsent = true)
        ∧ (∀ q ∈ s.journal.queue, q ∈ (recomputeMask b (joinCause .boxAbsent b s)).journal.queue)
        ∧ ((recomputeMask b (joinCause .boxAbsent b s)).ctx b).state = y.ctx.state := fun y hy hbox hlines htubes hcause => by
      have h := hy.shown (recomputeMask_becomes b _)
      exact ⟨⟨y, h.turns, hbox, hlines, htubes, hcause⟩, fun q hq => by rw [h.journal]; exact hq,
        h.field (fun y => y.ctx.state) fun _ => rfl⟩
    by_cases hi : (s.ctx b).state = .idle
    · obtain ⟨hkept, hqueue, hstate⟩ := hsimple _ (hidle hi) rfl rfl rfl rfl
      exact ⟨hkept, hqueue, fun _ => ⟨fun _ => hstate, (fun _ he => by rw [hi] at he; cases he),
        fun hno => absurd hi hno⟩⟩
    · by_cases he : (s.ctx b).wait ≠ .places ∧ (s.ctx b).state.isEarly = true
      · obtain ⟨htakes, hstate⟩ := he
        obtain ⟨u, hu, heq⟩ := hearly htakes hstate
        rw [heq]
        obtain ⟨y, hy, hbox, hlines, htubes, hcauses⟩ := enterRefund_keeps b u
        have hcancelled := cancelled_enterRefund b u
        have hqueue := fun q (h : q ∈ u.journal.queue) => mem_queue_enterRefund (b := b) h
        generalize enterRefund b u = v at hy hcancelled hqueue
        have hmask := (recomputeMask_becomes b v).shown (recomputeMask_becomes b _)
        generalize recomputeMask b (recomputeMask b v) = x at hmask
        have hread := fun {α : Type} (p : Bay → α) (hp : ∀ x, p (core x) = p x) => hu.field p hp
        refine ⟨⟨y, (hy.shown hmask.turns).behind hu.turns, hbox.trans (hread Bay.box fun _ => rfl),
            hlines.trans (hread Bay.lines fun _ => rfl), htubes.trans (hread Bay.tubes fun _ => rfl), ?_⟩, fun q hq => ?_,
          fun _ => ⟨fun h => absurd h hi, fun _ _ => ?_, (fun _ hno => by rw [hstate] at hno; cases hno)⟩⟩
        · rw [hcauses]
          exact hread (fun y => y.ctx.causes.boxAbsent) fun _ => rfl
        · rw [hmask.journal]
          exact hqueue q (by rw [hu.journal]; exact hq)
        · exact cancelled_since (cancelled_turn hcancelled hmask.turns rfl rfl rfl rfl rfl rfl)
            (hread (fun y => y.ctx.overflowValue) fun _ => rfl) (hread (fun y => y.escrow.pulse) fun _ => rfl) hu.time
      · obtain ⟨hkept, hqueue, hstate⟩ := hsimple _ (hlate hi he) rfl rfl rfl rfl
        exact ⟨hkept, hqueue, fun _ => ⟨fun h => absurd h hi, fun ht hs => absurd ⟨ht, hs⟩ he, fun _ _ => hstate⟩⟩

theorem cancelled_resealed {u : State} (h : Cancelled s u b) (ht : Resealed u t) : Cancelled s t b := by
  rw [ht]
  exact h

theorem box_removed (hup : s.up = true) (hline : (s.bay b).lines.boxPresent.accepted = true)
    (hpresent : (s.bay b).box.present = true) :
    ∃ t, exec (.boxRemoved b) s = .next t ∧ OtherContexts b s t ∧ (t.ctx b).causes.boxAbsent = true
      ∧ (t.bay b).box.present = false ∧ (t.bay b).box.period = (s.bay b).box.period + 1
      ∧ (t.bay b).box.counts = Vector.replicate 9 0 ∧ (t.bay b).lines.boxPresent.accepted = false
      ∧ (t.bay b).tubes = (s.bay b).tubes
      ∧ ((s.bay b).box.slot = [] → s.journal.queue.length < 16 → (∀ q ∈ s.journal.waitList, q.requester ≠ .box b) →
          ∃ r ∈ t.journal.queue, r.requester = .box b ∧ r.body = .box (boxRecordOf s.site (s.bay b)))
      ∧ ((s.ctx b).causes.boxAbsent = false →
          ((s.ctx b).state = .idle → (t.ctx b).state = .outOfService)
          ∧ ((s.ctx b).wait ≠ .places → (s.ctx b).state ∈ [.opening, .cardRead, .pricing, .priced, .tender] → Cancelled s t b)
          ∧ ((s.ctx b).state ∈ [.cardWrite, .tearWait, .commit, .payout, .print, .refund] →
              (t.ctx b).state = (s.ctx b).state)) := by
  have hlined := Becomes.modBay b s (linedBay fun l => { l with boxPresent := .start false })
  have hbay := State.bay_modBay_self s b (linedBay fun l => { l with boxPresent := .start false })
  have hexec : exec (.boxRemoved b) s = done s (recomputeMask b (joinCause .boxAbsent b
      (removeBox b (s.modBay b (linedBay fun l => { l with boxPresent := .start false }))))) := by
    show execBoxRemoved b s = _
    have hpresent' : ((s.modBay b (linedBay fun l => { l with boxPresent := .start false })).bay b).box.present = true := by
      rw [hbay]
      exact hpresent
    unfold execBoxRemoved State.whenUp
    rw [if_pos hup, if_pos hline]
    show done s (recomputeMask b (joinCause .boxAbsent b
      (if ((s.modBay b (linedBay fun l => { l with boxPresent := .start false })).bay b).box.present then _ else _))) = _
    rw [hpresent', if_pos rfl]
    rfl
  rw [hexec]
  generalize s.modBay b (linedBay fun l => { l with boxPresent := .start false }) = u at *
  obtain ⟨⟨l, hremoved⟩, hasks⟩ := removeBox_turns b u
  rw [hlined.site, hbay] at hremoved hasks
  rw [hlined.journal] at hasks
  generalize removeBox b u = v at hremoved hasks
  obtain ⟨⟨y, hy, hbox, hlines, htubes, hcause⟩, hqueue, hleads⟩ := boxAbsent_leads b v
  generalize recomputeMask b (joinCause .boxAbsent b v) = w at hy hqueue hleads
  obtain ⟨t, e, ht⟩ := done_resealed s w
  have hread := fun {α : Type} (p : Bay → α) (hp : ∀ x, p (core x) = p x) => (congrArg p (ht.bay b)).trans (hy.field p hp)
  have hbefore := fun {α : Type} (p : Bay → α) (hp : ∀ x, p (core x) = p x) => hremoved.field p hp
  have hbox' : (t.bay b).box = (slottedBay l (boxlessBay s.site (s.bay b))).box :=
    (hread Bay.box fun _ => rfl).trans (hbox.trans (hbefore Bay.box fun _ => rfl))
  have hstate' : (t.ctx b).state = (w.ctx b).state := by rw [ht.ctx]
  have hstate : (v.ctx b).state = (s.ctx b).state := hbefore (fun y => y.ctx.state) fun _ => rfl
  have hcauses : (v.ctx b).causes = (s.ctx b).causes := hbefore (fun y => y.ctx.causes) fun _ => rfl
  have hwait : (v.ctx b).wait = (s.ctx b).wait := hbefore (fun y => y.ctx.wait) fun _ => rfl
  rw [hstate, hcauses, hwait] at hleads
  refine ⟨t, e, fun c hc => congrArg Bay.ctx ((ht.bay c).trans ((hy.others c hc).trans ((hremoved.others c hc).trans
      (hlined.others c hc)))), (hread (fun y => y.ctx.causes.boxAbsent) fun _ => rfl).trans hcause,
    congrArg Box.present hbox', congrArg Box.period hbox', congrArg Box.counts hbox', ?_, ?_, fun hslot hroom hwaits => ?_,
    fun hno => ?_⟩
  · rw [hread Bay.lines fun _ => rfl, hlines, hbefore Bay.lines fun _ => rfl]
    rfl
  · rw [hread Bay.tubes fun _ => rfl, htubes, hbefore Bay.tubes fun _ => rfl]
    rfl
  · exact ⟨_, ht.journal ▸ hqueue _ (hasks hslot hroom hwaits), rfl, rfl⟩
  · obtain ⟨hidle, hearly, hlate⟩ := hleads hno
    rw [hstate']
    refine ⟨hidle, fun htakes hin => ?_, fun hin => hlate ?_ ?_⟩
    · refine cancelled_resealed (cancelled_since (hearly htakes ?_) (hbefore (fun y => y.ctx.overflowValue) fun _ => rfl)
        (hbefore (fun y => y.escrow.pulse) fun _ => rfl) (hremoved.time.trans hlined.time)) ht
      revert hin
      generalize (s.ctx b).state = st
      revert st
      decide
    · intro hi
      rw [hi] at hin
      revert hin
      decide
    · revert hin
      generalize (s.ctx b).state = st
      cases st <;> decide

/-- A record whose box is there again, its hold counts in its counts. -/
def boxedBay (y : Bay) : Bay :=
  { y with box := { y.box with counts := addCounts y.box.counts y.box.holds, holds := Vector.replicate 9 0, present := true } }

theorem addCounts_get (v w : Vector Nat 9) (i : Fin 9) : (addCounts v w)[i] = min (v[i] + w[i]) 65535 := by
  unfold addCounts
  simp only [Fin.getElem_fin, Vector.getElem_zipWith]
  rfl

theorem box_inserted (hup : s.up = true) (hline : (s.bay b).lines.boxPresent.accepted = false)
    (habsent : (s.bay b).box.present = false) :
    ∃ t, exec (.boxInserted b) s = .next t ∧ OtherBays b s t ∧ (t.bay b).box.present = true
      ∧ (t.bay b).box.period = (s.bay b).box.period ∧ (t.bay b).box.holds = Vector.replicate 9 0
      ∧ (∀ i : Fin 9, (t.bay b).box.counts[i] = min ((s.bay b).box.counts[i] + (s.bay b).box.holds[i]) 65535)
      ∧ (t.ctx b).causes = { (s.ctx b).causes with boxAbsent := false }
      ∧ (t.ctx b).state = (s.ctx b).state := by
  have hlined := Becomes.modBay b s (linedBay fun l => { l with boxPresent := .start true })
  have hbay := State.bay_modBay_self s b (linedBay fun l => { l with boxPresent := .start true })
  have hexec : exec (.boxInserted b) s = done s (leaveCause .boxAbsent b
      (insertBox b (s.modBay b (linedBay fun l => { l with boxPresent := .start true })))) := by
    show execBoxInserted b s = _
    have habsent' : ¬ ((s.modBay b (linedBay fun l => { l with boxPresent := .start true })).bay b).box.present = true := by
      rw [hbay]
      exact fun h => Bool.false_ne_true (habsent.symm.trans h)
    unfold execBoxInserted State.whenUp
    rw [if_pos hup, if_neg (by rw [hline]; decide)]
    show done s (leaveCause .boxAbsent b
      (if ((s.modBay b (linedBay fun l => { l with boxPresent := .start true })).bay b).box.present then _ else _)) = _
    rw [if_neg habsent']
    rfl
  rw [hexec]
  generalize s.modBay b (linedBay fun l => { l with boxPresent := .start true }) = u at *
  have hinserted : Turns b u (insertBox b u) (boxedBay (u.bay b)) := (Becomes.modBay b u boxedBay).turns.shown (notify_turns b _ _)
  have hleft := (hinserted.step (g := causedBay .boxAbsent false) (leaveCause_becomes .boxAbsent b _).turns fun _ => rfl).behind hlined.turns
  generalize leaveCause .boxAbsent b (insertBox b u) = w at hleft
  obtain ⟨t, e, ht⟩ := done_resealed s w
  have hread := fun {α : Type} (p : Bay → α) (hp : ∀ x, p (core x) = p x) => (congrArg p (ht.bay b)).trans (hleft.field p hp)
  have hbox : (t.bay b).box = (boxedBay (s.bay b)).box := by
    rw [hread Bay.box fun _ => rfl, hbay]
    rfl
  refine ⟨t, e, fun c hc => (ht.bay c).trans (hleft.others c hc), congrArg Box.present hbox,
    (congrArg Box.period hbox).trans rfl, congrArg Box.holds hbox, fun i => ?_, ?_, ?_⟩
  · rw [hbox]
    exact addCounts_get _ _ i
  · refine (hread (fun y => y.ctx.causes) fun _ => rfl).trans ?_
    rw [hbay]
    rfl
  · refine (hread (fun y => y.ctx.state) fun _ => rfl).trans ?_
    rw [hbay]
    rfl

/-- Settles O55. -/
theorem cabinetLinesBoxesAndSecondAct : Obligations.CabinetLinesBoxesAndSecondAct :=
  ⟨⟨fun _ _ _ hup => ⟨serviceDoor_changes hup, boxDoor_changes hup⟩, fun s => ⟨supply_shuts, fun hup x => by
      show execAuditSwitchChange x s = _
      unfold execAuditSwitchChange State.whenUp
      rw [if_pos hup]
      rfl, ⟨_, rfl, rfl, tick_advances⟩⟩⟩,
    fun _ _ hup => ⟨box_removed hup, box_inserted hup⟩⟩

end

end Sys2Proof.Proofs

/-! PROOFS. The block table, the lowest block in a state, and what the engine takes (R151, R156 to R158). -/

namespace Sys2Proof.Proofs

open Sys2Proof Sys2Proof.Machine Sys2Proof.Laws

section
variable {j k : Journal} {i m : Nat} {st : BlockState} {q : Machine.Append}

/-! ### Rows and blocks (R151) -/

theorem modRow_row_self (h : i < 32) (j : Journal) (f : Row → Row) : (j.modRow i f).row i = f (j.row i) := by
  unfold Journal.modRow Journal.row
  rw [dif_pos h]
  simp [h]

theorem modRow_row_ne (h : m ≠ i) (j : Journal) (f : Row → Row) : (j.modRow i f).row m = j.row m := by
  unfold Journal.modRow Journal.row
  split
  · simp [List.getD_eq_getElem?_getD, Ne.symm h]
  · rfl

theorem modBlock_block_self (h : i < 32) (j : Journal) (f : Block → Block) : (j.modBlock i f).block i = f (j.block i) := by
  unfold Journal.modBlock Journal.block
  rw [dif_pos h]
  simp [h]

theorem modBlock_block_ne (h : m ≠ i) (j : Journal) (f : Block → Block) : (j.modBlock i f).block m = j.block m := by
  unfold Journal.modBlock Journal.block
  split
  · simp [List.getD_eq_getElem?_getD, Ne.symm h]
  · rfl

theorem modBlock_row (j : Journal) (i m : Nat) (f : Block → Block) : (j.modBlock i f).row m = j.row m := by
  unfold Journal.modBlock
  split <;> rfl

theorem modRow_block (j : Journal) (i m : Nat) (f : Row → Row) : (j.modRow i f).block m = j.block m := by
  unfold Journal.modRow
  split <;> rfl

/-! ### The lowest block in a state -/

theorem firstIndex_iff {α : Type} (p : α → Bool) (d : α) (xs : List α) (n i : Nat) :
    firstIndex (fun _ x => p x) n xs = some i ↔
      n ≤ i ∧ i - n < xs.length ∧ p (xs.getD (i - n) d) = true ∧ ∀ m, m < i - n → p (xs.getD m d) = false := by
  induction xs generalizing n with
  | nil => simp [firstIndex]
  | cons x xs ih =>
    unfold firstIndex
    cases hx : p x with
    | true =>
      rw [if_pos rfl]
      constructor
      · intro h
        obtain rfl := Option.some.inj h
        simp [hx]
      · rintro ⟨hle, -, -, hbefore⟩
        have hzero : ¬ 0 < i - n := fun hpos => by
          have hfirst := hbefore 0 hpos
          rw [show (x :: xs).getD 0 d = x from rfl, hx] at hfirst
          cases hfirst
        rw [show n = i by omega]
    | false =>
      rw [if_neg (by decide), ih]
      constructor
      · rintro ⟨hle, hlen, hat, hbefore⟩
        have hsucc : i - n = i - (n + 1) + 1 := by omega
        rw [hsucc]
        refine ⟨by omega, by rw [List.length_cons]; omega, hat, fun m hm => ?_⟩
        cases m with
        | zero => exact hx
        | succ m => exact hbefore m (by omega)
      · rintro ⟨hle, hlen, hat, hbefore⟩
        have hne : i ≠ n := by
          rintro rfl
          rw [Nat.sub_self, show (x :: xs).getD 0 d = x from rfl, hx] at hat
          cases hat
        have hsucc : i - n = i - (n + 1) + 1 := by omega
        rw [hsucc] at hlen hat hbefore
        exact ⟨by omega, by rw [List.length_cons] at hlen; omega, hat, fun m hm => hbefore (m + 1) (by omega)⟩

theorem lowest_iff : j.lowest st = some i ↔ i < 32 ∧ (j.row i).state = st ∧ ∀ m < i, (j.row m).state ≠ st := by
  unfold Journal.lowest
  rw [firstIndex_iff (fun r : Row => decide (r.state = st)) .erased]
  have hlen : j.rows.toList.length = 32 := by simp
  simp only [Nat.sub_zero, Nat.zero_le, true_and, hlen, decide_eq_true_eq, decide_eq_false_iff_not]
  rfl

theorem lowest_none_iff : j.lowest st = none ↔ ∀ m < 32, (j.row m).state ≠ st := by
  constructor
  · intro h m
    induction m using Nat.strong_induction_on with
    | _ m ih =>
      intro hm hstate
      have hsome := lowest_iff.mpr ⟨hm, hstate, fun k hk => ih k hk (by omega)⟩
      rw [h] at hsome
      cases hsome
  · intro h
    cases hlow : j.lowest st with
    | none => rfl
    | some i =>
      obtain ⟨hi, hstate, -⟩ := lowest_iff.mp hlow
      exact absurd hstate (h i hi)

theorem lowest_exists (hi : i < 32) (hstate : (j.row i).state = st) : ∃ m, j.lowest st = some m := by
  cases h : j.lowest st with
  | some m => exact ⟨m, rfl⟩
  | none => exact absurd hstate (lowest_none_iff.mp h i hi)

/-- The lowest block in a state depends on the states alone. -/
theorem lowest_congr (h : ∀ m < 32, ((j.row m).state = st ↔ (k.row m).state = st)) : j.lowest st = k.lowest st := by
  cases hk : k.lowest st with
  | none => exact lowest_none_iff.mpr fun m hm hs => lowest_none_iff.mp hk m hm ((h m hm).mp hs)
  | some i =>
    obtain ⟨hi, hstate, hbefore⟩ := lowest_iff.mp hk
    exact lowest_iff.mpr ⟨hi, (h i hi).mpr hstate, fun m hm hs => hbefore m hm ((h m (by omega)).mp hs)⟩

/-! ### What the engine takes (R156 to R158) -/

/-- The journal behind a head that the idle engine finds. -/
def taken (j : Journal) (r : Machine.Append) (time : Calendar) (isSet : Bool) : Journal :=
  if j.full then j
  else if j.fits r then j.beginWrite r time isSet
  else j.closeActive.activate.elim { j with full := true } fun j' => j'.beginWrite r time isSet

theorem engineTake_journal (s : State) : (engineTake s).journal = s.journal ∧ (s.journal.writing ≠ none ∨ s.journal.queue = [])
    ∨ ∃ r rest, s.journal.writing = none ∧ s.journal.queue = r :: rest
      ∧ (engineTake s).journal = taken s.journal r s.time.calendar s.time.isSet := by
  unfold engineTake
  dsimp only
  split
  next r rest hwriting hqueue =>
    refine .inr ⟨r, rest, hwriting, hqueue, ?_⟩
    unfold taken
    split
    · rfl
    · split
      · rfl
      · split
        next j' hj' =>
          rw [notify?_journal, hj']
          rfl
        next hnone =>
          rw [hnone]
          rfl
  next hno =>
    refine .inl ⟨rfl, ?_⟩
    cases hwriting : s.journal.writing with
    | some w => exact .inl nofun
    | none =>
      cases hqueue : s.journal.queue with
      | nil => exact .inr rfl
      | cons r rest => exact absurd hqueue (hno r rest hwriting)

theorem closeActive_of_lowest (h : j.lowest .active = some i) : j.closeActive =
    (j.modBlock i fun b => { b with marker := some .full }).modRow i fun r => { r with state := .full, nextFree := none } := by
  unfold Journal.closeActive
  simp only [h]

theorem closeActive_row_self (h : j.lowest .active = some i) :
    j.closeActive.row i = { j.row i with state := .full, nextFree := none } := by
  obtain ⟨hi, -, -⟩ := lowest_iff.mp h
  rw [closeActive_of_lowest h, modRow_row_self hi, modBlock_row]

theorem closeActive_row_ne (h : j.lowest .active = some i) (hm : m ≠ i) : j.closeActive.row m = j.row m := by
  rw [closeActive_of_lowest h, modRow_row_ne hm, modBlock_row]

theorem closeActive_block_self (h : j.lowest .active = some i) :
    j.closeActive.block i = { j.block i with marker := some .full } := by
  obtain ⟨hi, -, -⟩ := lowest_iff.mp h
  rw [closeActive_of_lowest h, modRow_block, modBlock_block_self hi]

theorem closeActive_block_ne (h : j.lowest .active = some i) (hm : m ≠ i) : j.closeActive.block m = j.block m := by
  rw [closeActive_of_lowest h, modRow_block, modBlock_block_ne hm]

/-- Closing changes no count but the states. -/
theorem closeActive_keeps (j : Journal) : j.closeActive = { j with store := j.closeActive.store, rows := j.closeActive.rows } := by
  unfold Journal.closeActive Journal.modBlock Journal.modRow
  split
  · split <;> rfl
  · rfl

theorem closeActive_field {α : Type} (p : Journal → α) (hp : ∀ j b r, p { j with store := b, rows := r } = p j) (j : Journal) :
    p j.closeActive = p j := by
  rw [closeActive_keeps]
  exact hp j _ _

/-- A closed block is not ERASED, and the ERASED blocks stay. -/
theorem closeActive_erased (j : Journal) (m : Nat) : (j.closeActive.row m).state = .erased ↔ (j.row m).state = .erased := by
  cases h : j.lowest .active with
  | none =>
    have hsame : j.closeActive = j := by
      unfold Journal.closeActive
      simp only [h]
    rw [hsame]
  | some i =>
    obtain ⟨-, hstate, -⟩ := lowest_iff.mp h
    by_cases hm : m = i
    · rw [hm, closeActive_row_self h, hstate]
      exact ⟨nofun, nofun⟩
    · rw [closeActive_row_ne h hm]

theorem closeActive_lowest_erased (j : Journal) : j.closeActive.lowest .erased = j.lowest .erased :=
  lowest_congr fun m _ => closeActive_erased j m

/-- The block that is activated. -/
theorem activate_of_lowest (h : j.lowest .erased = some i) : ∃ j', j.activate = some j'
    ∧ j'.row i = ⟨.active, some j.nextBlockSeq, some (j.last + 1), none, none, some 1, 0⟩
    ∧ j'.block i = ⟨.good j.nextBlockSeq (j.last + 1), some .active, []⟩
    ∧ (∀ m, m ≠ i → j'.row m = j.row m ∧ j'.block m = j.block m)
    ∧ j'.nextBlockSeq = j.nextBlockSeq + 1
    ∧ ∀ {α : Type} (p : Journal → α), (∀ j b r n, p { j with store := b, rows := r, nextBlockSeq := n } = p j) → p j' = p j := by
  obtain ⟨hi, -, -⟩ := lowest_iff.mp h
  generalize hr : (⟨.active, some j.nextBlockSeq, some (j.last + 1), none, none, some 1, 0⟩ : Row) = r
  generalize hb : (⟨.good j.nextBlockSeq (j.last + 1), some .active, []⟩ : Block) = b
  refine ⟨{ (j.modBlock i fun _ => b).modRow i fun _ => r with nextBlockSeq := j.nextBlockSeq + 1 }, ?_, ?_, ?_, fun m hm => ⟨?_, ?_⟩,
    rfl, fun p hp => ?_⟩
  · unfold Journal.activate
    simp only [h, hr, hb]
  · exact modRow_row_self hi _ _
  · exact (modRow_block _ i i _).trans (modBlock_block_self hi _ _)
  · exact (modRow_row_ne hm _ _).trans (modBlock_row _ _ _ _)
  · exact (modRow_block _ i m _).trans (modBlock_block_ne hm _ _)
  · unfold Journal.modBlock Journal.modRow
    simp only [dif_pos hi]
    exact hp j _ _ _

theorem activate_none (h : j.lowest .erased = none) : j.activate = none := by
  unfold Journal.activate
  simp only [h]

/-- A record takes at most 6 units. -/
theorem units_le (x : Body) : x.units ≤ 6 := by
  have hbit : ∀ c : Bool, bit c ≤ 1 := by decide
  cases x with
  | sale y =>
    have h := hbit (decide (3 < y.coins.length))
    have h' := hbit y.card.isSome
    have h'' := hbit (y.pass.isSome || y.topup.isSome || y.authRef.isSome)
    show 3 + _ + _ + _ ≤ 6
    omega
  | box r =>
    unfold Body.units
    dsimp only
    split
    · omega
    · split <;> omega
  | _ => exact Nat.le_of_ble_eq_true rfl

theorem fits_iff {n : Nat} (h : j.lowest .active = some i) (hfree : (j.row i).nextFree = some n) :
    j.fits q = true ↔ q.body.units + n ≤ 512 := by
  unfold Journal.fits
  simp only [h, hfree, decide_eq_true_eq]
  rfl

end

end Sys2Proof.Proofs

/-! PROOFS. Erases (R158, R160 to R163). -/

namespace Sys2Proof.Proofs

open Sys2Proof Sys2Proof.Machine Sys2Proof.Laws

section
variable {j k : Journal} {i spent : Nat} {since : Ms} {s : State}

/-! ### The beginning of an erase (R160) -/

theorem modRow_keeps (j : Journal) (i : Nat) (f : Row → Row) : j.modRow i f = { j with rows := (j.modRow i f).rows } := by
  unfold Journal.modRow
  split <;> rfl

theorem modBlock_keeps (j : Journal) (i : Nat) (f : Block → Block) : j.modBlock i f = { j with store := (j.modBlock i f).store } := by
  unfold Journal.modBlock
  split <;> rfl

/-- Block i's marker and its row change. -/
theorem remarked_keeps (j : Journal) (i : Nat) (f : Block → Block) (g : Row → Row) (hi : i < 32) :
    let k := (j.modBlock i f).modRow i g
    k.row i = g (j.row i) ∧ k.block i = f (j.block i) ∧ (∀ m, m ≠ i → k.row m = j.row m ∧ k.block m = j.block m)
    ∧ ∀ {α : Type} (p : Journal → α), (∀ j b r, p { j with store := b, rows := r } = p j) → p k = p j := by
  refine ⟨?_, ?_, fun m hm => ⟨?_, ?_⟩, fun p hp => ?_⟩
  · rw [modRow_row_self hi, modBlock_row]
  · rw [modRow_block, modBlock_block_self hi]
  · rw [modRow_row_ne hm, modBlock_row]
  · rw [modRow_block, modBlock_block_ne hm]
  · rw [modRow_keeps, modBlock_keeps]
    exact hp j _ _

theorem erase_begins (hi : i < 32) (hup : s.up = true) (hcan : s.journal.canErase s.supplyLow = true)
    (hnext : s.journal.nextErase = some i) :
    ∃ t, exec .eraseBegin s = .next t ∧ t = { s with journal := t.journal }
      ∧ t.journal.erase = some ⟨i, false, 0, s.time.ms⟩ ∧ (t.journal.row i).state = .erasing
      ∧ (t.journal.row i).failures = 0 ∧ (t.journal.block i).marker = some .erasing
      ∧ ∀ k, k ≠ i → t.journal.row k = s.journal.row k ∧ t.journal.block k = s.journal.block k := by
  have hexec : exec .eraseBegin s = .next (s.modJournal (·.beginErase i s.now)) := by
    show execEraseBegin s = _
    unfold execEraseBegin State.whenUp
    simp only [hup, hcan, hnext, if_true]
  obtain ⟨hrow, hblock, hothers, -⟩ := remarked_keeps s.journal i (fun b => { b with marker := some .erasing })
    (fun r => { r with state := .erasing, failures := 0 }) hi
  refine ⟨_, hexec, rfl, rfl, ?_, ?_, ?_, hothers⟩
  · exact congrArg Row.state hrow
  · exact congrArg Row.failures hrow
  · exact congrArg Block.marker hblock

/-! ### Its end (R160, R162) -/

theorem eraseDone_leaves (j : Journal) (hi : i < 32) : (j.eraseDone i).row i = .erased ∧ (j.eraseDone i).block i = .erased
    ∧ (∀ m, m ≠ i → (j.eraseDone i).row m = j.row m) ∧ (j.eraseDone i).erase = none ∧ i ∉ (j.eraseDone i).holdList
    ∧ (j.eraseDone i).last = j.last ∧ (j.eraseDone i).full = j.full := by
  obtain ⟨hrow, hblock, hothers, hkeeps⟩ := remarked_keeps j i (fun _ => Block.erased) (fun _ => Row.erased) hi
  refine ⟨hrow, hblock, fun m hm => (hothers m hm).1, rfl, ?_, ?_, ?_⟩
  · intro h
    have hne := (List.mem_filter.mp h).2
    simp at hne
  · exact hkeeps Journal.last fun _ _ _ => rfl
  · exact hkeeps Journal.full fun _ _ _ => rfl

/-- The engine leaves the hold list and the erase under way. -/
theorem taken_keeps (j : Journal) (r : Machine.Append) (time : Calendar) (isSet : Bool) :
    (taken j r time isSet).holdList = j.holdList ∧ (taken j r time isSet).erase = j.erase := by
  unfold taken
  split
  · exact ⟨rfl, rfl⟩
  · split
    · exact ⟨rfl, rfl⟩
    · cases h : j.closeActive.lowest .erased with
      | none =>
        rw [activate_none h]
        exact ⟨rfl, rfl⟩
      | some m =>
        obtain ⟨j', hj', -, -, -, -, hkept⟩ := activate_of_lowest h
        rw [hj']
        exact ⟨(hkept Journal.holdList fun _ _ _ _ => rfl).trans (closeActive_field Journal.holdList (fun _ _ _ => rfl) j),
          (hkept Journal.erase fun _ _ _ _ => rfl).trans (closeActive_field Journal.erase (fun _ _ _ => rfl) j)⟩

/-- With an ACTIVE block where a record of 6 units fits, or an ERASED one besides, the journal does not become full. -/
theorem taken_goes_on (r : Machine.Append) (time : Calendar) (isSet : Bool) {a : Nat} (hactive : j.lowest .active = some a)
    (hfull : j.full = false) (hroom : (j.row a).nextFree = some 1 ∨ ∃ m, j.lowest .erased = some m) :
    (taken j r time isSet).full = false ∧ ∃ m < 32, ((taken j r time isSet).row m).state = .active := by
  obtain ⟨ha, hstate, -⟩ := lowest_iff.mp hactive
  unfold taken
  rw [hfull, if_neg (by decide)]
  split
  · exact ⟨hfull, a, ha, hstate⟩
  next hfits =>
    obtain ⟨m, hm⟩ : ∃ m, j.lowest .erased = some m := by
      refine hroom.resolve_left fun hfree => hfits ((fits_iff hactive hfree).mpr ?_)
      have := units_le r.body
      omega
    rw [← closeActive_lowest_erased] at hm
    obtain ⟨j', hj', hrow, -, -, -, hkept⟩ := activate_of_lowest hm
    rw [hj']
    refine ⟨(hkept Journal.full fun _ _ _ _ => rfl).trans ((closeActive_field Journal.full (fun _ _ _ => rfl) j).trans hfull),
      m, (lowest_iff.mp hm).1, ?_⟩
    exact congrArg Row.state hrow

theorem settleErase_none (h : j.erase = none) (now : Ms) (low : Bool) : j.settleErase now low = j := by
  unfold Journal.settleErase
  simp only [h]

/-- With no erase under way the journal behind a kick is what the engine leaves. -/
theorem journalKick_journal (h : s.journal.erase = none) : (journalKick s).journal = (engineTake s).journal := by
  have hnone : (engineTake s).journal.erase = none := by
    rcases engineTake_journal s with ⟨hsame, -⟩ | ⟨r, rest, -, -, htaken⟩
    · rw [hsame, h]
    · rw [htaken, (taken_keeps _ _ _ _).2, h]
  exact settleErase_none hnone _ _

/-- A full journal with an ERASED block goes on. -/
theorem leaveFull_goes_on {m : Nat} (hfull : s.journal.full = true) (herase : s.journal.erase = none)
    (hlow : s.journal.lowest .erased = some m) :
    beside (leaveFull s) = beside s ∧ (leaveFull s).journal.full = false ∧ (leaveFull s).journal.erase = none
    ∧ (leaveFull s).journal.holdList = s.journal.holdList ∧ ∃ k < 32, ((leaveFull s).journal.row k).state = .active := by
  obtain ⟨a, j, hkick, hactive, hjfull, hjerase, hjhold, hroom⟩ : ∃ a j, leaveFull s =
      notify (.journalLow (if Config.reserveBlocks ≤ (journalKick { s with journal := j }).journal.erasedCount then .cleared else .low)
        (journalKick { s with journal := j }).journal.erasedCount) (journalKick { s with journal := j })
      ∧ j.lowest .active = some a ∧ j.full = false ∧ j.erase = none ∧ j.holdList = s.journal.holdList
      ∧ ((j.row a).nextFree = some 1 ∨ ∃ m, j.lowest .erased = some m) := by
    unfold leaveFull
    rw [if_pos hfull]
    dsimp only
    cases ha : ({ s.journal with full := false } : Journal).lowest .active with
    | some a => exact ⟨a, _, rfl, ha, rfl, herase, rfl, .inr ⟨m, hlow⟩⟩
    | none =>
      obtain ⟨j', hj', hrow, -, hothers, -, hkept⟩ := activate_of_lowest (j := { s.journal with full := false }) hlow
      obtain ⟨hm, -, -⟩ := lowest_iff.mp hlow
      refine ⟨m, j', by rw [hj']; rfl, lowest_iff.mpr ⟨hm, congrArg Row.state hrow, fun n hn => ?_⟩, hkept Journal.full fun _ _ _ _ => rfl,
        (hkept Journal.erase fun _ _ _ _ => rfl).trans herase, hkept Journal.holdList fun _ _ _ _ => rfl, .inl (congrArg Row.nextFree hrow)⟩
      rw [(hothers n (by omega)).1]
      exact lowest_none_iff.mp ha n (by omega)
  rw [hkick]
  have hjournal := journalKick_journal (s := { s with journal := j }) hjerase
  refine ⟨(notify_beside _ _).trans (journalKick_beside { s with journal := j }), ?_⟩
  show (journalKick { s with journal := j }).journal.full = false ∧ (journalKick { s with journal := j }).journal.erase = none
    ∧ (journalKick { s with journal := j }).journal.holdList = s.journal.holdList
    ∧ ∃ k < 32, ((journalKick { s with journal := j }).journal.row k).state = .active
  rw [hjournal]
  rcases engineTake_journal { s with journal := j } with ⟨hsame, -⟩ | ⟨r, rest, -, -, htaken⟩
  · rw [hsame]
    obtain ⟨ha, hstate, -⟩ := lowest_iff.mp hactive
    exact ⟨hjfull, hjerase, hjhold, a, ha, hstate⟩
  · rw [htaken]
    obtain ⟨hgoes, hblock⟩ := taken_goes_on r s.time.calendar s.time.isSet hactive hjfull hroom
    obtain ⟨hhold, herase'⟩ := taken_keeps j r s.time.calendar s.time.isSet
    exact ⟨hgoes, herase'.trans hjerase, hhold.trans hjhold, hblock⟩

theorem eraseEnd_ends (herase : s.journal.erase = some ⟨i, false, spent, since⟩) (hlate : 80 ≤ spent + (s.time.ms - since).toNat)
    (success : Bool) : exec (.eraseEnd success) s =
      .next (if success then eraseSucceeded ⟨i, false, spent, since⟩ s else eraseFailed ⟨i, false, spent, since⟩ s) := by
  show execEraseEnd success s = _
  unfold execEraseEnd
  have hran : Config.eraseMin ≤ Erase.ran ⟨i, false, spent, since⟩ s.now := hlate
  simp only [herase, hran, and_self, if_true]

theorem erase_succeeds (hi : i < 32) (herase : s.journal.erase = some ⟨i, false, spent, since⟩)
    (hlate : 80 ≤ spent + (s.time.ms - since).toNat) :
    ∃ t, exec (.eraseEnd true) s = .next t ∧ t.bays = s.bays ∧ t.card = s.card ∧ t.time = s.time
      ∧ (s.journal.full = false → (t.journal.row i).state = .erased ∧ t.journal.block i = .erased
          ∧ t.journal.erase = none ∧ i ∉ t.journal.holdList ∧ t.journal.last = s.journal.last)
      ∧ (s.journal.full = true → t.journal.full = false ∧ i ∉ t.journal.holdList ∧ t.journal.erase = none
          ∧ ∃ k < 32, (t.journal.row k).state = .active) := by
  refine ⟨eraseSucceeded ⟨i, false, spent, since⟩ s, eraseEnd_ends herase hlate true, ?_⟩
  obtain ⟨hrow, hblock, -, hnone, hhold, hlast, hfull⟩ := eraseDone_leaves s.journal hi
  obtain ⟨m, hlow⟩ := lowest_exists hi (congrArg Row.state hrow)
  unfold eraseSucceeded
  dsimp only
  obtain ⟨l, hl⟩ := notify?_link (reserveNotice s.journal.erasedCount (s.modJournal (·.eraseDone i)).journal.erasedCount
    (s.modJournal (·.eraseDone i)).journal.full) (s.modJournal (·.eraseDone i))
  rw [hl]
  generalize hu : ({ s.modJournal (·.eraseDone i) with link := l } : State) = u
  have huj : u.journal = s.journal.eraseDone i := by rw [← hu]; rfl
  have hub : u.bays = s.bays ∧ u.card = s.card ∧ u.time = s.time := by rw [← hu]; exact ⟨rfl, rfl, rfl⟩
  rw [← huj] at hrow hblock hnone hhold hlast hfull hlow
  cases hf : s.journal.full with
  | false =>
    have hsame : leaveFull u = u := if_neg (by rw [hfull, hf]; decide)
    rw [hsame]
    obtain ⟨hbays, hcard, htime⟩ := hub
    exact ⟨hbays, hcard, htime, fun _ => ⟨congrArg Row.state hrow, hblock, hnone, hhold, hlast⟩, nofun⟩
  | true =>
    obtain ⟨hbeside, hgoes, hnone', hhold', hactive⟩ := leaveFull_goes_on (hfull.trans hf) hnone hlow
    obtain ⟨hbays, hcard, htime⟩ := hub
    exact ⟨(congrArg Beside.bays hbeside).trans hbays, (congrArg Beside.card hbeside).trans hcard,
      (congrArg Beside.time hbeside).trans htime, nofun, fun _ => ⟨hgoes, by rw [hhold']; exact hhold, hnone', hactive⟩⟩

theorem erase_fails (hi : i < 32) (herase : s.journal.erase = some ⟨i, false, spent, since⟩)
    (hlate : 80 ≤ spent + (s.time.ms - since).toNat) :
    ∃ t, exec (.eraseEnd false) s = .next t ∧ t.bays = s.bays ∧ t.time = s.time
      ∧ t.journal.eraseFail = min (s.journal.eraseFail + 1) 65535
      ∧ ((s.journal.row i).failures = 0 → (t.journal.row i).failures = 1
          ∧ (t.journal.row i).state = (s.journal.row i).state
          ∧ t.journal.erase = some ⟨i, false, 0, s.time.ms⟩ ∧ t.link = s.link)
      ∧ ((s.journal.row i).failures ≠ 0 → (t.journal.row i).state = .bad ∧ t.journal.erase = none
          ∧ (t.journal.block i).marker = some .bad
          ∧ t.journal.badBlock = min (s.journal.badBlock + 1) 65535) := by
  refine ⟨eraseFailed ⟨i, false, spent, since⟩ s, eraseEnd_ends herase hlate false, ?_⟩
  by_cases hzero : (s.journal.row i).failures = 0
  · generalize hj : ({ s.journal with eraseFail := satInc s.journal.eraseFail } : Journal) = j
    have hjrow : j.row i = s.journal.row i := by rw [← hj]; rfl
    have hfailed : s.journal.eraseFailed ⟨i, false, spent, since⟩ s.now =
        { j.modRow i fun r => { r with failures := 1 } with erase := some ⟨i, false, 0, s.now⟩ } := by
      subst hj
      exact if_pos hzero
    have hrow := modRow_row_self hi j fun r => { r with failures := 1 }
    have hkept := modRow_keeps j i fun r => { r with failures := 1 }
    rw [hjrow] at hrow
    generalize hk : j.modRow i (fun r => { r with failures := 1 }) = k at hrow hkept hfailed
    have heq : eraseFailed ⟨i, false, spent, since⟩ s = { s with journal := { k with erase := some ⟨i, false, 0, s.now⟩ } } := by
      unfold eraseFailed State.modJournal
      dsimp only
      rw [hfailed]
    rw [heq]
    refine ⟨rfl, rfl, ?_, fun _ => ⟨congrArg Row.failures hrow, (congrArg Row.state hrow).trans rfl, rfl, rfl⟩, fun h => absurd hzero h⟩
    show k.eraseFail = _
    rw [hkept, ← hj]
    rfl
  · generalize hj : ({ s.journal with eraseFail := satInc s.journal.eraseFail } : Journal) = j
    have hfailed : s.journal.eraseFailed ⟨i, false, spent, since⟩ s.now =
        { (j.modBlock i fun b => { b with marker := some .bad }).modRow i fun r => { r with state := .bad, failures := 0 } with
          erase := none, badBlock := satInc j.badBlock } := by
      subst hj
      refine (if_neg hzero).trans ?_
      obtain ⟨-, -, -, hkept⟩ := remarked_keeps { s.journal with eraseFail := satInc s.journal.eraseFail } i
        (fun b => { b with marker := some .bad }) (fun r => { r with state := .bad, failures := 0 }) hi
      have hbad := hkept Journal.badBlock fun _ _ _ => rfl
      dsimp only at hbad ⊢
      rw [hbad]
    obtain ⟨hrow, hblock, -, hkept⟩ := remarked_keeps j i (fun b => { b with marker := some .bad })
      (fun r => { r with state := .bad, failures := 0 }) hi
    generalize (j.modBlock i fun b => { b with marker := some .bad }).modRow i (fun r => { r with state := .bad, failures := 0 }) = k
      at hrow hblock hkept hfailed
    have heq : eraseFailed ⟨i, false, spent, since⟩ s = notify (.journalLow .badBlock i)
        { s with journal := { k with erase := none, badBlock := satInc j.badBlock } } := by
      unfold eraseFailed State.modJournal
      dsimp only
      rw [hfailed]
    rw [heq]
    refine ⟨rfl, rfl, ?_, fun h => absurd h hzero, fun _ => ⟨congrArg Row.state hrow, rfl, congrArg Block.marker hblock, ?_⟩⟩
    · show k.eraseFail = _
      rw [hkept Journal.eraseFail fun _ _ _ => rfl, ← hj]
      rfl
    · show satInc j.badBlock = _
      rw [← hj]
      rfl

/-- Settles O58. -/
theorem eraseEndsErasedRetriedOrBad : Obligations.EraseEndsErasedRetriedOrBad := fun _ _ hi =>
  ⟨erase_begins hi, fun _ _ herase hlate => ⟨erase_succeeds hi herase hlate, erase_fails hi herase hlate⟩⟩

end

end Sys2Proof.Proofs

/-! PROOFS. What the completion of a record leaves of the journal, but for the next head that the engine takes (R155 to R159). -/

namespace Sys2Proof.Proofs

open Sys2Proof Sys2Proof.Machine Sys2Proof.Laws

/-! ### The engine's part of the journal -/

/-- The journal without its queue, its erase and its counters. -/
def engine (j : Journal) : Journal :=
  { j with queue := [], waitList := [], erase := none, torn := 0, ackClamp := 0, eraseFail := 0 }

section
variable {j k : Journal} {q r : Machine.Append} {time : Calendar} {isSet : Bool}

theorem engine_field {α : Type} (p : Journal → α) (hp : ∀ j, p (engine j) = p j) (h : engine k = engine j) : p k = p j := by
  rw [← hp, h, hp]

theorem modRow_engine (j : Journal) (i : Nat) (f : Row → Row) : engine (j.modRow i f) = (engine j).modRow i f := by
  unfold Journal.modRow
  split <;> rfl

theorem modBlock_engine (j : Journal) (i : Nat) (f : Block → Block) : engine (j.modBlock i f) = (engine j).modBlock i f := by
  unfold Journal.modBlock
  split <;> rfl

theorem lowest_engine (j : Journal) (st : BlockState) : (engine j).lowest st = j.lowest st := rfl

theorem closeActive_engine (j : Journal) : (engine j).closeActive = engine j.closeActive := by
  cases h : j.lowest .active with
  | none =>
    unfold Journal.closeActive
    rw [lowest_engine]
    simp only [h]
  | some i => rw [closeActive_of_lowest h, closeActive_of_lowest (j := engine j) h, modRow_engine, modBlock_engine]

theorem activate_engine (j : Journal) : (engine j).activate = j.activate.map engine := by
  unfold Journal.activate
  rw [lowest_engine]
  cases h : j.lowest .erased with
  | none => rfl
  | some i =>
    obtain ⟨hi, -, -⟩ := lowest_iff.mp h
    unfold Journal.modBlock Journal.modRow
    simp only [dif_pos hi]
    rfl

/-- What the engine takes depends on its own part of the journal. -/
theorem taken_engine (j : Journal) (q : Machine.Append) (time : Calendar) (isSet : Bool) :
    taken (engine j) q time isSet = engine (taken j q time isSet) := by
  unfold taken
  rw [show (engine j).full = j.full from rfl, show (engine j).fits q = j.fits q from rfl, closeActive_engine, activate_engine]
  split
  · rfl
  · split
    · rfl
    · cases j.closeActive.activate with
      | none => rfl
      | some j' => rfl

theorem taken_congr (h : engine k = engine j) : engine (taken k q time isSet) = engine (taken j q time isSet) := by
  rw [← taken_engine, h, taken_engine]

theorem taken_full (h : j.full = true) : taken j q time isSet = j := if_pos h

/-- Where the engine could not begin a write, the journal is full. -/
theorem taken_waits (h : (taken j q time isSet).writing = none) : (taken j q time isSet).full = true := by
  unfold taken at h ⊢
  split
  next hfull => exact hfull
  next hfull =>
    rw [if_neg hfull] at h
    split
    next hfits =>
      rw [if_pos hfits] at h
      cases h
    next hfits =>
      rw [if_neg hfits] at h
      cases ha : j.closeActive.activate with
      | none => rfl
      | some j' =>
        rw [ha] at h
        cases h

end

/-! ### What a step feeds the engine -/

/-- A property of the queue's head that its body and its bay decide. -/
structure Headed (Q : Option Machine.Append → Prop) : Prop where
  first : ∀ r, Q none → Q (some r)
  same : ∀ q r : Machine.Append, q.body = r.body → q.bay = r.bay → Q (some q) → Q (some r)

/-- From s to t the engine has taken nothing, or one head of property Q. -/
structure Feeds (Q : Option Machine.Append → Prop) (s t : State) : Prop where
  time : t.time = s.time
  head : Q s.journal.queue.head? → Q t.journal.queue.head?
  engine : Q s.journal.queue.head? → engine t.journal = engine s.journal
    ∨ s.journal.writing = none ∧ ∃ q, Q (some q) ∧ engine t.journal = engine (taken s.journal q s.time.calendar s.time.isSet)

section
variable {Q : Option Machine.Append → Prop} {b : BayNo} {s t u : State} {r : Machine.Append}

theorem Feeds.of_journal (hjournal : t.journal = s.journal) (htime : t.time = s.time) : Feeds Q s t :=
  ⟨htime, fun h => by rw [hjournal]; exact h, fun _ => .inl (by rw [hjournal])⟩

theorem Feeds.refl (s : State) : Feeds Q s s := .of_journal rfl rfl

theorem Becomes.feeds {y : Bay} (h : Becomes b s t y) : Feeds Q s t := .of_journal h.journal h.time

theorem Feeds.trans (h : Feeds Q s t) (h' : Feeds Q t u) : Feeds Q s u := by
  refine ⟨h'.time.trans h.time, fun hs => h'.head (h.head hs), fun hs => ?_⟩
  rcases h.engine hs with hsame | ⟨hidle, q, hq, htaken⟩
  · rcases h'.engine (h.head hs) with hsame' | ⟨hidle', q, hq, htaken'⟩
    · exact .inl (hsame'.trans hsame)
    · refine .inr ⟨(engine_field Journal.writing (fun _ => rfl) hsame).symm.trans hidle', q, hq, ?_⟩
      rw [htaken', h.time]
      exact taken_congr hsame
  · refine .inr ⟨hidle, q, hq, ?_⟩
    rcases h'.engine (h.head hs) with hsame' | ⟨hidle', q', -, htaken'⟩
    · exact hsame'.trans htaken
    · have hwaits := (engine_field Journal.writing (fun _ => rfl) htaken).symm.trans hidle'
      have hfull : t.journal.full = true := (engine_field Journal.full (fun _ => rfl) htaken).trans (taken_waits hwaits)
      rw [htaken', taken_full hfull]
      exact htaken

theorem engineTake_feeds (s : State) : Feeds Q s (engineTake s) := by
  refine ⟨congrArg Beside.time (engineTake_beside s), fun h => ?_, fun h => ?_⟩
  · rw [show (engineTake s).journal.queue = s.journal.queue from congrArg Prod.fst (engineTake_lists s)]
    exact h
  · rcases engineTake_journal s with ⟨hsame, -⟩ | ⟨r, rest, hwriting, hqueue, htaken⟩
    · exact .inl (by rw [hsame])
    · rw [hqueue] at h
      exact .inr ⟨hwriting, r, h, by rw [htaken]⟩

theorem settleErase_engine (j : Journal) (now : Ms) (low : Bool) : engine (j.settleErase now low) = engine j := by
  unfold Journal.settleErase
  split
  · split
    · split <;> rfl
    · split <;> rfl
  · rfl

theorem settleErase_feeds (s : State) : Feeds Q s (settleErase s) := by
  have hlists := settleErase_lists s.journal s.now s.supplyLow
  refine ⟨rfl, fun h => ?_, fun _ => .inl (settleErase_engine _ _ _)⟩
  rw [show (settleErase s).journal.queue = s.journal.queue from congrArg Prod.fst hlists]
  exact h

theorem journalKick_feeds (s : State) : Feeds Q s (journalKick s) := (engineTake_feeds s).trans (settleErase_feeds _)

/-- A request that arrives. -/
theorem request_keeps (j : Journal) (r : Machine.Append) :
    engine (j.request r) = engine j ∧ ((j.request r).queue = j.queue ∨ (j.request r).queue = j.queue ++ [r]) := by
  unfold Journal.request
  split
  · split
    · exact ⟨rfl, .inl rfl⟩
    · split
      · exact ⟨rfl, .inr rfl⟩
      · exact ⟨rfl, .inl rfl⟩
  · split
    · exact ⟨rfl, .inl rfl⟩
    · split
      · exact ⟨rfl, .inr rfl⟩
      · exact ⟨rfl, .inl rfl⟩
  · split
    · exact ⟨rfl, .inr rfl⟩
    · exact ⟨rfl, .inl rfl⟩

theorem request_feeds (hQ : Headed Q) (r : Machine.Append) (s : State) : Feeds Q s (s.modJournal (·.request r)) := by
  obtain ⟨hengine, hqueue⟩ := request_keeps s.journal r
  refine ⟨rfl, fun h => ?_, fun _ => .inl hengine⟩
  show Q (s.journal.request r).queue.head?
  rcases hqueue with hsame | hjoined
  · rw [hsame]
    exact h
  · rw [hjoined]
    cases hq : s.journal.queue with
    | nil =>
      rw [hq] at h
      exact hQ.first r h
    | cons q rest =>
      rw [hq] at h
      exact h

theorem append_feeds (hQ : Headed Q) (r : Machine.Append) (s : State) : Feeds Q s (append r s) :=
  (request_feeds hQ r s).trans (journalKick_feeds _)

theorem orphan_feeds (hQ : Headed Q) (b : BayNo) (s : State) : Feeds Q s (s.modJournal (·.orphan b)) := by
  refine ⟨rfl, fun h => ?_, fun _ => .inl rfl⟩
  show Q (s.journal.orphan b).queue.head?
  unfold Journal.orphan
  dsimp only
  cases hq : s.journal.queue with
  | nil =>
    rw [hq] at h
    exact h
  | cons q rest =>
    rw [hq] at h
    show Q (some (if q.requester = .ctx b then { q with requester := .nobody } else q))
    split
    · exact hQ.same q _ rfl rfl h
    · exact h

theorem closeTxn_feeds (b : BayNo) (s : State) : Feeds Q s (closeTxn b s) :=
  .of_journal (closeTxn_journal b s) (closeTxn_turns b s).time

/-! ### What completions feed -/

theorem finishReset_feeds (b : BayNo) (s : State) : Feeds Q s (finishReset b s) := by
  have hwithdrawn : Feeds Q s (withdrawCommand b s) :=
    (Becomes.modBay b s fun y => { y with term := { y.term with cardSlot := y.term.cardSlot.bind CardSlot.withdraw } }).feeds
  unfold finishReset
  dsimp only
  split
  · exact (hwithdrawn.trans (await_becomes .places b _).feeds).trans (recomputeMask_becomes b _).feeds
  · exact hwithdrawn.trans (closeTxn_feeds b _)

section
variable (hQ : Headed Q)
include hQ

theorem adjustAndWait_feeds (why : AdjustReason) (n : Nat) (b : BayNo) (s : State) : Feeds Q s (adjustAndWait why n b s) :=
  (append_feeds hQ _ s).trans (await_becomes .adjust b _).feeds

theorem receiptAdjust_feeds (who : AppendBy) (b : BayNo) (s : State) : Feeds Q s (receiptAdjust who b s) := by
  unfold receiptAdjust
  split
  · exact (append_feeds hQ _ s).trans (Becomes.modBay b _ (causedBay .server true)).feeds
  · exact append_feeds hQ _ s

theorem receiptTaken_feeds (o : ReceiptOutcome) (b : BayNo) (s : State) : Feeds Q s (receiptTaken o b s) := by
  unfold receiptTaken
  split
  · have hset : Feeds Q s (s.modCtx b fun c => { c with receiptOutcome := o }) := (Becomes.modBay b s _).feeds
    cases o
    case failed => exact (hset.trans (receiptAdjust_feeds hQ _ b _)).trans (await_becomes .adjust b _).feeds
    case partly => exact (hset.trans (receiptAdjust_feeds hQ _ b _)).trans (await_becomes .adjust b _).feeds
    all_goals exact hset.trans (closeTxn_feeds b _)
  · exact .refl s

theorem receiptTaken?_feeds {x : State × Option ReceiptOutcome} (b : BayNo) (h : Feeds Q s x.1) : Feeds Q s (receiptTaken? b x) := by
  obtain ⟨v, o⟩ := x
  cases o with
  | none => exact h
  | some o => exact h.trans (receiptTaken_feeds hQ o b v)

theorem enterPrint_feeds (b : BayNo) (s : State) : Feeds Q s (enterPrint b s) := by
  have hentered : Feeds Q s ((enter .print b s).modBay b fun y => { y with lastReceipt := none }) :=
    ((enter_becomes .print b s).feeds).trans (Becomes.modBay b _ _).feeds
  unfold enterPrint
  dsimp only
  generalize (enter .print b s).modBay b (fun y => { y with lastReceipt := none }) = u at hentered
  split
  · exact (hentered.trans (Becomes.modBay b u fun y => { y with ctx := { y.ctx with receiptOutcome := .declined } }).feeds).trans
      (closeTxn_feeds b _)
  · have hwaits := hentered.trans (await_becomes .receipt b u).feeds
    split
    · exact receiptTaken?_feeds hQ b (hwaits.trans (requestJob_prints b _ _).becomes.feeds)
    · exact hwaits.trans (receiptTaken_feeds hQ _ b _)

theorem changeEnded_feeds (b : BayNo) (s : State) : Feeds Q s (changeEnded b s) := by
  rw [changeEnded_eq]
  split
  · exact (Becomes.modBay b s shortBay).feeds.trans (adjustAndWait_feeds hQ _ _ b _)
  · exact (Becomes.modBay b s shortBay).feeds.trans (enterPrint_feeds hQ b _)

theorem refundEnded_feeds (paid : Nat) (b : BayNo) (s : State) : Feeds Q s (refundEnded paid b s) := by
  unfold refundEnded
  dsimp only
  split
  · exact adjustAndWait_feeds hQ _ _ b s
  · exact closeTxn_feeds b s

theorem payoutEnded_feeds (b : BayNo) (s : State) : Feeds Q s (payoutEnded b s) := by
  unfold payoutEnded
  dsimp only
  split
  · exact changeEnded_feeds hQ b s
  · exact refundEnded_feeds hQ _ b s
  · exact .refl s

theorem payoutStep_feeds {x : State × Bool} (b : BayNo) (h : Feeds Q s x.1) : Feeds Q s (payoutStep b x) := by
  obtain ⟨v, ended⟩ := x
  cases ended with
  | true => exact h.trans (payoutEnded_feeds hQ b v)
  | false => exact h

theorem enterPayout_feeds (b : BayNo) (s : State) : Feeds Q s (enterPayout b s) :=
  payoutStep_feeds hQ b (((enter_becomes .payout b s).feeds.trans (await_becomes .payout b _).feeds).trans
    (startPayout_becomes b _ _ _).feeds)

theorem resetAdjust_feeds (why : AdjustReason) (n : Nat) (b : BayNo) (s : State) : Feeds Q s (resetAdjust why n b s) := by
  unfold resetAdjust
  split
  · exact append_feeds hQ _ s
  · exact .refl s

theorem resetReceipt_feeds (b : BayNo) (s : State) : Feeds Q s (resetReceipt b s) :=
  Feeds.trans (Becomes.modBay b s fun y => { y with ctx := { y.ctx with receiptOutcome := .failed } }).feeds
    (receiptAdjust_feeds hQ _ b _)

theorem resetPayout_feeds (b : BayNo) (s : State) : Feeds Q s (resetPayout b s) := by
  have hstopped : Feeds Q s (stopPayout b (s.modJournal (·.orphan b))) :=
    (orphan_feeds hQ b s).trans (modPayout_becomes b _ _).feeds
  unfold resetPayout
  dsimp only
  generalize stopPayout b (s.modJournal (·.orphan b)) = u at hstopped
  split
  · exact (hstopped.trans (resetReceipt_feeds hQ b u)).trans (finishReset_feeds b _)
  · have hshort := (hstopped.trans (Becomes.modBay b u fun y =>
      { y with ctx := { y.ctx with shortPay := (s.ctx b).changeDue.getD 0 - (s.ctx b).changePaid } }).feeds).trans
      (resetAdjust_feeds hQ .shortPay ((s.ctx b).changeDue.getD 0 - (s.ctx b).changePaid) b _)
    exact (hshort.trans (resetReceipt_feeds hQ b _)).trans (finishReset_feeds b _)

theorem saleDone_feeds (n : Nat) (b : BayNo) (s : State) : Feeds Q s (saleDone n b s) := by
  have htaken : Feeds Q s (takeSequence n b s) := by
    have hset : Feeds Q s (s.modCtx b fun c => { c with txnSeq := some n }) := (Becomes.modBay b s _).feeds
    unfold takeSequence
    dsimp only
    split
    · exact hset.trans (.of_journal rfl rfl)
    · exact hset
  unfold saleDone
  split
  · dsimp only
    split
    · exact (htaken.trans (Becomes.modBay b _ fun y => { y with ctx := { y.ctx with resetHeld := false } }).feeds).trans
        (resetPayout_feeds hQ b _)
    · split
      · exact htaken.trans (enterPayout_feeds hQ b _)
      · exact htaken.trans (enterPrint_feeds hQ b _)
  · exact .refl s

theorem adjustDone_feeds (b : BayNo) (s : State) : Feeds Q s (adjustDone b s) := by
  unfold adjustDone
  split
  · exact enterPrint_feeds hQ b s
  · exact closeTxn_feeds b s
  · exact closeTxn_feeds b s
  · exact .refl s

theorem askBox_feeds (b : BayNo) (s : State) : Feeds Q s (askBox b s) := by
  unfold askBox
  split
  next c rest _ =>
    split
    · exact .refl s
    · split
      · exact ⟨rfl, id, fun _ => .inl rfl⟩
      · exact (Becomes.modBay b s (slottedBay ({ c with requested := s.appendRoom } :: rest))).feeds.trans (append_feeds hQ _ _)
  · exact .refl s

end

theorem forBays_feeds {f : BayNo → State → State} (h : ∀ b s, Feeds Q s (f b s)) (s : State) : Feeds Q s (forBays f s) := by
  unfold forBays
  generalize allBays = l
  induction l generalizing s with
  | nil => exact .refl s
  | cons b l ih => exact (h b s).trans (ih _)

theorem tearDone_feeds (serial : BitVec 32) (how : Resolution) (s : State) : Feeds Q s (tearDone serial how s) := by
  unfold tearDone
  split
  · split
    · refine Feeds.trans (t := notify _ (removeTear serial s)) (.of_journal rfl rfl) (forBays_feeds (fun b s => ?_) _)
      unfold resumeAt
      split
      · exact (presentAgain_becomes b s).feeds
      · exact .refl s
    · exact .refl s
  · exact .refl s

theorem complete_feeds (hQ : Headed Q) (r : Machine.Append) (n : Nat) (s : State) : Feeds Q s (complete r n s) := by
  unfold complete
  split
  · exact saleDone_feeds hQ _ _ s
  · exact adjustDone_feeds hQ _ s
  · exact tearDone_feeds _ _ s
  · exact (Becomes.modBay _ s fun y => { y with box := { y.box with slot := y.box.slot.drop 1 } }).feeds.trans (askBox_feeds hQ _ _)
  · exact .refl s

theorem releaseReset_feeds (b : BayNo) (s : State) : Feeds Q s (releaseReset b s) := by
  unfold releaseReset
  split
  · exact closeTxn_feeds b s
  · exact .refl s

theorem forwardNext_feeds (s : State) : Feeds Q s (forwardNext s) := by
  unfold forwardNext
  split
  · split
    · exact .of_journal rfl rfl
    · exact .refl s
  · exact .refl s

theorem headed_true : Headed fun _ => True := ⟨fun _ => id, fun _ _ _ _ => id⟩

/-- A link reset that goes on leaves the blocks to the engine. -/
theorem linkResetContinue_feeds (s : State) : Feeds (fun _ => True) s (linkResetContinue s) := by
  have hmark : ∀ (c : Bool) (v : State), Feeds (fun _ => True) v (if c then appendLink false v else v) := fun c v => by
    cases c with
    | true => exact append_feeds headed_true _ v
    | false => exact .refl v
  have hrebuilt : ∀ v : State, Feeds (fun _ => True) v (rebuildBays v) := fun v =>
    forBays_feeds (fun b v => (Becomes.modBay b v _).feeds) v
  have hcleared : ∀ v : State, Feeds (fun _ => True) v (clearRequested v) := fun v =>
    forBays_feeds (fun b v => (Becomes.modBay b v fun y => { y with box := y.box.restart }).feeds) v
  unfold linkResetContinue
  split
  · unfold linkResetFinish
    dsimp only
    have hreset : Feeds (fun _ => True) s (settleErase (s.modJournal (·.linkReset))) :=
      Feeds.trans (t := s.modJournal (·.linkReset)) ⟨rfl, fun _ => trivial, fun _ => .inl rfl⟩ (settleErase_feeds _)
    have hlinked := hreset.trans (hmark s.online _)
    generalize (if s.online then appendLink false (settleErase (s.modJournal (·.linkReset)))
      else settleErase (s.modJournal (·.linkReset))) = u at hlinked
    have hbays := (hlinked.trans (t := u) (u := { u with tariff := u.tariff.restart, card := u.card.restart u.site })
      (.of_journal rfl rfl)).trans (hrebuilt _)
    generalize rebuildBays { u with tariff := u.tariff.restart, card := u.card.restart u.site } = v at hbays
    have hport := hbays.trans (t := v) (u := v.modLink fun l => l.restart (siteRate v.site) v.now) (.of_journal rfl rfl)
    generalize v.modLink (fun l => l.restart (siteRate v.site) v.now) = w at hport
    have hbus := (hport.trans (t := w) (u := { w with bus := w.bus.restart }) (.of_journal rfl rfl)).trans (hcleared _)
    exact (hbus.trans (journalKick_feeds _)).trans (forBays_feeds (askBox_feeds headed_true) _)
  · exact .refl s

end

end Sys2Proof.Proofs

/-! PROOFS. The end of a record's write, and the writer's next block (R155 to R159). -/

namespace Sys2Proof.Proofs

open Sys2Proof Sys2Proof.Machine Sys2Proof.Laws

/-! ### The programmed record (R156) -/

/-- Bytes that fill n units are cut into them. -/
theorem cutUnits_whole {n fuel : Nat} {bs : List Byte} (hlen : bs.length = 16 * n) (hn : n ≤ fuel) :
    (cutUnits fuel bs).length = n ∧ (cutUnits fuel bs).flatten = bs ∧ ∀ u ∈ cutUnits fuel bs, u.length = 16 := by
  induction n generalizing fuel bs with
  | zero =>
    obtain rfl : bs = [] := List.length_eq_zero_iff.mp (by omega)
    cases fuel <;> exact ⟨rfl, rfl, nofun⟩
  | succ n ih =>
    cases fuel with
    | zero => omega
    | succ fuel =>
      obtain ⟨x, xs, rfl⟩ : ∃ x xs, bs = x :: xs := List.exists_cons_of_length_pos (by omega)
      obtain ⟨hcount, hflat, hunits⟩ := ih (fuel := fuel) (bs := (x :: xs).drop 16) (by rw [List.length_drop]; omega) (by omega)
      have hcut : cutUnits (fuel + 1) (x :: xs) = (x :: xs).take 16 :: cutUnits fuel ((x :: xs).drop 16) := rfl
      rw [hcut]
      refine ⟨by rw [List.length_cons, hcount], by rw [List.flatten_cons, hflat, List.take_append_drop], fun u hu => ?_⟩
      rcases List.mem_cons.mp hu with rfl | hu
      · rw [List.length_take]
        omega
      · exact hunits u hu

section
variable {j k : Journal} {i m : Nat} {w : Writing} {s t u v : State} {b : BayNo} {r : Machine.Append}

/-- A record programmed behind the ACTIVE block's units. -/
theorem program_leaves (h : j.lowest .active = some i) :
    (j.program w).row i = { j.row i with
      firstValid := some ((j.row i).firstValid.getD w.sequence)
      lastValid := some w.sequence
      nextFree := (j.row i).nextFree.map (· + (cutUnits 9 w.bytes).length) }
    ∧ (j.program w).block i = { j.block i with units := (j.block i).units ++ cutUnits 9 w.bytes }
    ∧ ∀ m, m ≠ i → (j.program w).row m = j.row m ∧ (j.program w).block m = j.block m := by
  obtain ⟨hi, -, -⟩ := lowest_iff.mp h
  obtain ⟨hrow, hblock, hothers, -⟩ := remarked_keeps j i (fun b => { b with units := b.units ++ cutUnits 9 w.bytes })
    (fun r => { r with
      firstValid := some (r.firstValid.getD w.sequence)
      lastValid := some w.sequence
      nextFree := r.nextFree.map (· + (cutUnits 9 w.bytes).length) }) hi
  unfold Journal.program
  simp only [h]
  exact ⟨hrow, hblock, hothers⟩

theorem program_field {α : Type} (p : Journal → α)
    (hp : ∀ j b r n x, p { j with store := b, rows := r, last := n, writing := x } = p j) (w : Writing) (j : Journal) :
    p (j.program w) = p j := by
  unfold Journal.program
  dsimp only
  split
  next i h =>
    obtain ⟨hi, -, -⟩ := lowest_iff.mp h
    unfold Journal.modBlock Journal.modRow
    simp only [dif_pos hi]
    exact hp j _ _ _ _
  next => exact hp j j.store j.rows _ _

theorem program_marks (w : Writing) (j : Journal) : (j.program w).last = w.sequence ∧ (j.program w).writing = none := by
  unfold Journal.program
  dsimp only
  split <;> exact ⟨rfl, rfl⟩

/-! ### What taking a head leaves of the blocks (R156, R157) -/

/-- What the engine takes changes of the blocks only the ACTIVE one's standing and an ERASED one. -/
theorem taken_blocks (j : Journal) (q : Machine.Append) (time : Calendar) (isSet : Bool) (hm : (j.row m).state ≠ .erased) :
    ((taken j q time isSet).row m).lastValid = (j.row m).lastValid
    ∧ ((taken j q time isSet).block m).units = (j.block m).units
    ∧ (j.lowest .active ≠ some m → (taken j q time isSet).block m = j.block m) := by
  unfold taken
  split
  · exact ⟨rfl, rfl, fun _ => rfl⟩
  · split
    · exact ⟨rfl, rfl, fun _ => rfl⟩
    · have hclosed : (j.closeActive.row m).lastValid = (j.row m).lastValid ∧ (j.closeActive.block m).units = (j.block m).units
          ∧ (j.lowest .active ≠ some m → j.closeActive.block m = j.block m) := by
        cases h : j.lowest .active with
        | none =>
          have hsame : j.closeActive = j := by
            unfold Journal.closeActive
            simp only [h]
          rw [hsame]
          exact ⟨rfl, rfl, fun _ => rfl⟩
        | some a =>
          by_cases hma : m = a
          · rw [hma, closeActive_row_self h, closeActive_block_self h]
            exact ⟨rfl, rfl, fun hno => absurd rfl hno⟩
          · rw [closeActive_row_ne h hma, closeActive_block_ne h hma]
            exact ⟨rfl, rfl, fun _ => rfl⟩
      cases he : j.closeActive.lowest .erased with
      | none =>
        rw [activate_none he]
        exact ⟨rfl, rfl, fun _ => rfl⟩
      | some e =>
        obtain ⟨j', hj', -, -, hothers, -, -⟩ := activate_of_lowest he
        obtain ⟨-, hstate, -⟩ := lowest_iff.mp he
        have hme : m ≠ e := by
          rintro rfl
          exact hm ((closeActive_erased j m).mp hstate)
        obtain ⟨hrow, hblock⟩ := hothers m hme
        rw [hj']
        show (j'.row m).lastValid = _ ∧ (j'.block m).units = _ ∧ (_ → j'.block m = _)
        rw [hrow, hblock]
        exact hclosed

theorem taken_marks (j : Journal) (q : Machine.Append) (time : Calendar) (isSet : Bool) :
    (taken j q time isSet).last = j.last ∧ (taken j q time isSet).acked = j.acked := by
  unfold taken
  split
  · exact ⟨rfl, rfl⟩
  · split
    · exact ⟨rfl, rfl⟩
    · cases h : j.closeActive.lowest .erased with
      | none =>
        rw [activate_none h]
        exact ⟨rfl, rfl⟩
      | some e =>
        obtain ⟨j', hj', -, -, -, -, hkept⟩ := activate_of_lowest h
        rw [hj']
        exact ⟨(hkept Journal.last fun _ _ _ _ => rfl).trans (closeActive_field Journal.last (fun _ _ _ => rfl) j),
          (hkept Journal.acked fun _ _ _ _ => rfl).trans (closeActive_field Journal.acked (fun _ _ _ => rfl) j)⟩

/-! ### The end of a write, stage by stage (R155, R156) -/

/-- The state in which the record is valid and its head has left. -/
def written (w : Writing) (s : State) : State := shiftQueue (s.modJournal (·.program w))

/-- The completion of the head, if there was one. -/
def completed (w : Writing) (s : State) : State :=
  s.journal.queue.head?.elim (written w s) fun r => complete r w.sequence (written w s)

/-- What follows a completion. -/
def settled (v : State) : State := linkResetContinue (forBays releaseReset (forwardNext (journalKick v)))

theorem recordWritten_eq (w : Writing) (s : State) : recordWritten w s = settled (completed w s) := by
  unfold recordWritten completed
  dsimp only
  cases s.journal.queue.head? <;> rfl

theorem recordWriteEnd_ends (h : s.journal.writing = some w) : exec .recordWriteEnd s = done s (settled (completed w s)) := by
  show execRecordWriteEnd s = _
  unfold execRecordWriteEnd
  simp only [h, recordWritten_eq]

/-- Closures that say what others say, and beyond the first are the same. -/
def SameClosures (l l' : List Closure) : Prop := l.drop 1 = l'.drop 1 ∧ l.map Closure.record = l'.map Closure.record

/-- A bay's record but for whether its head closure is requested. -/
def SlotKept (y z : Bay) : Prop := ∃ l, z = slottedBay l y ∧ SameClosures l y.box.slot

theorem SlotKept.refl (y : Bay) : SlotKept y y := ⟨y.box.slot, rfl, rfl, rfl⟩

theorem placed_keeps (r : Machine.Append) (s : State) : placed r s = { s with bays := (placed r s).bays }
    ∧ ∀ c, SlotKept (s.bay c) ((placed r s).bay c) := by
  unfold placed
  split
  next b _ =>
    refine ⟨rfl, fun c => ?_⟩
    by_cases hc : c = b
    · rw [hc, State.bay_modBay_self]
      cases hslot : (s.bay b).box.slot with
      | nil => exact ⟨[], rfl, by rw [hslot]; exact ⟨rfl, rfl⟩⟩
      | cons d rest => exact ⟨{ d with requested := true } :: rest, rfl, by rw [hslot]; exact ⟨rfl, rfl⟩⟩
    · rw [State.bay_modBay_ne s hc]
      exact .refl _
  next => exact ⟨rfl, fun c => .refl _⟩

/-- The queue behind a record written. -/
theorem shift_lists (j : Journal) : engine j.shift = engine j ∧ j.shift.queue = j.queue.drop 1 ++ j.waitList.take 1
    ∧ j.shift.waitList = j.waitList.drop 1 := by
  unfold Journal.shift
  split
  next h =>
    rw [h]
    exact ⟨rfl, rfl, rfl⟩
  next h =>
    rw [h]
    exact ⟨rfl, (List.append_nil (j.queue.drop 1)).symm, rfl⟩

theorem shiftQueue_keeps (s : State) : shiftQueue s = { s with bays := (shiftQueue s).bays, journal := s.journal.shift }
    ∧ (∀ c, SlotKept (s.bay c) ((shiftQueue s).bay c)) ∧ (s.journal.waitList = [] → (shiftQueue s).bays = s.bays) := by
  unfold shiftQueue
  dsimp only
  cases h : s.journal.waitList.head? with
  | none => exact ⟨rfl, fun c => .refl _, fun _ => rfl⟩
  | some r =>
    obtain ⟨hrest, hbays⟩ := placed_keeps r (s.modJournal Journal.shift)
    refine ⟨hrest.trans ?_, hbays, fun hnil => ?_⟩
    · rfl
    · rw [hnil] at h
      cases h

/-- What the state behind a record written holds. -/
theorem written_keeps (w : Writing) (s : State) :
    written w s = { s with bays := (written w s).bays, journal := (s.journal.program w).shift }
    ∧ engine (written w s).journal = engine (s.journal.program w)
    ∧ (written w s).journal.queue = s.journal.queue.drop 1 ++ s.journal.waitList.take 1
    ∧ (written w s).journal.waitList = s.journal.waitList.drop 1
    ∧ (∀ c, SlotKept (s.bay c) ((written w s).bay c))
    ∧ (s.journal.waitList = [] → (written w s).bays = s.bays) := by
  obtain ⟨hrest, hbays, hnone⟩ := shiftQueue_keeps (s.modJournal (·.program w))
  obtain ⟨hengine, hqueue, hwaits⟩ := shift_lists (s.journal.program w)
  have hq : (s.journal.program w).queue = s.journal.queue := program_field Journal.queue (fun _ _ _ _ _ => rfl) w _
  have hl : (s.journal.program w).waitList = s.journal.waitList := program_field Journal.waitList (fun _ _ _ _ _ => rfl) w _
  rw [hq, hl] at hqueue
  rw [hl] at hwaits
  have hjournal : (written w s).journal = (s.journal.program w).shift := congrArg State.journal hrest
  rw [hjournal]
  exact ⟨hrest.trans rfl, hengine, hqueue, hwaits, hbays, fun hnil => hnone (hl.trans hnil)⟩

theorem written_ctx (w : Writing) (s : State) (c : BayNo) : (written w s).ctx c = s.ctx c := by
  obtain ⟨-, -, -, -, hbays, -⟩ := written_keeps w s
  obtain ⟨l, hl, -⟩ := hbays c
  rw [State.ctx, hl]
  rfl

/-- The engine reaches the journal and the port alone. -/
theorem journalKick_keeps (s : State) :
    journalKick s = { s with journal := (journalKick s).journal, link := (journalKick s).link } := by
  have htake : ∃ j l, engineTake s = { s with journal := j, link := l } := by
    unfold engineTake
    dsimp only
    split
    · split
      · exact ⟨_, _, rfl⟩
      · split
        · exact ⟨_, _, rfl⟩
        · split
          · obtain ⟨l, hl⟩ := notify?_link (reserveNotice s.journal.erasedCount _ s.journal.full) { s with journal := _ }
            rw [hl]
            exact ⟨_, _, rfl⟩
          · exact ⟨_, _, rfl⟩
    · exact ⟨_, _, rfl⟩
  obtain ⟨j, l, h⟩ := htake
  show settleErase (engineTake s) = { s with journal := (settleErase (engineTake s)).journal, link := (settleErase (engineTake s)).link }
  rw [h]
  rfl

/-- With no link reset under way none goes on. -/
theorem linkResetContinue_idle {m : Mode} {P : BayNo → Prop} (h : Work m P v t) (hstage : v.link.resetStage = .none) :
    linkResetContinue t = t := by
  have hkept : t.link.resetStage = v.link.resetStage := congrArg Rim.resetStage h.rim
  refine if_neg fun hgo => ?_
  have hrunning := hgo.1
  rw [hkept, hstage] at hrunning
  cases hrunning

/-- Where no bay reset waits and no link reset is under way, what follows a completion is the engine's and the port's alone. -/
theorem settled_keeps (hstage : v.link.resetStage = .none) (hwaits : ∀ c, (v.ctx c).wait ≠ .places) :
    settled v = { v with journal := (journalKick v).journal, link := (forwardNext (journalKick v)).link } := by
  have hbeside := journalKick_beside v
  have hwork : Work .calm (fun _ => True) v (forwardNext (journalKick v)) := (journalKick_work v).trans (forwardNext_work _)
  have hforward : forwardNext (journalKick v) = { journalKick v with link := (forwardNext (journalKick v)).link } := by
    unfold forwardNext
    split
    · split <;> rfl
    · rfl
  have hkick := journalKick_keeps v
  have hbays : ∀ c, (forwardNext (journalKick v)).ctx c = v.ctx c := fun c => by
    rw [hforward]
    show (journalKick v).ctx c = _
    rw [hkick]
    rfl
  have hreleased : forBays releaseReset (forwardNext (journalKick v)) = forwardNext (journalKick v) := by
    have hnone : ∀ c, releaseReset c (forwardNext (journalKick v)) = forwardNext (journalKick v) := fun c =>
      if_neg fun h => hwaits c (by rw [← hbays c]; exact h.1)
    unfold forBays
    generalize allBays = l
    induction l with
    | nil => rfl
    | cons c l ih => rw [List.foldl_cons, hnone, ih]
  unfold settled
  rw [hreleased, linkResetContinue_idle hwork hstage]
  generalize forwardNext (journalKick v) = x at hforward ⊢
  rw [hforward]
  show ({ journalKick v with link := x.link } : State) = _
  generalize journalKick v = y at hkick ⊢
  rw [hkick]

/-! ### The next head (R156 to R158) -/

variable {Q : Option Machine.Append → Prop}

/-- Behind a completion the idle engine takes the head. -/
theorem kicked_takes (h : Feeds Q u v) (hidle : u.journal.writing = none) (hhead : Q u.journal.queue.head?)
    (hsome : ¬ Q none) :
    ∃ q, Q (some q) ∧ engine (journalKick v).journal = engine (taken u.journal q u.time.calendar u.time.isSet) := by
  have hv := h.head hhead
  have hkick : engine (journalKick v).journal = engine (engineTake v).journal := settleErase_engine _ _ _
  rw [hkick]
  rcases h.engine hhead with hsame | ⟨-, q, hq, htaken⟩
  · rcases engineTake_journal v with ⟨-, hbusy⟩ | ⟨q, rest, -, hqueue, htaken⟩
    · rcases hbusy with hwriting | hnil
      · exact absurd ((engine_field Journal.writing (fun _ => rfl) hsame).trans hidle) hwriting
      · rw [hnil] at hv
        exact absurd hv hsome
    · rw [hqueue] at hv
      refine ⟨q, hv, ?_⟩
      rw [htaken, h.time]
      exact taken_congr hsame
  · refine ⟨q, hq, ?_⟩
    rcases engineTake_journal v with ⟨hkept, -⟩ | ⟨q', rest, hwriting, -, htaken'⟩
    · rw [hkept]
      exact htaken
    · have hwaits := (engine_field Journal.writing (fun _ => rfl) htaken).symm.trans hwriting
      rw [htaken', taken_full ((engine_field Journal.full (fun _ => rfl) htaken).trans (taken_waits hwaits))]
      exact htaken

/-! ### The writer's next block (R156 to R158) -/

/-- With no link reset under way, what follows a completion leaves the journal as the engine leaves it. -/
theorem settled_journal (hstage : v.link.resetStage = .none) : (settled v).journal = (journalKick v).journal := by
  have hforward : (forwardNext (journalKick v)).journal = (journalKick v).journal := by
    unfold forwardNext
    split
    · split <;> rfl
    · rfl
  have hreleased : (forBays releaseReset (forwardNext (journalKick v))).journal = (forwardNext (journalKick v)).journal :=
    forBays_keeps State.journal _ (fun b s => by
      unfold releaseReset
      split
      · exact closeTxn_journal b s
      · rfl) _
  have hwork : Work .free (fun _ => True) v (forBays releaseReset (forwardNext (journalKick v))) :=
    Work.after (.forBays (fun _ x => releaseReset_work trivial free_loud x) _) ((forwardNext_work _).after (journalKick_work v))
  unfold settled
  rw [linkResetContinue_idle hwork hstage, hreleased, hforward]

theorem completed_stage (hstage : s.link.resetStage = .none) (w : Writing) : (completed w s).link.resetStage = .none := by
  obtain ⟨hrest, -⟩ := written_keeps w s
  have hwritten : (written w s).link.resetStage = .none := by rw [hrest]; exact hstage
  unfold completed
  cases s.journal.queue.head? with
  | none => exact hwritten
  | some r => exact (congrArg Rim.resetStage (complete_work r w.sequence (written w s)).rim).trans hwritten

theorem program_state (h : j.lowest .active = some i) (w : Writing) (m : Nat) :
    ((j.program w).row m).state = (j.row m).state := by
  obtain ⟨hrow, -, hothers⟩ := program_leaves (w := w) h
  by_cases hm : m = i
  · rw [hm, hrow]
  · rw [(hothers m hm).1]

/-- What the engine makes of a head behind a record written. -/
theorem taken_next {q : Machine.Append} {time : Calendar} {isSet : Bool} {free : Nat} (hactive : j.lowest .active = some i)
    (hfree : (j.row i).nextFree = some free) (hfull : j.full = false) (hidle : j.writing = none) :
    let begun : Writing := ⟨recordBytes (j.last + 1) q.bay q.body time isSet, j.last + 1⟩
    let k := taken j q time isSet
    (free + q.body.units ≤ 512 → k.writing = some begun ∧ k.full = false ∧ (k.row i).state = .active
      ∧ (k.row i).nextFree = some free ∧ k.nextBlockSeq = j.nextBlockSeq)
    ∧ (512 < free + q.body.units → ∀ m, j.lowest .erased = some m →
        k.writing = some begun ∧ k.full = false ∧ (k.row i).state = .full ∧ (k.block i).marker = some .full
        ∧ k.row m = ⟨.active, some j.nextBlockSeq, some (j.last + 1), none, none, some 1, 0⟩
        ∧ k.block m = ⟨.good j.nextBlockSeq (j.last + 1), some .active, []⟩ ∧ k.nextBlockSeq = j.nextBlockSeq + 1)
    ∧ (512 < free + q.body.units → j.lowest .erased = none → k.writing = none ∧ k.full = true ∧ (k.row i).state = .active) := by
  obtain ⟨-, hstate, -⟩ := lowest_iff.mp hactive
  have hfits := fits_iff (q := q) hactive hfree
  dsimp only
  unfold taken
  rw [hfull, if_neg (by decide)]
  refine ⟨fun hroom => ?_, fun hno m hm => ?_, fun hno hnone => ?_⟩
  · rw [if_pos (hfits.mpr (by omega))]
    exact ⟨rfl, hfull, hstate, hfree, rfl⟩
  · rw [if_neg (fun h => by have := hfits.mp h; omega)]
    rw [← closeActive_lowest_erased] at hm
    obtain ⟨j', hj', hrow, hblock, hothers, hseq, hkept⟩ := activate_of_lowest hm
    have hlast : j.closeActive.last = j.last := closeActive_field Journal.last (fun _ _ _ => rfl) j
    have hnext : j.closeActive.nextBlockSeq = j.nextBlockSeq := closeActive_field Journal.nextBlockSeq (fun _ _ _ => rfl) j
    have hlast' : j'.last = j.last := (hkept Journal.last fun _ _ _ _ => rfl).trans hlast
    have hfull' : j'.full = false :=
      (hkept Journal.full fun _ _ _ _ => rfl).trans ((closeActive_field Journal.full (fun _ _ _ => rfl) j).trans hfull)
    obtain ⟨-, herased, -⟩ := lowest_iff.mp hm
    have him : i ≠ m := by
      rintro rfl
      rw [(closeActive_erased j i).mp herased] at hstate
      cases hstate
    obtain ⟨hirow, hiblock⟩ := hothers i him
    rw [hj']
    rw [hlast, hnext] at hrow hblock
    refine ⟨?_, hfull', ?_, ?_, hrow, hblock, hseq.trans (by rw [hnext])⟩
    · show some _ = some _
      rw [hlast']
    · exact (congrArg Row.state hirow).trans (congrArg Row.state (closeActive_row_self hactive))
    · exact (congrArg Block.marker hiblock).trans (congrArg Block.marker (closeActive_block_self hactive))
  · rw [if_neg (fun h => by have := hfits.mp h; omega)]
    rw [← closeActive_lowest_erased] at hnone
    rw [activate_none hnone]
    exact ⟨hidle, rfl, hstate⟩

/-- The heads that say what r says. -/
def SaysOf (r : Machine.Append) (o : Option Machine.Append) : Prop := ∃ q, o = some q ∧ q.body = r.body ∧ q.bay = r.bay

theorem headed_saysOf (r : Machine.Append) : Headed (SaysOf r) where
  first _ h := by
    obtain ⟨q, hq, -⟩ := h
    cases hq
  same q q' hbody hbay h := by
    obtain ⟨p, hp, hpbody, hpbay⟩ := h
    obtain rfl := Option.some.inj hp
    exact ⟨q', rfl, hbody.symm.trans hpbody, hbay.symm.trans hpbay⟩

theorem journalKick_full {rest : List Machine.Append} (hwriting : s.journal.writing = none) (hqueue : s.journal.queue = r :: rest) (hfull : s.journal.full = false)
    (hfits : s.journal.fits r = false) (hnone : s.journal.closeActive.activate = none) :
    (journalKick s).link = (notify (.journalLow .full 0) s).link := by
  show (engineTake s).link = _
  unfold engineTake
  simp only [hwriting, hqueue, hfull, hfits, hnone]
  rfl

/-- Settles O57. -/
theorem writerTakesNextBlock : Obligations.WriterTakesNextBlock := by
  intro s w h r rest i free n hwriting hqueue hfull hactive hfree hbytes hn hstage
  obtain ⟨hunits, -, -⟩ := cutUnits_whole (fuel := 9) hbytes (by omega)
  obtain ⟨hrest, hengine, hqueue', hwaits, -, hbays⟩ := written_keeps w s
  obtain ⟨hrow, -, -⟩ := program_leaves (w := w) hactive
  obtain ⟨hlast, hidle⟩ := program_marks w s.journal
  have hstates := program_state hactive w
  have hactive' : (s.journal.program w).lowest .active = some i := (lowest_congr fun m _ => by rw [hstates]).trans hactive
  have herased : (s.journal.program w).lowest .erased = s.journal.lowest .erased := lowest_congr fun m _ => by rw [hstates]
  have hfull' : (s.journal.program w).full = false := (program_field Journal.full (fun _ _ _ _ _ => rfl) w _).trans hfull
  have hseq : (s.journal.program w).nextBlockSeq = s.journal.nextBlockSeq :=
    program_field Journal.nextBlockSeq (fun _ _ _ _ _ => rfl) w _
  have hfree' : ((s.journal.program w).row i).nextFree = some (free + n) := by
    rw [hrow, hfree, hunits]
    rfl
  rw [hqueue, List.drop_one, List.tail_cons] at hqueue'
  have hhead : SaysOf r (written w s).journal.queue.head? := by
    rw [hqueue']
    exact ⟨r, rfl, rfl, rfl⟩
  have hcompleted : completed w s = complete h w.sequence (written w s) := by
    unfold completed
    rw [hqueue]
    rfl
  have hfeeds : Feeds (SaysOf r) (written w s) (completed w s) := by
    rw [hcompleted]
    exact complete_feeds (headed_saysOf r) h w.sequence _
  have hsettled := settled_journal (completed_stage hstage w)
  have htime : (written w s).time = s.time := by rw [hrest]
  have hidle' : (written w s).journal.writing = none := (engine_field Journal.writing (fun _ => rfl) hengine).trans hidle
  obtain ⟨q, ⟨q', hqq, hbody, hbay⟩, htaken⟩ := kicked_takes hfeeds hidle' hhead (fun ⟨_, hno, _⟩ => nomatch hno)
  obtain rfl := Option.some.inj hqq
  rw [taken_congr hengine, htime, ← hsettled] at htaken
  have hheadt : SaysOf r (settled (completed w s)).journal.queue.head? := by
    rw [hsettled]
    exact (journalKick_feeds _).head (hfeeds.head hhead)
  obtain ⟨t, e, ht⟩ := done_resealed s (settled (completed w s))
  rw [← ht.journal] at htaken hheadt
  obtain ⟨hroom, hmoves, hfills⟩ := taken_next (q := q) (time := s.time.calendar) (isSet := s.time.isSet) hactive' hfree' hfull' hidle
  obtain ⟨hlast', -⟩ := taken_marks (s.journal.program w) q s.time.calendar s.time.isSet
  rw [hbody, hbay, hlast, hseq] at hroom hmoves
  rw [hbody] at hfills
  rw [herased] at hmoves hfills
  have hread := fun {α : Type} (p : Journal → α) (hp : ∀ j, p (engine j) = p j) => engine_field p hp htaken
  have hreadRow : ∀ m, t.journal.row m = (taken (s.journal.program w) q s.time.calendar s.time.isSet).row m := fun m =>
    hread (fun j => j.row m) fun _ => rfl
  have hreadBlock : ∀ m, t.journal.block m = (taken (s.journal.program w) q s.time.calendar s.time.isSet).block m := fun m =>
    hread (fun j => j.block m) fun _ => rfl
  rw [← hread Journal.writing fun _ => rfl, ← hread Journal.full fun _ => rfl, ← hread Journal.nextBlockSeq fun _ => rfl,
    ← hreadRow i] at hroom
  rw [← hread Journal.writing fun _ => rfl, ← hread Journal.full fun _ => rfl, ← hread Journal.nextBlockSeq fun _ => rfl,
    ← hreadRow i, ← hreadBlock i] at hmoves
  rw [← hread Journal.writing fun _ => rfl, ← hread Journal.full fun _ => rfl, ← hreadRow i] at hfills
  refine ⟨t, (recordWriteEnd_ends hwriting).trans e, (hread Journal.last fun _ => rfl).trans (hlast'.trans hlast), ?_, hroom,
    fun hno m hm => ?_, hfills, fun hnobody hnil hcalm => ?_⟩
  · obtain ⟨p, hp, hpbody, hpbay⟩ := hheadt
    obtain ⟨qs, hqs⟩ := List.head?_eq_some_iff.mp hp
    exact ⟨p, qs, hqs, hpbody, hpbay⟩
  · obtain ⟨h1, h2, h3, h4, h5, h6, h7⟩ := hmoves hno m hm
    rw [hreadRow m, hreadBlock m]
    exact ⟨h1, h2, h3, h4, h5, h6, h7⟩
  · have hsame : completed w s = written w s := by
      rw [hcompleted]
      unfold complete
      simp only [hnobody]
    have hkept := settled_keeps (v := completed w s) (completed_stage hstage w) fun c => by
      rw [hsame, written_ctx]
      exact hcalm c
    rw [hsame] at hkept
    have hlists := congrArg Prod.fst (journalKick_lists (written w s))
    have hwqueue : (written w s).journal.queue = r :: rest := by
      rw [hqueue', hnil]
      exact List.append_nil _
    refine ⟨?_, ?_, fun hno hnone honline hlist hroom' => ?_⟩
    · rw [show t.bays = (settled (completed w s)).bays by rw [ht], hsame, hkept]
      exact hbays hnil
    · rw [ht.journal, hsettled, hsame]
      exact hlists.trans hwqueue
    · have hlink : (written w s).link = s.link := by rw [hrest]
      have hwj := engine_field (fun j => (j.full, j.fits r, j.lowest .erased)) (fun _ => rfl) hengine
      simp only [Prod.mk.injEq] at hwj
      obtain ⟨hwfull, hwfits, hwerased⟩ := hwj
      have hkicked := journalKick_full hidle' hwqueue (hwfull.trans hfull') (by
          rw [hwfits, ← Bool.not_eq_true, fits_iff hactive' hfree']
          omega) (activate_none (by rw [closeActive_lowest_erased, hwerased, herased, hnone]))
      rw [ht.link, hsame, hkept]
      show (forwardNext (journalKick (written w s))).link.noticeList = _
      have hnotice : (notify (.journalLow .full 0) (written w s)).link = { s.link with noticeList := s.link.noticeList ++ [.journalLow .full 0] } := by
        show (written w s).link.notify _ = _
        rw [hlink]
        unfold Link.notify Link.listNotice
        simp only [honline, hlist]
        exact if_pos hroom'
      have hoffline : (journalKick (written w s)).link.online = false := by rw [hkicked, hnotice]; exact honline
      have hforward : forwardNext (journalKick (written w s)) = journalKick (written w s) := by
        unfold forwardNext
        simp only [hoffline]
      rw [hforward, hkicked, hnotice]

end

end Sys2Proof.Proofs

/-! PROOFS. What the completion of a record does for its requester (R15 to R18, R103, R127, R159). -/

namespace Sys2Proof.Proofs

open Sys2Proof Sys2Proof.Machine Sys2Proof.Laws

/-! ### What every bay does in turn -/

/-- What bay c's turn of `forBays f` starts from and leads to, where every turn keeps P and the other bays. -/
theorem forBays_at {f : BayNo → State → State} (P : State → Prop) (hothers : ∀ b s, OtherBays b s (f b s))
    (hP : ∀ b s, P s → P (f b s)) {s : State} (hs : P s) (c : BayNo) :
    ∃ v, P v ∧ v.bay c = s.bay c ∧ (forBays f s).bay c = (f c v).bay c := by
  have hlist : ∀ (l : List BayNo) (s : State), P s →
      (c ∉ l → (l.foldl (fun t b => f b t) s).bay c = s.bay c)
      ∧ (l.Nodup → c ∈ l → ∃ v, P v ∧ v.bay c = s.bay c ∧ (l.foldl (fun t b => f b t) s).bay c = (f c v).bay c) := fun l => by
    induction l with
    | nil => exact fun s _ => ⟨fun _ => rfl, fun _ h => nomatch h⟩
    | cons a l ih =>
      intro s hs
      obtain ⟨hout, hin⟩ := ih (f a s) (hP a s hs)
      rw [List.foldl_cons]
      refine ⟨fun hc => ?_, fun hnodup hc => ?_⟩
      · rw [hout fun h => hc (List.mem_cons_of_mem a h)]
        exact hothers a s c fun h => hc (h ▸ List.mem_cons_self ..)
      · obtain ⟨ha, hl⟩ := List.nodup_cons.mp hnodup
        by_cases hca : c = a
        · subst hca
          exact ⟨s, hs, rfl, hout ha⟩
        · obtain ⟨v, hv, hsame, hturn⟩ := hin hl ((List.mem_cons.mp hc).resolve_left hca)
          exact ⟨v, hv, hsame.trans (hothers a s c hca), hturn⟩
  exact (hlist allBays s hs).2 (by decide) (mem_allBays c)

section
variable {b : BayNo} {s t u v : State} {w : Writing} {r : Machine.Append}

/-! ### A SALE's completion (R15, R16) -/

/-- Entry to PRINT leaves COMMIT and PAYOUT, and keeps the SALE's sequence while the transaction is open. -/
theorem enterPrint_leads (b : BayNo) (s : State) :
    (∃ y, Turns b s (enterPrint b s) y ∧ y.ctx.wait ≠ .places)
    ∧ (((enterPrint b s).ctx b).state = .print ∧ ((enterPrint b s).ctx b).txnSeq = (s.ctx b).txnSeq
      ∨ AtRest (enterPrint b s) b) := by
  obtain ⟨⟨y, hturns, -, -, hwait⟩, hdeclined, hwanted⟩ := enterPrint_enters b s
  refine ⟨⟨y, hturns, hwait⟩, ?_⟩
  by_cases hd : (s.ctx b).receiptWanted = false ∧ (s.ctx b).shortPay = 0
  · obtain ⟨hno, hzero⟩ := hd
    exact .inr (hdeclined hno hzero).1
  · have hw : (s.ctx b).receiptWanted = true ∨ (s.ctx b).shortPay ≠ 0 := by
      cases hr : (s.ctx b).receiptWanted with
      | true => exact .inl rfl
      | false => exact .inr fun hzero => hd ⟨hr, hzero⟩
    rcases hwanted hw with ⟨hstate, -, hseq⟩ | ⟨hrest, -⟩
    · exact .inl ⟨hstate, hseq⟩
    · exact .inr hrest

theorem atRest_state (h : AtRest t b) : (t.ctx b).state = .idle ∨ (t.ctx b).state = .outOfService := by
  obtain ⟨hstate, -⟩ := h
  rw [hstate]
  split
  · exact .inl rfl
  · exact .inr rfl

/-- Where a SALE's completion leads: out of COMMIT, its sequence kept while the transaction is open. -/
structure SaleLeads (b : BayNo) (n : Option Nat) (s t : State) : Prop where
  turns : ∃ y, Turns b s t y ∧ y.ctx.wait ≠ .places
  state : (t.ctx b).state = .payout ∨ (t.ctx b).state = .print ∨ (t.ctx b).state = .idle ∨ (t.ctx b).state = .outOfService
  kept : (t.ctx b).state.isOpen = true → (t.ctx b).txnSeq = n

theorem enterPrint_saleLeads (b : BayNo) (s : State) : SaleLeads b (s.ctx b).txnSeq s (enterPrint b s) := by
  obtain ⟨hturns, hleads⟩ := enterPrint_leads b s
  rcases hleads with ⟨hstate, hseq⟩ | hrest
  · exact ⟨hturns, .inr (.inl hstate), fun _ => hseq⟩
  · refine ⟨hturns, .inr (.inr (atRest_state hrest)), fun hopen => ?_⟩
    rcases atRest_state hrest with h | h
    · rw [h] at hopen
      cases hopen
    · rw [h] at hopen
      cases hopen

theorem changeEnded_saleLeads (hstate : (s.ctx b).state = .payout) : SaleLeads b (s.ctx b).txnSeq s (changeEnded b s) := by
  have hset := (Becomes.modBay b s shortBay).turns
  have hctx : (s.modBay b shortBay).ctx b = { s.ctx b with shortPay := (s.ctx b).changeDue.getD 0 - (s.ctx b).changePaid } :=
    congrArg Bay.ctx (State.bay_modBay_self s b shortBay)
  have hseq : ((s.modBay b shortBay).ctx b).txnSeq = (s.ctx b).txnSeq := by rw [hctx]
  have hstate' : ((s.modBay b shortBay).ctx b).state = .payout := by rw [hctx]; exact hstate
  rw [changeEnded_eq]
  generalize s.modBay b shortBay = u at hset hseq hstate'
  split
  · have h := adjustAndWait_turns .shortPay ((s.ctx b).changeDue.getD 0 - (s.ctx b).changePaid) b u
    exact ⟨⟨_, h.behind hset, nofun⟩, .inl ((h.field (fun y => y.ctx.state) fun _ => rfl).trans hstate'),
      fun _ => (h.field (fun y => y.ctx.txnSeq) fun _ => rfl).trans hseq⟩
  · obtain ⟨⟨y, hturns, hwait⟩, hleads, hkept⟩ := enterPrint_saleLeads b u
    rw [hseq] at hkept
    exact ⟨⟨y, hturns.behind hset, hwait⟩, hleads, hkept⟩

/-- Entry to PAYOUT drives the plan's first tube, or the payout has ended. -/
theorem enterPayout_leads (b : BayNo) (s : State) :
    SaleLeads b (s.ctx b).txnSeq s (enterPayout b s)
    ∧ ∀ e es, s.changePlan b ((s.ctx b).changeDue.getD 0) = some (e :: es) →
      ((enterPayout b s).ctx b).state = .payout
      ∧ ((enterPayout b s).bay b).payout =
          ⟨true, .payout, (s.ctx b).changeDue.getD 0, 0, e :: es, some (e.tube, s.now)⟩ := by
  have hentered := (enter_becomes .payout b s).step (g := fun y => { y with ctx := { y.ctx with wait := .payout } })
    (await_becomes .payout b _) fun _ => rfl
  unfold enterPayout
  dsimp only
  generalize await .payout b (enter .payout b s) = u at hentered
  have hdue : (u.ctx b).changeDue = (s.ctx b).changeDue := hentered.field (fun y => y.ctx.changeDue) fun _ => rfl
  have hseq : (u.ctx b).txnSeq = (s.ctx b).txnSeq := hentered.field (fun y => y.ctx.txnSeq) fun _ => rfl
  have hstate : (u.ctx b).state = .payout := hentered.field (fun y => y.ctx.state) fun _ => rfl
  have hwait : (u.ctx b).wait = .payout := hentered.field (fun y => y.ctx.wait) fun _ => rfl
  have hnow : u.now = s.now := congrArg Time.ms hentered.time
  have hplan : u.changePlan b ((s.ctx b).changeDue.getD 0) = s.changePlan b ((s.ctx b).changeDue.getD 0) :=
    changePlan_congr hentered.site (hentered.field Bay.tubes fun _ => rfl) _
  rw [hdue]
  generalize (s.ctx b).changeDue.getD 0 = due at hplan
  have hasked : (u.modPayout b fun _ => ⟨true, .payout, due, 0, [], none⟩).bay b = payingBay ⟨true, .payout, due, 0, [], none⟩ (u.bay b) :=
    State.bay_modBay_self u b _
  have hasked' := modPayout_becomes b u fun _ => ⟨true, .payout, due, 0, [], none⟩
  have hnow' : (u.modPayout b fun _ => ⟨true, .payout, due, 0, [], none⟩).now = s.now := hnow
  have hplan' : (u.modPayout b fun _ => ⟨true, .payout, due, 0, [], none⟩).changePlan b due = s.changePlan b due :=
    (changePlan_congr hasked'.site (hasked'.field Bay.tubes fun _ => rfl) _).trans hplan
  unfold startPayout
  generalize u.modPayout b (fun _ => ⟨true, .payout, due, 0, [], none⟩) = v at hasked hasked' hnow' hplan'
  have hv := hentered.turns.step (g := payingBay (v.bay b).payout) hasked'.turns fun _ => rfl
  have hvctx : v.ctx b = u.ctx b := (congrArg Bay.ctx hasked).trans rfl
  have hvpay : (v.bay b).payout = ⟨true, .payout, due, 0, [], none⟩ := (congrArg Bay.payout hasked).trans rfl
  have hends : SaleLeads b (s.ctx b).txnSeq s (payoutEnded b (stopPayout b v)) := by
    have hstopped := modPayout_becomes b v fun x => { x with running := false, plan := [], drive := none }
    have hbay := stopPayout_bay b v
    have hctx : (stopPayout b v).ctx b = u.ctx b := (congrArg Bay.ctx hbay).trans hvctx
    have heq : payoutEnded b (stopPayout b v) = changeEnded b (stopPayout b v) := by
      unfold payoutEnded
      rw [hbay, hvpay, hctx]
      simp only [payingBay, hstate, hwait]
    rw [heq]
    obtain ⟨⟨y, hturns, hw⟩, hleads, hkept⟩ := changeEnded_saleLeads (b := b) (s := stopPayout b v) (by rw [hctx]; exact hstate)
    rw [hctx, hseq] at hkept
    exact ⟨⟨y, (hturns.behind hstopped.turns).behind hv, hw⟩, hleads, hkept⟩
  have hdrives : ∀ e es, v.changePlan b ((v.bay b).payout.amount - (v.bay b).payout.paid) = some (e :: es) →
      payoutStep b (planPayout b v) = v.modPayout b fun x => { x with plan := e :: es, drive := some (e.tube, v.now) } :=
    fun e es h => by rw [planPayout_drives h]; rfl
  have hplanned : ∀ e es, SaleLeads b (s.ctx b).txnSeq s (v.modPayout b fun x => { x with plan := e :: es, drive := some (e.tube, v.now) }) :=
    fun e es => by
      have h := modPayout_becomes b v fun x => { x with plan := e :: es, drive := some (e.tube, v.now) }
      have hb : (v.modPayout b fun x => { x with plan := e :: es, drive := some (e.tube, v.now) }).ctx b = u.ctx b :=
        (congrArg Bay.ctx (State.bay_modBay_self v b _)).trans hvctx
      refine ⟨⟨_, h.turns.behind hv, ?_⟩, .inl (by rw [hb]; exact hstate), fun _ => by rw [hb]; exact hseq⟩
      show (v.ctx b).wait ≠ _
      rw [hvctx, hwait]
      decide
  refine ⟨?_, fun e es hp => ?_⟩
  · cases hp : v.changePlan b ((v.bay b).payout.amount - (v.bay b).payout.paid) with
    | none => rw [planPayout_stops hp]; exact hends
    | some l =>
      cases l with
      | nil =>
        have heq : planPayout b v = (stopPayout b v, true) := by
          unfold planPayout
          simp only [hp]
        rw [heq]
        exact hends
      | cons e es => rw [hdrives e es hp]; exact hplanned e es
  · have hp' : v.changePlan b ((v.bay b).payout.amount - (v.bay b).payout.paid) = some (e :: es) := by
      rw [hvpay]
      exact hplan'.trans hp
    rw [hdrives e es hp']
    have hb : (v.modPayout b fun x => { x with plan := e :: es, drive := some (e.tube, v.now) }).bay b =
        payingBay { (v.bay b).payout with plan := e :: es, drive := some (e.tube, v.now) } (v.bay b) := State.bay_modBay_self v b _
    rw [State.ctx, hb, hvpay, hnow']
    exact ⟨(congrArg Ctx.state hvctx).trans hstate, rfl⟩

/-- A record whose SALE has the sequence n. -/
def numberedBay (n : Nat) (y : Bay) : Bay := { y with ctx := { y.ctx with txnSeq := some n } }

theorem takeSequence_turns (n : Nat) (b : BayNo) (s : State) :
    Turns b s (takeSequence n b s) (numberedBay n (s.bay b)) ∧ (takeSequence n b s).bay b = numberedBay n (s.bay b) := by
  have hset := (Becomes.modBay b s (numberedBay n)).turns
  have hbay := State.bay_modBay_self s b (numberedBay n)
  unfold takeSequence
  dsimp only
  split
  · exact ⟨⟨hset.others, hset.time, hset.bus, hset.site, hset.bay⟩, hbay⟩
  · exact ⟨hset, hbay⟩

/-- The completion of a SALE with no held reset. -/
theorem saleDone_leads (n : Nat) (hstate : (s.ctx b).state = .commit) (hwait : (s.ctx b).wait = .sale)
    (hheld : (s.ctx b).resetHeld = false) :
    SaleLeads b (some n) s (saleDone n b s)
    ∧ ∀ e es, 0 < (s.ctx b).changeDue.getD 0 → s.changePlan b ((s.ctx b).changeDue.getD 0) = some (e :: es) →
      ((saleDone n b s).ctx b).state = .payout
      ∧ ((saleDone n b s).bay b).payout =
          ⟨true, .payout, (s.ctx b).changeDue.getD 0, 0, e :: es, some (e.tube, s.now)⟩ := by
  obtain ⟨hturns, hbay⟩ := takeSequence_turns n b s
  unfold saleDone
  rw [if_pos ⟨hstate, hwait⟩]
  dsimp only
  have hheld' : ((takeSequence n b s).ctx b).resetHeld = false := (congrArg (fun y : Bay => y.ctx.resetHeld) hbay).trans hheld
  have hdue : ((takeSequence n b s).ctx b).changeDue = (s.ctx b).changeDue := (congrArg (fun y : Bay => y.ctx.changeDue) hbay).trans rfl
  have hseq : ((takeSequence n b s).ctx b).txnSeq = some n := congrArg (fun y : Bay => y.ctx.txnSeq) hbay
  have hplan : ∀ k, (takeSequence n b s).changePlan b k = s.changePlan b k :=
    changePlan_congr hturns.site ((congrArg Bay.tubes hbay).trans rfl)
  have hnow := hturns.now
  rw [hheld', hdue, if_neg (by decide)]
  generalize takeSequence n b s = u at hturns hseq hdue hplan hnow
  have hafter : ∀ x, SaleLeads b (u.ctx b).txnSeq u x → SaleLeads b (some n) s x := fun x h => by
    obtain ⟨⟨y, hy, hw⟩, hleads, hkept⟩ := h
    rw [hseq] at hkept
    exact ⟨⟨y, hy.behind hturns, hw⟩, hleads, hkept⟩
  split
  · obtain ⟨hleads, hdrives⟩ := enterPayout_leads b u
    rw [hdue, hnow] at hdrives
    exact ⟨hafter _ hleads, fun e es _ hp => hdrives e es ((hplan _).trans hp)⟩
  next hno => exact ⟨hafter _ (enterPrint_saleLeads b u), fun e es hpos => absurd hpos hno⟩

/-! ### An ADJUST's completion (R16 to R18) -/

/-- Where an ADJUST's completion leads. -/
structure AdjustLeads (b : BayNo) (s t : State) : Prop where
  turns : ∃ y, Turns b s t y ∧ y.ctx.wait ≠ .places
  payout : (s.ctx b).state = .payout → (t.ctx b).state = .print ∨ (t.ctx b).state = .idle ∨ (t.ctx b).state = .outOfService
  closes : (s.ctx b).state = .print ∨ (s.ctx b).state = .refund →
    ((t.ctx b).state = .idle ∨ (t.ctx b).state = .outOfService) ∧ (t.ctx b).bank = none
  chirps : (s.ctx b).state = .print → (t.bay b).term.tone = .chirp

theorem adjustDone_leads (hwait : (s.ctx b).wait = .adjust) : AdjustLeads b s (adjustDone b s) := by
  have hclosed : (s.ctx b).state = .print ∨ (s.ctx b).state = .refund → adjustDone b s = closeTxn b s := fun h => by
    unfold adjustDone
    rcases h with h | h <;> simp only [h, hwait]
  have hpaid : (s.ctx b).state = .payout → adjustDone b s = enterPrint b s := fun h => by
    unfold adjustDone
    simp only [h, hwait]
  refine ⟨?_, fun h => ?_, fun h => ?_, fun h => ?_⟩
  · by_cases hc : (s.ctx b).state = .print ∨ (s.ctx b).state = .refund
    · rw [hclosed hc]
      exact ⟨_, closeTxn_turns b s, closedBay_waits _ _ _ _⟩
    · by_cases hp : (s.ctx b).state = .payout
      · rw [hpaid hp]
        exact (enterPrint_leads b s).1
      · have hsame : adjustDone b s = s := by
          unfold adjustDone
          split
          next h _ => exact absurd h hp
          next h _ => exact absurd (.inl h) hc
          next h _ => exact absurd (.inr h) hc
          next => rfl
        rw [hsame]
        refine ⟨_, .refl b s, ?_⟩
        show (s.ctx b).wait ≠ _
        rw [hwait]
        decide
  · rw [hpaid h]
    rcases (enterPrint_leads b s).2 with ⟨hstate, -⟩ | hrest
    · exact .inl hstate
    · exact .inr (atRest_state hrest)
  · rw [hclosed h]
    exact ⟨atRest_state (closeTxn_atRest b s), (closeTxn_atRest b s).2⟩
  · rw [hclosed (.inl h)]
    exact (closeTxn_chirps h).1

end

end Sys2Proof.Proofs

/-! PROOFS. The end of a record's write completes its request (R15 to R18, R103, R126, R127, R156, R159, R166). -/

namespace Sys2Proof.Proofs

open Sys2Proof Sys2Proof.Machine Sys2Proof.Laws

section
variable {b : BayNo} {i n : Nat} {s t : State} {w : Writing} {r : Machine.Append} {rest : List Machine.Append}

/-! ### The blocks and the marks (R156) -/

theorem settled_feeds (v : State) : Feeds (fun _ => True) v (settled v) :=
  (((journalKick_feeds v).trans (forwardNext_feeds _)).trans (forBays_feeds releaseReset_feeds _)).trans (linkResetContinue_feeds _)

theorem completed_feeds (w : Writing) (s : State) : Feeds (fun _ => True) (written w s) (completed w s) := by
  unfold completed
  cases s.journal.queue.head? with
  | none => exact .refl _
  | some r => exact complete_feeds headed_true r _ _

/-- What the end of any record's write leaves of the blocks. -/
theorem write_programs (ht : Resealed (settled (completed w s)) t) :
    t.time = s.time ∧ t.journal.acked = s.journal.acked ∧ t.journal.last = w.sequence
    ∧ ∀ i n, s.journal.lowest .active = some i → w.bytes.length = 16 * n → n ≤ 8 →
        (t.journal.row i).lastValid = some w.sequence
        ∧ (∃ us, (t.journal.block i).units = (s.journal.block i).units ++ us ∧ us.length = n ∧ us.flatten = w.bytes
            ∧ ∀ u ∈ us, u.length = 16)
        ∧ ∀ k, k ≠ i → (s.journal.row k).state ≠ .erased → t.journal.block k = s.journal.block k := by
  obtain ⟨hrest, hengine, -⟩ := written_keeps w s
  have hfeeds := (completed_feeds w s).trans (settled_feeds _)
  have htime : (written w s).time = s.time := by rw [hrest]
  have hacked : (s.journal.program w).acked = s.journal.acked := program_field Journal.acked (fun _ _ _ _ _ => rfl) w _
  obtain ⟨hlast, -⟩ := program_marks w s.journal
  have hfinal : engine t.journal = engine (s.journal.program w)
      ∨ ∃ q, engine t.journal = engine (taken (s.journal.program w) q s.time.calendar s.time.isSet) := by
    rw [ht.journal]
    rcases hfeeds.engine trivial with hsame | ⟨-, q, -, htaken⟩
    · exact .inl (hsame.trans hengine)
    · rw [htime] at htaken
      exact .inr ⟨q, htaken.trans (taken_congr hengine)⟩
  have hmarks : t.journal.acked = s.journal.acked ∧ t.journal.last = w.sequence := by
    rcases hfinal with hsame | ⟨q, htaken⟩
    · exact ⟨(engine_field Journal.acked (fun _ => rfl) hsame).trans hacked, (engine_field Journal.last (fun _ => rfl) hsame).trans hlast⟩
    · obtain ⟨hl, ha⟩ := taken_marks (s.journal.program w) q s.time.calendar s.time.isSet
      exact ⟨(engine_field Journal.acked (fun _ => rfl) htaken).trans (ha.trans hacked),
        (engine_field Journal.last (fun _ => rfl) htaken).trans (hl.trans hlast)⟩
  obtain ⟨hmark, hmark'⟩ := hmarks
  refine ⟨(ht.time.trans hfeeds.time).trans htime, hmark, hmark', fun i n hactive hbytes hn => ?_⟩
  obtain ⟨hunits, hflat, hwhole⟩ := cutUnits_whole (fuel := 9) hbytes (by omega)
  obtain ⟨hrow, hblock, hothers⟩ := program_leaves (w := w) hactive
  have hstates := program_state hactive w
  have hactive' : (s.journal.program w).lowest .active = some i := (lowest_congr fun m _ => by rw [hstates]).trans hactive
  obtain ⟨-, hstate, -⟩ := lowest_iff.mp hactive
  have hblocks : ∀ m, (s.journal.row m).state ≠ .erased →
      (t.journal.row m).lastValid = ((s.journal.program w).row m).lastValid
      ∧ (t.journal.block m).units = ((s.journal.program w).block m).units
      ∧ (m ≠ i → t.journal.block m = (s.journal.program w).block m) := fun m hm => by
    rcases hfinal with hsame | ⟨q, htaken⟩
    · exact ⟨engine_field (fun j => (j.row m).lastValid) (fun _ => rfl) hsame,
        engine_field (fun j => (j.block m).units) (fun _ => rfl) hsame, fun _ => engine_field (fun j => j.block m) (fun _ => rfl) hsame⟩
    · obtain ⟨hl, hu, hb⟩ := taken_blocks (s.journal.program w) q s.time.calendar s.time.isSet (m := m) (by rw [hstates]; exact hm)
      refine ⟨(engine_field (fun j => (j.row m).lastValid) (fun _ => rfl) htaken).trans hl,
        (engine_field (fun j => (j.block m).units) (fun _ => rfl) htaken).trans hu, fun hmi =>
        (engine_field (fun j => j.block m) (fun _ => rfl) htaken).trans (hb ?_)⟩
      rw [hactive']
      exact fun h => hmi (Option.some.inj h).symm
  obtain ⟨hl, hu, -⟩ := hblocks i (by rw [hstate]; decide)
  refine ⟨hl.trans (congrArg Row.lastValid hrow), ⟨_, hu.trans (congrArg Block.units hblock), hunits, hflat, hwhole⟩, fun k hk he => ?_⟩
  obtain ⟨-, -, hb⟩ := hblocks k he
  exact (hb hk).trans (hothers k hk).2

/-! ### The requester (R159) -/

/-- What of a completion's effect stands at the end: all but the journal's blocks and the port. -/
structure Completes (w : Writing) (r : Machine.Append) (s t : State) : Prop where
  bays : t.bays = (complete r w.sequence (written w s)).bays
  card : t.card = (complete r w.sequence (written w s)).card
  tariff : t.tariff = (complete r w.sequence (written w s)).tariff
  bus : t.bus = (complete r w.sequence (written w s)).bus
  lists : lists t.journal = lists (complete r w.sequence (written w s)).journal

theorem Completes.bay (h : Completes w r s t) (c : BayNo) : t.bay c = (complete r w.sequence (written w s)).bay c := by
  rw [State.bay, h.bays, State.bay]

theorem Completes.ctx (h : Completes w r s t) (c : BayNo) : t.ctx c = (complete r w.sequence (written w s)).ctx c :=
  congrArg Bay.ctx (h.bay c)

theorem settled_stands {v : State} (hstage : v.link.resetStage = .none) (hcalm : ∀ c, (v.ctx c).wait ≠ .places)
    (ht : Resealed (settled v) t) : t.bays = v.bays ∧ t.card = v.card ∧ t.tariff = v.tariff ∧ t.bus = v.bus
      ∧ lists t.journal = lists v.journal := by
  have hlists : lists (settled v).journal = lists v.journal := by
    rw [settled_journal hstage]
    exact journalKick_lists v
  have hkept := settled_keeps hstage hcalm
  rw [← ht.journal] at hlists
  generalize settled v = x at hkept ht
  generalize (journalKick v).journal = j at hkept
  generalize (forwardNext (journalKick v)).link = l at hkept
  subst hkept
  exact ⟨(congrArg State.bays ht).trans rfl, ht.card, ht.tariff, ht.bus, hlists⟩

/-- Where no bay's context waits for places behind the completion, its effect stands. -/
theorem completes_of_calm (hqueue : s.journal.queue = r :: rest) (hstage : s.link.resetStage = .none)
    (hcalm : ∀ c, ((complete r w.sequence (written w s)).ctx c).wait ≠ .places) (ht : Resealed (settled (completed w s)) t) :
    Completes w r s t := by
  have heq : completed w s = complete r w.sequence (written w s) := by
    unfold completed
    rw [hqueue]
    rfl
  rw [← heq] at hcalm
  obtain ⟨hbays, hcard, htariff, hbus, hlists⟩ := settled_stands (completed_stage hstage w) hcalm ht
  rw [heq] at hbays hcard htariff hbus hlists
  exact ⟨hbays, hcard, htariff, hbus, hlists⟩

theorem written_bay (w : Writing) (s : State) (c : BayNo) : SlotKept (s.bay c) ((written w s).bay c) := by
  obtain ⟨-, -, -, -, hbays, -⟩ := written_keeps w s
  exact hbays c

theorem written_units (w : Writing) (s : State) : (written w s).card = s.card ∧ (written w s).tariff = s.tariff
    ∧ (written w s).bus = s.bus ∧ (written w s).time = s.time := by
  obtain ⟨hrest, -⟩ := written_keeps w s
  rw [hrest]
  exact ⟨rfl, rfl, rfl, rfl⟩

theorem written_field {α : Type} (p : Bay → α) (hp : ∀ l y, p (slottedBay l y) = p y) (w : Writing) (s : State) (c : BayNo) :
    p ((written w s).bay c) = p (s.bay c) := by
  obtain ⟨l, hl, -⟩ := written_bay w s c
  rw [hl, hp]

theorem written_plan (w : Writing) (s : State) (b : BayNo) (k : Nat) : (written w s).changePlan b k = s.changePlan b k :=
  changePlan_congr (congrArg (fun x : Tariff => x.site.entries) (written_units w s).2.1) (written_field Bay.tubes (fun _ _ => rfl) w s b) k

/-- A completion at bay b alone leaves no context waiting for places. -/
theorem calm_of_turns {v : State} {y : Bay} (hcalm : ∀ c, (s.ctx c).wait ≠ .places) (h : Turns b (written w s) v y)
    (hwait : y.ctx.wait ≠ .places) : ∀ c, (v.ctx c).wait ≠ .places := fun c => by
  by_cases hc : c = b
  · rw [hc, State.ctx, h.field (fun y => y.ctx.wait) fun _ => rfl]
    exact hwait
  · rw [State.ctx, h.others c hc]
    show ((written w s).ctx c).wait ≠ _
    rw [written_ctx]
    exact hcalm c

theorem sale_completes {x : SaleBody} (hqueue : s.journal.queue = r :: rest) (hstage : s.link.resetStage = .none)
    (hcalm : ∀ c, (s.ctx c).wait ≠ .places) (ht : Resealed (settled (completed w s)) t)
    (hr : r = ⟨.sale x, some b, .ctx b⟩) (hstate : (s.ctx b).state = .commit) (hwait : (s.ctx b).wait = .sale)
    (hheld : (s.ctx b).resetHeld = false) :
    OtherContexts b s t ∧ (t.ctx b).state ≠ .commit
    ∧ ((t.ctx b).state.isOpen = true → (t.ctx b).txnSeq = some w.sequence)
    ∧ ∀ e es, 0 < (s.ctx b).changeDue.getD 0 → s.changePlan b ((s.ctx b).changeDue.getD 0) = some (e :: es) →
        (t.ctx b).state = .payout
        ∧ (t.bay b).payout = ⟨true, .payout, (s.ctx b).changeDue.getD 0, 0, e :: es, some (e.tube, s.time.ms)⟩ := by
  have hctx := written_ctx w s
  have hdone : complete r w.sequence (written w s) = saleDone w.sequence b (written w s) := by
    rw [hr]
    rfl
  obtain ⟨⟨⟨y, hy, hyw⟩, hleads, hkept⟩, hdrives⟩ := saleDone_leads (b := b) (s := written w s) w.sequence (by rw [hctx]; exact hstate)
    (by rw [hctx]; exact hwait) (by rw [hctx]; exact hheld)
  have hcompletes := completes_of_calm hqueue hstage (by rw [hdone]; exact calm_of_turns hcalm hy hyw) ht
  have hbay := hcompletes.bay
  rw [hctx, show (written w s).now = s.time.ms from congrArg Time.ms (written_units w s).2.2.2] at hdrives
  rw [hdone] at hbay
  generalize saleDone w.sequence b (written w s) = v at *
  have htctx : ∀ c, t.ctx c = v.ctx c := fun c => congrArg Bay.ctx (hbay c)
  rw [htctx b, hbay b]
  refine ⟨fun c hc => ?_, ?_, hkept, fun e es hpos hplan => hdrives e es hpos ((written_plan w s b _).trans hplan)⟩
  · rw [htctx, ← hctx c]
    exact congrArg Bay.ctx (hy.others c hc)
  · rcases hleads with h | h | h | h
    all_goals
      rw [h]
      decide

theorem adjust_completes {why : AdjustReason} {n : Nat} {q : Option Nat} (hqueue : s.journal.queue = r :: rest)
    (hstage : s.link.resetStage = .none) (hcalm : ∀ c, (s.ctx c).wait ≠ .places) (ht : Resealed (settled (completed w s)) t)
    (hr : r = ⟨.adjust why n q, some b, .ctx b⟩) (hwait : (s.ctx b).wait = .adjust) :
    OtherContexts b s t
    ∧ ((s.ctx b).state = .payout → (t.ctx b).state = .print ∨ (t.ctx b).state = .idle ∨ (t.ctx b).state = .outOfService)
    ∧ ((s.ctx b).state = .print ∨ (s.ctx b).state = .refund →
        ((t.ctx b).state = .idle ∨ (t.ctx b).state = .outOfService) ∧ (t.ctx b).bank = none)
    ∧ ((s.ctx b).state = .print → (t.bay b).term.tone = .chirp) := by
  have hctx := written_ctx w s
  have hdone : complete r w.sequence (written w s) = adjustDone b (written w s) := by
    rw [hr]
    rfl
  obtain ⟨⟨y, hy, hyw⟩, hpayout, hcloses, hchirps⟩ := adjustDone_leads (b := b) (s := written w s) (by rw [hctx]; exact hwait)
  have hcompletes := completes_of_calm hqueue hstage (by rw [hdone]; exact calm_of_turns hcalm hy hyw) ht
  have hbay := hcompletes.bay
  rw [hctx] at hpayout hcloses hchirps
  rw [hdone] at hbay
  generalize adjustDone b (written w s) = v at *
  have htctx : ∀ c, t.ctx c = v.ctx c := fun c => congrArg Bay.ctx (hbay c)
  rw [htctx b, hbay b]
  refine ⟨fun c hc => ?_, hpayout, hcloses, hchirps⟩
  rw [htctx, ← hctx c]
  exact congrArg Bay.ctx (hy.others c hc)

/-! ### A TEAR's completion (R126, R127) -/

theorem presentAgain_bay (b : BayNo) (s : State) : (presentAgain b s).bay b = againBay (s.bay b) := by
  unfold presentAgain
  rw [presentRead_bay_self, State.bay_modBay_self]
  rfl

/-- An entry that leaves the table lets the exchanges that waited for it read again. -/
theorem resume_reads (serial : BitVec 32) (s : State) :
    (resume serial s).card = s.card ∧ ∀ c, (resume serial s).ctx c = s.ctx c
      ∧ ((s.exch c).phase = .resolving → (s.exch c).resolving = some serial → ((resume serial s).exch c).phase = .presenting) := by
  have hturn : ∀ b s, OtherBays b s (resumeAt serial b s) ∧ (resumeAt serial b s).card = s.card := fun b s => by
    unfold resumeAt
    split
    · exact ⟨(presentAgain_becomes b s).others, (presentAgain_becomes b s).card⟩
    · exact ⟨fun _ _ => rfl, rfl⟩
  refine ⟨forBays_keeps State.card _ (fun b s => (hturn b s).2) s, fun c => ?_⟩
  obtain ⟨v, -, hsame, hlast⟩ := forBays_at (fun _ => True) (fun b s => (hturn b s).1) (fun _ _ _ => trivial) (s := s) trivial c
  have hread : (resumeAt serial c v).bay c =
      if (s.exch c).phase = .resolving ∧ (s.exch c).resolving = some serial then againBay (s.bay c) else s.bay c := by
    unfold resumeAt
    rw [show v.exch c = s.exch c from congrArg Bay.card hsame]
    split
    · rw [presentAgain_bay, hsame]
    · exact hsame
  have hbay : (resume serial s).bay c = _ := hlast.trans hread
  constructor
  · rw [State.ctx, hbay]
    split
    · exact presentedBay_ctx _
    · rfl
  · intro hphase hresolving
    rw [State.exch, hbay, if_pos ⟨hphase, hresolving⟩, againBay_card]

/-- The record of a closing entry takes the entry out of the table and lets the exchanges that waited for it read. -/
theorem tearDone_closing {how : Resolution} {serial : BitVec 32} {x : Tear} {u : State} (hx : u.tearOf serial = some x)
    (hclosing : x.closing = true) :
    tearDone serial how u = resume serial (notify (.tear x.bay serial (some how)) (removeTear serial u)) := by
  unfold tearDone
  rw [hx]
  exact if_pos hclosing

theorem removeTear_none (serial : BitVec 32) (n : Notice) (u : State) : (notify n (removeTear serial u)).tearOf serial = none :=
  List.find?_eq_none.mpr fun _ hy h => of_decide_eq_true (List.mem_filter.mp hy).2 (eq_of_beq h)

theorem complete_tear {how : Resolution} {serial : BitVec 32} {op : WriteOp} {n : Nat} {q : Option Nat} {d : Option BayNo}
    {why : TearReason} {o : Option BayNo} (m : Nat) (u : State) :
    complete ⟨.tear how serial op n q d why, o, .tear serial⟩ m u = tearDone serial how u := rfl

theorem tear_completes {how : Resolution} {serial : BitVec 32} {op : WriteOp} {n : Nat} {q : Option Nat} {d : Option BayNo}
    {why : TearReason} {o : Option BayNo} {x : Tear} (hqueue : s.journal.queue = r :: rest) (hstage : s.link.resetStage = .none)
    (hcalm : ∀ c, (s.ctx c).wait ≠ .places) (ht : Resealed (settled (completed w s)) t)
    (hr : r = ⟨.tear how serial op n q d why, o, .tear serial⟩) (hx : s.tearOf serial = some x) (hclosing : x.closing = true) :
    t.tearOf serial = none ∧ (∀ c, t.ctx c = s.ctx c)
    ∧ ∀ c, (s.exch c).phase = .resolving → (s.exch c).resolving = some serial → (t.exch c).phase = .presenting := by
  have hctx := written_ctx w s
  obtain ⟨hcard, -, -, -⟩ := written_units w s
  have hexch : ∀ c, (written w s).exch c = s.exch c := written_field Bay.card (fun _ _ => rfl) w s
  have hdone : complete r w.sequence (written w s) =
      resume serial (notify (.tear x.bay serial (some how)) (removeTear serial (written w s))) := by
    have htear : (written w s).tearOf serial = some x := by
      rw [State.tearOf, hcard]
      exact hx
    rw [hr, complete_tear, tearDone_closing htear hclosing]
  obtain ⟨hkept, hreads⟩ := resume_reads serial (notify (.tear x.bay serial (some how)) (removeTear serial (written w s)))
  have hctx' : ∀ c, (resume serial (notify (.tear x.bay serial (some how)) (removeTear serial (written w s)))).ctx c = s.ctx c :=
    fun c => (hreads c).1.trans (hctx c)
  have hcompletes := completes_of_calm hqueue hstage (fun c => by rw [hdone, hctx' c]; exact hcalm c) ht
  have hbay := hcompletes.bay
  have htcard := hcompletes.card
  rw [hdone] at hbay htcard
  refine ⟨?_, fun c => (congrArg Bay.ctx (hbay c)).trans (hctx' c), fun c hphase hresolving => ?_⟩
  · rw [State.tearOf, htcard, hkept]
    exact removeTear_none serial (.tear x.bay serial (some how)) (written w s)
  · have hfresh := (hreads c).2 ((congrArg Exchange.phase (hexch c)).trans hphase) ((congrArg Exchange.resolving (hexch c)).trans hresolving)
    rw [State.exch] at hfresh ⊢
    rw [hbay]
    exact hfresh

/-! ### A BOX's completion (R103) -/

theorem askBox_card (b : BayNo) (s : State) : (askBox b s).card = s.card := by
  unfold askBox
  split
  · split
    · rfl
    · split
      · rfl
      · exact congrArg Beside.card (append_beside _ _)
  · rfl

/-- The head closure of a slot is asked for, and stays. -/
theorem askBox_closes (b : BayNo) (s : State) : (∀ c, ∃ l, (askBox b s).bay c = slottedBay l (s.bay c))
    ∧ ((askBox b s).bay b).box.slot.map Closure.record = (s.bay b).box.slot.map Closure.record
    ∧ ∀ c, (s.bay b).box.slot.head? = some c → c.requested = false →
        ∃ q ∈ asked (askBox b s).journal, q.requester = .box b ∧ q.body = .box c.record := by
  have hsame : ∀ c, ∃ l, s.bay c = slottedBay l (s.bay c) := fun c => ⟨_, rfl⟩
  unfold askBox
  cases hslot : (s.bay b).box.slot with
  | nil =>
    dsimp only
    exact ⟨hsame, by rw [hslot], nofun⟩
  | cons d rest =>
    dsimp only
    cases hreq : d.requested with
    | true =>
      rw [if_pos rfl]
      refine ⟨hsame, by rw [hslot], fun c hc hno => ?_⟩
      obtain rfl := Option.some.inj hc
      rw [hreq] at hno
      cases hno
    | false =>
      rw [if_neg (by decide)]
      cases hany : s.journal.waitList.any (Append.isBoxOf b) with
      | true =>
        rw [if_pos rfl]
        refine ⟨hsame, congrArg (List.map Closure.record) hslot, fun c hc _ => ?_⟩
        obtain rfl := Option.some.inj hc
        obtain ⟨q, hq, hbox⟩ := List.any_eq_true.mp hany
        refine ⟨{ q with body := .box d.record }, List.mem_append_right _ (List.mem_map.mpr ⟨q, hq, if_pos hbox⟩), ?_, rfl⟩
        exact eq_of_beq hbox
      | false =>
        rw [if_neg (by decide)]
        have hself := State.bay_modBay_self s b fun y =>
          { y with box := { y.box with slot := { d with requested := s.appendRoom } :: rest } }
        have hother := fun c (hc : c ≠ b) => State.bay_modBay_ne s hc fun y =>
          { y with box := { y.box with slot := { d with requested := s.appendRoom } :: rest } }
        generalize s.modBay b (fun y => { y with box := { y.box with slot := { d with requested := s.appendRoom } :: rest } }) = u
          at hself hother
        generalize hr : (⟨.box d.record, some b, .box b⟩ : Machine.Append) = r
        refine ⟨fun c => ?_, ?_, fun c hc _ => ?_⟩
        · rw [append_bay]
          by_cases hc : c = b
          · rw [hc, hself]
            exact ⟨_, rfl⟩
          · rw [hother c hc]
            exact hsame c
        · rw [append_bay, hself]
          rfl
        · obtain rfl := Option.some.inj hc
          exact ⟨r, (asked_append (by rw [← hr]; rfl) (by rw [← hr]; rfl) u).mpr (.inr rfl), by rw [← hr], by rw [← hr]⟩

theorem box_completes {x : BoxRecord} (hqueue : s.journal.queue = r :: rest) (hstage : s.link.resetStage = .none)
    (hcalm : ∀ c, (s.ctx c).wait ≠ .places) (ht : Resealed (settled (completed w s)) t) (hr : r = ⟨.box x, some b, .box b⟩) :
    (∀ c, t.ctx c = s.ctx c) ∧ t.card = s.card
    ∧ (t.bay b).box.slot.map Closure.record = ((s.bay b).box.slot.drop 1).map Closure.record
    ∧ ∀ c, ((s.bay b).box.slot.drop 1).head? = some c → c.requested = false →
        ∃ q ∈ t.journal.queue ++ t.journal.waitList, q.requester = .box b ∧ q.body = .box c.record := by
  have hctx := written_ctx w s
  obtain ⟨hcard, -, -, -⟩ := written_units w s
  have hdone : complete r w.sequence (written w s) =
      askBox b ((written w s).modBay b fun y => slottedBay (y.box.slot.drop 1) y) := by
    rw [hr]
    rfl
  obtain ⟨l, hl, htail, -⟩ := written_bay w s b
  have hslot : ((written w s).bay b).box.slot.drop 1 = (s.bay b).box.slot.drop 1 := by
    rw [hl]
    exact htail
  have hdropped := (Becomes.modBay b (written w s) fun y => slottedBay (y.box.slot.drop 1) y).turns
  have hself := State.bay_modBay_self (written w s) b fun y => slottedBay (y.box.slot.drop 1) y
  have hctx' : ∀ c, ((written w s).modBay b fun y => slottedBay (y.box.slot.drop 1) y).ctx c = s.ctx c := fun c => by
    rw [← hctx c]
    by_cases hc : c = b
    · rw [hc, State.ctx, hself]
      rfl
    · exact congrArg Bay.ctx (State.bay_modBay_ne _ hc _)
  have hcard' : ((written w s).modBay b fun y => slottedBay (y.box.slot.drop 1) y).card = s.card := hcard
  have hslot' : (((written w s).modBay b fun y => slottedBay (y.box.slot.drop 1) y).bay b).box.slot = (s.bay b).box.slot.drop 1 := by
    rw [hself]
    exact hslot
  generalize (written w s).modBay b (fun y => slottedBay (y.box.slot.drop 1) y) = u at *
  obtain ⟨hasks, hrecords, hrequests⟩ := askBox_closes b u
  have hctx'' : ∀ c, (askBox b u).ctx c = s.ctx c := fun c => by
    obtain ⟨k, hk⟩ := hasks c
    rw [State.ctx, hk]
    exact hctx' c
  have hcompletes := completes_of_calm hqueue hstage (fun c => by rw [hdone, hctx'' c]; exact hcalm c) ht
  have hbay := hcompletes.bay
  have htcard := hcompletes.card
  have hlists := hcompletes.lists
  rw [hdone] at hbay htcard hlists
  refine ⟨fun c => (congrArg Bay.ctx (hbay c)).trans (hctx'' c), htcard.trans ((askBox_card b u).trans hcard'), ?_, fun c hc hno => ?_⟩
  · rw [hbay, hrecords, hslot']
  · obtain ⟨q, hq, hrequester, hbody⟩ := hrequests c (by rw [hslot']; exact hc) hno
    refine ⟨q, ?_, hrequester, hbody⟩
    show q ∈ asked t.journal
    rw [asked_of_lists hlists]
    exact hq

/-! ### A TABLE's or a LINK's completion -/

theorem nobody_completes (hqueue : s.journal.queue = r :: rest) (hstage : s.link.resetStage = .none)
    (hcalm : ∀ c, (s.ctx c).wait ≠ .places) (ht : Resealed (settled (completed w s)) t)
    (hr : r.requester = .tariff ∨ r.requester = .port) :
    (∀ c, t.ctx c = s.ctx c ∧ t.exch c = s.exch c) ∧ t.card = s.card ∧ t.tariff = s.tariff ∧ t.bus = s.bus
    ∧ t.journal.queue = rest ++ s.journal.waitList.take 1 ∧ t.journal.waitList = s.journal.waitList.drop 1 := by
  have hctx := written_ctx w s
  obtain ⟨hcard, htariff, hbus, -⟩ := written_units w s
  obtain ⟨-, -, hwqueue, hwwaits, -, -⟩ := written_keeps w s
  have hdone : complete r w.sequence (written w s) = written w s := by
    unfold complete
    rcases hr with hr | hr <;> simp only [hr]
  have hcompletes := completes_of_calm hqueue hstage (fun c => by rw [hdone, hctx c]; exact hcalm c) ht
  have hbay := hcompletes.bay
  obtain ⟨-, htcard, httariff, htbus, hlists⟩ := hcompletes
  rw [hdone] at hbay htcard httariff htbus hlists
  rw [hqueue, List.drop_one, List.tail_cons] at hwqueue
  refine ⟨fun c => ⟨(congrArg Bay.ctx (hbay c)).trans (hctx c), ?_⟩, htcard.trans hcard, httariff.trans htariff, htbus.trans hbus,
    (congrArg Prod.fst hlists).trans hwqueue, (congrArg Prod.snd hlists).trans hwwaits⟩
  exact (congrArg Bay.card (hbay c)).trans (written_field Bay.card (fun _ _ => rfl) w s c)

/-- Settles O56. -/
theorem recordWriteCompletesItsRequest : Obligations.RecordWriteCompletesItsRequest := by
  intro s w hwriting
  obtain ⟨t, e, ht⟩ := done_resealed s (settled (completed w s))
  obtain ⟨htime, hacked, hlast, hblocks⟩ := write_programs ht
  exact ⟨t, (recordWriteEnd_ends hwriting).trans e, htime, hacked, hlast, hblocks, fun hstage hcalm r rest hqueue =>
    ⟨fun _ _ hr => sale_completes hqueue hstage hcalm ht hr, fun _ _ _ _ hr => adjust_completes hqueue hstage hcalm ht hr,
      fun _ _ _ _ _ _ _ _ _ hr => tear_completes hqueue hstage hcalm ht hr,
      fun _ _ hr => box_completes hqueue hstage hcalm ht hr, nobody_completes hqueue hstage hcalm ht⟩⟩

end

end Sys2Proof.Proofs

/-! PROOFS. Printer status, chunks delivered, and how a job is cut or drains (R137, R142 to R145). -/

namespace Sys2Proof.Proofs

open Sys2Proof Sys2Proof.Machine Sys2Proof.Laws

section
variable {b : BayNo} {s t u : State} {j : Job} {o : ReceiptOutcome}

/-! ### A job cut or drained -/

/-- The context in PRINT waits for its receipt. -/
abbrev AwaitsReceipt (s : State) (b : BayNo) : Prop := (s.ctx b).state = .print ∧ (s.ctx b).wait = .receipt

theorem cutOutcome_cut (q : Sequencer) : q.cutOutcome = .failed ∨ q.cutOutcome = .partly := by
  unfold Sequencer.cutOutcome
  split
  · exact .inl rfl
  · exact .inr rfl

theorem cutJob_sale (hjob : (s.bay b).seq.job = some j) (hkind : j.kind = .sale) :
    cutJob b s = (s.modBay b Bay.clearJob, some (s.bay b).seq.cutOutcome) := by
  unfold cutJob
  rw [finishJob_sale hjob hkind]
  unfold keepReceipt
  rw [if_neg]
  rcases cutOutcome_cut (s.bay b).seq with h | h <;> rw [h] <;> decide

theorem isPrintedPass_of_ctx {d : BayNo} (hbank : (t.ctx d).bank = (s.ctx d).bank) (hproduct : (t.ctx d).product = (s.ctx d).product)
    (htariff : t.tariff = s.tariff) : t.isPrintedPass d = s.isPrintedPass d := by
  unfold State.isPrintedPass State.product
  rw [hbank, hproduct, htariff]

/-- A SALE job cut short: the context that waits for it takes the outcome. -/
theorem cutJob_leads (hjob : (s.bay b).seq.job = some j) (hkind : j.kind = .sale) :
    (AwaitsReceipt s b →
      Turns b s (receiptTaken? b (cutJob b s)) (adjustedBay (s.isPrintedPass b) (s.bay b).seq.cutOutcome (s.bay b).clearJob)
      ∧ ⟨receiptBody (s.isPrintedPass b) (s.ctx b), some b, .ctx b⟩ ∈ asked (receiptTaken? b (cutJob b s)).journal)
    ∧ (¬ AwaitsReceipt s b → Turns b s (receiptTaken? b (cutJob b s)) (s.bay b).clearJob) := by
  rw [cutJob_sale hjob hkind, receiptTaken?_some]
  have hcleared := (Becomes.modBay b s Bay.clearJob).turns
  have hbay : (s.modBay b Bay.clearJob).bay b = (s.bay b).clearJob := State.bay_modBay_self s b _
  have hctx : (s.modBay b Bay.clearJob).ctx b = s.ctx b := (congrArg Bay.ctx hbay).trans rfl
  have hpass : (s.modBay b Bay.clearJob).isPrintedPass b = s.isPrintedPass b :=
    isPrintedPass_of_ctx (by rw [hctx]) (by rw [hctx]) rfl
  generalize s.modBay b Bay.clearJob = v at *
  refine ⟨fun hawaits => ?_, fun hno => ?_⟩
  · obtain ⟨hstate, hwait⟩ := hawaits
    obtain ⟨hturns, hasked⟩ := receiptTaken_adjusts (s := v) (by rw [hctx]; exact hstate) (by rw [hctx]; exact hwait)
      (cutOutcome_cut (s.bay b).seq)
    rw [hpass, hbay] at hturns
    rw [hpass, hctx] at hasked
    exact ⟨hturns.behind hcleared, hasked⟩
  · have heq : receiptTaken (s.bay b).seq.cutOutcome b v = v := if_neg (by rw [hctx]; exact hno)
    rw [heq]
    exact hcleared

theorem expandRun_draining (k : BankTables) (n : Nat) {y : Bay} (h : y.seq.state = .draining) : expandRun k n y = y := by
  cases n with
  | zero => rfl
  | succ n =>
    unfold expandRun
    simp only [h]

theorem modBay_self (s : State) (b : BayNo) : s.modBay b (fun _ => s.bay b) = s := by
  simp [State.modBay, State.bay]

/-- A job that drains goes on until its ring is empty. -/
theorem driveJob_draining (hjob : (s.bay b).seq.job = some j) (hstate : (s.bay b).seq.state = .draining) :
    driveJob b s = if (s.bay b).ring = [] then finishJob b .printed s else (s, none) := by
  have hruns := runJob_runs hjob (fun ⟨h, _, _⟩ => by rw [hstate] at h; cases h)
  rw [expandRun_draining _ _ hstate, modBay_self] at hruns
  unfold driveJob drainedOutcome at *
  rw [hruns]
  by_cases hring : (s.bay b).ring = []
  · rw [if_pos hring, if_pos ⟨hstate, hring⟩]
  · rw [if_neg hring, if_neg fun h => hring h.2]

/-- A record whose SALE job has ended PRINTED. -/
def printedBay (r : LastReceipt) (y : Bay) : Bay := { y.clearJob with lastReceipt := some r }

theorem finishJob_printed (hjob : (s.bay b).seq.job = some j) (hkind : j.kind = .sale) :
    finishJob b .printed s = (s.modBay b (printedBay (j.receipt (s.tariff.bank j.bank) s.now)), some .printed) := by
  rw [finishJob_sale hjob hkind]
  unfold keepReceipt
  rw [if_pos rfl, modBay_modBay]
  rfl

/-- A SALE job that has drained: the context that waits for it closes. -/
theorem printed_leads (hjob : (s.bay b).seq.job = some j) (hkind : j.kind = .sale) :
    let r := j.receipt (s.tariff.bank j.bank) s.now
    ∃ y, Turns b s (receiptTaken? b (finishJob b .printed s)) y ∧ y.seq.job = none ∧ y.ring = [] ∧ y.lastReceipt = some r
      ∧ (AwaitsReceipt s b → AtRest (receiptTaken? b (finishJob b .printed s)) b
        ∧ ((receiptTaken? b (finishJob b .printed s)).bay b).term.tone = .chirp
        ∧ ((receiptTaken? b (finishJob b .printed s)).bay b).term.tonePending = true) := by
  dsimp only
  rw [finishJob_printed hjob hkind, receiptTaken?_some]
  generalize j.receipt (s.tariff.bank j.bank) s.now = r
  have hprinted := (Becomes.modBay b s (printedBay r)).turns
  have hctx : (s.modBay b (printedBay r)).ctx b = s.ctx b := (congrArg Bay.ctx (State.bay_modBay_self s b _)).trans rfl
  generalize s.modBay b (printedBay r) = v at *
  by_cases hawaits : AwaitsReceipt s b
  · obtain ⟨hstate, hwait⟩ := hawaits
    rw [receiptTaken_closes (o := .printed) (by rw [hctx]; exact hstate) (by rw [hctx]; exact hwait) ⟨nofun, nofun⟩]
    have hset := hprinted.mod (fun y => { y with ctx := { y.ctx with receiptOutcome := .printed } }) fun _ => rfl
    generalize v.modBay b (fun y => { y with ctx := { y.ctx with receiptOutcome := .printed } }) = w at hset
    have hclosed := hset.thereby (g := fun now site => closedBay site b now) (closeTxn_turns b w) (closedBay_plain _ _ _)
    have hkept := fun {α : Type} (p : Bay → α) hp => closedBay_field p hp s.site b s.now
      { printedBay r (s.bay b) with ctx := { (printedBay r (s.bay b)).ctx with receiptOutcome := .printed } }
    exact ⟨_, hclosed, hkept (fun y => y.seq.job) fun _ _ _ _ _ => rfl, hkept Bay.ring fun _ _ _ _ _ => rfl,
      hkept Bay.lastReceipt fun _ _ _ _ _ => rfl, fun _ => ⟨closeTxn_atRest b w,
        closeTxn_chirps ((hset.field (fun y => y.ctx.state) fun _ => rfl).trans hstate)⟩⟩
  · have heq : receiptTaken .printed b v = v := if_neg (by rw [hctx]; exact hawaits)
    rw [heq]
    exact ⟨_, hprinted, rfl, rfl, rfl, fun h => absurd h hawaits⟩

/-! ### A paper field handed on (R20, R138) -/

/-- A record that a change of the paper field reaches. -/
def paperedBay (site : List (List Byte)) (b : BayNo) (was is : Paper) (now : Ms) (y : Bay) : Bay :=
  if was = is then y
  else if sitePassesOnly site b then if is = .out then joinedBay .paper now y else causedBay .paper false y
  else y

theorem paperChanged_turns (was is : Paper) (b : BayNo) (s : State) :
    Turns b s (paperChanged was is b s) (paperedBay s.site b was is s.now (s.bay b))
    ∧ (paperChanged was is b s).tariff = s.tariff ∧ (paperChanged was is b s).journal = s.journal := by
  have hnoticed := notify_turns b s (.paper b is)
  have htariff : (notify (.paper b is) s).tariff = s.tariff := rfl
  have hjournal : (notify (.paper b is) s).journal = s.journal := rfl
  unfold paperChanged paperedBay
  dsimp only
  rw [hnoticed.site]
  generalize notify (.paper b is) s = v at *
  by_cases hsame : was = is
  · rw [if_pos hsame, if_pos hsame]
    exact ⟨.refl b s, rfl, rfl⟩
  · rw [if_neg hsame, if_neg hsame]
    cases hpasses : sitePassesOnly s.site b with
    | false => exact ⟨hnoticed, htariff, hjournal⟩
    | true =>
      rw [if_pos rfl, if_pos rfl]
      by_cases hout : is = .out
      · rw [if_pos hout, if_pos hout]
        have hjoined := joinCause_becomes (k := .paper) ⟨nofun, nofun⟩ b v
        exact ⟨hnoticed.thereby (g := fun now _ => joinedBay .paper now) hjoined.turns (joinedBay_plain _ _),
          hjoined.tariff.trans htariff, hjoined.journal.trans hjournal⟩
      · rw [if_neg hout, if_neg hout]
        have hleft := leaveCause_becomes .paper b v
        exact ⟨hnoticed.step (g := causedBay .paper false) hleft.turns fun _ => rfl, hleft.tariff.trans htariff,
          hleft.journal.trans hjournal⟩

/-- The paper moves causes, and takes a bay in IDLE out of sale. -/
theorem paperedBay_ctx (site : List (List Byte)) (b : BayNo) (was is : Paper) (now : Ms) (y : Bay) :
    ∃ c, paperedBay site b was is now y = { y with ctx := c }
      ∧ (y.ctx.state ≠ .idle → ∃ k, c = { y.ctx with causes := k }) := by
  unfold paperedBay joinedBay
  split
  · exact ⟨y.ctx, rfl, fun _ => ⟨_, rfl⟩⟩
  · split
    · split
      · split
        · exact ⟨y.ctx, rfl, fun _ => ⟨_, rfl⟩⟩
        · split
          next hidle => exact ⟨_, rfl, fun h => absurd hidle h⟩
          next => exact ⟨_, rfl, fun _ => ⟨_, rfl⟩⟩
      · exact ⟨_, rfl, fun _ => ⟨_, rfl⟩⟩
    · exact ⟨y.ctx, rfl, fun _ => ⟨_, rfl⟩⟩

end

end Sys2Proof.Proofs

/-! PROOFS. Printer status, deliveries, the no-progress limit, and the receipt a context in PRINT waits for. -/

namespace Sys2Proof.Proofs

open Sys2Proof Sys2Proof.Machine Sys2Proof.Laws

section
variable {b : BayNo} {s t v : State} {j : Job} {o : ReceiptOutcome} {paper : Paper} {headUp : Bool} {credit : Nat}

/-! ### Printer status (R137, R143) -/

/-- A record with a printer's report in which a paper cause may have moved. -/
def reportedBay (r : Printer) (c : Ctx) (y : Bay) : Bay := { y with printer := r, ctx := c }

/-- The state a report leaves to the job. -/
def reported (paper : Paper) (headUp : Bool) (credit : Nat) (b : BayNo) (s : State) : State :=
  paperChanged (s.bay b).printer.paper paper b (s.modBay b fun y => { y with printer := ⟨paper, headUp, credit⟩ })

theorem printerStatus_eq : printerStatus paper headUp credit b s = statusAtJob b (reported paper headUp credit b s) := rfl

theorem reported_turns (paper : Paper) (headUp : Bool) (credit : Nat) (b : BayNo) (s : State) :
    ∃ c, Turns b s (reported paper headUp credit b s) (reportedBay ⟨paper, headUp, credit⟩ c (s.bay b))
      ∧ (reported paper headUp credit b s).tariff = s.tariff
      ∧ ((s.ctx b).state ≠ .idle → ∃ k, c = { s.ctx b with causes := k }) := by
  have hset := Becomes.modBay b s fun y => { y with printer := ⟨paper, headUp, credit⟩ }
  have hbay : (s.modBay b fun y => { y with printer := ⟨paper, headUp, credit⟩ }).bay b =
      { s.bay b with printer := ⟨paper, headUp, credit⟩ } := State.bay_modBay_self s b _
  unfold reported
  generalize s.modBay b (fun y => { y with printer := ⟨paper, headUp, credit⟩ }) = u at *
  obtain ⟨hturns, htariff, -⟩ := paperChanged_turns (s.bay b).printer.paper paper b u
  obtain ⟨c, hc, hcauses⟩ := paperedBay_ctx u.site b (s.bay b).printer.paper paper u.now (u.bay b)
  rw [hc, hbay] at hturns
  rw [hbay] at hcauses
  exact ⟨c, hturns.behind hset.turns, htariff.trans hset.tariff, hcauses⟩

/-- What the paper and the head do at a job that is not cut. -/
def stalledBay (y : Bay) : Bay :=
  { y with seq := { y.seq with paperOut := decide (y.printer.paper = .out), headUp := y.printer.headUp } }

theorem statusAtJob_none (h : (s.bay b).seq.job = none) : statusAtJob b s = s := by
  unfold statusAtJob
  dsimp only
  rw [h]
  rfl

theorem statusAtJob_cuts (hjob : (s.bay b).seq.job = some j) (hsent : 0 < (s.bay b).seq.sent)
    (hstops : (s.bay b).printer.paper = .out ∨ (s.bay b).printer.headUp = true) :
    statusAtJob b s = receiptTaken? b (cutJob b s) := by
  unfold statusAtJob
  dsimp only
  rw [hjob]
  exact (if_neg nofun).trans (if_pos ⟨hsent, by simpa using hstops⟩)

theorem statusAtJob_stalls (hjob : (s.bay b).seq.job = some j)
    (hgoes : (s.bay b).seq.sent = 0 ∨ ((s.bay b).printer.paper ≠ .out ∧ (s.bay b).printer.headUp = false)) :
    statusAtJob b s = s.modBay b stalledBay := by
  unfold statusAtJob
  dsimp only
  rw [hjob, if_neg (by nofun), if_neg]
  · rfl
  · rintro ⟨hsent, hstops⟩
    rcases hgoes with hzero | ⟨hin, hdown⟩
    · omega
    · simp [hin, hdown] at hstops

/-! ### A job cut short (R17, R143, R144) -/

/-- A SALE job cut short in s leaves t. -/
abbrev CutShort (s t : State) (b : BayNo) : Prop :=
  OtherContexts b s t ∧ (t.bay b).seq.job = none ∧ (t.bay b).seq.state = .idle
  ∧ (t.bay b).ring = [] ∧ (t.bay b).lastReceipt = (s.bay b).lastReceipt
  ∧ (AwaitsReceipt s b → (t.ctx b).state = .print ∧ (t.ctx b).wait = .adjust
      ∧ (t.ctx b).receiptOutcome = (if (s.bay b).seq.sent = 0 then .failed else .partly)
      ∧ (s.isPrintedPass b = true → (t.ctx b).causes.server = true)
      ∧ ∃ r ∈ t.journal.queue ++ t.journal.waitList, r.requester = .ctx b
          ∧ r.body = (if s.isPrintedPass b then .adjust .passNotIssued ((s.ctx b).price.getD 0) (s.ctx b).txnSeq
            else .adjust .receiptFailed 0 (s.ctx b).txnSeq))

/-- A job cut behind a printer's report, or with none. -/
theorem cutShort_of_reported {r : Printer} {c : Ctx} (hv : Turns b s v (reportedBay r c (s.bay b))) (htariff : v.tariff = s.tariff)
    (hc : AwaitsReceipt s b → ∃ k, c = { s.ctx b with causes := k }) (hjob : (s.bay b).seq.job = some j) (hkind : j.kind = .sale)
    (ht : Resealed (receiptTaken? b (cutJob b v)) t) :
    CutShort s t b ∧ t.bus = s.bus ∧ (t.bay b).printer = r := by
  have hseq : (v.bay b).seq = (s.bay b).seq := hv.field Bay.seq fun _ => rfl
  have hreceipt : (v.bay b).lastReceipt = (s.bay b).lastReceipt := hv.field Bay.lastReceipt fun _ => rfl
  have hprinter : (v.bay b).printer = r := hv.field Bay.printer fun _ => rfl
  obtain ⟨hwaits, hgoes⟩ := cutJob_leads (s := v) (by rw [hseq]; exact hjob) hkind
  have hother : ∀ {y}, Turns b v (receiptTaken? b (cutJob b v)) y → OtherContexts b s t ∧ t.bus = s.bus := fun hturns =>
    have hfrom := hturns.behind hv
    ⟨fun d hd => (ht.ctx d).trans (congrArg Bay.ctx (hfrom.others d hd)), ht.bus.trans hfrom.bus⟩
  by_cases hawaits : AwaitsReceipt v b
  · obtain ⟨hturns, hasked⟩ := hwaits hawaits
    obtain ⟨hcontexts, hbus⟩ := hother hturns
    have hfield : ∀ {α : Type} (p : Bay → α), (∀ x, p (core x) = p x) →
        p (t.bay b) = p (adjustedBay (v.isPrintedPass b) (v.bay b).seq.cutOutcome (v.bay b).clearJob) := fun p hp =>
      (congrArg p (ht.bay b)).trans (hturns.field p hp)
    refine ⟨⟨hcontexts, hfield (fun y => y.seq.job) fun _ => rfl, hfield (fun y => y.seq.state) fun _ => rfl,
      hfield Bay.ring fun _ => rfl, (hfield Bay.lastReceipt fun _ => rfl).trans hreceipt, fun hs => ?_⟩, hbus,
      (hfield Bay.printer fun _ => rfl).trans hprinter⟩
    obtain ⟨k, rfl⟩ := hc hs
    have hctx : ∀ {α : Type} (p : Bay → α), (∀ x, p (core x) = p x) → p (v.bay b) = p (reportedBay r { s.ctx b with causes := k } (s.bay b)) :=
      fun p hp => hv.field p hp
    have hpass : v.isPrintedPass b = s.isPrintedPass b :=
      isPrintedPass_of_ctx (hctx (fun y => y.ctx.bank) fun _ => rfl) (hctx (fun y => y.ctx.product) fun _ => rfl) htariff
    have hprice : (v.ctx b).price = (s.ctx b).price := hctx (fun y => y.ctx.price) fun _ => rfl
    have htxn : (v.ctx b).txnSeq = (s.ctx b).txnSeq := hctx (fun y => y.ctx.txnSeq) fun _ => rfl
    refine ⟨(hfield (fun y => y.ctx.state) fun _ => rfl).trans hawaits.1, hfield (fun y => y.ctx.wait) fun _ => rfl,
      (hfield (fun y => y.ctx.receiptOutcome) fun _ => rfl).trans ?_, fun hyes => ?_, _, ht.journal ▸ hasked, rfl, ?_⟩
    · show (v.bay b).seq.cutOutcome = _
      rw [hseq]
      rfl
    · refine (hfield (fun y => y.ctx.causes.server) fun _ => rfl).trans ?_
      rw [hpass, hyes]
      rfl
    · show receiptBody (v.isPrintedPass b) (v.ctx b) = _
      unfold receiptBody
      rw [hpass, hprice, htxn]
  · have hturns := hgoes hawaits
    obtain ⟨hcontexts, hbus⟩ := hother hturns
    have hfield : ∀ {α : Type} (p : Bay → α), (∀ x, p (core x) = p x) → p (t.bay b) = p (v.bay b).clearJob := fun p hp =>
      (congrArg p (ht.bay b)).trans (hturns.field p hp)
    refine ⟨⟨hcontexts, hfield (fun y => y.seq.job) fun _ => rfl, hfield (fun y => y.seq.state) fun _ => rfl,
      hfield Bay.ring fun _ => rfl, (hfield Bay.lastReceipt fun _ => rfl).trans hreceipt, fun hs => absurd ?_ hawaits⟩, hbus,
      (hfield Bay.printer fun _ => rfl).trans hprinter⟩
    obtain ⟨k, rfl⟩ := hc hs
    exact ⟨(hv.field (fun y => y.ctx.state) fun _ => rfl).trans hs.1, (hv.field (fun y => y.ctx.wait) fun _ => rfl).trans hs.2⟩

/-! ### The commands -/

theorem status_taken (h : s.HandsOn b (.status paper headUp credit)) :
    ∃ t, exec .printerStatus s = .next t ∧ Resealed (printerStatus paper headUp credit b (handed s)) t :=
  exec_section (f := fun x => match x with
    | .status p h c => some (p, h, c)
    | _ => none) (act := fun b p s => printerStatus p.1 p.2.1 p.2.2 b s) (a := (paper, headUp, credit)) rfl h rfl

theorem delivery_taken {mark : Nat} {carried : Option Nat} (h : s.HandsOn b (.delivered mark carried)) :
    ∃ t, exec .printDelivered s = .next t ∧ Resealed (delivered mark carried b (handed s)) t :=
  exec_section (f := fun x => match x with
    | .delivered m c => some (m, c)
    | _ => none) (act := fun b p s => delivered p.1 p.2 b s) (a := (mark, carried)) rfl h rfl

theorem delivered_drives {mark : Nat} (hmark : (s.bay b).chunkMark = some mark) (hflight : 0 < (s.bay b).inFlight) :
    delivered mark (some mark) b s = receiptTaken? b (driveJob b (s.modBay b fun y => y.deliver s.now)) := by
  have has : (s.bay b).inFlightAs mark (some mark) = true := by
    unfold Bay.inFlightAs
    rw [hmark]
    simpa using hflight
  unfold delivered
  rw [has]
  rfl

theorem noProgress_cuts (hjob : (s.bay b).seq.job = some j)
    (hlate : 10000 ≤ (s.time.ms - (s.bay b).seq.lastProgress).toNat) :
    ∃ t, exec (.noProgressLimit b) s = .next t ∧ Resealed (receiptTaken? b (cutJob b s)) t := by
  have hexec : exec (.noProgressLimit b) s = done s (receiptTaken? b (cutJob b s)) := by
    show execNoProgressLimit b s = _
    unfold execNoProgressLimit
    rw [if_pos ⟨by rw [hjob]; rfl, passed_of hlate⟩]
  rw [hexec]
  exact done_resealed s _

/-- Settles O59. -/
theorem printingStatusChunksAndLimit : Obligations.PrintingStatusChunksAndLimit := by
  intro s b
  refine ⟨fun paper headUp credit h => ?_, fun mark h hmark hflight hstate hjob hmore => ?_, fun j hjob hkind hwaiting hlate => ?_⟩
  · obtain ⟨t, e, ht⟩ := status_taken h
    have hwork := printerStatus_work (P := (· = b)) rfl free_loud paper headUp credit (handed s)
    refine ⟨t, e, handed_of_bus (ht.bus.trans hwork.bus), fun c hc => ?_, fun hnone => ?_⟩
    · exact (ht.ctx c).trans (congrArg Bay.ctx (hwork.otherBays c hc))
    · obtain ⟨c, hturns, -⟩ := reported_turns paper headUp credit b (handed s)
      have hseq : ((reported paper headUp credit b (handed s)).bay b).seq = (s.bay b).seq := hturns.field Bay.seq fun _ => rfl
      rw [printerStatus_eq, statusAtJob_none (by rw [hseq]; exact hnone)] at ht
      rw [ht.bay]
      exact ⟨hturns.field Bay.printer fun _ => rfl, hturns.field Bay.ring fun _ => rfl, hseq⟩
  · obtain ⟨t, e, ht⟩ := delivery_taken h
    obtain ⟨j, hj⟩ := Option.isSome_iff_exists.mp hjob
    rw [delivered_drives (s := handed s) hmark hflight] at ht
    have hbay : ((handed s).modBay b fun y => y.deliver s.now).bay b = (s.bay b).deliver s.now := State.bay_modBay_self (handed s) b _
    have hmod := Becomes.modBay b (handed s) fun y => y.deliver s.now
    rw [show (handed s).now = s.now from rfl] at ht
    generalize (handed s).modBay b (fun y => y.deliver s.now) = u at hbay hmod ht
    rw [driveJob_draining (by rw [hbay]; exact hj) (by rw [hbay]; exact hstate), if_neg] at ht
    · have htbay : t.bay b = (s.bay b).deliver s.now := (ht.bay b).trans hbay
      refine ⟨t, e, handed_of_bus (ht.bus.trans hmod.bus), fun c hc => (ht.bay c).trans (hmod.others c hc), ?_⟩
      rw [State.ctx, htbay]
      exact ⟨rfl, rfl, rfl, rfl, rfl, rfl, rfl⟩
    · rw [hbay]
      intro hempty
      have hlen := List.drop_eq_nil_iff.mp (show (s.bay b).ring.drop (s.bay b).inFlight = [] from hempty)
      omega
  · obtain ⟨t, e, ht⟩ := noProgress_cuts hjob hlate
    unfold cutJob at ht
    rw [finishJob_reprint hjob hkind hwaiting] at ht
    have htbay : t.bay b = reprintedBay (s.bay b).seq.cutOutcome (s.bay b) := (ht.bay b).trans (State.bay_modBay_self s b _)
    refine ⟨t, e, fun c hc => (ht.bay c).trans (State.bay_modBay_ne s hc _), ?_⟩
    rw [State.ctx, htbay]
    exact ⟨rfl, rfl, rfl, rfl, fun hzero => if_pos hzero, fun hsome => if_neg hsome⟩

/-- Settles O60. -/
theorem receiptEndsPrintedOrAdjusted : Obligations.ReceiptEndsPrintedOrAdjusted := by
  intro s b j hjob hkind
  dsimp only
  refine ⟨fun paper headUp credit h => ?_, fun hlate => ?_, fun mark h hmark hflight hwhole hstate => ?_⟩
  · obtain ⟨t, e, ht⟩ := status_taken h
    obtain ⟨c, hturns, htariff, hcauses⟩ := reported_turns paper headUp credit b (handed s)
    rw [printerStatus_eq] at ht
    generalize reported paper headUp credit b (handed s) = v at hturns htariff ht
    have hvseq : (v.bay b).seq = (s.bay b).seq := hturns.field Bay.seq fun _ => rfl
    have hvprinter : (v.bay b).printer = ⟨paper, headUp, credit⟩ := hturns.field Bay.printer fun _ => rfl
    have hvring : (v.bay b).ring = (s.bay b).ring := hturns.field Bay.ring fun _ => rfl
    have hvjob : (v.bay b).seq.job = some j := by rw [hvseq]; exact hjob
    by_cases hcut : 0 < (s.bay b).seq.sent ∧ (paper = .out ∨ headUp = true)
    · obtain ⟨hsent, hstops⟩ := hcut
      rw [statusAtJob_cuts hvjob (by rw [hvseq]; exact hsent) (by rw [hvprinter]; exact hstops)] at ht
      obtain ⟨hshort, hbus, hprinter⟩ := cutShort_of_reported hturns htariff (fun hs => hcauses (by
        rw [show ((handed s).ctx b).state = _ from hs.1]; decide)) hjob hkind ht
      refine ⟨t, e, handed_of_bus hbus, hprinter, fun _ _ => hshort, ?_⟩
      rintro (hzero | ⟨hin, hdown⟩)
      · omega
      · rcases hstops with h | h
        · exact absurd h hin
        · rw [hdown] at h
          cases h
    · have hgoes : (s.bay b).seq.sent = 0 ∨ (paper ≠ .out ∧ headUp = false) := by
        by_cases hzero : (s.bay b).seq.sent = 0
        · exact .inl hzero
        · refine .inr ⟨fun hout => hcut ⟨Nat.pos_of_ne_zero hzero, .inl hout⟩, ?_⟩
          cases headUp
          · rfl
          · exact absurd ⟨Nat.pos_of_ne_zero hzero, .inr rfl⟩ hcut
      rw [statusAtJob_stalls hvjob (by rw [hvseq, hvprinter]; exact hgoes)] at ht
      have hbay : t.bay b = stalledBay (v.bay b) := (ht.bay b).trans (State.bay_modBay_self v b _)
      refine ⟨t, e, handed_of_bus (ht.bus.trans hturns.bus), ?_⟩
      rw [hbay]
      refine ⟨hvprinter, fun hsent hstops => absurd ⟨hsent, hstops⟩ hcut, fun _ => ⟨?_, hvring⟩⟩
      unfold stalledBay
      dsimp only
      rw [hvseq, hvprinter]
  · obtain ⟨t, e, ht⟩ := noProgress_cuts hjob hlate
    exact ⟨t, e, (cutShort_of_reported (r := (s.bay b).printer) (c := s.ctx b) (.refl b s) rfl (fun _ => ⟨_, rfl⟩) hjob hkind ht).1⟩
  · obtain ⟨t, e, ht⟩ := delivery_taken h
    rw [delivered_drives (s := handed s) hmark hflight] at ht
    have hbay : ((handed s).modBay b fun y => y.deliver s.now).bay b = (s.bay b).deliver s.now := State.bay_modBay_self (handed s) b _
    have hmod := Becomes.modBay b (handed s) fun y => y.deliver s.now
    rw [show (handed s).now = s.now from rfl] at ht
    generalize (handed s).modBay b (fun y => y.deliver s.now) = u at hbay hmod ht
    have hujob : (u.bay b).seq.job = some j := by rw [hbay]; exact hjob
    rw [driveJob_draining hujob (by rw [hbay]; exact hstate), if_pos] at ht
    · obtain ⟨y, hturns, hyjob, hyring, hyreceipt, hawaits⟩ := printed_leads hujob hkind
      have hfrom := hturns.behind hmod.turns
      have huctx : u.ctx b = s.ctx b := (congrArg Bay.ctx hbay).trans rfl
      have hreceipt : j.receipt (u.tariff.bank j.bank) u.now = j.receipt (s.tariff.bank j.bank) s.now := by
        rw [hmod.tariff, State.now, hmod.time]
        rfl
      rw [hreceipt] at hyreceipt
      rw [AwaitsReceipt, huctx] at hawaits
      refine ⟨t, e, handed_of_bus (ht.bus.trans hfrom.bus), fun c hc => (ht.ctx c).trans (congrArg Bay.ctx (hfrom.others c hc)), ?_⟩
      rw [ht.bay, ht.ctx]
      refine ⟨(hturns.field (fun y => y.seq.job) fun _ => rfl).trans hyjob, (hturns.field Bay.ring fun _ => rfl).trans hyring,
        (hturns.field Bay.lastReceipt fun _ => rfl).trans hyreceipt, fun hw => ?_⟩
      obtain ⟨⟨hrest, hbank⟩, htone, hpending⟩ := hawaits hw
      exact ⟨by rw [hrest]; split; exacts [.inl rfl, .inr rfl], hbank, htone, hpending⟩
    · rw [hbay]
      exact List.drop_eq_nil_iff.mpr (by rw [hwhole])

end

end Sys2Proof.Proofs

/-! PROOFS. Service frames: IN_SERVICE, OUT_OF_SERVICE, COIN_OFF, COIN_ON and TUBE_SET (R21, R75, R106). -/

namespace Sys2Proof.Proofs

open Sys2Proof Sys2Proof.Machine Sys2Proof.Laws

/-! ### A frame answered -/

/-- A state but for the port and the stored check. -/
def Sealed (u t : State) : Prop := t = { u with link := t.link, check := t.check }

section
variable {b : BayNo} {s t u : State} {f : Frame} {isKind : Frame → Bool} {act : Frame → State → Answer} {out : Out}

theorem Sealed.bay (h : Sealed u t) (c : BayNo) : t.bay c = u.bay c := by rw [h]; rfl
theorem Sealed.ctx (h : Sealed u t) (c : BayNo) : t.ctx c = u.ctx c := by rw [h]; rfl
theorem Sealed.slot (h : Sealed u t) (c : BayNo) : t.slot c = u.slot c := by rw [h]; rfl
theorem Sealed.tariff (h : Sealed u t) : t.tariff = u.tariff := by rw [h]
theorem Sealed.card (h : Sealed u t) : t.card = u.card := by rw [h]
theorem Sealed.journal (h : Sealed u t) : t.journal = u.journal := by rw [h]
theorem Sealed.time (h : Sealed u t) : t.time = u.time := by rw [h]
theorem Sealed.bus (h : Sealed u t) : t.bus = u.bus := by rw [h]
theorem Sealed.site (h : Sealed u t) : t.site = u.site := by rw [h]; rfl

/-- A frame is taken, acted on and answered; the answer is what the act says, behind what waited. -/
theorem frame_answered {a : Answer} (hnext : s.TakesNext f) (hk : isKind f = true) (ha : act f (dropHead s) = a)
    (hafter : a.after = .nothing) (hbuffer : a.state.link.rxBuffer = s.link.rxBuffer.drop 1)
    (hreplies : a.state.link.replies = s.link.replies) (he : out = done s (answerFrame isKind act s)) :
    ∃ t, out = .next t ∧ Replied s t f a.status a.data ∧ Sealed a.state t := by
  refine ⟨s.reseal (answer f a), by rw [he, answerFrame_eq act hnext hk, ha, done], ⟨?_, ?_⟩, rfl⟩
  · rw [State.reseal_link, answer_rxBuffer, hbuffer]
  · rw [State.reseal_link, answer_replies, hreplies, hafter]

/-! ### BAY_CONTROL -/

theorem byte_val (b : BayNo) : (BitVec.ofNat 8 b.val).toNat = b.val := by
  rw [BitVec.toNat_ofNat]
  omega

theorem controls_action {x n : Byte} (hk : f.kind = 0x22#8) (hbody : f.body = [x, n]) : f.controls n.toNat = true := by
  simp [Frame.controls, show f.is kBayControl = true from frame_is hk, hbody, field_second_byte]

theorem bayControl_bay {row : BayNo → State → Answer} {n : Byte} (hbody : f.body = [BitVec.ofNat 8 b.val, n]) (hn : n.toNat ≤ 4)
    (hpresent : siteAbsent s.site b = false) : bayControl row f s = row b s := by
  unfold bayControl
  rw [hbody, field_second_byte, field_byte, byte_val, if_pos ⟨rfl, hn⟩, bayOf_val]
  dsimp only
  rw [hpresent, if_neg (by decide)]

theorem bayControl_absent {row : BayNo → State → Answer} {x n : Byte} (hbody : f.body = [x, n]) (hn : n.toNat ≤ 4)
    (hx : x.toNat = b.val) (habsent : siteAbsent s.site b = true) : bayControl row f s = refusal .bayAbsent s := by
  unfold bayControl
  rw [hbody, field_second_byte, field_byte, hx, if_pos ⟨rfl, hn⟩, bayOf_val]
  dsimp only
  rw [habsent, if_pos rfl]

theorem bayControl_badBay {row : BayNo → State → Answer} {x n : Byte} (hbody : f.body = [x, n]) (hn : n.toNat ≤ 4)
    (hx : 7 < x.toNat) : bayControl row f s = refusal .badBay s := by
  unfold bayControl
  rw [hbody, field_second_byte, field_byte, if_pos ⟨rfl, hn⟩, bayOf_high hx]

/-- The head frame gone, as the port's other parts stand. -/
theorem dropHead_becomes (b : BayNo) (s : State) : Turns b s (dropHead s) (s.bay b) := .of_bays rfl rfl rfl rfl

/-- A BAY_CONTROL whose row accepts it. -/
theorem control_accepted {row : BayNo → State → State} {c : Instr} {n : Byte} {m : Nat}
    (he : exec c s = done s (answerFrame (Frame.controls m) (bayControl fun b s => accept (row b s)) s))
    (hm : n.toNat = m) (hn : n.toNat ≤ 4) (hnext : s.TakesNext f) (hk : f.kind = 0x22#8) (hpresent : siteAbsent s.site b = false)
    (hbody : f.body = [BitVec.ofNat 8 b.val, n]) (hwork : Work .free (· = b) (dropHead s) (row b (dropHead s))) :
    ∃ t, exec c s = .next t ∧ Replied s t f .accepted [] ∧ Sealed (row b (dropHead s)) t :=
  frame_answered (a := accept (row b (dropHead s))) hnext (hm ▸ controls_action hk hbody)
    (bayControl_bay (s := dropHead s) (row := fun b s => accept (row b s)) hbody hn hpresent) rfl hwork.rxBuffer hwork.replies he

/-- A BAY_CONTROL of any action refuses a bad bay number and a bay marked ABSENT. -/
theorem control_refused {row : BayNo → State → Answer} {c : Instr} {x n : Byte} {m : Nat}
    (he : exec c s = done s (answerFrame (Frame.controls m) (bayControl row) s)) (hm : n.toNat = m) (hn : n.toNat ≤ 4)
    (hnext : s.TakesNext f) (hk : f.kind = 0x22#8) (hbody : f.body = [x, n]) :
    (7 < x.toNat → PortReply (exec c s) s f .badBay [])
    ∧ ∀ b : BayNo, x.toNat = b.val → siteAbsent s.site b = true → PortReply (exec c s) s f .bayAbsent [] :=
  ⟨fun hx => portReply_done hnext (hm ▸ controls_action hk hbody) (bayControl_badBay hbody hn hx) he,
    fun _ hx habsent => portReply_done hnext (hm ▸ controls_action hk hbody) (bayControl_absent hbody hn hx habsent) he⟩

/-! ### IN_SERVICE and OUT_OF_SERVICE (R21) -/

theorem inService_accepts (h : (s.ctx b).causes.onlyServer = true) : inService b s = accept
    (if (s.ctx b).state = .outOfService then rest .idle b (s.modBay b (causedBay .server false))
      else s.modBay b (causedBay .server false)) := by
  have hstate : ((s.modBay b (causedBay .server false)).ctx b).state = (s.ctx b).state :=
    (congrArg (fun y => y.ctx.state) (State.bay_modBay_self s b _)).trans rfl
  rw [← hstate]
  exact if_pos h

/-- What IN_SERVICE makes of a bay whose only cause is SERVER. -/
theorem inService_leads (h : (s.ctx b).causes.onlyServer = true) :
    (∃ y, Becomes b s (inService b s).state y ∧ y.ctx.causes.server = false
      ∧ ((s.ctx b).state = .outOfService → y.ctx.state = .idle))
    ∧ ((s.ctx b).state ≠ .outOfService → (inService b s).state.bay b = causedBay .server false (s.bay b))
    ∧ (inService b s).status = .accepted ∧ (inService b s).data = [] ∧ (inService b s).after = .nothing := by
  rw [inService_accepts h]
  have hset := Becomes.modBay b s (causedBay .server false)
  have hbay : (s.modBay b (causedBay .server false)).bay b = causedBay .server false (s.bay b) := State.bay_modBay_self s b _
  generalize s.modBay b (causedBay .server false) = u at hset hbay
  by_cases hout : (s.ctx b).state = .outOfService
  · rw [if_pos hout]
    exact ⟨⟨_, hset.step (g := restedBay .idle u.now) (rest_becomes .idle b u) fun _ => rfl, rfl, fun _ => rfl⟩,
      fun hno => absurd hout hno, rfl, rfl, rfl⟩
  · rw [if_neg hout]
    exact ⟨⟨_, hset, rfl, fun hyes => absurd hyes hout⟩, fun _ => hbay, rfl, rfl, rfl⟩

theorem inService_taken (hnext : s.TakesNext f) (hk : f.kind = 0x22#8) (hpresent : siteAbsent s.site b = false)
    (hbody : f.body = [BitVec.ofNat 8 b.val, 0]) :
    ∃ t, exec .bayControlInService s = .next t ∧ OtherBays b s t ∧ t.tariff = s.tariff ∧ t.journal = s.journal
      ∧ ((s.ctx b).causes.onlyServer = true → Replied s t f .accepted [] ∧ (t.ctx b).causes.server = false
          ∧ ((s.ctx b).state = .outOfService → (t.ctx b).state = .idle)
          ∧ ((s.ctx b).state ≠ .outOfService → t.ctx b = { s.ctx b with causes := (t.ctx b).causes }))
      ∧ ((s.ctx b).causes.onlyServer = false → t = { s with link := t.link } ∧ Replied s t f .causeStanding []) := by
  have hrow := bayControl_bay (s := dropHead s) (row := inService) hbody (by decide) hpresent
  cases honly : (s.ctx b).causes.onlyServer with
  | true =>
    obtain ⟨⟨y, hbecomes, hserver, hidle⟩, hexact, hstatus, hdata, hafter⟩ := inService_leads (s := dropHead s) honly
    obtain ⟨t, e, hreplied, ht⟩ := frame_answered (out := exec .bayControlInService s) hnext (controls_action hk hbody) hrow hafter
      ((congrArg Link.rxBuffer hbecomes.link).trans rfl) ((congrArg Link.replies hbecomes.link).trans rfl) rfl
    rw [hstatus, hdata] at hreplied
    refine ⟨t, e, fun c hc => (ht.bay c).trans (hbecomes.others c hc), ht.tariff.trans hbecomes.tariff,
      ht.journal.trans hbecomes.journal, fun _ => ⟨hreplied, ?_, fun hout => ?_, fun hno => ?_⟩, nofun⟩
    · exact (congrArg (fun c : Ctx => c.causes.server) (ht.ctx b)).trans
        ((hbecomes.field (fun y => y.ctx.causes.server) fun _ => rfl).trans hserver)
    · exact (congrArg Ctx.state (ht.ctx b)).trans ((hbecomes.field (fun y => y.ctx.state) fun _ => rfl).trans (hidle hout))
    · rw [State.ctx, ht.bay, hexact hno]
      rfl
  | false =>
    obtain ⟨t, e, hlink, hreplied⟩ := portReply_done (status := .causeStanding) (data := []) hnext (controls_action hk hbody)
      (hrow.trans (if_neg fun h => by rw [show ((dropHead s).ctx b).causes.onlyServer = _ from honly] at h; cases h))
      (out := exec .bayControlInService s) rfl
    refine ⟨t, e, ?_, ?_, ?_, nofun, fun _ => ⟨hlink, hreplied⟩⟩
    · intro c _
      rw [hlink]
      rfl
    · rw [hlink]
    · rw [hlink]

theorem outOfService_taken (hnext : s.TakesNext f) (hk : f.kind = 0x22#8) (hpresent : siteAbsent s.site b = false)
    (hbody : f.body = [BitVec.ofNat 8 b.val, 1]) (hno : (s.ctx b).causes.server = false) :
    ∃ t, exec .bayControlOutOfService s = .next t ∧ Replied s t f .accepted [] ∧ OtherBays b s t
      ∧ t.tariff = s.tariff ∧ t.journal = s.journal ∧ (t.ctx b).causes = { (s.ctx b).causes with server := true }
      ∧ ((s.ctx b).state = .idle → (t.ctx b).state = .outOfService)
      ∧ ((s.ctx b).state ≠ .idle → (t.ctx b).state = (s.ctx b).state) := by
  obtain ⟨t, e, hreplied, ht⟩ := control_accepted (c := .bayControlOutOfService) (row := joinCause .server) rfl rfl (by decide)
    hnext hk hpresent hbody (joinCause_work (P := (· = b)) rfl .server (dropHead s))
  have hjoined := joinCause_becomes (k := .server) ⟨nofun, nofun⟩ b (dropHead s)
  refine ⟨t, e, hreplied, fun c hc => (ht.bay c).trans (hjoined.others c hc), ht.tariff.trans hjoined.tariff,
    ht.journal.trans hjoined.journal, ?_⟩
  rw [ht.ctx]
  have hcauses : ((joinCause .server b (dropHead s)).ctx b).causes = _ := hjoined.field (fun y => y.ctx.causes) fun _ => rfl
  have hstate : ((joinCause .server b (dropHead s)).ctx b).state = _ := hjoined.field (fun y => y.ctx.state) fun _ => rfl
  have hbay : (dropHead s).bay b = s.bay b := rfl
  have hhas : ¬ (s.bay b).ctx.causes.has .server = true := fun h => by
    rw [show (s.bay b).ctx.causes.has .server = false from hno] at h
    cases h
  rw [hcauses, hstate, hbay, joinedBay, if_neg hhas]
  by_cases hidle : (s.ctx b).state = .idle
  · rw [if_pos (show (s.bay b).ctx.state = .idle from hidle)]
    exact ⟨rfl, fun _ => rfl, fun hno => absurd hidle hno⟩
  · rw [if_neg (show ¬ (s.bay b).ctx.state = .idle from hidle)]
    exact ⟨rfl, fun hyes => absurd hyes hidle, fun _ => rfl⟩

/-- Settles O28. -/
theorem bayControlMovesServerOrRefuses : Obligations.BayControlMovesServerOrRefuses := by
  refine ⟨fun s f b hnext hk hpresent => ⟨inService_taken hnext hk hpresent, outOfService_taken hnext hk hpresent⟩,
    fun c n hmem s f x hnext hk hbody => ?_⟩
  simp only [List.mem_cons, Prod.mk.injEq, List.not_mem_nil, or_false] at hmem
  rcases hmem with ⟨rfl, rfl⟩ | ⟨rfl, rfl⟩ | ⟨rfl, rfl⟩ | ⟨rfl, rfl⟩ | ⟨rfl, rfl⟩
  · exact control_refused (row := inService) rfl rfl (by decide) hnext hk hbody
  · exact control_refused (row := fun b s => accept (joinCause .server b s)) rfl rfl (by decide) hnext hk hbody
  · exact control_refused (row := fun b s => accept (bayReset b s)) rfl rfl (by decide) hnext hk hbody
  · exact control_refused (row := fun b s => accept (coinOff b s)) rfl rfl (by decide) hnext hk hbody
  · exact control_refused (row := fun b s => accept (coinOn b s)) rfl rfl (by decide) hnext hk hbody

/-! ### COIN_OFF and COIN_ON (R75) -/

/-- A record whose coin intake is shut. -/
def offBayOf (now : Ms) (y : Bay) : Bay :=
  { y with
    coin := y.coin.off now
    counters := if y.coin.capture = .idle then y.counters else { y.counters with aborted := satInc y.counters.aborted } }

theorem recomputeMask_bay (b : BayNo) (s : State) : (recomputeMask b s).bay b = { s.bay b with mask := s.maskOf b } :=
  State.bay_modBay_self s b _

theorem coinOff_bay (b : BayNo) (s : State) :
    Becomes b s (coinOff b s) ((coinOff b s).bay b)
    ∧ (coinOff b s).bay b = if (s.bay b).coin.coinOff then s.bay b else { offBayOf s.now (s.bay b) with mask := [] } := by
  by_cases hoff : (s.bay b).coin.coinOff = true
  · have heq : coinOff b s = s := if_pos hoff
    rw [heq, if_pos hoff]
    exact ⟨.refl b s, rfl⟩
  · have heq : coinOff b s = recomputeMask b (s.modBay b (offBayOf s.now)) := if_neg hoff
    rw [heq, if_neg hoff]
    have hset := Becomes.modBay b s (offBayOf s.now)
    have hbay : (s.modBay b (offBayOf s.now)).bay b = offBayOf s.now (s.bay b) := State.bay_modBay_self s b _
    generalize s.modBay b (offBayOf s.now) = u at hset hbay
    have hmasked := hset.shown (recomputeMask_becomes b u)
    refine ⟨⟨hmasked.rest, hmasked.others, rfl⟩, ?_⟩
    have hshut : u.maskShut b = true := by
      unfold State.maskShut
      rw [hbay]
      simp [offBayOf, CoinLine.off]
    rw [recomputeMask_bay, hbay, State.maskOf, if_pos hshut]

/-- A record whose coin intake is open again, with its mask. -/
def onBayOf (now : Ms) (m : List Nat) (y : Bay) : Bay := { y with coin := y.coin.on now, mask := m }

theorem coinOn_bay (b : BayNo) (s : State) :
    Becomes b s (coinOn b s) ((coinOn b s).bay b)
    ∧ ∃ m, (coinOn b s).bay b =
        if (s.bay b).coin.coinOff then onBayOf s.now m (s.bay b) else s.bay b := by
  by_cases hoff : (s.bay b).coin.coinOff = true
  · have heq : coinOn b s = recomputeMask b (s.modBay b fun y => { y with coin := y.coin.on s.now }) := if_pos hoff
    rw [heq]
    have hset := Becomes.modBay b s fun y => { y with coin := y.coin.on s.now }
    have hbay : (s.modBay b fun y => { y with coin := y.coin.on s.now }).bay b = { s.bay b with coin := (s.bay b).coin.on s.now } :=
      State.bay_modBay_self s b _
    generalize s.modBay b (fun y => { y with coin := y.coin.on s.now }) = u at hset hbay
    have hmasked := hset.shown (recomputeMask_becomes b u)
    refine ⟨⟨hmasked.rest, hmasked.others, rfl⟩, u.maskOf b, ?_⟩
    rw [recomputeMask_bay, hbay, if_pos hoff]
    rfl
  · have heq : coinOn b s = s := if_neg hoff
    rw [heq]
    exact ⟨.refl b s, [], (if_neg hoff).symm⟩

theorem coinOff_taken (hnext : s.TakesNext f) (hk : f.kind = 0x22#8) (hpresent : siteAbsent s.site b = false)
    (hbody : f.body = [BitVec.ofNat 8 b.val, 3]) :
    ∃ t, exec .coinOff s = .next t ∧ Replied s t f .accepted [] ∧ OtherBays b s t ∧ t.tariff = s.tariff
      ∧ t.journal = s.journal ∧ t.ctx b = s.ctx b ∧ (t.bay b).tubes = (s.bay b).tubes
      ∧ (t.bay b).coin.coinOff = true
      ∧ ((s.bay b).coin.coinOff = true → t.bay b = s.bay b)
      ∧ ((s.bay b).coin.coinOff = false → (t.bay b).mask = [] ∧ (t.bay b).coin.capture = .idle
          ∧ ((s.bay b).coin.capture ≠ .idle →
              (t.bay b).counters.aborted = min ((s.bay b).counters.aborted + 1) 65535)
          ∧ ((s.bay b).coin.capture = .idle → (t.bay b).counters = (s.bay b).counters)) := by
  obtain ⟨t, e, hreplied, ht⟩ := control_accepted (c := .coinOff) (row := coinOff) rfl rfl (by decide)
    hnext hk hpresent hbody (coinOff_work (P := (· = b)) rfl (dropHead s))
  obtain ⟨hbecomes, hbay⟩ := coinOff_bay b (dropHead s)
  have htbay := (ht.bay b).trans hbay
  refine ⟨t, e, hreplied, fun c hc => (ht.bay c).trans (hbecomes.others c hc), ht.tariff.trans hbecomes.tariff,
    ht.journal.trans hbecomes.journal, ?_⟩
  rw [State.ctx, htbay]
  show _
  have hsame : (dropHead s).bay b = s.bay b := rfl
  rw [hsame]
  cases hoff : (s.bay b).coin.coinOff with
  | true =>
    rw [if_pos rfl]
    exact ⟨rfl, rfl, hoff, fun _ => rfl, nofun⟩
  | false =>
    rw [if_neg (by decide)]
    exact ⟨rfl, rfl, rfl, nofun, fun _ => ⟨rfl, rfl, fun hrun => congrArg CoinCounters.aborted (if_neg hrun), fun hidle => if_pos hidle⟩⟩

theorem coinOn_taken (hnext : s.TakesNext f) (hk : f.kind = 0x22#8) (hpresent : siteAbsent s.site b = false)
    (hbody : f.body = [BitVec.ofNat 8 b.val, 4]) :
    ∃ t, exec .coinOn s = .next t ∧ Replied s t f .accepted [] ∧ OtherBays b s t ∧ t.tariff = s.tariff
      ∧ t.journal = s.journal ∧ t.ctx b = s.ctx b ∧ (t.bay b).tubes = (s.bay b).tubes
      ∧ (t.bay b).coin.coinOff = false ∧ ((s.bay b).coin.coinOff = false → t.bay b = s.bay b) := by
  obtain ⟨t, e, hreplied, ht⟩ := control_accepted (c := .coinOn) (row := coinOn) rfl rfl (by decide)
    hnext hk hpresent hbody (coinOn_work (P := (· = b)) rfl (dropHead s))
  obtain ⟨hbecomes, m, hbay⟩ := coinOn_bay b (dropHead s)
  have htbay := (ht.bay b).trans hbay
  refine ⟨t, e, hreplied, fun c hc => (ht.bay c).trans (hbecomes.others c hc), ht.tariff.trans hbecomes.tariff,
    ht.journal.trans hbecomes.journal, ?_⟩
  rw [State.ctx, htbay]
  have hsame : (dropHead s).bay b = s.bay b := rfl
  rw [hsame]
  cases hoff : (s.bay b).coin.coinOff with
  | true =>
    rw [if_pos rfl]
    exact ⟨rfl, rfl, rfl, nofun⟩
  | false =>
    rw [if_neg (by decide)]
    exact ⟨rfl, rfl, hoff, fun _ => rfl⟩

/-! ### TUBE_SET (R106) -/

theorem tubeOf_val (n : TubeNo) : tubeOf n.val = some n := dif_pos n.isLt

theorem field_fourth_byte (x y z w : Byte) (xs : List Byte) : field (x :: y :: z :: w :: xs) 3 1 = w.toNat := by
  simp [field, beNat]

theorem setStateOf_carried {st : TubeState} (hst : st = .ok ∨ st = .disabled) :
    setStateOf (if st = .ok then (0 : Byte) else 2).toNat = some st := by
  rcases hst with rfl | rfl <;> rfl

/-- A tube that has been set is not JAMMED. -/
theorem tubeSet_bay (n : TubeNo) (k : Nat) {st : TubeState} (hst : st = .ok ∨ st = .disabled) (b : BayNo) (s : State) :
    ∃ y, Turns b s (tubeSet b n k st s).state y
      ∧ y.tubes = (s.bay b).tubes.set n { (s.bay b).tubes[n] with count := (s.bay b).tubes[n].setCount k, state := st }
      ∧ y.ctx.causes = { (s.ctx b).causes with jamAll := false }
      ∧ (tubeSet b n k st s).state.tariff = s.tariff ∧ (tubeSet b n k st s).state.journal = s.journal := by
  unfold tubeSet
  dsimp only
  obtain ⟨hbay, hothers, hrest, -⟩ := changeTube_bay n (fun u => { u with count := (s.tube b n).setCount k, state := st }) b s
  generalize changeTube b n (fun u => { u with count := (s.tube b n).setCount k, state := st }) s = v at hbay hothers hrest
  have hturns : Turns b s v (tubedBay n { (s.bay b).tubes[n] with count := (s.bay b).tubes[n].setCount k, state := st } (s.bay b)) :=
    ⟨hothers, by rw [hrest], by rw [hrest], by rw [hrest]; rfl, by rw [hbay]; rfl⟩
  have hnone : (v.bay b).allJammed = false := by
    unfold Bay.allJammed
    rw [List.all_eq_false]
    refine ⟨n, (by decide : ∀ n : TubeNo, n ∈ allTubes) n, ?_⟩
    rw [hbay]
    simp only [tubedBay, Fin.getElem_fin, Vector.getElem_set_self]
    rcases hst with rfl | rfl <;> decide
  have hleft := leaveCause_becomes .jamAll b v
  have heq : testJamAll b v = leaveCause .jamAll b v := by
    unfold testJamAll
    rw [hnone]
    rfl
  rw [heq]
  exact ⟨_, hturns.step (g := causedBay .jamAll false) hleft.turns fun _ => rfl, rfl, rfl, hleft.tariff.trans (by rw [hrest]),
    hleft.journal.trans (by rw [hrest])⟩

theorem tubeSet_taken {n : TubeNo} {count : Byte} {st : TubeState} (hnext : s.TakesNext f) (hk : f.kind = 0x23#8)
    (hst : st = .ok ∨ st = .disabled)
    (hbody : f.body = [BitVec.ofNat 8 b.val, BitVec.ofNat 8 n.val, count, if st = .ok then 0 else 2]) :
    let u := (s.bay b).tubes[n]
    let stored := if u.kind = 0 then 0 else min count.toNat u.capacity
    ∃ t, exec .tubeSet s = .next t ∧ OtherBays b s t ∧ t.tariff = s.tariff ∧ t.journal = s.journal
      ∧ ((s.ctx b).state = .outOfService → (s.bay b).lines.serviceDoor.accepted = true →
          Replied s t f .accepted (beBytes 1 stored)
          ∧ (t.bay b).tubes = (s.bay b).tubes.set n { u with count := stored, state := st }
          ∧ (t.ctx b).causes = { (s.ctx b).causes with jamAll := false })
      ∧ ((s.ctx b).state ≠ .outOfService ∨ (s.bay b).lines.serviceDoor.accepted = false →
          t = { s with link := t.link } ∧ Replied s t f .notServicing []) := by
  dsimp only
  have hlen : f.body.length = 4 := by rw [hbody]; rfl
  have hn : (BitVec.ofNat 8 n.val).toNat = n.val := by
    rw [BitVec.toNat_ofNat]
    omega
  have hrow : ∀ row : List Byte → State → Answer, ofLength 4 row f (dropHead s) = row f.body (dropHead s) := fun row =>
    ofLength_good hlen _
  have hfields : bayOf (field f.body 0 1) = some b ∧ tubeOf (field f.body 1 1) = some n ∧ setStateOf (field f.body 3 1) = some st
      ∧ field f.body 2 1 = count.toNat := by
    rw [hbody, field_byte, field_second_byte, field_third_byte, field_fourth_byte, byte_val, hn]
    exact ⟨bayOf_val b, tubeOf_val n, setStateOf_carried hst, rfl⟩
  obtain ⟨hfield0, hfield1, hfield3, hfield2⟩ := hfields
  by_cases hserve : s.servicing b = true
  · obtain ⟨y, hturns, htubes, hcauses, htariff, hjournal⟩ := tubeSet_bay n count.toNat hst b (dropHead s)
    rw [show (dropHead s).bay b = s.bay b from rfl] at htubes
    rw [show (dropHead s).ctx b = s.ctx b from rfl] at hcauses
    unfold Tube.setCount at htubes
    have hwork := tubeSet_work (P := (· = b)) rfl free_loud n count.toNat st (dropHead s)
    obtain ⟨t, e, hreplied, ht⟩ := frame_answered (out := exec .tubeSet s) (a := tubeSet b n count.toNat st (dropHead s)) hnext
      (isKind := Frame.is kTubeSet) (frame_is hk) (by
        rw [hrow, hfield0, hfield1, hfield3, hfield2]
        exact if_pos hserve) rfl hwork.rxBuffer hwork.replies rfl
    refine ⟨t, e, fun c hc => (ht.bay c).trans (hturns.others c hc), ht.tariff.trans htariff, ht.journal.trans hjournal,
      fun _ _ => ⟨hreplied, ?_, ?_⟩, fun hno => ?_⟩
    · rw [ht.bay, hturns.field Bay.tubes fun _ => rfl]
      exact htubes
    · have hkept := hturns.field (fun y => y.ctx.causes) fun _ => rfl
      rw [State.ctx, ht.bay]
      exact hkept.trans hcauses
    · unfold State.servicing at hserve
      rw [Bool.and_eq_true, decide_eq_true_eq] at hserve
      obtain ⟨hout, hopen⟩ := hserve
      rcases hno with h | h
      · exact absurd hout h
      · rw [hopen] at h
        cases h
  · obtain ⟨t, e, hlink, hreplied⟩ := portReply_done (status := .notServicing) (data := []) hnext (isKind := Frame.is kTubeSet) (frame_is hk)
      (by
        rw [hrow, hfield0, hfield1, hfield3, hfield2]
        exact if_neg hserve) (out := exec .tubeSet s) rfl
    refine ⟨t, e, ?_, ?_, ?_, fun hout hopen => ?_, fun _ => ⟨hlink, hreplied⟩⟩
    · intro c _
      rw [hlink]
      rfl
    · rw [hlink]
    · rw [hlink]
    · refine absurd ?_ hserve
      unfold State.servicing
      rw [hout, hopen]
      rfl

/-- Settles O30. -/
theorem coinAndTubeFramesAct : Obligations.CoinAndTubeFramesAct :=
  ⟨fun _ _ _ hnext hk hpresent => ⟨coinOff_taken hnext hk hpresent, coinOn_taken hnext hk hpresent⟩,
    fun _ _ _ _ _ _ hnext hk hst hbody => tubeSet_taken hnext hk hst hbody⟩

end

end Sys2Proof.Proofs

/-! PROOFS. BAY_CONTROL RESET (R23, R147, R198). -/

namespace Sys2Proof.Proofs

open Sys2Proof Sys2Proof.Machine Sys2Proof.Laws

section
variable {b : BayNo} {s t u : State} {f : Frame}

/-! ### The end of a reset -/

/-- A record whose card command is withdrawn. -/
def withdrawnBay (y : Bay) : Bay := { y with term := { y.term with cardSlot := y.term.cardSlot.bind CardSlot.withdraw } }

theorem withdrawCommand_becomes (b : BayNo) (s : State) : Becomes b s (withdrawCommand b s) (withdrawnBay (s.bay b)) :=
  .modBay b s withdrawnBay

theorem withdrawn_slot {y : Bay} {c : CardSlot} (h : (withdrawnBay y).term.cardSlot = some c) : c.owner = .reapplication := by
  obtain ⟨d, -, hd⟩ := Option.bind_eq_some_iff.mp h
  unfold CardSlot.withdraw at hd
  split at hd
  next howner => exact Option.some.inj hd ▸ howner
  next => cases hd

theorem closedBay_slot (site : List (List Byte)) (b : BayNo) (now : Ms) (y : Bay) :
    (closedBay site b now y).term.cardSlot = y.term.cardSlot := by
  have hemptied : (emptiedBay now y).term = y.term := by
    unfold emptiedBay returnedBay
    split
    · rfl
    · split <;> rfl
  rw [← hemptied]
  unfold closedBay settledBay
  split <;> rfl

/-- Behind a reset only a re-application's command stands in the slot. -/
theorem finishReset_slot {c : CardSlot} (h : (finishReset b s).slot b = some c) : c.owner = .reapplication := by
  have hwithdrawn := (withdrawCommand_becomes b s).field (fun y => y.term.cardSlot) fun _ => rfl
  refine withdrawn_slot (hwithdrawn.symm.trans (Eq.trans ?_ h))
  unfold finishReset
  dsimp only
  generalize withdrawCommand b s = u
  split
  · have hwaits := (await_becomes .places b u).shown (recomputeMask_becomes b _)
    exact (hwaits.field (fun y => y.term.cardSlot) fun _ => rfl).symm
  · refine Eq.trans ?_ ((closeTxn_turns b u).field (fun y => y.term.cardSlot) fun _ => rfl).symm
    exact (closedBay_slot _ _ _ _).symm

theorem finishReset_closes (h : s.journal.waitsFor b = false) : finishReset b s = closeTxn b (withdrawCommand b s) := by
  unfold finishReset
  dsimp only
  rw [show (withdrawCommand b s).journal = s.journal from rfl, h]
  rfl

/-- In every open state but COMMIT a reset comes to its end. -/
theorem bayReset_finishes (hopen : (s.ctx b).state.isOpen = true) (hcommit : (s.ctx b).state ≠ .commit)
    (hwait : (s.ctx b).wait ≠ .places) : ∃ u, bayReset b s = finishReset b u := by
  unfold bayReset
  rw [if_neg hwait]
  cases hstate : (s.ctx b).state with
  | idle => rw [hstate] at hopen; cases hopen
  | outOfService => rw [hstate] at hopen; cases hopen
  | commit => exact absurd hstate hcommit
  | payout => exact ⟨_, rfl⟩
  | refund => exact ⟨_, rfl⟩
  | print =>
    dsimp only
    unfold resetPrint
    dsimp only
    split <;> exact ⟨_, rfl⟩
  | _ => exact ⟨_, rfl⟩

/-! ### In rest, in COMMIT and early -/

theorem bayReset_returns (hrest : (s.ctx b).state = .idle ∨ (s.ctx b).state = .outOfService) (hwait : (s.ctx b).wait ≠ .places) :
    bayReset b s = requestReturn b s := by
  unfold bayReset
  rw [if_neg hwait]
  rcases hrest with h | h <;> rw [h]

theorem bayReset_held (hstate : (s.ctx b).state = .commit) (hwait : (s.ctx b).wait ≠ .places) :
    bayReset b s = s.modCtx b fun c => { c with resetHeld := true } := by
  unfold bayReset
  rw [if_neg hwait, hstate]

/-- An early reset with nothing priced, written or owed. -/
theorem bayReset_early (hstate : (s.ctx b).state = .priced ∨ (s.ctx b).state = .tender) (hwait : (s.ctx b).wait ≠ .places)
    (howed : (s.ctx b).overflowValue = 0) (hphase : (s.exch b).phase = .idle) :
    bayReset b s = finishReset b (requestReturn b (endExchange b (changeOwner b .nobody s))) := by
  have hpricing : (s.ctx b).state ≠ .pricing := by rcases hstate with h | h <;> rw [h] <;> decide
  have hwriting : (s.exch b).phase ≠ .writing := by rw [hphase]; decide
  have hearly : bayReset b s = resetEarly b s := by
    unfold bayReset
    rw [if_neg hwait]
    rcases hstate with h | h <;> rw [h]
  rw [hearly]
  unfold resetEarly
  dsimp only
  rw [if_neg hpricing, if_neg hwriting, howed]
  rfl

/-- What an early reset gives back. -/
theorem bayReset_gives (hstate : (s.ctx b).state = .priced ∨ (s.ctx b).state = .tender) (hwait : (s.ctx b).wait ≠ .places)
    (howed : (s.ctx b).overflowValue = 0) (hphase : (s.exch b).phase = .idle) (hplaces : s.journal.waitsFor b = false) :
    (bayReset b s).tariff = unpinnedOf (s.ctx b).bank s.tariff ∧ (bayReset b s).journal = s.journal
    ∧ ∃ y : Bay, Turns b s (bayReset b s) (closedBay s.site b s.now y) ∧ y.ctx.causes = (s.ctx b).causes
      ∧ y.ctx.lastRefusal = (s.ctx b).lastRefusal := by
  rw [bayReset_early hstate hwait howed hphase]
  have howner : Turns b s (changeOwner b .nobody s) (s.bay b) := .of_bays rfl rfl rfl rfl
  have hunits : (changeOwner b .nobody s).tariff = s.tariff ∧ (changeOwner b .nobody s).journal = s.journal := ⟨rfl, rfl⟩
  generalize changeOwner b .nobody s = u at howner hunits
  have hended := howner.step (g := Proofs.ended) (endExchange_turns b u) fun _ => rfl
  obtain ⟨hjournal, htariff, -⟩ := endExchange_units b u
  rw [hunits.1] at htariff
  rw [hunits.2] at hjournal
  generalize endExchange b u = v at hended hjournal htariff
  have hreturns := requestReturn_becomes b v
  have hreturned := hended.thereby (g := fun now _ => returnedBay now) hreturns.turns (returnedBay_plain _)
  have hrjournal := hreturns.journal.trans hjournal
  have hrtariff := hreturns.tariff.trans htariff
  generalize requestReturn b v = w at hreturned hrjournal hrtariff
  rw [finishReset_closes (by rw [hrjournal]; exact hplaces)]
  have hwithdraws := withdrawCommand_becomes b w
  have hwithdrawn := hreturned.step (g := withdrawnBay) hwithdraws.turns fun _ => rfl
  have hwjournal := hwithdraws.journal.trans hrjournal
  have hwtariff := hwithdraws.tariff.trans hrtariff
  generalize withdrawCommand b w = x at hwithdrawn hwjournal hwtariff
  obtain ⟨-, hunpinned, -⟩ := closeTxn_units b x
  have hkept : ∀ {α : Type} (p : Ctx → α), (∀ c l, p { c with coins := l } = p c) →
      p (withdrawnBay (returnedBay s.now (Proofs.ended (s.bay b)))).ctx = p (s.ctx b) := fun p hp => by
    show p (returnedBay s.now (Proofs.ended (s.bay b))).ctx = _
    unfold returnedBay
    split
    · exact hp _ _
    · rfl
  have hbank : (x.ctx b).bank = (s.ctx b).bank :=
    (hwithdrawn.field (fun y => y.ctx.bank) fun _ => rfl).trans (hkept Ctx.bank fun _ _ => rfl)
  rw [hbank, hwtariff] at hunpinned
  exact ⟨hunpinned, (closeTxn_journal b x).trans hwjournal, _,
    hwithdrawn.thereby (g := fun now site => closedBay site b now) (closeTxn_turns b x) (closedBay_plain _ _ _),
    hkept Ctx.causes fun _ _ => rfl, hkept Ctx.lastRefusal fun _ _ => rfl⟩

/-! ### In PRINT -/

theorem orphan_waitsFor (j : Journal) (b c : BayNo) : (j.orphan b).waitsFor c = j.waitsFor c := by
  unfold Journal.waitsFor Journal.orphan
  rw [List.any_map]
  refine congrArg (fun p => j.waitList.any p) (funext fun r => ?_)
  show ((if r.requester = .ctx b then { r with requester := .nobody } else r : Machine.Append).requester == _) = _
  split
  next h =>
    rw [h]
    rfl
  next => rfl

theorem receiptAdjust_lists (who : AppendBy) (b : BayNo) (s : State) :
    let r : Machine.Append := ⟨receiptBody (s.isPrintedPass b) (s.ctx b), some b, who⟩
    lists (receiptAdjust who b s).journal = if s.journal.queue.length < 16 then (s.journal.queue ++ [r], s.journal.waitList)
      else (s.journal.queue, s.journal.waitList ++ [r]) := by
  dsimp only
  unfold receiptAdjust receiptBody appendAdjust
  cases s.isPrintedPass b with
  | true => exact append_queue rfl rfl s
  | false => exact append_queue rfl rfl s

theorem resetReceipt_lists (b : BayNo) (s : State) :
    let r : Machine.Append := ⟨receiptBody (s.isPrintedPass b) (s.ctx b), some b, .reset b⟩
    lists (resetReceipt b s).journal = if s.journal.queue.length < 16 then (s.journal.queue ++ [r], s.journal.waitList)
      else (s.journal.queue, s.journal.waitList ++ [r]) := by
  have hbay : (s.modBay b fun y => { y with ctx := { y.ctx with receiptOutcome := .failed } }).ctx b =
      { s.ctx b with receiptOutcome := .failed } := (congrArg Bay.ctx (State.bay_modBay_self s b _)).trans rfl
  have hpass : (s.modBay b fun y => { y with ctx := { y.ctx with receiptOutcome := .failed } }).isPrintedPass b = s.isPrintedPass b :=
    isPrintedPass_of_ctx (by rw [hbay]) (by rw [hbay]) rfl
  have hbody : receiptBody (s.isPrintedPass b) ({ s.ctx b with receiptOutcome := .failed }) = receiptBody (s.isPrintedPass b) (s.ctx b) := rfl
  have hlists := receiptAdjust_lists (.reset b) b (s.modBay b fun y => { y with ctx := { y.ctx with receiptOutcome := .failed } })
  rw [hpass, hbay, hbody] at hlists
  exact hlists

theorem resetReceipt_state (b : BayNo) (s : State) : ((resetReceipt b s).ctx b).state = (s.ctx b).state := by
  have hset := (Becomes.modBay b s fun y => { y with ctx := { y.ctx with receiptOutcome := .failed } }).turns
  have hkept : ((s.modBay b fun y => { y with ctx := { y.ctx with receiptOutcome := .failed } }).ctx b).state = (s.ctx b).state :=
    hset.field (fun y => y.ctx.state) fun _ => rfl
  unfold resetReceipt State.modCtx
  generalize s.modBay b (fun y => { y with ctx := { y.ctx with receiptOutcome := .failed } }) = u at hkept
  obtain ⟨hturns, -⟩ := receiptAdjust_turns (.reset b) b u
  refine (hturns.field (fun y => y.ctx.state) fun _ => rfl).trans (Eq.trans ?_ hkept)
  split <;> rfl

/-- A record that a reset aborts in PRINT. -/
theorem abortJob_keeps (b : BayNo) (s : State) : (abortJob b s).journal = s.journal ∧ (abortJob b s).tariff = s.tariff
    ∧ (abortJob b s).ctx b = s.ctx b := by
  refine ⟨rfl, rfl, ?_⟩
  unfold abortJob
  rw [State.ctx, State.bay_modBay_self]
  dsimp only
  split
  · split <;> rfl
  · rfl

theorem closed_from_print (hstate : (u.ctx b).state = .print) (hplaces : u.journal.waitsFor b = false) :
    ((finishReset b u).bay b).term.tone = .chirp ∧ ((finishReset b u).bay b).term.tonePending = true
    ∧ AtRest (finishReset b u) b ∧ (finishReset b u).journal = u.journal := by
  rw [finishReset_closes hplaces]
  have hwithdraws := withdrawCommand_becomes b u
  have hstate' : ((withdrawCommand b u).ctx b).state = .print := (hwithdraws.field (fun y => y.ctx.state) fun _ => rfl).trans hstate
  have hjournal := hwithdraws.journal
  generalize withdrawCommand b u = v at hstate' hjournal
  obtain ⟨htone, hpending⟩ := closeTxn_chirps hstate'
  exact ⟨htone, hpending, closeTxn_atRest b v, (closeTxn_journal b v).trans hjournal⟩

/-- A reset in PRINT fails the receipt where its outcome has not been taken, and closes with CHIRP. -/
theorem bayReset_print (hstate : (s.ctx b).state = .print) (hwait : (s.ctx b).wait ≠ .places)
    (hplaces : s.journal.waitsFor b = false) (hroom : s.journal.queue.length < 16) :
    ((bayReset b s).bay b).term.tone = .chirp ∧ ((bayReset b s).bay b).term.tonePending = true ∧ AtRest (bayReset b s) b
    ∧ ((s.ctx b).wait ≠ .adjust →
        ⟨receiptBody (s.isPrintedPass b) (s.ctx b), some b, .reset b⟩ ∈ (bayReset b s).journal.queue) := by
  have hprint : bayReset b s = resetPrint b s := by
    unfold bayReset
    rw [if_neg hwait, hstate]
  have horphan : (s.modJournal (·.orphan b)).journal.waitsFor b = false := (orphan_waitsFor s.journal b b).trans hplaces
  have hlength : (s.modJournal (·.orphan b)).journal.queue.length = s.journal.queue.length := List.length_map _
  have hctx : (s.modJournal (·.orphan b)).ctx b = s.ctx b := rfl
  have htariff : (s.modJournal (·.orphan b)).tariff = s.tariff := rfl
  rw [hprint]
  unfold resetPrint
  dsimp only
  generalize s.modJournal (·.orphan b) = v at *
  by_cases hadjust : (s.ctx b).wait = .adjust
  · rw [if_pos hadjust]
    obtain ⟨htone, hpending, hrest, -⟩ := closed_from_print (by rw [hctx]; exact hstate) horphan
    exact ⟨htone, hpending, hrest, fun hno => absurd hadjust hno⟩
  · rw [if_neg hadjust]
    obtain ⟨hajournal, hatariff, hactx⟩ := abortJob_keeps b v
    generalize abortJob b v = w at *
    have hlists := resetReceipt_lists b w
    have hpass : w.isPrintedPass b = s.isPrintedPass b :=
      isPrintedPass_of_ctx (by rw [hactx, hctx]) (by rw [hactx, hctx]) (hatariff.trans htariff)
    dsimp only at hlists
    rw [hpass, hactx, hctx, hajournal, if_pos (by rw [hlength]; exact hroom)] at hlists
    have hrstate := resetReceipt_state b w
    rw [hactx, hctx, hstate] at hrstate
    generalize resetReceipt b w = x at hlists hrstate
    have hqueue : x.journal.queue = _ := congrArg Prod.fst hlists
    have hwaits : x.journal.waitList = v.journal.waitList := congrArg Prod.snd hlists
    obtain ⟨htone, hpending, hrest, hjournal⟩ := closed_from_print hrstate (by
      rw [Journal.waitsFor, hwaits]
      exact horphan)
    refine ⟨htone, hpending, hrest, fun _ => ?_⟩
    rw [hjournal, hqueue]
    exact List.mem_append_right _ (List.mem_singleton_self _)

/-- Settles O29. -/
theorem bayResetReturnsOrIsHeld : Obligations.BayResetReturnsOrIsHeld := by
  intro s f b hnext hk hpresent hbody hwait
  have hwork := bayReset_work (P := (· = b)) rfl (dropHead s)
  obtain ⟨t, e, hreplied, ht⟩ := control_accepted (c := .bayControlReset) (row := bayReset) rfl rfl (by decide) hnext hk hpresent
    hbody hwork
  have hbays : (dropHead s).bay b = s.bay b ∧ (dropHead s).ctx b = s.ctx b ∧ (dropHead s).exch b = s.exch b := ⟨rfl, rfl, rfl⟩
  have hunits : (dropHead s).tariff = s.tariff ∧ (dropHead s).journal = s.journal ∧ (dropHead s).now = s.now
    ∧ (dropHead s).site = s.site := ⟨rfl, rfl, rfl, rfl⟩
  have hpass : (dropHead s).isPrintedPass b = s.isPrintedPass b := rfl
  have hothers : OtherBays b s t := fun c hc => (ht.bay c).trans (hwork.otherBays c hc)
  have htime : t.time = s.time := ht.time.trans hwork.time
  clear hwork
  generalize dropHead s = u at *
  obtain ⟨hbay, hctx, hexch⟩ := hbays
  obtain ⟨htariff, hjournal, hnow, hsite⟩ := hunits
  refine ⟨t, e, hreplied, fun c hc => congrArg Bay.ctx (hothers c hc), htime, fun hrest hpulse => ⟨hothers, ?_⟩,
    fun hstate => ⟨hothers, ?_⟩, fun hopen hcommit c hslot => ?_, fun hstate howed _ hphase hplaces k hbank => ?_,
    fun hstate hplaces hroom => ?_⟩
  · rw [ht.bay, bayReset_returns (by rw [hctx]; exact hrest) (by rw [hctx]; exact hwait), requestReturn_bay_self, hbay, hnow,
      returnedBay]
    simp only [hpulse]
    rfl
  · rw [ht.bay, bayReset_held (by rw [hctx]; exact hstate) (by rw [hctx]; exact hwait)]
    refine (State.bay_modBay_self u b _).trans ?_
    rw [hbay]
    rfl
  · obtain ⟨v, hv⟩ := bayReset_finishes (s := u) (by rw [hctx]; exact hopen) (by rw [hctx]; exact hcommit) (by rw [hctx]; exact hwait)
    rw [ht.slot, hv] at hslot
    exact finishReset_slot hslot
  · obtain ⟨hunpinned, hkept, y, hturns, hcauses, hrefusal⟩ := bayReset_gives (s := u) (by rw [hctx]; exact hstate)
      (by rw [hctx]; exact hwait) (by rw [hctx]; exact howed) (by rw [hexch]; exact hphase) (by rw [hjournal]; exact hplaces)
    rw [hctx, hbank, htariff] at hunpinned
    rw [hctx] at hcauses hrefusal
    have hfield : ∀ {α : Type} (p : Ctx → α), (∀ c, p { c with holdCause := .none, overlay := .none } = p c) →
        p (t.ctx b) = p (y.ctx.clear (restOf s.site b (s.ctx b).causes) s.now) := fun p hp => by
      rw [ht.ctx, State.ctx, hturns.field (fun y => p y.ctx) fun _ => hp _, closedBay_ctx_eq, hcauses, hsite, hnow]
    refine ⟨ht.tariff.trans hunpinned, ht.journal.trans (hkept.trans hjournal), ?_, (hfield Ctx.causes fun _ => rfl).trans hcauses,
      (hfield Ctx.lastRefusal fun _ => rfl).trans hrefusal, hfield Ctx.coins fun _ => rfl, hfield Ctx.tendered fun _ => rfl,
      hfield Ctx.bank fun _ => rfl, hfield Ctx.product fun _ => rfl⟩
    rw [hfield Ctx.state fun _ => rfl]
    show restOf s.site b (s.ctx b).causes = _
    rw [restOf, hpresent, Bool.not_false, Bool.and_true]
  · obtain ⟨htone, hpending, ⟨hrest, -⟩, hasked⟩ := bayReset_print (s := u) (by rw [hctx]; exact hstate) (by rw [hctx]; exact hwait)
      (by rw [hjournal]; exact hplaces) (by rw [hjournal]; exact hroom)
    rw [hpass, hctx] at hasked
    rw [ht.bay, ht.ctx, ht.journal]
    refine ⟨htone, hpending, ?_, fun hno => ⟨_, hasked hno, rfl, rfl⟩⟩
    rw [hrest]
    split
    exacts [.inl rfl, .inr rfl]

end

end Sys2Proof.Proofs

/-! PROOFS. BANK_SWITCH and the scheduled switch (R64 to R67). -/

namespace Sys2Proof.Proofs

open Sys2Proof Sys2Proof.Machine Sys2Proof.Laws

section
variable {s t : State} {f : Frame} {k : Bank} {v : Versions} {code : Code}

/-! ### A frame answered with no retained item written -/

theorem frame_answered_next {out : Out} {a : Answer} (hafter : a.after = .nothing)
    (hbuffer : a.state.link.rxBuffer = s.link.rxBuffer.drop 1) (hreplies : a.state.link.replies = s.link.replies)
    (he : out = .next (answer f a)) :
    ∃ t, out = .next t ∧ Replied s t f a.status a.data ∧ t = { a.state with link := t.link } := by
  refine ⟨answer f a, he, ⟨?_, ?_⟩, rfl⟩
  · rw [answer_rxBuffer, hbuffer]
  · rw [answer_replies, hreplies, hafter]

/-! ### The TABLE record (R67, R155) -/

/-- A TABLE request stands: of its own, or merged into the one that waits. -/
theorem table_asked (c : Calendar) (who : AppendBy) (s : State) :
    ∃ r ∈ asked (append ⟨.table k v c, none, who⟩ s).journal, r.body = .table k v c := by
  rw [append, asked_of_lists (journalKick_lists _)]
  show ∃ r ∈ asked (s.journal.request ⟨.table k v c, none, who⟩), _
  unfold Journal.request asked
  dsimp only
  split
  next hwaits =>
    obtain ⟨q, hq, htable⟩ := List.any_eq_true.mp hwaits
    refine ⟨_, List.mem_append_right _ (List.mem_map_of_mem hq), ?_⟩
    unfold Append.mergeTable
    rw [if_pos htable]
  next =>
    split
    · exact ⟨_, List.mem_append_left _ (List.mem_append_right _ (List.mem_singleton_self _)), rfl⟩
    · exact ⟨_, List.mem_append_right _ (List.mem_append_right _ (List.mem_singleton_self _)), rfl⟩

/-- A switch performed. -/
theorem performSwitch_leads (k : Bank) (s : State) :
    (performSwitch k s).bays = s.bays ∧ (performSwitch k s).card = s.card ∧ (performSwitch k s).time = s.time
    ∧ (performSwitch k s).tariff = { s.tariff with active := k }
    ∧ (performSwitch k s).link.rxBuffer = s.link.rxBuffer ∧ (performSwitch k s).link.replies = s.link.replies
    ∧ ∃ r ∈ asked (performSwitch k s).journal, r.body = .table k (s.tariff.bank k).versions s.time.calendar := by
  have hbeside := append_beside ⟨.table k (s.tariff.bank k).versions s.time.calendar, none, .tariff⟩
    (s.modTariff fun t => { t with active := k })
  have hwork := append_work (m := .free) (P := fun _ => True) ⟨.table k (s.tariff.bank k).versions s.time.calendar, none, .tariff⟩
    (s.modTariff fun t => { t with active := k })
  exact ⟨congrArg Beside.bays hbeside, congrArg Beside.card hbeside, congrArg Beside.time hbeside, congrArg Beside.tariff hbeside,
    hwork.rxBuffer, hwork.replies, table_asked _ _ _⟩

/-! ### BANK_SWITCH (R64) -/

/-- An effective time the calendar has not come to. -/
abbrev Later (now : Calendar) (day minute : Nat) : Prop := now.day < day ∨ (now.day = day ∧ now.minute < minute)

theorem reached_iff {day minute : Nat} {now : Calendar} : reached day minute now = true ↔ ¬ Later now day minute := by
  unfold reached
  simp only [Bool.or_eq_true, Bool.and_eq_true, decide_eq_true_eq]
  omega

theorem bankSwitch_refused (h : s.tariff.switchFailure k v = some code) (time : Option (Nat × Nat)) :
    bankSwitch k v time s = refusal code s := by
  unfold bankSwitch
  rw [h]

/-- The switch of a command that performs it. -/
def switchNow (k : Bank) (s : State) : State := performSwitch k (s.modTariff fun t => { t with scheduled := none })

theorem bankSwitch_at_once (h : s.tariff.switchFailure k v = none) : bankSwitch k v none s = accept (switchNow k s) := by
  unfold bankSwitch
  rw [h]
  rfl

theorem bankSwitch_timed (h : s.tariff.switchFailure k v = none) (day minute : Nat) : bankSwitch k v (some (day, minute)) s =
    if s.time.isSet then
      if reached day minute s.time.calendar then accept (switchNow k s)
      else accept (s.modTariff fun t => { t with scheduled := some ⟨k, v, day, minute⟩ })
    else refusal .timeUnset s := by
  unfold bankSwitch
  rw [h]
  rfl

/-- The time a BANK_SWITCH carries, with timing 1. -/
def carriedTime (body : List Byte) : Option (Nat × Nat) :=
  if field body 13 1 = 0 then none else some (field body 14 2, field body 16 2)

/-- A well-formed BANK_SWITCH is its bank's. -/
theorem bankSwitch_taken (hnext : s.TakesNext f) (hk : f.kind = 0x14#8) (hlen : f.body.length = 18)
    (hbank : Bank.ofCode (field f.body 0 1) = some k) (htiming : field f.body 13 1 ≤ 1) :
    exec .bankSwitch s = .next (answer f (bankSwitch k (versionsOf f.body) (carriedTime f.body) (dropHead s))) := by
  show Host.Outcome.next (answerFrame _ _ s) = _
  rw [answerFrame_eq (isKind := Frame.is kBankSwitch) _ hnext (frame_is hk), ofLength_good hlen, hbank]
  unfold carriedTime
  rcases Nat.le_one_iff_eq_zero_or_eq_one.mp htiming with h | h
  · rw [h]
    rfl
  · rw [h]
    rfl

theorem bankSwitch_answered (hnext : s.TakesNext f) (hk : f.kind = 0x14#8) (hlen : f.body.length = 18)
    (hbank : Bank.ofCode (field f.body 0 1) = some k) (htiming : field f.body 13 1 ≤ 1) {a : Answer}
    (ha : bankSwitch k (versionsOf f.body) (carriedTime f.body) (dropHead s) = a) (hafter : a.after = .nothing)
    (hbuffer : a.state.link.rxBuffer = s.link.rxBuffer.drop 1) (hreplies : a.state.link.replies = s.link.replies) :
    ∃ t, exec .bankSwitch s = .next t ∧ Replied s t f a.status a.data ∧ t = { a.state with link := t.link } :=
  frame_answered_next hafter hbuffer hreplies (ha ▸ bankSwitch_taken hnext hk hlen hbank htiming)

/-- A switch performed answers a command. -/
theorem switchNow_answered (hnext : s.TakesNext f) (hk : f.kind = 0x14#8) (hlen : f.body.length = 18)
    (hbank : Bank.ofCode (field f.body 0 1) = some k) (htiming : field f.body 13 1 ≤ 1)
    (ha : bankSwitch k (versionsOf f.body) (carriedTime f.body) (dropHead s) = accept (switchNow k (dropHead s))) :
    ∃ t, exec .bankSwitch s = .next t ∧ t.bays = s.bays ∧ t.card = s.card ∧ t.time = s.time ∧ Replied s t f .accepted []
      ∧ t.tariff = { s.tariff with active := k, scheduled := none }
      ∧ ∃ r ∈ t.journal.queue ++ t.journal.waitList, r.body = .table k (s.tariff.bank k).versions s.time.calendar := by
  obtain ⟨hbays, hcard, htime, htariff, hbuffer, hreplies, hasked⟩ := performSwitch_leads k
    ((dropHead s).modTariff fun t => { t with scheduled := none })
  obtain ⟨t, e, hreplied, ht⟩ := bankSwitch_answered hnext hk hlen hbank htiming ha rfl hbuffer hreplies
  have hversions : (((dropHead s).modTariff fun t => { t with scheduled := none }).tariff.bank k).versions = (s.tariff.bank k).versions := by
    cases k <;> rfl
  rw [hversions] at hasked
  change t = { switchNow k (dropHead s) with link := t.link } at ht
  unfold switchNow at ht
  generalize performSwitch k ((dropHead s).modTariff fun t => { t with scheduled := none }) = u at *
  have htjournal : t.journal = u.journal := by rw [ht]
  have htbays : t.bays = u.bays := by rw [ht]
  have htcard : t.card = u.card := by rw [ht]
  have httime : t.time = u.time := by rw [ht]
  have httariff : t.tariff = u.tariff := by rw [ht]
  refine ⟨t, e, htbays.trans hbays, htcard.trans hcard, httime.trans htime, hreplied, httariff.trans htariff, ?_⟩
  rw [htjournal]
  exact hasked

theorem bankSwitch_leads (hnext : s.TakesNext f) (hk : f.kind = 0x14#8) (hlen : f.body.length = 18)
    (hbank : Bank.ofCode (field f.body 0 1) = some k) (htiming : field f.body 13 1 ≤ 1) :
    let w : Scheduled := ⟨k, versionsOf f.body, field f.body 14 2, field f.body 16 2⟩
    ∃ t, exec .bankSwitch s = .next t ∧ t.bays = s.bays ∧ t.card = s.card ∧ t.time = s.time
      ∧ (∀ code, s.tariff.switchFailure k (versionsOf f.body) = some code →
          t = { s with link := t.link } ∧ Replied s t f code [])
      ∧ (s.tariff.switchFailure k (versionsOf f.body) = none →
          (field f.body 13 1 = 1 → s.time.isSet = false → t = { s with link := t.link } ∧ Replied s t f .timeUnset [])
          ∧ (field f.body 13 1 = 1 → s.time.isSet = true → Later s.time.calendar w.day w.minute → Replied s t f .accepted []
              ∧ t = { s with link := t.link, tariff := { s.tariff with scheduled := some w } })
          ∧ (field f.body 13 1 = 0 ∨ (s.time.isSet = true ∧ ¬ Later s.time.calendar w.day w.minute) → Replied s t f .accepted []
              ∧ t.tariff = { s.tariff with active := k, scheduled := none }
              ∧ ∃ r ∈ t.journal.queue ++ t.journal.waitList,
                  r.body = .table k (s.tariff.bank k).versions s.time.calendar)) := by
  dsimp only
  have hunchanged : ∀ {t : State}, t = { s with link := t.link } → t.bays = s.bays ∧ t.card = s.card ∧ t.time = s.time := fun h => by
    rw [h]
    exact ⟨rfl, rfl, rfl⟩
  have hanswered := fun {a : Answer} => bankSwitch_answered hnext hk hlen hbank htiming (a := a)
  cases hfail : s.tariff.switchFailure k (versionsOf f.body) with
  | some code =>
    obtain ⟨t, e, hreplied, ht⟩ := hanswered (bankSwitch_refused (s := dropHead s) hfail _) rfl rfl rfl
    obtain ⟨hbays, hcard, htime⟩ := hunchanged (t := t) ht
    refine ⟨t, e, hbays, hcard, htime, fun c hc => ?_, nofun⟩
    obtain rfl := Option.some.inj hc
    exact ⟨ht, hreplied⟩
  | none =>
    rcases Nat.le_one_iff_eq_zero_or_eq_one.mp htiming with hzero | hone
    · have hcarried : carriedTime f.body = none := if_pos hzero
      obtain ⟨t, e, hbays, hcard, htime, hrest⟩ := switchNow_answered hnext hk hlen hbank htiming
        (by rw [hcarried]; exact bankSwitch_at_once (s := dropHead s) hfail)
      exact ⟨t, e, hbays, hcard, htime, nofun, fun _ => ⟨fun h => by omega, fun h => by omega, fun _ => hrest⟩⟩
    · have hcarried : carriedTime f.body = some (field f.body 14 2, field f.body 16 2) := if_neg (by omega)
      have hrow := bankSwitch_timed (s := dropHead s) hfail (field f.body 14 2) (field f.body 16 2)
      rw [← hcarried] at hrow
      have htimes : (dropHead s).time = s.time := rfl
      rw [htimes] at hrow
      cases hset : s.time.isSet with
      | false =>
        rw [hset, if_neg (by decide)] at hrow
        obtain ⟨t, e, hreplied, ht⟩ := hanswered hrow rfl rfl rfl
        obtain ⟨hbays, hcard, htime⟩ := hunchanged (t := t) ht
        refine ⟨t, e, hbays, hcard, htime, nofun, fun _ => ⟨fun _ _ => ⟨ht, hreplied⟩, nofun, fun h => ?_⟩⟩
        rcases h with h | ⟨h, -⟩
        · omega
        · cases h
      | true =>
        rw [hset, if_pos rfl] at hrow
        by_cases hlater : Later s.time.calendar (field f.body 14 2) (field f.body 16 2)
        · rw [if_neg (fun h => reached_iff.mp h hlater)] at hrow
          obtain ⟨t, e, hreplied, ht⟩ := hanswered hrow rfl rfl rfl
          have ht' : t = { s with link := t.link, tariff := { s.tariff with
            scheduled := some ⟨k, versionsOf f.body, field f.body 14 2, field f.body 16 2⟩ } } := ht
          refine ⟨t, e, ?_, ?_, ?_, nofun, fun _ => ⟨nofun, fun _ _ _ => ⟨hreplied, ht'⟩, fun h => ?_⟩⟩
          · rw [ht']
          · rw [ht']
          · rw [ht']
          · rcases h with h | ⟨-, h⟩
            · omega
            · exact absurd hlater h
        · rw [if_pos (reached_iff.mpr hlater)] at hrow
          obtain ⟨t, e, hbays, hcard, htime, hrest⟩ := switchNow_answered hnext hk hlen hbank htiming hrow
          exact ⟨t, e, hbays, hcard, htime, nofun, fun _ => ⟨nofun, fun _ _ h => absurd h hlater, fun _ => hrest⟩⟩

/-! ### The scheduled switch (R66) -/

/-- The state of a due switch whose checks are made again. -/
def unscheduled (s : State) : State := s.modTariff fun t => { t with scheduled := none }

theorem switchDue_leads {w : Scheduled} (h : s.tariff.scheduled = some w) :
    (Later s.time.calendar w.day w.minute → switchDue s = s)
    ∧ (¬ Later s.time.calendar w.day w.minute →
        (∀ code, s.tariff.switchFailure w.bank w.versions = some code →
          switchDue s = (unscheduled s).modTariff fun t => { t with lastSwitch := .dropped code })
        ∧ (s.tariff.switchFailure w.bank w.versions = none →
          switchDue s = performSwitch w.bank ((unscheduled s).modTariff fun t => { t with lastSwitch := .done }))) := by
  unfold switchDue
  simp only [h]
  refine ⟨fun hlater => if_neg fun hr => reached_iff.mp hr hlater, fun hdue => ?_⟩
  rw [if_pos (reached_iff.mpr hdue)]
  refine ⟨fun code hcode => ?_, fun hnone => ?_⟩
  · rw [hcode]
    rfl
  · rw [hnone]
    rfl

/-- Settles O27. -/
theorem bankSwitchActivatesSchedulesOrRefuses : Obligations.BankSwitchActivatesSchedulesOrRefuses := by
  refine ⟨fun s f k hnext hk hlen hbank htiming => bankSwitch_leads hnext hk hlen hbank htiming, fun s w hw => ?_⟩
  obtain ⟨hlater, hdue⟩ := switchDue_leads hw
  by_cases hl : Later s.time.calendar w.day w.minute
  · have heq := hlater hl
    refine ⟨switchDue s, rfl, ?_⟩
    rw [heq]
    exact ⟨rfl, rfl, rfl, fun _ => rfl, fun h => absurd hl (by unfold Later; omega)⟩
  · obtain ⟨hdrops, hdoes⟩ := hdue hl
    refine ⟨switchDue s, rfl, ?_⟩
    cases hfail : s.tariff.switchFailure w.bank w.versions with
    | some code =>
      rw [hdrops code hfail]
      refine ⟨rfl, rfl, rfl, fun h => absurd h hl, fun _ => ⟨rfl, fun c hc => ?_, nofun⟩⟩
      obtain rfl := Option.some.inj hc
      exact ⟨rfl, rfl⟩
    | none =>
      obtain ⟨hbays, hcard, htime, htariff, -⟩ := performSwitch_leads w.bank
        ((unscheduled s).modTariff fun t => { t with lastSwitch := .done })
      rw [hdoes hfail]
      refine ⟨hbays, hcard, htime, fun h => absurd h hl, fun _ => ?_⟩
      rw [htariff]
      exact ⟨rfl, nofun, fun _ => ⟨rfl, rfl⟩⟩

end

end Sys2Proof.Proofs

/-! PROOFS. Table streams: TABLE_OPEN, TABLE_DATA, LOAD_CLEAR, and the close of a DENY stream (R54 to R58). -/

namespace Sys2Proof.Proofs

open Sys2Proof Sys2Proof.Machine Sys2Proof.Laws

/-! ### Tables of a bank -/

section
variable {t : Tariff} {g : Target} {k : Bank} {n m : TableName} {u : BankTables} {h : Table → Table}

theorem modBank_bank_self (t : Tariff) (k : Bank) (f : BankTables → BankTables) : (t.modBank k f).bank k = f (t.bank k) := by
  cases k <;> rfl

theorem modBank_bank_other (t : Tariff) (k : Bank) (f : BankTables → BankTables) :
    (t.modBank k f).bank k.other = t.bank k.other := by
  cases k <;> rfl

theorem modTable_table_self (hn : n ∈ bankedTables) (u : BankTables) (h : Table → Table) :
    (u.modTable n h).table n = h (u.table n) := by
  simp only [bankedTables, List.mem_cons, List.not_mem_nil, or_false] at hn
  rcases hn with rfl | rfl | rfl | rfl | rfl | rfl <;> rfl

theorem modTable_table_ne (hn : n ∈ bankedTables) (hm : m ∈ bankedTables) (hne : m ≠ n) (u : BankTables) (h : Table → Table) :
    (u.modTable n h).table m = u.table m := by
  simp only [bankedTables, List.mem_cons, List.not_mem_nil, or_false] at hn hm
  rcases hn with rfl | rfl | rfl | rfl | rfl | rfl
  all_goals
    rcases hm with rfl | rfl | rfl | rfl | rfl | rfl
    all_goals first | rfl | exact absurd rfl hne

theorem modTable_mode (n : TableName) (u : BankTables) (h : Table → Table) : (u.modTable n h).mode = u.mode := by
  cases n <;> rfl

theorem banked_double (hn : n ∈ bankedTables) : n ≠ .deny ∧ n ≠ .site := by
  refine ⟨?_, ?_⟩
  · rintro rfl
    revert hn
    decide
  · rintro rfl
    revert hn
    decide

theorem banked_of_double (hdeny : n ≠ .deny) (hsite : n ≠ .site) : n ∈ bankedTables := by
  cases n
  case deny => exact absurd rfl hdeny
  case site => exact absurd rfl hsite
  all_goals decide

theorem allValid_false (hn : n ∈ bankedTables) (h : (u.table n).valid = false) : u.allValid = false := by
  rw [BankTables.allValid, List.all_eq_false]
  exact ⟨n, hn, by rw [h]; decide⟩

/-! ### Targets -/

theorem modTarget_banked (hn : g.table ∈ bankedTables) (hk : g.bank = some k) (t : Tariff) (h : Table → Table) :
    t.modTarget g h = t.modBank k fun u => u.modTable g.table h := by
  obtain ⟨hdeny, hsite⟩ := banked_double hn
  unfold Tariff.modTarget
  split
  next heq => exact absurd heq hdeny
  next heq => exact absurd heq hsite
  next heq _ _ =>
    rw [hk] at heq
    obtain rfl := Option.some.inj heq
    rfl
  next heq _ _ =>
    rw [hk] at heq
    cases heq

theorem spoil_banked (hn : g.table ∈ bankedTables) (hk : g.bank = some k) (t : Tariff) :
    t.spoil g = t.modBank k fun u => u.modTable g.table fun x => { x with valid := false } := by
  obtain ⟨hdeny, hsite⟩ := banked_double hn
  rw [← modTarget_banked hn hk]
  unfold Tariff.spoil
  split
  next heq => exact absurd heq hdeny
  next heq => exact absurd heq hsite
  next => rfl

theorem modBank_deny (t : Tariff) (k : Bank) (f : BankTables → BankTables) : (t.modBank k f).deny = t.deny := by
  cases k <;> rfl

theorem modTarget_deny (t : Tariff) (g : Target) (h : Table → Table) : (t.modTarget g h).deny = t.deny := by
  unfold Tariff.modTarget
  split
  · rfl
  · rfl
  · exact modBank_deny t _ _
  · rfl

theorem spoil_deny (t : Tariff) (g : Target) : (t.spoil g).deny = t.deny := by
  unfold Tariff.spoil
  split
  · rfl
  · rfl
  · exact modTarget_deny t g _

theorem shelf_site {t t' : Tariff} (h : shelf t' = shelf t) : t'.site = t.site ∧ t'.denyEdits = t.denyEdits := by
  simp only [shelf, Prod.mk.injEq] at h
  exact ⟨h.2.2.2, h.2.2.1⟩

end

/-! ### The load machine -/

section
variable {s t : State} {f : Frame} {g : Target} {e : LoadError} {p : Option Place}

/-- A load machine in LOAD_ERROR. -/
def failedLoad (e : LoadError) (p : Option Place) (l : Load) : Load := { l with state := .error, error := e, failure := p }

theorem loadError_eq (hg : s.tariff.load.target = some g) :
    loadError e p s = { s with tariff := { s.tariff.spoil g with load := failedLoad e p s.tariff.load } } := by
  unfold loadError
  simp only [hg]
  show { s with tariff := { s.tariff.spoil g with load := failedLoad e p (s.tariff.spoil g).load } } = _
  rw [(spoil_shelf s.tariff g).2]

/-- What an error of the load machine leaves. -/
theorem loadError_leaves (hg : s.tariff.load.target = some g) :
    loadError e p s = { s with tariff := (loadError e p s).tariff } ∧ (loadError e p s).tariff.load = failedLoad e p s.tariff.load
    ∧ (loadError e p s).tariff.active = s.tariff.active ∧ (loadError e p s).tariff.site = s.tariff.site
    ∧ (loadError e p s).tariff.deny = s.tariff.deny ∧ (loadError e p s).tariff.denyEdits = s.tariff.denyEdits
    ∧ ∀ k, g.bank = some k → g.table ∈ bankedTables → (((loadError e p s).tariff.bank k).table g.table).valid = false := by
  obtain ⟨hsite, hedits⟩ := shelf_site (spoil_shelf s.tariff g).1
  rw [loadError_eq hg]
  refine ⟨rfl, rfl, spoil_active s.tariff g, hsite, spoil_deny s.tariff g, hedits, fun k hk hn => ?_⟩
  show (((s.tariff.spoil g).bank k).table g.table).valid = false
  rw [spoil_banked hn hk, modBank_bank_self, modTable_table_self hn]

/-- A frame answered whose owner changes the Tariff Unit alone. -/
theorem tariff_answered {out : Out} {x : Tariff} {code : Code} {data : List Byte}
    (he : out = .next (answer f ⟨{ dropHead s with tariff := x }, code, data, .nothing⟩)
      ∨ out = done s (answer f ⟨{ dropHead s with tariff := x }, code, data, .nothing⟩)) :
    ∃ t, out = .next t ∧ t = { s with link := t.link, tariff := t.tariff } ∧ Replied s t f code data ∧ t.tariff = x := by
  have hsame : s.reseal (answer f ⟨{ dropHead s with tariff := x }, code, data, .nothing⟩) =
      answer f ⟨{ dropHead s with tariff := x }, code, data, .nothing⟩ := reseal_of_retained rfl rfl
  refine ⟨answer f ⟨{ dropHead s with tariff := x }, code, data, .nothing⟩, ?_, rfl, ⟨?_, ?_⟩, rfl⟩
  · rcases he with h | h
    · exact h
    · rw [h, done, hsame]
  · rw [answer_rxBuffer]
    rfl
  · rw [answer_replies]
    rfl

/-- A stream's error answers its frame. -/
theorem loadError_answered {out : Out} {code : Code} {data : List Byte} (hg : s.tariff.load.target = some g)
    (he : out = .next (answer f ⟨loadError e p (dropHead s), code, data, .nothing⟩)
      ∨ out = done s (answer f ⟨loadError e p (dropHead s), code, data, .nothing⟩)) :
    ∃ t, out = .next t ∧ t = { s with link := t.link, tariff := t.tariff } ∧ Replied s t f code data
      ∧ t.tariff = (loadError e p s).tariff := by
  have htariff : (loadError e p (dropHead s)).tariff = (loadError e p s).tariff := by
    rw [loadError_eq (s := dropHead s) hg, loadError_eq hg]
    rfl
  obtain ⟨hrest, -⟩ := loadError_leaves (e := e) (p := p) (s := dropHead s) hg
  rw [hrest, htariff] at he
  exact tariff_answered he

/-! ### TABLE_OPEN (R54) -/

theorem targetOf_banked {x y : Nat} {k : Bank} (h : targetOf x y = some g) (hk : g.bank = some k) : g.table ∈ bankedTables := by
  unfold targetOf at h
  split at h
  next n _ =>
    split at h
    next =>
      obtain rfl := Option.some.inj h
      cases hk
    next hsingle =>
      obtain ⟨k', -, rfl⟩ := Option.map_eq_some_iff.mp h
      refine banked_of_double ?_ ?_
      · rintro rfl
        exact hsingle rfl
      · rintro rfl
        exact hsingle rfl
  next => cases h

/-- A banked target is invalid once its stream has begun. -/
theorem openStream_spoils {k : Bank} (hn : g.table ∈ bankedTables) (hk : g.bank = some k) (t : Tariff) (version count : Nat)
    (mode : Option PercentMode) : ((t.openStream g version count mode).bank k).allValid = false := by
  obtain ⟨hdeny, hsite⟩ := banked_double hn
  refine allValid_false hn ?_
  unfold Tariff.openStream
  dsimp only
  split
  next heq => exact absurd heq hdeny
  next heq => exact absurd heq hsite
  next k' hrule hbank =>
    rw [hk] at hbank
    obtain rfl := Option.some.inj hbank
    show (((t.modBank k _).bank k).table g.table).valid = false
    rw [modBank_bank_self, hrule]
    rfl
  next =>
    show (((t.modTarget g _).bank k).table g.table).valid = false
    rw [modTarget_banked hn hk, modBank_bank_self, modTable_table_self hn]

theorem openStream_load (t : Tariff) (g : Target) (version count : Nat) (mode : Option PercentMode) :
    let l := (t.openStream g version count mode).load
    l.state = .stream ∧ l.target = some g ∧ l.version = some version ∧ l.count = some count ∧ l.next = 0 := by
  exact ⟨rfl, rfl, rfl, rfl, rfl⟩

theorem tableOpen_taken (hnext : s.TakesNext f) (hk : f.kind = 0x10#8) (hlen : f.body.length = 7)
    (hg : targetOf (field f.body 0 1) (field f.body 1 1) = some g) (hgood : s.tariff.openFailure g (field f.body 4 2) = none) :
    exec .tableOpen s = .next (answer f (accept ((dropHead s).modTariff fun t =>
      t.abandon.openStream g (field f.body 2 2) (field f.body 4 2) (modeOf (field f.body 6 1))))) := by
  show Host.Outcome.next (answerFrame _ _ s) = _
  rw [answerFrame_eq (isKind := Frame.is kTableOpen) _ hnext (frame_is hk), ofLength_good hlen, hg]
  dsimp only
  rw [show (dropHead s).tariff.openFailure g (field f.body 4 2) = none from hgood]
  rfl

theorem tableOpen_begins (hnext : s.TakesNext f) (hk : f.kind = 0x10#8) (hlen : f.body.length = 7)
    (hg : targetOf (field f.body 0 1) (field f.body 1 1) = some g) (hgood : s.tariff.openFailure g (field f.body 4 2) = none) :
    ∃ t, exec .tableOpen s = .next t ∧ t = { s with link := t.link, tariff := t.tariff } ∧ Replied s t f .accepted []
      ∧ t.tariff.load.state = .stream ∧ t.tariff.load.target = some g ∧ t.tariff.load.version = some (field f.body 2 2)
      ∧ t.tariff.load.count = some (field f.body 4 2) ∧ t.tariff.load.next = 0 ∧ t.tariff.active = s.tariff.active
      ∧ (∀ k, g.bank = some k → (t.tariff.bank k).allValid = false) := by
  obtain ⟨t, e, hrest, hreplied, ht⟩ := tariff_answered (.inl (tableOpen_taken hnext hk hlen hg hgood))
  obtain ⟨hstate, htarget, hversion, hcount, hnextIndex⟩ := openStream_load s.tariff.abandon g (field f.body 2 2) (field f.body 4 2)
    (modeOf (field f.body 6 1))
  refine ⟨t, e, hrest, hreplied, ?_⟩
  rw [ht]
  exact ⟨hstate, htarget, hversion, hcount, hnextIndex, (openStream_active _ _ _ _ _).trans (abandon_active _),
    fun k hbank => openStream_spoils (targetOf_banked hg hbank) hbank _ _ _ _⟩

/-! ### TABLE_DATA (R56) -/

/-- A stream that has taken entries. -/
theorem store_leads (t : Tariff) (g : Target) (es : List (List Byte)) :
    (t.store g es).load.state = t.load.state ∧ (t.store g es).load.next = t.load.next + es.length
    ∧ (g = ⟨.deny, none⟩ → (t.store g es).denyShadow.entries = t.denyShadow.entries ++ es ∧ (t.store g es).deny = t.deny) := by
  have hload := (modTarget_shelf t g fun u => { u with entries := u.entries ++ es }).2.1
  unfold Tariff.store
  dsimp only
  rw [hload]
  refine ⟨rfl, rfl, ?_⟩
  rintro rfl
  exact ⟨rfl, rfl⟩

theorem tableData_taken (hnext : s.TakesNext f) (hk : f.kind = 0x11#8) (hlong : 3 ≤ f.body.length)
    (hstate : s.tariff.load.state = .stream) (hg : s.tariff.load.target = some g) :
    exec .tableData s = .next (answer f (streamData g (field f.body 0 2) (f.body.drop 2) (dropHead s))) := by
  show Host.Outcome.next (answerFrame _ _ s) = _
  rw [answerFrame_eq (isKind := Frame.is kTableData) _ hnext (frame_is hk), if_neg (by omega),
    show (dropHead s).tariff.load.state = .stream from hstate, show (dropHead s).tariff.load.target = some g from hg]

theorem streamData_split {es : List (List Byte)} {bytes : List Byte} (start : Nat)
    (hsplit : splitEntries g.table bytes.length bytes = some es) (hsome : es ≠ []) (hfew : es.length ≤ 16) :
    streamData g start bytes s =
      if start ≠ s.tariff.load.next then refusal .seqError (loadError .seq none s)
      else if s.tariff.load.count.getD 0 < start + es.length then refusal .countError (loadError .count none s)
      else accept (s.modTariff fun t => t.store g es) := by
  have hgood : ¬ (es = [] ∨ 16 < es.length) := fun h => h.elim hsome fun h => by omega
  unfold streamData
  rw [hsplit]
  exact if_neg hgood

theorem tableData_fills {es : List (List Byte)} (hnext : s.TakesNext f) (hk : f.kind = 0x11#8) (hlong : 3 ≤ f.body.length)
    (hstate : s.tariff.load.state = .stream) (hg : s.tariff.load.target = some g)
    (hsplit : splitEntries g.table (f.body.length - 2) (f.body.drop 2) = some es) (hsome : es ≠ []) (hfew : es.length ≤ 16) :
    let start := field f.body 0 2
    ∃ t, exec .tableData s = .next t ∧ t = { s with link := t.link, tariff := t.tariff }
      ∧ (start ≠ s.tariff.load.next → Replied s t f .seqError [] ∧ t.tariff.load.state = .error ∧ t.tariff.load.error = .seq)
      ∧ (start = s.tariff.load.next → s.tariff.load.count.getD 0 < start + es.length →
          Replied s t f .countError [] ∧ t.tariff.load.state = .error ∧ t.tariff.load.error = .count)
      ∧ (start = s.tariff.load.next → start + es.length ≤ s.tariff.load.count.getD 0 →
          Replied s t f .accepted [] ∧ t.tariff.load.state = .stream
          ∧ t.tariff.load.next = s.tariff.load.next + es.length
          ∧ (g = ⟨.deny, none⟩ → t.tariff.denyShadow.entries = s.tariff.denyShadow.entries ++ es
              ∧ t.tariff.deny = s.tariff.deny)) := by
  dsimp only
  have htaken := tableData_taken hnext hk hlong hstate hg
  have hdata := streamData_split (s := dropHead s) (field f.body 0 2) (by rw [List.length_drop]; exact hsplit) hsome hfew
  rw [show (dropHead s).tariff = s.tariff from rfl] at hdata
  rw [hdata] at htaken
  clear hdata
  have hfailed := fun (e : LoadError) => (loadError_leaves (e := e) (p := none) hg).2.1
  by_cases hseq : field f.body 0 2 = s.tariff.load.next
  · rw [if_neg (not_not.mpr hseq)] at htaken
    by_cases hover : s.tariff.load.count.getD 0 < field f.body 0 2 + es.length
    · rw [if_pos hover] at htaken
      obtain ⟨t, ht, hrest, hreplied, htariff⟩ := loadError_answered hg (.inl htaken)
      refine ⟨t, ht, hrest, fun hne => absurd hseq hne, fun _ _ => ?_, fun _ hle => by omega⟩
      rw [htariff, hfailed]
      exact ⟨hreplied, rfl, rfl⟩
    · rw [if_neg hover] at htaken
      obtain ⟨t, ht, hrest, hreplied, htariff⟩ := tariff_answered (x := s.tariff.store g es) (.inl htaken)
      obtain ⟨hload, hindex, hdeny⟩ := store_leads s.tariff g es
      refine ⟨t, ht, hrest, fun hne => absurd hseq hne, fun _ hlt => absurd hlt hover, fun _ _ => ?_⟩
      rw [htariff]
      exact ⟨hreplied, hload.trans hstate, hindex, hdeny⟩
  · rw [if_pos hseq] at htaken
    obtain ⟨t, ht, hrest, hreplied, htariff⟩ := loadError_answered hg (.inl htaken)
    refine ⟨t, ht, hrest, fun _ => ?_, fun heq => absurd heq hseq, fun heq => absurd heq hseq⟩
    rw [htariff, hfailed]
    exact ⟨hreplied, rfl, rfl⟩

/-- Settles O23. -/
theorem tableOpenAndDataFillStream : Obligations.TableOpenAndDataFillStream :=
  ⟨fun _ _ _ hnext hk hlen hg hgood => tableOpen_begins hnext hk hlen hg hgood,
    fun _ _ _ _ hnext hk hlong hstate hg hsplit hsome hfew => tableData_fills hnext hk hlong hstate hg hsplit hsome hfew⟩

/-! ### TABLE_CLOSE (R57) -/

theorem tableClose_taken (hnext : s.TakesNext f) (hk : f.kind = 0x12#8) (hlen : f.body.length = 4)
    (hstate : s.tariff.load.state = .stream) (hg : s.tariff.load.target = some g) :
    exec .tableClose s = done s (answer f (closeStream g (BitVec.ofNat 32 (beNat f.body)) (dropHead s))) := by
  show done s (answerFrame _ _ s) = _
  rw [answerFrame_eq (isKind := Frame.is kTableClose) _ hnext (frame_is hk), ofLength_good hlen,
    show (dropHead s).tariff.load.state = .stream from hstate, show (dropHead s).tariff.load.target = some g from hg]

section
variable {crc : BitVec 32} (hfull : s.tariff.load.next = s.tariff.load.count.getD 0)
include hfull

theorem closeStream_badCrc (hcrc : s.tariff.load.crc.map crc32End ≠ some crc) :
    closeStream g crc s = refusal .crcError (loadError .crc none s) := by
  unfold closeStream
  dsimp only
  rw [if_neg (not_not.mpr hfull), if_pos hcrc]

theorem closeStream_invalid (hcrc : s.tariff.load.crc.map crc32End = some crc) {q : Place} (hbad : s.validate g = some q) :
    closeStream g crc s = ⟨loadError .validation (some q) s, .validationError, placeBytes q, .nothing⟩ := by
  unfold closeStream
  dsimp only
  rw [if_neg (not_not.mpr hfull), if_neg (not_not.mpr hcrc), hbad]

theorem closeStream_good (hcrc : s.tariff.load.crc.map crc32End = some crc) (hgood : s.validate g = none) :
    closeStream g crc s = ⟨completeStream g crc s, .accepted, [],
      if siteRate (completeStream g crc s).site = siteRate s.site then .nothing
      else .changeRate (siteRate (completeStream g crc s).site)⟩ := by
  unfold closeStream
  dsimp only
  rw [if_neg (not_not.mpr hfull), if_neg (not_not.mpr hcrc), hgood]

/-- A stream that completes with the site table as it was. -/
theorem closeStream_unsited (hcrc : s.tariff.load.crc.map crc32End = some crc) (hgood : s.validate g = none) {x : Tariff}
    (hx : x.site = s.tariff.site) (hcomplete : completeStream g crc s = { s with tariff := x }) :
    closeStream g crc s = ⟨{ s with tariff := x }, .accepted, [], .nothing⟩ := by
  rw [closeStream_good hfull hcrc hgood, hcomplete, if_pos]
  show siteRate x.site.entries = _
  rw [hx]
  rfl

end

/-- The live deny table replaced whole. -/
def denyClosed (check : BitVec 32) (t : Tariff) : Tariff :=
  { t with load := t.load.toIdle, deny := t.load.finish t.denyShadow.entries check, denyShadow := .empty, denyEdits := 0 }

theorem completeStream_deny (hdeny : g.table = .deny) (crc : BitVec 32) (s : State) :
    completeStream g crc s = { s with tariff := denyClosed crc s.tariff } := by
  unfold completeStream
  rw [hdeny]
  rfl

theorem tableClose_deny (hnext : s.TakesNext f) (hk : f.kind = 0x12#8) (hlen : f.body.length = 4)
    (hstate : s.tariff.load.state = .stream) (hg : s.tariff.load.target = some ⟨.deny, none⟩)
    (hfull : s.tariff.load.next = s.tariff.load.count.getD 0) :
    ∃ t, exec .tableClose s = .next t ∧ t = { s with link := t.link, tariff := t.tariff }
      ∧ (s.tariff.load.crc.map crc32End = some (BitVec.ofNat 32 (beNat f.body)) → s.validate ⟨.deny, none⟩ = none →
          Replied s t f .accepted [] ∧ t.tariff.load.state = .idle ∧ t.tariff.deny.valid = true
          ∧ t.tariff.deny.entries = s.tariff.denyShadow.entries
          ∧ t.tariff.deny.version = s.tariff.load.version.getD 0 ∧ t.tariff.denyEdits = 0)
      ∧ (s.tariff.load.crc.map crc32End ≠ some (BitVec.ofNat 32 (beNat f.body)) →
          Replied s t f .crcError [] ∧ t.tariff.load.state = .error ∧ t.tariff.load.error = .crc
          ∧ t.tariff.deny = s.tariff.deny ∧ t.tariff.denyEdits = s.tariff.denyEdits) := by
  have htaken := tableClose_taken hnext hk hlen hstate hg
  by_cases hcrc : s.tariff.load.crc.map crc32End = some (BitVec.ofNat 32 (beNat f.body))
  · cases hvalid : s.validate ⟨.deny, none⟩ with
    | none =>
      rw [closeStream_unsited (s := dropHead s) (g := ⟨.deny, none⟩)
        (x := denyClosed (BitVec.ofNat 32 (beNat f.body)) s.tariff) hfull hcrc hvalid rfl (completeStream_deny rfl _ _)] at htaken
      obtain ⟨t, ht, hrest, hreplied, htariff⟩ := tariff_answered (x := denyClosed (BitVec.ofNat 32 (beNat f.body)) s.tariff) (.inr htaken)
      refine ⟨t, ht, hrest, fun _ _ => ?_, fun hne => absurd hcrc hne⟩
      rw [htariff]
      exact ⟨hreplied, rfl, rfl, rfl, rfl, rfl⟩
    | some q =>
      rw [closeStream_invalid (s := dropHead s) (g := ⟨.deny, none⟩) hfull hcrc hvalid] at htaken
      obtain ⟨t, ht, hrest, -⟩ := loadError_answered hg (.inr htaken)
      exact ⟨t, ht, hrest, fun _ hno => (nomatch hno), fun hne => absurd hcrc hne⟩
  · rw [closeStream_badCrc (s := dropHead s) hfull hcrc] at htaken
    obtain ⟨t, ht, hrest, hreplied, htariff⟩ := loadError_answered hg (.inr htaken)
    obtain ⟨-, hload, -, -, hdeny, hedits, -⟩ := loadError_leaves (e := .crc) (p := none) hg
    refine ⟨t, ht, hrest, fun hyes => absurd hyes hcrc, fun _ => ?_⟩
    rw [htariff, hload]
    exact ⟨hreplied, rfl, rfl, hdeny, hedits⟩

/-! ### LOAD_CLEAR (R55) -/

/-- The Tariff Unit behind a LOAD_CLEAR. -/
def clearedTariff (t : Tariff) : Tariff :=
  if t.load.state = .stream then t.abandon else if t.load.state = .error then { t with load := t.load.toIdle } else t

theorem loadClear_answered (hnext : s.TakesNext f) (hk : f.kind = 0x13#8) (hbody : f.body = []) :
    ∃ t, exec .loadClear s = .next t ∧ t = { s with link := t.link, tariff := t.tariff } ∧ Replied s t f .accepted []
      ∧ t.tariff = clearedTariff s.tariff := by
  refine tariff_answered (.inl ?_)
  show Host.Outcome.next (answerFrame _ _ s) = _
  rw [answerFrame_eq (isKind := Frame.is kLoadClear) _ hnext (frame_is hk), ofLength_good (by rw [hbody]; rfl)]
  unfold clearedTariff
  rw [show (dropHead s).tariff = s.tariff from rfl]
  cases s.tariff.load.state <;> rfl

theorem abandon_stream {t : Tariff} (hstate : t.load.state = .stream) (hg : t.load.target = some g) :
    t.abandon = { t.spoil g with load := { t.load.toIdle with abandons := satInc t.load.abandons } } := by
  unfold Tariff.abandon
  rw [hstate, hg]

/-- Settles O24. -/
theorem tableCloseReplacesDeny : Obligations.TableCloseReplacesDeny := by
  refine ⟨fun s f hnext hk hlen hstate hg hfull => tableClose_deny hnext hk hlen hstate hg hfull, fun s f hnext hk hbody => ?_⟩
  obtain ⟨t, e, hrest, hreplied, htariff⟩ := loadClear_answered hnext hk hbody
  refine ⟨t, e, hrest, hreplied, ?_⟩
  rw [htariff]
  unfold clearedTariff
  cases hstate : s.tariff.load.state with
  | idle =>
    rw [if_neg (by decide), if_neg (by decide)]
    exact ⟨nofun, nofun, rfl, rfl, rfl⟩
  | error =>
    rw [if_neg (by decide), if_pos rfl]
    exact ⟨fun _ => ⟨rfl, rfl, rfl, rfl⟩, nofun, rfl, rfl, rfl⟩
  | stream =>
    rw [if_pos rfl]
    cases hg : s.tariff.load.target with
    | none =>
      have heq : s.tariff.abandon = s.tariff := by
        unfold Tariff.abandon
        rw [hstate, hg]
      rw [heq]
      exact ⟨nofun, fun _ h => (nomatch h), rfl, rfl, rfl⟩
    | some g =>
      rw [abandon_stream hstate hg]
      exact ⟨nofun, fun _ _ => ⟨rfl, rfl⟩, spoil_active _ _, spoil_deny _ _, (shelf_site (spoil_shelf s.tariff g).1).1⟩

end

end Sys2Proof.Proofs

/-! PROOFS. The close of a banked stream, and what a site replacement does to one bay (R51, R57, R58, R202). -/

namespace Sys2Proof.Proofs

open Sys2Proof Sys2Proof.Machine Sys2Proof.Laws

/-! ### Banked tables (R58) -/

section
variable {s t : State} {g : Target} {k : Bank} {crc : BitVec 32}

/-- A bank in which the stream's table has become valid. -/
def closedBank (n : TableName) (l : Load) (check : BitVec 32) (u : BankTables) : BankTables :=
  let v := u.modTable n fun x => l.finish x.entries check
  if n = .rule then { v with mode := l.mode.getD .halfUp } else v

/-- The Tariff Unit behind a banked stream that has closed. -/
def bankClosed (g : Target) (k : Bank) (check : BitVec 32) (t : Tariff) : Tariff :=
  ({ t with load := t.load.toIdle } : Tariff).modBank k (closedBank g.table t.load check)

theorem completeStream_banked (hn : g.table ∈ bankedTables) (hk : g.bank = some k) (crc : BitVec 32) (s : State) :
    completeStream g crc s = { s with tariff := bankClosed g k crc s.tariff } := by
  obtain ⟨hdeny, hsite⟩ := banked_double hn
  unfold completeStream bankClosed
  dsimp only
  split
  next heq => exact absurd heq hdeny
  next heq => exact absurd heq hsite
  next k' hrule hbank =>
    rw [hk] at hbank
    obtain rfl := Option.some.inj hbank
    rw [hrule]
    rfl
  next hrule =>
    have hne : g.table ≠ .rule := fun h => hrule k h hk
    have hclosed : closedBank g.table s.tariff.load crc = fun u => u.modTable g.table fun x => s.tariff.load.finish x.entries crc :=
      funext fun u => if_neg hne
    rw [hclosed, ← modTarget_banked hn hk]
    rfl

theorem closedBank_table {n : TableName} (hn : n ∈ bankedTables) (l : Load) (u : BankTables) :
    (closedBank n l crc u).table n = l.finish (u.table n).entries crc
    ∧ (closedBank n l crc u).mode = (if n = .rule then l.mode.getD .halfUp else u.mode)
    ∧ ∀ m ∈ bankedTables, m ≠ n → (closedBank n l crc u).table m = u.table m := by
  have hself := modTable_table_self hn u fun x => l.finish x.entries crc
  have hother := fun m hm hne => modTable_table_ne (m := m) hn hm hne u fun x => l.finish x.entries crc
  have hmode := modTable_mode n u fun x => l.finish x.entries crc
  unfold closedBank
  dsimp only
  generalize u.modTable n (fun x => l.finish x.entries crc) = v at hself hother hmode
  split
  next hrule =>
    refine ⟨?_, rfl, fun m hm hne => ?_⟩
    · rw [← hself, hrule]
      rfl
    · rw [← hother m hm hne]
      cases m <;> rfl
  next => exact ⟨hself, hmode, hother⟩

theorem bankClosed_leads (hn : g.table ∈ bankedTables) (crc : BitVec 32) (t : Tariff) :
    ((bankClosed g k crc t).bank k).table g.table = ⟨t.load.version.getD 0, true, t.load.count.getD 0, ((t.bank k).table g.table).entries, crc⟩
    ∧ ((bankClosed g k crc t).bank k).mode = (if g.table = .rule then t.load.mode.getD .halfUp else (t.bank k).mode)
    ∧ (∀ n ∈ bankedTables, n ≠ g.table → ((bankClosed g k crc t).bank k).table n = (t.bank k).table n)
    ∧ (bankClosed g k crc t).bank k.other = t.bank k.other ∧ (bankClosed g k crc t).site = t.site
    ∧ (bankClosed g k crc t).deny = t.deny ∧ (bankClosed g k crc t).active = t.active
    ∧ (bankClosed g k crc t).load = t.load.toIdle := by
  have hbank : ({ t with load := t.load.toIdle } : Tariff).bank k = t.bank k := by cases k <;> rfl
  have hother : ({ t with load := t.load.toIdle } : Tariff).bank k.other = t.bank k.other := by cases k <;> rfl
  obtain ⟨htable, hmode, htables⟩ := closedBank_table (crc := crc) hn t.load (t.bank k)
  unfold bankClosed
  obtain ⟨hshelf, hload, -⟩ := modBank_shelf ({ t with load := t.load.toIdle } : Tariff) k (closedBank g.table t.load crc)
  rw [modBank_bank_self, modBank_bank_other, modBank_active, modBank_deny, hload, (shelf_site hshelf).1, hbank, hother]
  exact ⟨htable, hmode, htables, rfl, rfl, rfl, rfl, rfl⟩

theorem validate_unbanked (hn : g.table ∈ bankedTables) (hk : g.bank = none) (s : State) : s.validate g ≠ none := by
  obtain ⟨hdeny, hsite⟩ := banked_double hn
  unfold State.validate
  split
  next heq => exact absurd heq hdeny
  next heq => exact absurd heq hsite
  next heq _ _ =>
    rw [hk] at heq
    cases heq
  next => nofun

end

/-! ### One bay's part of a site replacement (R51, R202) -/

section
variable {b : BayNo} {s t u : State} {old new : List (List Byte)} {y : Bay}

/-- A record that a change of the ABSENT mark reaches. -/
def absentedBay (was is : Bool) (now : Ms) (y : Bay) : Bay :=
  let gone (y : Bay) : Bay := { y with term := { y.term with state := .absent, misses := 0, recoveryStart := none } }
  if was = is then y
  else if is then
    if y.ctx.state = .idle then gone (enteredBay .outOfService now y)
    else if y.ctx.state = .outOfService then gone y
    else y
  else
    let y := joinedBay .server now y
    { y with term := { y.term with state := .missing, misses := 0, recoveryStart := none } }

/-- From s to t the bays and the port alone have changed. -/
def BaysAndPort (s t : State) : Prop := t = { s with bays := t.bays, link := t.link }

theorem BaysAndPort.refl (s : State) : BaysAndPort s s := rfl

theorem BaysAndPort.trans (h : BaysAndPort s t) (h' : BaysAndPort t u) : BaysAndPort s u := by
  unfold BaysAndPort at *
  rw [h', h]

theorem Becomes.baysAndPort (h : Becomes b s t y) : BaysAndPort s t := by
  unfold BaysAndPort
  rw [h.rest]

theorem makeAbsent_baysAndPort (b : BayNo) (s : State) : BaysAndPort s (makeAbsent b s) := rfl

theorem absentChange_turns (was is : Bool) (b : BayNo) (s : State) :
    Turns b s (absentChange was is b s) (absentedBay was is s.now (s.bay b)) ∧ BaysAndPort s (absentChange was is b s) := by
  unfold absentChange absentedBay
  cases was <;> cases is
  · exact ⟨.refl b s, .refl s⟩
  · dsimp only
    rw [if_neg (by decide), if_pos rfl]
    cases hstate : (s.ctx b).state with
    | idle =>
      rw [if_pos (show (s.bay b).ctx.state = .idle from hstate)]
      have hentered := enter_becomes .outOfService b s
      exact ⟨hentered.turns.step (g := fun y => { y with term := { y.term with state := .absent, misses := 0, recoveryStart := none } })
        (makeAbsent_turns b _) fun _ => rfl, hentered.baysAndPort.trans (makeAbsent_baysAndPort b _)⟩
    | outOfService =>
      rw [if_neg (by rw [show (s.bay b).ctx.state = _ from hstate]; decide),
        if_pos (show (s.bay b).ctx.state = .outOfService from hstate)]
      exact ⟨makeAbsent_turns b s, makeAbsent_baysAndPort b s⟩
    | _ =>
      rw [if_neg (by rw [show (s.bay b).ctx.state = _ from hstate]; decide),
        if_neg (by rw [show (s.bay b).ctx.state = _ from hstate]; decide)]
      exact ⟨.refl b s, .refl s⟩
  · dsimp only
    rw [if_neg (by decide), if_neg (by decide)]
    have hjoined := joinCause_becomes (k := .server) ⟨nofun, nofun⟩ b s
    have hset := hjoined.turns.mod (fun y => { y with term :=
      { y.term with state := .missing, misses := 0, recoveryStart := none, displayPending := true, displayOnLine := false } }) fun _ => rfl
    refine ⟨(hset.shown (notify_turns b _ _)).of_core rfl, hjoined.baysAndPort.trans ?_⟩
    generalize joinCause .server b s = v
    exact rfl
  · exact ⟨.refl b s, .refl s⟩

/-- A record that a change of the passes-only mark reaches. -/
def passesBay (was is : Bool) (now : Ms) (y : Bay) : Bay :=
  if was = is then y
  else if is then if y.printer.paper = .out then joinedBay .paper now y else y
  else causedBay .paper false y

theorem passesBay_plain (was is : Bool) (now : Ms) : Plain (passesBay was is now) := by
  intro y
  have hpaper : (core y).printer.paper = y.printer.paper := rfl
  unfold passesBay
  rw [hpaper]
  split
  · rfl
  · split
    · split
      · exact joinedBay_plain .paper now y
      · rfl
    · rfl

theorem passesOnlyChange_becomes (was is : Bool) (b : BayNo) (s : State) :
    Becomes b s (passesOnlyChange was is b s) (passesBay was is s.now (s.bay b)) := by
  unfold passesOnlyChange passesBay
  cases was <;> cases is
  · exact .refl b s
  · show Becomes b s (if (s.bay b).printer.paper = .out then joinCause .paper b s else s)
      (if (s.bay b).printer.paper = .out then joinedBay .paper s.now (s.bay b) else s.bay b)
    split
    · exact joinCause_becomes (k := .paper) ⟨nofun, nofun⟩ b s
    · exact .refl b s
  · exact leaveCause_becomes .paper b s
  · exact .refl b s

/-- What a replacement makes of one bay's record. -/
def sitedBay (old new : List (List Byte)) (b : BayNo) (now : Ms) (y : Bay) : Bay :=
  passesBay (sitePassesOnly old b) (sitePassesOnly new b) now
    (absentedBay (siteAbsent old b) (siteAbsent new b) now (y.takeSite new b))

theorem siteChange_turns (old new : List (List Byte)) (b : BayNo) (s : State) :
    Turns b s (siteChange old new b s) (sitedBay old new b s.now (s.bay b)) ∧ BaysAndPort s (siteChange old new b s)
    ∧ ((siteChange old new b s).bay b).mask = (siteChange old new b s).maskOf b := by
  have hset := Becomes.modBay b s fun y => y.takeSite new b
  have hbay : (s.modBay b fun y => y.takeSite new b).bay b = (s.bay b).takeSite new b := State.bay_modBay_self s b _
  unfold siteChange sitedBay
  dsimp only
  generalize (s.modBay b fun y => y.takeSite new b) = u at hset hbay
  obtain ⟨habsent, hport⟩ := absentChange_turns (siteAbsent old b) (siteAbsent new b) b u
  have hnow : u.now = s.now := hset.turns.now
  rw [hbay, hnow] at habsent
  generalize absentChange (siteAbsent old b) (siteAbsent new b) b u = v at habsent hport
  have hpasses := passesOnlyChange_becomes (sitePassesOnly old b) (sitePassesOnly new b) b v
  have hall := (habsent.behind hset.turns).thereby (g := fun now _ => passesBay (sitePassesOnly old b) (sitePassesOnly new b) now)
    hpasses.turns (passesBay_plain _ _ _)
  have hports := (hset.baysAndPort.trans hport).trans hpasses.baysAndPort
  generalize passesOnlyChange (sitePassesOnly old b) (sitePassesOnly new b) b v = w at hall hports
  have hmasked := recomputeMask_becomes b w
  exact ⟨hall.shown hmasked.turns, hports.trans hmasked.baysAndPort, recomputeMask_mask b w⟩

/-- With both marks as they were, only the tubes and the mask of a bay change. -/
theorem siteChange_same (habsent : siteAbsent old b = siteAbsent new b) (hpasses : sitePassesOnly old b = sitePassesOnly new b) (s : State) :
    ((siteChange old new b s).bay b).ctx = (s.bay b).ctx ∧ ((siteChange old new b s).bay b).term = (s.bay b).term := by
  have hsame : siteChange old new b s = recomputeMask b (s.modBay b fun y => y.takeSite new b) := by
    unfold siteChange
    dsimp only
    rw [habsent, hpasses]
    unfold absentChange passesOnlyChange
    cases siteAbsent new b <;> cases sitePassesOnly new b <;> rfl
  rw [hsame, recomputeMask_bay, State.bay_modBay_self]
  exact ⟨rfl, rfl⟩

/-- What a replacement keeps of a bay, and its tubes under their new settings. -/
theorem sitedBay_tubes (old new : List (List Byte)) (b : BayNo) (now : Ms) (y : Bay) :
    (sitedBay old new b now y).tubes = (y.takeSite new b).tubes := by
  have hjoined : ∀ k y, (joinedBay k now y).tubes = y.tubes := fun k y => joinedBay_field Bay.tubes (fun _ _ => rfl) k now y
  have habsent : ∀ was is y, (absentedBay was is now y).tubes = y.tubes := fun was is y => by
    unfold absentedBay
    dsimp only
    split
    · rfl
    · split
      · split
        · rfl
        · split <;> rfl
      · exact hjoined .server y
  have hpasses : ∀ was is y, (passesBay was is now y).tubes = y.tubes := fun was is y => by
    unfold passesBay
    split
    · rfl
    · split
      · split
        · exact hjoined .paper y
        · rfl
      · rfl
  unfold sitedBay
  rw [hpasses, habsent]

end

end Sys2Proof.Proofs

/-! PROOFS. A site replacement: every bay by its marks, the tubes and the mask (R51, R58, R202). -/

namespace Sys2Proof.Proofs

open Sys2Proof Sys2Proof.Machine Sys2Proof.Laws

section
variable {b : BayNo} {s t u : State} {old new : List (List Byte)} {y : Bay}

/-! ### A display that is pending stays so -/

/-- The bay's display is to be polled. -/
abbrev Pends (b : BayNo) (s : State) : Prop := (s.bay b).term.displayPending = true

theorem pends_modBay {g : Bay → Bay} (h : ∀ y, (g y).term.displayPending = y.term.displayPending ∨ (g y).term.displayPending = true)
    (hs : Pends b s) : Pends b (s.modBay b g) := by
  unfold Pends
  rw [State.bay_modBay_self]
  rcases h (s.bay b) with hsame | hset
  · exact hsame.trans hs
  · exact hset

theorem refresh_pends (hs : Pends b s) : Pends b (refresh b s) := by
  unfold refresh State.modCtx
  dsimp only
  refine pends_modBay (fun y => ?_) (pends_modBay (fun _ => .inl rfl) hs)
  unfold Terminal.show
  split
  · exact .inl rfl
  · exact .inr rfl

theorem recomputeMask_pends (hs : Pends b s) : Pends b (recomputeMask b s) := pends_modBay (fun _ => .inl rfl) hs

theorem enter_pends {st : CtxState} (hs : Pends b s) : Pends b (enter st b s) := by
  unfold enter
  refine refresh_pends (recomputeMask_pends ?_)
  have hset := pends_modBay (b := b) (s := s)
    (g := fun y => { y with ctx := { y.ctx with state := st, lastChange := s.now, overlay := .none, wait := .none } })
    (fun _ => .inl rfl) hs
  unfold State.modCtx entryTone sound
  split
  · exact pends_modBay (fun _ => .inl rfl) hset
  · split
    · exact pends_modBay (fun _ => .inl rfl) hset
    · exact hset

theorem joinCause_pends {k : Cause} (hk : Cause.mild k) (hs : Pends b s) : Pends b (joinCause k b s) := by
  cases hhas : (s.ctx b).causes.has k with
  | true =>
    have heq : joinCause k b s = s := if_pos hhas
    rw [heq]
    exact hs
  | false =>
    rw [joinCause_eq hhas, causeReaction_of_mild hk]
    have hput := recomputeMask_pends (pends_modBay (g := causedBay k true) (fun _ => .inl rfl) hs)
    refine recomputeMask_pends ?_
    split
    · exact enter_pends hput
    · exact hput

theorem passesOnlyChange_pends (was is : Bool) (hs : Pends b s) : Pends b (passesOnlyChange was is b s) := by
  unfold passesOnlyChange
  cases was <;> cases is
  · exact hs
  · dsimp only
    split
    · exact joinCause_pends ⟨nofun, nofun⟩ hs
    · exact hs
  · exact recomputeMask_pends (pends_modBay (g := causedBay .paper false) (fun _ => .inl rfl) hs)
  · exact hs

theorem siteChange_pends (hwas : siteAbsent old b = true) (his : siteAbsent new b = false) (s : State) :
    Pends b (siteChange old new b s) := by
  unfold siteChange absentChange
  dsimp only
  rw [hwas, his]
  dsimp only
  refine recomputeMask_pends (passesOnlyChange_pends _ _ ?_)
  show Pends b (notify _ (State.modTerm _ b _))
  generalize joinCause .server b (s.modBay b fun y => y.takeSite new b) = v
  unfold Pends State.modTerm
  rw [notify_bay, State.bay_modBay_self]

/-! ### What a bay's record is, by its marks -/

theorem joinedBay_causes (k j : Cause) (now : Ms) (y : Bay) :
    (joinedBay k now y).ctx.causes.has k = true ∧ (y.ctx.causes.has j = true → (joinedBay k now y).ctx.causes.has j = true) := by
  have hput : ∀ c : Causes, (c.put k true).has k = true ∧ (c.has j = true → (c.put k true).has j = true) := fun c => by
    refine ⟨has_put c k true, fun h => ?_⟩
    cases k <;> cases j <;> first | rfl | exact h
  unfold joinedBay
  split
  next h => exact ⟨h, id⟩
  next =>
    split
    · exact hput y.ctx.causes
    · exact hput y.ctx.causes

theorem joinedBay_state (k : Cause) (now : Ms) (h : y.ctx.state ≠ .idle) : (joinedBay k now y).ctx.state = y.ctx.state := by
  unfold joinedBay
  split
  · rfl
  · rfl

/-- What the passes-only mark changes of a record: its causes, and an IDLE state. -/
theorem passesBay_keeps (was is : Bool) (now : Ms) (y : Bay) :
    (passesBay was is now y).term = y.term
    ∧ (y.ctx.state ≠ .idle → (passesBay was is now y).ctx.state = y.ctx.state)
    ∧ (y.ctx.causes.server = true → (passesBay was is now y).ctx.causes.server = true)
    ∧ (was = false → is = true → y.printer.paper = .out → (passesBay was is now y).ctx.causes.paper = true)
    ∧ (was = true → is = false → (passesBay was is now y).ctx.causes.paper = false) := by
  unfold passesBay
  cases was <;> cases is
  · exact ⟨rfl, fun _ => rfl, id, nofun, nofun⟩
  · rw [if_neg (by decide), if_pos rfl]
    by_cases hout : y.printer.paper = .out
    · rw [if_pos hout]
      obtain ⟨hpaper, hserver⟩ := joinedBay_causes .paper .server now y
      exact ⟨joinedBay_field Bay.term (fun _ _ => rfl) _ _ _, joinedBay_state .paper now, hserver, fun _ _ _ => hpaper, nofun⟩
    · rw [if_neg hout]
      exact ⟨rfl, fun _ => rfl, id, fun _ _ h => absurd h hout, nofun⟩
  · rw [if_neg (by decide), if_neg (by decide)]
    exact ⟨rfl, fun _ => rfl, id, nofun, fun _ _ => rfl⟩
  · exact ⟨rfl, fun _ => rfl, id, nofun, nofun⟩

theorem absentedBay_joins (now : Ms) (y : Bay) :
    (y.ctx.state.isOpen = false → (absentedBay false true now y).ctx.state = .outOfService
      ∧ (absentedBay false true now y).term.state = .absent ∧ (absentedBay false true now y).term.misses = 0)
    ∧ (y.ctx.state.isOpen = true → absentedBay false true now y = y) := by
  unfold absentedBay
  dsimp only
  rw [if_neg (by decide), if_pos rfl]
  cases hstate : y.ctx.state with
  | idle =>
    rw [if_pos rfl]
    exact ⟨fun _ => ⟨rfl, rfl, rfl⟩, nofun⟩
  | outOfService =>
    rw [if_neg (by decide), if_pos rfl]
    exact ⟨fun _ => ⟨hstate, rfl, rfl⟩, nofun⟩
  | _ =>
    rw [if_neg (by decide), if_neg (by decide)]
    exact ⟨nofun, fun _ => rfl⟩

theorem absentedBay_leaves (now : Ms) (y : Bay) :
    (absentedBay true false now y).ctx.causes.server = true
    ∧ (absentedBay true false now y).term.state = .missing ∧ (absentedBay true false now y).term.misses = 0 := by
  unfold absentedBay
  dsimp only
  rw [if_neg (by decide), if_neg (by decide)]
  exact ⟨(joinedBay_causes .server .server now y).1, rfl, rfl⟩

theorem absentedBay_printer (was is : Bool) (now : Ms) (y : Bay) : (absentedBay was is now y).printer = y.printer := by
  unfold absentedBay
  dsimp only
  split
  · rfl
  · split
    · split
      · rfl
      · split <;> rfl
    · exact joinedBay_field Bay.printer (fun _ _ => rfl) .server now y

/-- What a site replacement makes of bay b's record y: z. -/
structure Sited (old new : List (List Byte)) (b : BayNo) (y z : Bay) : Prop where
  tubes : ∀ n : TubeNo, let u := z.tubes[n]
    (u.kind, u.capacity, u.fullLevel, u.lowLevel) = siteTube new b n
    ∧ u.count = (y.tubes[n]).count ∧ u.state = (y.tubes[n]).state
  same : siteAbsent old b = siteAbsent new b → sitePassesOnly old b = sitePassesOnly new b → z.ctx = y.ctx ∧ z.term = y.term
  joins : siteAbsent old b = false → siteAbsent new b = true →
    (y.ctx.state.isOpen = false → z.ctx.state = .outOfService ∧ z.term.state = .absent ∧ z.term.misses = 0)
    ∧ (y.ctx.state.isOpen = true → z.ctx.state = y.ctx.state ∧ z.term.state = y.term.state)
  leaves : siteAbsent old b = true → siteAbsent new b = false → z.ctx.causes.server = true
    ∧ z.term.state = .missing ∧ z.term.misses = 0 ∧ z.term.displayPending = true
  passes : sitePassesOnly old b = false → sitePassesOnly new b = true → y.printer.paper = .out → z.ctx.causes.paper = true
  prints : sitePassesOnly old b = true → sitePassesOnly new b = false → z.ctx.causes.paper = false

theorem siteChange_sited (old new : List (List Byte)) (b : BayNo) (s : State) :
    Sited old new b (s.bay b) ((siteChange old new b s).bay b) := by
  obtain ⟨hturns, -, -⟩ := siteChange_turns old new b s
  have htubes : ((siteChange old new b s).bay b).tubes = ((s.bay b).takeSite new b).tubes :=
    (hturns.field Bay.tubes fun _ => rfl).trans (sitedBay_tubes old new b s.now (s.bay b))
  have hstate : ((siteChange old new b s).bay b).ctx.state = (sitedBay old new b s.now (s.bay b)).ctx.state :=
    hturns.field (fun y => y.ctx.state) fun _ => rfl
  have hcauses : ((siteChange old new b s).bay b).ctx.causes = (sitedBay old new b s.now (s.bay b)).ctx.causes :=
    hturns.field (fun y => y.ctx.causes) fun _ => rfl
  have hterm : ((siteChange old new b s).bay b).term.state = (sitedBay old new b s.now (s.bay b)).term.state :=
    hturns.field (fun y => y.term.state) fun _ => rfl
  have hmisses : ((siteChange old new b s).bay b).term.misses = (sitedBay old new b s.now (s.bay b)).term.misses :=
    hturns.field (fun y => y.term.misses) fun _ => rfl
  obtain ⟨hkterm, hkstate, hkserver, hkpaper, hkprints⟩ := passesBay_keeps (sitePassesOnly old b) (sitePassesOnly new b) s.now
    (absentedBay (siteAbsent old b) (siteAbsent new b) s.now ((s.bay b).takeSite new b))
  refine ⟨fun n => ?_, fun habsent hpasses => siteChange_same habsent hpasses s, fun hwas his => ?_, fun hwas his => ?_,
    fun hwas his hout => ?_, fun hwas his => ?_⟩
  · dsimp only
    rw [htubes]
    simp only [Bay.takeSite, Fin.getElem_fin, Vector.getElem_ofFn]
    exact ⟨trivial, trivial, trivial⟩
  · obtain ⟨hrest, hopen⟩ := absentedBay_joins s.now ((s.bay b).takeSite new b)
    rw [hstate, hterm, hmisses]
    unfold sitedBay
    rw [hkterm, hwas, his]
    rw [hwas, his] at hkstate
    refine ⟨fun h => ?_, fun h => ?_⟩
    · obtain ⟨hout, hgone, hzero⟩ := hrest h
      exact ⟨(hkstate (by rw [hout]; decide)).trans hout, hgone, hzero⟩
    · have hself := hopen h
      have hne : ((s.bay b).takeSite new b).ctx.state ≠ .idle := fun hidle => by
        rw [show (s.bay b).ctx.state = .idle from hidle] at h
        cases h
      rw [hself] at hkstate ⊢
      exact ⟨hkstate hne, rfl⟩
  · obtain ⟨hserver, hmissing, hzero⟩ := absentedBay_leaves s.now ((s.bay b).takeSite new b)
    have hpends := siteChange_pends hwas his s
    rw [hcauses, hterm, hmisses]
    unfold sitedBay
    rw [hwas, his] at hkterm hkserver ⊢
    rw [hkterm]
    exact ⟨hkserver hserver, hmissing, hzero, hpends⟩
  · rw [hcauses]
    exact hkpaper hwas his (by rw [absentedBay_printer]; exact hout)
  · rw [hcauses]
    exact hkprints hwas his

/-! ### The replacement -/

/-- The Tariff Unit with the live site table replaced. -/
def sitedTariff (x : Table) (t : Tariff) : Tariff := { t with site := x, siteShadow := .empty }

theorem replaceSite_sited (x : Table) (s : State) :
    BaysAndPort { s with tariff := sitedTariff x s.tariff } (replaceSite x s)
    ∧ ∀ b, Sited s.site x.entries b (s.bay b) ((replaceSite x s).bay b) ∧ ((replaceSite x s).bay b).mask = (replaceSite x s).maskOf b := by
  have hport : ∀ b v, BaysAndPort { s with tariff := sitedTariff x s.tariff } v →
      BaysAndPort { s with tariff := sitedTariff x s.tariff } (siteChange s.site x.entries b v) := fun b v hv =>
    hv.trans (siteChange_turns s.site x.entries b v).2.1
  have hall : BaysAndPort { s with tariff := sitedTariff x s.tariff } (replaceSite x s) := forBays_invariant _ _ hport (.refl _)
  refine ⟨hall, fun b => ?_⟩
  obtain ⟨v, hv, hbay, hturn⟩ := forBays_at (BaysAndPort { s with tariff := sitedTariff x s.tariff })
    (fun c v => (siteChange_turns s.site x.entries c v).1.others) hport (.refl _) b
  have hafter := hport b v hv
  change (replaceSite x s).bay b = _ at hturn
  have hmask := (siteChange_turns s.site x.entries b v).2.2
  have hsame : (replaceSite x s).maskOf b = (siteChange s.site x.entries b v).maskOf b := by
    refine maskOf_congr (congrArg core hturn) ?_ ?_
    · rw [hall, hafter]
    · rw [hall, hafter]
      rfl
  have hsited := siteChange_sited s.site x.entries b v
  rw [hbay] at hsited
  rw [hturn, hsame]
  exact ⟨hsited, hmask⟩

end

end Sys2Proof.Proofs

/-! PROOFS. The validation of a site table against the tubes, and TABLE_CLOSE whole (R57, R58, R61). -/

namespace Sys2Proof.Proofs

open Sys2Proof Sys2Proof.Machine Sys2Proof.Laws

/-! ### The tube check (R61) -/

section
variable {s : State} {es : List (List Byte)} {b : BayNo} {n : TubeNo} {i : Nat}

theorem tubeOk_bad {all : List (List Byte)} {sel : Nat} {v : List Byte} (h : 8 < field v 0 1) : tubeOk all sel v = false := by
  have hzero : ¬ field v 0 1 = 0 := by omega
  have height : ¬ field v 0 1 ≤ 8 := by omega
  unfold tubeOk
  simp [hzero, height]

theorem siteOk_bad {all before : List (List Byte)} {e : List Byte} (hcode : field e 0 1 = 3) (hkind : 8 < field e 2 1) :
    siteOk all before i e = false := by
  have hfield : field (e.drop 2) 0 1 = field e 2 1 := by
    unfold field
    rw [List.drop_drop]
  unfold siteOk
  rw [hcode]
  show (_ && tubeOk all (field e 1 1) (e.drop 2)) = false
  rw [tubeOk_bad (by rw [hfield]; exact hkind), Bool.and_false]

/-- A tube whose coins do not fit a new site table. -/
abbrev Misfits (es : List (List Byte)) (s : State) (b : BayNo) (n : TubeNo) : Prop :=
  0 < (s.tube b n).count ∧ ((siteTube es b n).1 ≠ (s.tube b n).kind ∨ (siteTube es b n).2.1 < (s.tube b n).count)

/-- Entry i names a tube. -/
abbrev Names (es : List (List Byte)) (i : Nat) (b : BayNo) (n : TubeNo) : Prop :=
  ∃ e, es[i]? = some e ∧ field e 0 1 = 3 ∧ field e 1 1 = b.val * 4 + n.val

theorem tubeClash_iff : tubeClash es s (b, n) = true ↔ Misfits es s b n := by
  unfold tubeClash
  simp only [Bool.and_eq_true, Bool.or_eq_true, decide_eq_true_eq]

/-- The place of a tube is the first entry that names it, or the entry count. -/
theorem tubePlace_first (es : List (List Byte)) (b : BayNo) (n : TubeNo) :
    (∀ j, Names es j b n → tubePlace es (b, n) ≤ j)
    ∧ (tubePlace es (b, n) = es.length ∨ Names es (tubePlace es (b, n)) b n) := by
  unfold tubePlace
  dsimp only
  have hiff := firstIndex_iff (fun e : List Byte => decide (field e 0 1 = 3 ∧ field e 1 1 = b.val * 4 + n.val)) [] es 0
  have hnamed : ∀ j, Names es j b n ↔ j < es.length ∧ decide (field (es.getD j []) 0 1 = 3 ∧ field (es.getD j []) 1 1 = b.val * 4 + n.val) = true := by
    intro j
    rw [decide_eq_true_eq, List.getD_eq_getElem?_getD]
    constructor
    · rintro ⟨e, he, hcode, hsel⟩
      obtain ⟨hlt, -⟩ := List.getElem?_eq_some_iff.mp he
      rw [he]
      exact ⟨hlt, hcode, hsel⟩
    · rintro ⟨hlt, hcode, hsel⟩
      rw [List.getElem?_eq_getElem hlt] at hcode hsel
      exact ⟨es[j], List.getElem?_eq_getElem hlt, hcode, hsel⟩
  cases hfirst : firstIndex (fun _ e => decide (field e 0 1 = 3 ∧ field e 1 1 = b.val * 4 + n.val)) 0 es with
  | none =>
    refine ⟨fun j hj => ?_, .inl rfl⟩
    obtain ⟨hlt, hp⟩ := (hnamed j).mp hj
    have hmem : es.getD j [] ∈ es := by
      rw [List.getD_eq_getElem?_getD, List.getElem?_eq_getElem hlt]
      exact List.getElem_mem hlt
    obtain ⟨-, hno⟩ := firstIndex_none hfirst _ hmem
    rw [hno] at hp
    cases hp
  | some i =>
    obtain ⟨-, hlt, hp, hbefore⟩ := (hiff i).mp hfirst
    rw [Nat.sub_zero] at hlt hp hbefore
    refine ⟨fun j hj => ?_, .inr ((hnamed i).mpr ⟨hlt, hp⟩)⟩
    rw [Option.getD_some]
    by_contra hgt
    have hno := hbefore j (by omega)
    rw [((hnamed j).mp hj).2] at hno
    cases hno

theorem tubeFailure_fits (h : ∀ b n, ¬ Misfits es s b n) : tubeFailure es s = none := by
  unfold tubeFailure
  rw [List.min?_eq_none_iff, List.map_eq_nil_iff, List.filter_eq_nil_iff]
  exact fun p _ hp => h p.1 p.2 (tubeClash_iff.mp hp)

theorem tubeFailure_some (h : ∃ b n, Misfits es s b n) : ∃ i, tubeFailure es s = some i
    ∧ (∀ j < i, ∀ b n, Names es j b n → ¬ Misfits es s b n)
    ∧ (i = es.length ∨ ∃ b n, Names es i b n ∧ Misfits es s b n) := by
  obtain ⟨b₀, n₀, hmisfit⟩ := h
  have hplaced : ∀ b n, Misfits es s b n → tubePlace es (b, n) ∈ (everyTube.filter (tubeClash es s)).map (tubePlace es) := fun b n hb =>
    List.mem_map_of_mem (List.mem_filter.mpr ⟨mem_everyTube b n, tubeClash_iff.mpr hb⟩)
  unfold tubeFailure
  cases hmin : ((everyTube.filter (tubeClash es s)).map (tubePlace es)).min? with
  | none =>
    rw [List.min?_eq_none_iff] at hmin
    have hmem := hplaced b₀ n₀ hmisfit
    rw [hmin] at hmem
    cases hmem
  | some i =>
    obtain ⟨hmem, hle⟩ := List.min?_eq_some_iff.mp hmin
    refine ⟨i, rfl, fun j hj b n hnames hb => ?_, ?_⟩
    · have hfirst := (tubePlace_first es b n).1 j hnames
      have hmost := hle _ (hplaced b n hb)
      omega
    · obtain ⟨⟨b, n⟩, hp, rfl⟩ := List.mem_map.mp hmem
      obtain ⟨-, hclash⟩ := List.mem_filter.mp hp
      rcases (tubePlace_first es b n).2 with hend | hnames
      · exact .inl hend
      · exact .inr ⟨b, n, hnames, tubeClash_iff.mp hclash⟩

theorem validate_siteTable (hgood : firstBad (siteOk s.tariff.siteShadow.entries) s.tariff.siteShadow.entries = none) :
    s.validate ⟨.site, none⟩ = (tubeFailure s.tariff.siteShadow.entries s).map (TableName.site, ·) := by
  unfold State.validate
  simp only [hgood]

end

/-! ### TABLE_CLOSE (R57) -/

section
variable {s t : State} {f : Frame} {g : Target}

theorem replaceSite_port (x : Table) (s : State) : (replaceSite x s).link.rxBuffer = s.link.rxBuffer :=
  (forBays_keeps (fun s => s.link.rxBuffer) _ (fun b u => (siteChange_work (P := (· = b)) rfl s.site x.entries u).rxBuffer)
    (s.modTariff fun u => { u with site := x, siteShadow := .empty })).trans rfl

/-- The new site table of a SITE stream. -/
def siteClosed (check : BitVec 32) (t : Tariff) : Table := t.load.finish t.siteShadow.entries check

theorem completeStream_site (hsite : g.table = .site) (crc : BitVec 32) (s : State) :
    completeStream g crc s = replaceSite (siteClosed crc s.tariff) (s.modLoad Load.toIdle) := by
  unfold completeStream
  rw [hsite]
  rfl

/-- A TABLE_CLOSE that replaces the live site table. -/
theorem tableClose_site {crc : BitVec 32} (hnext : s.TakesNext f) (hk : f.kind = 0x12#8) (hlen : f.body.length = 4)
    (hstate : s.tariff.load.state = .stream) (hg : s.tariff.load.target = some g)
    (hfull : s.tariff.load.next = s.tariff.load.count.getD 0) (hcrc : crc = BitVec.ofNat 32 (beNat f.body))
    (hgood : s.tariff.load.crc.map crc32End = some crc) (hvalid : s.validate g = none) (hsite : g.table = .site) :
    ∃ t, exec .tableClose s = .next t ∧ t.journal = s.journal ∧ t.card = s.card ∧ t.time = s.time
      ∧ t.tariff = sitedTariff (siteClosed crc s.tariff) { s.tariff with load := s.tariff.load.toIdle }
      ∧ t.link.replies = s.link.replies ++ [⟨f.tag, .accepted, [],
          if siteRate s.tariff.siteShadow.entries = siteRate s.site then .nothing
          else .changeRate (siteRate s.tariff.siteShadow.entries)⟩]
      ∧ ∀ b, Sited s.site s.tariff.siteShadow.entries b (s.bay b) (t.bay b) ∧ (t.bay b).mask = t.maskOf b := by
  have hexec := tableClose_taken hnext hk hlen hstate hg
  have hclose := closeStream_good (s := dropHead s) (g := g) (crc := crc) hfull hgood hvalid
  rw [completeStream_site hsite] at hclose
  obtain ⟨hport, hbays⟩ := replaceSite_sited (siteClosed crc s.tariff) ((dropHead s).modLoad Load.toIdle)
  have hreplies := replaceSite_replies (siteClosed crc s.tariff) ((dropHead s).modLoad Load.toIdle)
  have hnew : (replaceSite (siteClosed crc s.tariff) ((dropHead s).modLoad Load.toIdle)).site = s.tariff.siteShadow.entries := by
    rw [hport]
    rfl
  rw [show (dropHead s).tariff = s.tariff from rfl, hnew, show (dropHead s).site = s.site from rfl] at hclose
  rw [← hcrc, hclose] at hexec
  have htariff : ((dropHead s).modLoad Load.toIdle).tariff = { s.tariff with load := s.tariff.load.toIdle } := rfl
  rw [htariff] at hport
  rw [show ((dropHead s).modLoad Load.toIdle).link.replies = s.link.replies from rfl] at hreplies
  have hbays' : ∀ b, Sited s.site s.tariff.siteShadow.entries b (s.bay b)
      ((replaceSite (siteClosed crc s.tariff) ((dropHead s).modLoad Load.toIdle)).bay b)
      ∧ ((replaceSite (siteClosed crc s.tariff) ((dropHead s).modLoad Load.toIdle)).bay b).mask =
        (replaceSite (siteClosed crc s.tariff) ((dropHead s).modLoad Load.toIdle)).maskOf b := hbays
  have hunits : (replaceSite (siteClosed crc s.tariff) ((dropHead s).modLoad Load.toIdle)).journal = s.journal
      ∧ (replaceSite (siteClosed crc s.tariff) ((dropHead s).modLoad Load.toIdle)).card = s.card
      ∧ (replaceSite (siteClosed crc s.tariff) ((dropHead s).modLoad Load.toIdle)).time = s.time
      ∧ (replaceSite (siteClosed crc s.tariff) ((dropHead s).modLoad Load.toIdle)).tariff =
        sitedTariff (siteClosed crc s.tariff) { s.tariff with load := s.tariff.load.toIdle } := by
    rw [hport]
    exact ⟨rfl, rfl, rfl, rfl⟩
  clear hclose hbays hnew hport htariff
  generalize replaceSite (siteClosed crc s.tariff) ((dropHead s).modLoad Load.toIdle) = u at *
  obtain ⟨hjournal, hcard, htime, hutariff⟩ := hunits
  generalize hafter : (if siteRate s.tariff.siteShadow.entries = siteRate s.site then AfterReply.nothing
    else .changeRate (siteRate s.tariff.siteShadow.entries)) = after at hexec
  rw [done] at hexec
  have hsealed : Sealed u (s.reseal (answer f ⟨u, .accepted, [], after⟩)) := rfl
  have hlink : (s.reseal (answer f ⟨u, .accepted, [], after⟩)).link.replies = s.link.replies ++ [⟨f.tag, .accepted, [], after⟩] := by
    rw [State.reseal_link, answer_replies, hreplies]
  generalize s.reseal (answer f ⟨u, .accepted, [], after⟩) = t at hexec hsealed hlink
  refine ⟨t, hexec, hsealed.journal.trans hjournal, hsealed.card.trans hcard, hsealed.time.trans htime, hsealed.tariff.trans hutariff,
    hlink, fun b => ?_⟩
  have hmask : t.maskOf b = u.maskOf b := maskOf_congr (congrArg core (hsealed.bay b)) hsealed.time hsealed.site
  rw [hsealed.bay, hmask]
  exact hbays' b

/-- Settles O25. -/
theorem tableCloseFillsBankOrSite : Obligations.TableCloseFillsBankOrSite := by
  refine ⟨fun s f g crc hnext hk hlen hstate hg hfull hcrc => ?_, fun s all before i e => ⟨siteOk_bad, fun hgood => ⟨fun hfits => ?_, fun hmisfit => ?_⟩⟩⟩
  · dsimp only
    have htaken := tableClose_taken hnext hk hlen hstate hg
    rw [← hcrc] at htaken
    by_cases hgood : s.tariff.load.crc.map crc32End = some crc
    · cases hvalid : s.validate g with
      | some q =>
        rw [closeStream_invalid (s := dropHead s) (g := g) hfull hgood hvalid] at htaken
        obtain ⟨t, e, hrest, hreplied, htariff⟩ := loadError_answered hg (.inr htaken)
        obtain ⟨-, hload, hactive, hsite, -, -, hspoils⟩ := loadError_leaves (e := .validation) (p := some q) hg
        rw [← htariff] at hload hactive hsite hspoils
        refine ⟨t, e, hactive, ?_, ?_, ?_, by rw [hload]; rfl, fun h => absurd hgood h, fun _ n i hplace => ?_,
          fun h => (nomatch h.2), fun h => (nomatch h.2)⟩
        · rw [hrest]
        · rw [hrest]
        · rw [hrest]
        · obtain rfl := Option.some.inj hplace
          rw [hload]
          exact ⟨hrest, hreplied, rfl, rfl, rfl, hsite, hspoils⟩
      | none =>
        by_cases hsite : g.table = .site
        · obtain ⟨t, e, hjournal, hcard, htime, htariff, hreplies, hbays⟩ := tableClose_site hnext hk hlen hstate hg hfull hcrc hgood hvalid hsite
          have hnotBanked : g.table ∉ bankedTables := by
            rw [hsite]
            decide
          refine ⟨t, e, by rw [htariff]; rfl, hjournal, hcard, htime, by rw [htariff]; rfl, fun h => absurd hgood h,
            fun _ n i h => (nomatch h), fun _ k _ hn => absurd hn hnotBanked, fun _ _ => ?_⟩
          rw [htariff]
          refine ⟨rfl, rfl, rfl, rfl, hreplies, fun b => ?_⟩
          obtain ⟨hsited, hmask⟩ := hbays b
          exact ⟨hmask, hsited.tubes, hsited.same, hsited.joins, hsited.leaves, hsited.passes, hsited.prints⟩
        · have hunsited := fun {x} => closeStream_unsited (s := dropHead s) (g := g) (x := x) hfull hgood hvalid
          by_cases hdeny : g.table = .deny
          · rw [hunsited (x := denyClosed crc s.tariff) rfl (completeStream_deny hdeny crc (dropHead s))] at htaken
            obtain ⟨t, e, hrest, -, htariff⟩ := tariff_answered (.inr htaken)
            have hnotBanked : g.table ∉ bankedTables := by
              rw [hdeny]
              decide
            refine ⟨t, e, by rw [htariff]; rfl, ?_, ?_, ?_, by rw [htariff]; rfl, fun h => absurd hgood h,
              fun _ n i h => (nomatch h), fun _ k _ hn => absurd hn hnotBanked, fun _ h => absurd h hsite⟩
            · rw [hrest]
            · rw [hrest]
            · rw [hrest]
          · have hn : g.table ∈ bankedTables := banked_of_double hdeny hsite
            cases hbank : g.bank with
            | none => exact absurd hvalid (validate_unbanked hn hbank s)
            | some k =>
              obtain ⟨htable, hmode, htables, hother, hkept, hdenied, hactive, hload⟩ := bankClosed_leads (k := k) hn crc s.tariff
              rw [hunsited hkept (completeStream_banked hn hbank crc (dropHead s))] at htaken
              obtain ⟨t, e, hrest, hreplied, htariff⟩ := tariff_answered (.inr htaken)
              rw [← htariff] at htable hmode htables hother hkept hdenied hactive hload
              refine ⟨t, e, hactive, ?_, ?_, ?_, by rw [hload]; rfl, fun h => absurd hgood h,
                fun _ n i h => (nomatch h), fun _ k' hk' _ => ?_, fun _ h => absurd h hsite⟩
              · rw [hrest]
              · rw [hrest]
              · rw [hrest]
              · obtain rfl := Option.some.inj hk'
                exact ⟨hrest, hreplied, by rw [hload]; rfl, htable, hmode, htables, hother, hkept, hdenied⟩
    · rw [closeStream_badCrc (s := dropHead s) hfull hgood] at htaken
      obtain ⟨t, e, hrest, hreplied, htariff⟩ := loadError_answered hg (.inr htaken)
      obtain ⟨-, hload, hactive, hsite, -, -, hspoils⟩ := loadError_leaves (e := .crc) (p := none) hg
      rw [← htariff] at hload hactive hsite hspoils
      refine ⟨t, e, hactive, ?_, ?_, ?_, by rw [hload]; rfl, fun _ => ?_, fun h => absurd h hgood, fun h => absurd h.1 hgood,
        fun h => absurd h.1 hgood⟩
      · rw [hrest]
      · rw [hrest]
      · rw [hrest]
      · rw [hload]
        exact ⟨hrest, hreplied, rfl, rfl, hsite, hspoils⟩
  · rw [validate_siteTable hgood, tubeFailure_fits hfits]
    rfl
  · obtain ⟨i, hi, hbefore, hat⟩ := tubeFailure_some hmisfit
    rw [validate_siteTable hgood, hi]
    exact ⟨i, rfl, hbefore, hat⟩

end

end Sys2Proof.Proofs

/-! PROOFS. A frame sent leaves its source, and what the port does next (R166, R177, R183, R186). -/

namespace Sys2Proof.Proofs

open Sys2Proof Sys2Proof.Machine Sys2Proof.Laws

section
variable {s t : State} {l : Link} {f : Nat}

/-! ### The next source served (R183) -/

/-- A port but for what the transmitter is about to send. -/
def standing (l : Link) : Link := { l with sending := none, turn := .reply, forward := 0, record := none }

theorem kick_standing (l : Link) : standing l.kick = standing l := by
  unfold Link.kick
  split <;> rfl

/-- The record place behind what follows a frame sent. -/
def forwarded (s : State) : Option RecFrame :=
  if s.link.online = true ∧ s.link.record = none then (s.journal.nextRecord s.link.forward).map fun p => ⟨p.1, p.2⟩
  else s.link.record

theorem forwardNext_leads (s : State) : forwardNext s = { s with link := (forwardNext s).link }
    ∧ standing (forwardNext s).link = standing s.link ∧ (forwardNext s).link.record = forwarded s := by
  unfold forwardNext forwarded
  cases honline : s.link.online with
  | false =>
    rw [if_neg fun h => by cases h.1]
    exact ⟨rfl, rfl, rfl⟩
  | true =>
    cases hrecord : s.link.record with
    | some r =>
      rw [if_neg fun h => by cases h.2]
      exact ⟨rfl, rfl, hrecord⟩
    | none =>
      rw [if_pos ⟨rfl, rfl⟩]
      dsimp only
      cases hnext : s.journal.nextRecord s.link.forward with
      | none => exact ⟨rfl, rfl, hrecord⟩
      | some p =>
        refine ⟨rfl, ?_, ?_⟩
        · exact (kick_standing { s.link with record := some ⟨p.1, p.2⟩ }).trans rfl
        · exact (kick_sources { s.link with record := some ⟨p.1, p.2⟩ }).2.2.1

/-- The port behind a frame sent, in its parts: its source has let the frame go, and a record may have been taken. -/
theorem frameSent_leads {x : Sending} {u : State} (hsending : s.link.sending = some x)
    (hu : afterReply s.link.afterSent (s.modLink Link.sent) = u) (hport : u = { s with link := u.link }) :
    ∃ t, exec .frameSent s = .next t ∧ t = { s with link := t.link } ∧ standing t.link = standing u.link
      ∧ t.link.record = forwarded u := by
  obtain ⟨hrest, hstanding, hrecord⟩ := forwardNext_leads u
  have hexec : exec .frameSent s = done s ((forwardNext u).modLink Link.kick) := by
    show execFrameSent s = _
    unfold execFrameSent
    simp only [hsending, hu]
  have hsame : (forwardNext u).modLink Link.kick = { s with link := (forwardNext u).link.kick } := by
    show { forwardNext u with link := (forwardNext u).link.kick } = _
    rw [hrest, hport]
  refine ⟨_, by rw [hexec, done, hsame, reseal_of_link], rfl, (kick_standing _).trans hstanding, ?_⟩
  exact (kick_sources _).2.2.1.trans hrecord

theorem standing_field {α : Type} {k : Link} (p : Link → α) (hp : ∀ x, p (standing x) = p x) (h : standing k = standing l) : p k = p l := by
  rw [← hp, h, hp]

/-! ### The start-up list drains (R186) -/

theorem drainInto_gives (keep : Notice → Bool) (ns : List Notice) (ms : List Message) :
    ∃ given, ns = given ++ (drainInto keep ns ms).1
      ∧ (drainInto keep ns ms).2 = ms ++ (given.filter keep).map Message.notice
      ∧ (∀ front n, given = front ++ [n] → ms.length + (front.filter keep).length < 8)
      ∧ ((drainInto keep ns ms).1 ≠ [] → 8 ≤ (drainInto keep ns ms).2.length) := by
  induction ns generalizing ms with
  | nil => exact ⟨[], rfl, (List.append_nil ms).symm, fun front n h => absurd h (by simp), fun h => absurd rfl h⟩
  | cons n ns ih =>
    unfold drainInto
    by_cases hroom : ms.length < Config.noticeRoom
    · rw [if_pos hroom]
      obtain ⟨given, hns, hms, hfew, hfull⟩ := ih (if keep n then ms ++ [.notice n] else ms)
      refine ⟨n :: given, congrArg (n :: ·) hns, ?_, fun front m hsplit => ?_, hfull⟩
      · rw [hms]
        cases hkeep : keep n <;> simp [hkeep]
      · cases front with
        | nil => exact hroom
        | cons a front =>
          obtain ⟨rfl, rfl⟩ := List.cons.inj hsplit
          have hless := hfew front m rfl
          cases hkeep : keep n <;> simp [hkeep] at hless ⊢ <;> omega
    · rw [if_neg hroom]
      exact ⟨[], rfl, (List.append_nil ms).symm, fun front m h => absurd h (by simp), fun _ => Nat.le_of_not_lt hroom⟩

/-! ### The record of the lowest sequence above the forward mark (R166) -/

theorem lowerRecord_fold (records : List (Nat × List Byte)) (best : Option (Nat × List Byte)) :
    (∀ r, records.foldl (lowerRecord f) best = some r →
      (r ∈ records ∧ f < r.1 ∨ best = some r) ∧ (∀ p ∈ records, f < p.1 → r.1 ≤ p.1) ∧ ∀ q, best = some q → r.1 ≤ q.1)
    ∧ (records.foldl (lowerRecord f) best = none → (∀ p ∈ records, p.1 ≤ f) ∧ best = none) := by
  induction records generalizing best with
  | nil =>
    refine ⟨fun r h => ⟨.inr h, nofun, fun q hq => ?_⟩, fun h => ⟨nofun, h⟩⟩
    rw [List.foldl_nil, hq] at h
    exact Nat.le_of_eq (congrArg Prod.fst (Option.some.inj h)).symm
  | cons x xs ih =>
    rw [List.foldl_cons]
    obtain ⟨hsome, hnone⟩ := ih (lowerRecord f best x)
    have hstep : (x.1 ≤ f ∧ lowerRecord f best x = best)
        ∨ (f < x.1 ∧ lowerRecord f best x = some x ∧ ∀ q, best = some q → x.1 ≤ q.1)
        ∨ (f < x.1 ∧ ∃ q, best = some q ∧ q.1 ≤ x.1 ∧ lowerRecord f best x = some q) := by
      unfold lowerRecord
      by_cases hle : x.1 ≤ f
      · exact .inl ⟨hle, if_pos hle⟩
      · rw [if_neg hle]
        cases best with
        | none => exact .inr (.inl ⟨by omega, rfl, nofun⟩)
        | some q =>
          dsimp only
          by_cases hlt : x.1 < q.1
          · rw [if_pos hlt]
            refine .inr (.inl ⟨by omega, rfl, fun p hp => ?_⟩)
            obtain rfl := Option.some.inj hp
            omega
          · rw [if_neg hlt]
            exact .inr (.inr ⟨by omega, q, rfl, by omega, rfl⟩)
    refine ⟨fun r h => ?_, fun h => ?_⟩
    · obtain ⟨hfrom, hlow, hbest⟩ := hsome r h
      rcases hstep with ⟨hle, heq⟩ | ⟨hgt, heq, hbelow⟩ | ⟨hgt, q, hq, hqx, heq⟩
      · rw [heq] at hfrom hbest
        refine ⟨hfrom.imp (fun hm => ⟨List.mem_cons_of_mem x hm.1, hm.2⟩) id, fun p hp hfp => ?_, hbest⟩
        rcases List.mem_cons.mp hp with rfl | hp
        · omega
        · exact hlow p hp hfp
      · rw [heq] at hfrom hbest
        have hrx := hbest x rfl
        refine ⟨.inl ?_, fun p hp hfp => ?_, fun q hq => Nat.le_trans hrx (hbelow q hq)⟩
        · rcases hfrom with hm | hm
          · exact ⟨List.mem_cons_of_mem x hm.1, hm.2⟩
          · obtain rfl := Option.some.inj hm
            exact ⟨List.mem_cons_self .., hgt⟩
        · rcases List.mem_cons.mp hp with rfl | hp
          · exact hrx
          · exact hlow p hp hfp
      · rw [heq] at hfrom hbest
        have hrq := hbest q rfl
        refine ⟨hfrom.imp (fun hm => ⟨List.mem_cons_of_mem x hm.1, hm.2⟩) fun h => hq.trans h, fun p hp hfp => ?_, fun p hp => ?_⟩
        · rcases List.mem_cons.mp hp with rfl | hp
          · omega
          · exact hlow p hp hfp
        · rw [hq] at hp
          obtain rfl := Option.some.inj hp
          exact hrq
    · obtain ⟨hall, hbest⟩ := hnone h
      rcases hstep with ⟨hle, heq⟩ | ⟨-, heq, -⟩ | ⟨-, q, -, -, heq⟩
      · refine ⟨fun p hp => ?_, heq.symm.trans hbest⟩
        rcases List.mem_cons.mp hp with rfl | hp
        · exact hle
        · exact hall p hp
      · rw [hbest] at heq
        cases heq
      · rw [hbest] at heq
        cases heq

/-- The next record to forward. -/
theorem nextRecord_leads (j : Journal) (f : Nat) :
    (∀ r, j.nextRecord f = some r → r ∈ j.records ∧ f < r.1 ∧ ∀ p ∈ j.records, f < p.1 → r.1 ≤ p.1)
    ∧ (j.nextRecord f = none → j.last ≤ f ∨ ∀ p ∈ j.records, p.1 ≤ f) := by
  unfold Journal.nextRecord
  obtain ⟨hsome, hnone⟩ := lowerRecord_fold (f := f) j.records none
  split
  next =>
    refine ⟨fun r h => ?_, fun h => .inr (hnone h).1⟩
    obtain ⟨hfrom, hlow, -⟩ := hsome r h
    rcases hfrom with ⟨hmem, hgt⟩ | hno
    · exact ⟨hmem, hgt, hlow⟩
    · cases hno
  next hle => exact ⟨nofun, fun _ => .inl (Nat.le_of_not_lt hle)⟩

/-! ### FRAME_SENT -/

theorem sent_reply (hsending : s.link.sending = some ⟨.reply, true⟩) :
    s.link.sent = { s.link with sending := none, replies := s.link.replies.drop 1 } := by
  unfold Link.sent
  rw [hsending]

theorem afterSent_reply {r : Reply} {rest : List Reply} (hsending : s.link.sending = some ⟨.reply, true⟩)
    (hreplies : s.link.replies = r :: rest) : s.link.afterSent = r.after := by
  unfold Link.afterSent
  rw [hsending, hreplies]

theorem afterSent_other {x : Source} (hsending : s.link.sending = some ⟨x, true⟩) (hx : x ≠ .reply) : s.link.afterSent = .nothing := by
  unfold Link.afterSent
  rw [hsending]
  cases x
  case reply => exact absurd rfl hx
  all_goals rfl

theorem reply_sent {r : Reply} {rest : List Reply} (hsending : s.link.sending = some ⟨.reply, true⟩) (hreplies : s.link.replies = r :: rest)
    (hafter : r.after = .nothing) : ∃ t, exec .frameSent s = .next t ∧ t = { s with link := t.link } ∧ t.link.replies = rest
      ∧ t.link.messages = s.link.messages ∧ t.link.rate = s.link.rate := by
  obtain ⟨t, e, hrest, hstands, -⟩ := frameSent_leads hsending (u := s.modLink Link.sent)
    (by rw [afterSent_reply hsending hreplies, hafter]; rfl) rfl
  rw [show (s.modLink Link.sent).link = s.link.sent from rfl, sent_reply hsending, hreplies] at hstands
  exact ⟨t, e, hrest, (standing_field Link.replies (fun _ => rfl) hstands).trans rfl, (standing_field Link.messages (fun _ => rfl) hstands).trans rfl,
    (standing_field Link.rate (fun _ => rfl) hstands).trans rfl⟩

theorem changeRate_leads (l : Link) (rate : Nat) (now : Ms) :
    l.changeRate rate now = { l with
      rate := rate, rx := .idleWait, rxBytes := [], rxLast := now
      counters := if l.rx = .inFrame then { l.counters with truncated := min (l.counters.truncated + 1) 65535 } else l.counters } := by
  unfold Link.changeRate Link.truncate
  split
  next h =>
    rw [if_pos h]
    rfl
  next h =>
    rw [if_neg h]
    rfl

theorem rate_sent {r : Reply} {rest : List Reply} {rate : Nat} (hsending : s.link.sending = some ⟨.reply, true⟩)
    (hreplies : s.link.replies = r :: rest) (hafter : r.after = .changeRate rate) :
    ∃ t, exec .frameSent s = .next t ∧ t = { s with link := t.link } ∧ t.link.replies = rest
      ∧ t.link.messages = s.link.messages ∧ t.link.rate = rate ∧ t.link.rx = .idleWait ∧ t.link.rxBytes = []
      ∧ t.link.rxLast = s.time.ms ∧ t.link.rxBuffer = s.link.rxBuffer
      ∧ t.link.counters = (if s.link.rx = .inFrame
          then { s.link.counters with truncated := min (s.link.counters.truncated + 1) 65535 } else s.link.counters) := by
  obtain ⟨t, e, hrest, hstands, -⟩ := frameSent_leads hsending (u := (s.modLink Link.sent).modLink (·.changeRate rate s.now))
    (by rw [afterSent_reply hsending hreplies, hafter]; rfl) rfl
  rw [show ((s.modLink Link.sent).modLink (·.changeRate rate s.now)).link = s.link.sent.changeRate rate s.now from rfl,
    sent_reply hsending, hreplies, changeRate_leads] at hstands
  exact ⟨t, e, hrest, (standing_field Link.replies (fun _ => rfl) hstands).trans rfl, (standing_field Link.messages (fun _ => rfl) hstands).trans rfl,
    (standing_field Link.rate (fun _ => rfl) hstands).trans rfl, (standing_field Link.rx (fun _ => rfl) hstands).trans rfl,
    (standing_field Link.rxBytes (fun _ => rfl) hstands).trans rfl, (standing_field Link.rxLast (fun _ => rfl) hstands).trans rfl,
    (standing_field Link.rxBuffer (fun _ => rfl) hstands).trans rfl, (standing_field Link.counters (fun _ => rfl) hstands).trans rfl⟩

theorem sent_message {m : Message} {rest : List Message} (hsending : s.link.sending = some ⟨.message, true⟩)
    (hmessages : s.link.messages = m :: rest) : s.link.sent = Link.drain { s.link with sending := none, messages := rest } := by
  unfold Link.sent
  rw [hsending, hmessages]
  rfl

theorem drain_still (h : l.listState ≠ .draining) : l.drain = l := by
  unfold Link.drain
  cases hstate : l.listState with
  | draining => exact absurd hstate h
  | _ => rfl

theorem drain_runs (h : l.listState = .draining) :
    l.drain = { l with
      noticeList := (drainInto l.inMask l.noticeList l.messages).1
      messages := (drainInto l.inMask l.noticeList l.messages).2
      listState := if (drainInto l.inMask l.noticeList l.messages).1 = [] then .closed else .draining } := by
  unfold Link.drain
  rw [h]

theorem message_sent {m : Message} {rest : List Message} (hsending : s.link.sending = some ⟨.message, true⟩)
    (hmessages : s.link.messages = m :: rest) :
    ∃ t, exec .frameSent s = .next t ∧ t = { s with link := t.link } ∧ t.link.replies = s.link.replies
      ∧ (s.link.listState ≠ .draining → t.link.messages = rest ∧ t.link.noticeList = s.link.noticeList
          ∧ t.link.listState = s.link.listState)
      ∧ (s.link.listState = .draining → ∃ given, s.link.noticeList = given ++ t.link.noticeList
          ∧ t.link.messages = rest ++ (given.filter s.link.inMask).map Message.notice
          ∧ (∀ ns n, given = ns ++ [n] → rest.length + (ns.filter s.link.inMask).length < 8)
          ∧ (t.link.noticeList = [] → t.link.listState = .closed)
          ∧ (t.link.noticeList ≠ [] → t.link.listState = .draining ∧ 8 ≤ t.link.messages.length)) := by
  obtain ⟨t, e, hrest, hstands, -⟩ := frameSent_leads hsending (u := s.modLink Link.sent)
    (by rw [afterSent_other hsending (by decide)]; rfl) rfl
  rw [show (s.modLink Link.sent).link = s.link.sent from rfl, sent_message hsending hmessages] at hstands
  by_cases hdraining : s.link.listState = .draining
  · rw [drain_runs (show ({ s.link with sending := none, messages := rest } : Link).listState = .draining from hdraining)] at hstands
    obtain ⟨given, hgiven, hmessages', hfew, hfull⟩ := drainInto_gives s.link.inMask s.link.noticeList rest
    have hlist : t.link.noticeList = (drainInto s.link.inMask s.link.noticeList rest).1 :=
      (standing_field Link.noticeList (fun _ => rfl) hstands).trans rfl
    have hqueue : t.link.messages = (drainInto s.link.inMask s.link.noticeList rest).2 :=
      (standing_field Link.messages (fun _ => rfl) hstands).trans rfl
    have hstate : t.link.listState = if (drainInto s.link.inMask s.link.noticeList rest).1 = [] then .closed else .draining :=
      (standing_field Link.listState (fun _ => rfl) hstands).trans rfl
    refine ⟨t, e, hrest, (standing_field Link.replies (fun _ => rfl) hstands).trans rfl, fun hno => absurd hdraining hno, fun _ => ⟨given, ?_⟩⟩
    rw [hlist, hqueue, hstate]
    exact ⟨hgiven, hmessages', hfew, fun h => if_pos h, fun h => ⟨if_neg h, hfull h⟩⟩
  · rw [drain_still (l := { s.link with sending := none, messages := rest }) hdraining] at hstands
    exact ⟨t, e, hrest, (standing_field Link.replies (fun _ => rfl) hstands).trans rfl, fun _ => ⟨(standing_field Link.messages (fun _ => rfl) hstands).trans rfl,
      (standing_field Link.noticeList (fun _ => rfl) hstands).trans rfl, (standing_field Link.listState (fun _ => rfl) hstands).trans rfl⟩,
      fun hyes => absurd hyes hdraining⟩

theorem record_sent (hsending : s.link.sending = some ⟨.record, true⟩) :
    ∃ t, exec .frameSent s = .next t ∧ t = { s with link := t.link }
      ∧ t.link.replies = s.link.replies ∧ t.link.messages = s.link.messages
      ∧ (s.link.online = false → t.link.record = none)
      ∧ (s.link.online = true →
          (∀ r, t.link.record = some r → (r.sequence, r.bytes) ∈ s.journal.records ∧ s.link.forward < r.sequence
            ∧ ∀ p ∈ s.journal.records, s.link.forward < p.1 → r.sequence ≤ p.1)
          ∧ (t.link.record = none →
              s.journal.last ≤ s.link.forward ∨ ∀ p ∈ s.journal.records, p.1 ≤ s.link.forward)) := by
  have hsent : s.link.sent = { s.link with sending := none, record := none } := by
    unfold Link.sent
    rw [hsending]
  obtain ⟨t, e, hrest, hstands, hrecord⟩ := frameSent_leads hsending (u := s.modLink Link.sent)
    (by rw [afterSent_other hsending (by decide)]; rfl) rfl
  have hforwarded : forwarded (s.modLink Link.sent) =
      if s.link.online = true then (s.journal.nextRecord s.link.forward).map fun p => ⟨p.1, p.2⟩ else none := by
    unfold forwarded
    rw [show (s.modLink Link.sent).link = s.link.sent from rfl, hsent]
    by_cases honline : s.link.online = true
    · rw [if_pos honline, if_pos ⟨honline, rfl⟩]
      rfl
    · rw [if_neg honline, if_neg fun h => honline h.1]
  rw [hforwarded] at hrecord
  rw [show (s.modLink Link.sent).link = s.link.sent from rfl, hsent] at hstands
  refine ⟨t, e, hrest, (standing_field Link.replies (fun _ => rfl) hstands).trans rfl, (standing_field Link.messages (fun _ => rfl) hstands).trans rfl,
    fun hoff => ?_, fun hon => ?_⟩
  · rw [hrecord, hoff]
    rfl
  · rw [if_pos hon] at hrecord
    obtain ⟨hsome, hnone⟩ := nextRecord_leads s.journal s.link.forward
    rw [hrecord]
    refine ⟨fun r hr => ?_, fun hr => hnone (Option.map_eq_none_iff.mp hr)⟩
    obtain ⟨p, hp, rfl⟩ := Option.map_eq_some_iff.mp hr
    exact hsome p hp

/-- Settles O16. -/
theorem sentFrameLeavesItsSource : Obligations.SentFrameLeavesItsSource := fun _ =>
  ⟨fun _ _ hsending hreplies hafter => reply_sent hsending hreplies hafter,
    fun _ _ _ hsending hreplies hafter => rate_sent hsending hreplies hafter,
    fun _ _ hsending hmessages => message_sent hsending hmessages, record_sent⟩

end

end Sys2Proof.Proofs

/-! PROOFS. The answer to an authorisation request (R130). -/

namespace Sys2Proof.Proofs

open Sys2Proof Sys2Proof.Machine Sys2Proof.Laws

/-- A record whose wait has ended with a grant. -/
def grantedBay (a : BitVec 32) (y : Bay) : Bay :=
  { y with
    authWait := none
    card := { y.card with grant := some a, phase := .checking }
    ctx := { y.ctx with authRef := some a } }

/-- A record whose exchange is HELD under the supply warning. -/
def heldBay (y : Bay) : Bay := { y with card := { y.card with phase := .held } }

/-- Bay b's wait has ended with a grant, and the write has not been tried. -/
def granted (a : BitVec 32) (b : BayNo) (s : State) : State :=
  refresh b (((endAuth b s).modExch b fun x => { x with grant := some a, phase := .checking }).modCtx b
    fun c => { c with authRef := some a })

section
variable {b : BayNo} {s t : State} {a : BitVec 32} {ref : BitVec 16}

theorem granted_turns (a : BitVec 32) (b : BayNo) (s : State) : Turns b s (granted a b s) (grantedBay a (s.bay b)) :=
  (((endAuth_turns b s).mod (fun y => { y with card := { y.card with grant := some a, phase := .checking } })
    fun _ => rfl).mod (fun y => { y with ctx := { y.ctx with authRef := some a } }) fun _ => rfl).shown
    (refresh_becomes b _).turns

theorem granted_work (a : BitVec 32) (b : BayNo) (s : State) : Work .free (fun _ => True) s (granted a b s) :=
  (refresh_work trivial _).after (Work.after
    (modCtx_work (f := fun c => { c with authRef := some a }) trivial free_loud rfl rfl rfl id)
    ((modExch_work trivial _ fun x => { x with grant := some a, phase := .checking }).after (endAuth_work trivial s)))

theorem granted_card (a : BitVec 32) (b : BayNo) (s : State) : (granted a b s).card = s.card := by
  rw [granted, (refresh_becomes b _).card]
  show (endAuth b s).card = s.card
  unfold endAuth
  split <;> rfl

/-- What bars a write reads the fresh card, the tear table and the other bays' exchanges alone (R121). -/
theorem writeBarred_of (hfresh : (t.exch b).fresh = (s.exch b).fresh) (hcard : t.card = s.card)
    (hothers : OtherBays b s t) : t.writeBarred b = s.writeBarred b := by
  have hwriting : ∀ (v : CardValues), (fun c : BayNo => decide (c ≠ b) && t.writingTo c v.serial) =
      fun c => decide (c ≠ b) && s.writingTo c v.serial := fun v => by
    funext c
    by_cases hc : c = b
    · rw [decide_eq_false (not_not.mpr hc), Bool.false_and, Bool.false_and]
    · have hexch : t.exch c = s.exch c := congrArg Bay.card (hothers c hc)
      unfold State.writingTo
      rw [hexch]
  unfold State.writeBarred
  simp only [hfresh, hcard, hwriting]

/-- Online and with the supply good, the write of a request is issued unless it is barred. -/
theorem goWrite_online {r : WriteRequest} (hrequest : (s.exch b).request = some r) (hsupply : s.supplyLow = false)
    (honline : s.link.online = true) :
    goWrite b s = if s.writeBarred b then presentAgain b s else issueWrite b s := by
  have htested : s.offlineTested b r = false := by
    rw [State.offlineTested, show s.online = true from honline, Bool.not_true, Bool.and_false, Bool.false_and]
  unfold goWrite
  simp only [hrequest, hsupply, htested, Bool.false_eq_true, if_false]

theorem againBay_ctx (y : Bay) : (againBay y).ctx = y.ctx := presentedBay_ctx _

theorem againBay_authWait (y : Bay) : (againBay y).authWait = y.authWait := by
  unfold againBay presentedBay
  split <;> rfl

/-- An exchange that goes on at step 2 of R117 asks for no authorisation. -/
theorem goWrite_turns (b : BayNo) (s : State) (hwait : (s.bay b).authWait = none) :
    ∃ y, Turns b s (goWrite b s) y ∧ y.authWait = none
      ∧ (s.link.online = true → y.ctx.authRef = (s.ctx b).authRef) := by
  cases hrequest : (s.exch b).request with
  | none =>
    refine ⟨s.bay b, ?_, hwait, fun _ => rfl⟩
    unfold goWrite
    simp only [hrequest]
    exact .refl b s
  | some r =>
    have hissue : ∀ u, Turns b s u (s.bay b) → (u.exch b) = s.exch b → ∃ y, Turns b s (issueWrite b u) y ∧ y.authWait = none
        ∧ y.ctx.authRef = (s.ctx b).authRef := fun u hu hexch => by
      cases hfresh : (s.exch b).fresh with
      | none =>
        refine ⟨s.bay b, ?_, hwait, rfl⟩
        unfold issueWrite
        simp only [hexch, hrequest, hfresh]
        exact hu
      | some v =>
        have hissued := issueWrite_becomes (b := b) (s := u) (hexch ▸ hrequest) (hexch ▸ hfresh)
        exact ⟨_, hu.step (g := issuedBay r v) hissued.turns fun _ => rfl, hwait, rfl⟩
    have hcancel : ∀ code, ∃ y, Turns b s (cancelWith code b s) y ∧ y.authWait = none := fun code => by
      obtain ⟨⟨y, hturns⟩, -, hnone, -⟩ := cancelWith_refused code b s
      exact ⟨y, hturns, (hturns.field Bay.authWait fun _ => rfl).symm.trans hnone⟩
    cases hsupply : s.supplyLow with
    | true =>
      refine ⟨heldBay (s.bay b), ?_, hwait, fun _ => rfl⟩
      unfold goWrite
      simp only [hrequest, hsupply, if_true]
      exact (Becomes.modBay b s heldBay).turns
    | false =>
      cases honline : s.link.online with
      | true =>
        rw [goWrite_online hrequest hsupply honline]
        split
        · exact ⟨_, (presentAgain_becomes b s).turns, (againBay_authWait _).trans hwait,
            fun _ => congrArg Ctx.authRef (againBay_ctx _)⟩
        · obtain ⟨y, hturns, hnone, hkept⟩ := hissue s (.refl b s) rfl
          exact ⟨y, hturns, hnone, fun _ => hkept⟩
      | false =>
        unfold goWrite
        simp only [hrequest, hsupply, Bool.false_eq_true, if_false, false_imp_iff, and_true]
        split
        · exact ⟨_, (presentAgain_becomes b s).turns, (againBay_authWait _).trans hwait⟩
        · split
          · split
            · obtain ⟨y, hturns, hnone, -⟩ :=
                hissue (s.modCard fun c => { c with offlineTotal := c.offlineTotal + r.amount }) (.of_bays rfl rfl rfl rfl) rfl
              exact ⟨y, hturns, hnone⟩
            · exact hcancel _
          · obtain ⟨y, hturns, hnone, -⟩ := hissue s (.refl b s) rfl
            exact ⟨y, hturns, hnone⟩

/-- The write a grant issues: the exchange is in WRITING with the write of its request on its fresh read, or reads the card
again where the write is barred (R117, R121, R130). -/
theorem grant_writes {r : WriteRequest} {v : CardValues} (hrequest : (s.exch b).request = some r)
    (hfresh : (s.exch b).fresh = some v) (hsupply : s.supplyLow = false) (honline : s.link.online = true) :
    (s.writeBarred b = false → Turns b s (authGranted a b s) (issuedBay r v (grantedBay a (s.bay b))))
    ∧ (s.writeBarred b = true → ((authGranted a b s).exch b).phase = .presenting ∧ (authGranted a b s).card = s.card) := by
  have hgranted := granted_turns a b s
  have hexch : (granted a b s).exch b = (grantedBay a (s.bay b)).card := hgranted.field Bay.card fun _ => rfl
  have hfresh' : ((granted a b s).exch b).fresh = (s.exch b).fresh := by
    rw [hexch]
    rfl
  have hbarred := writeBarred_of hfresh' (granted_card a b s) hgranted.others
  have hlow : (granted a b s).supplyLow = false := (congrArg (fun x : Time => x.supply.accepted) hgranted.time).trans hsupply
  have hgo := goWrite_online (b := b) (s := granted a b s) ((congrArg Exchange.request hexch).trans hrequest) hlow
    ((granted_work a b s).online.trans honline)
  have hissued := issueWrite_becomes (b := b) (s := granted a b s) ((congrArg Exchange.request hexch).trans hrequest)
    (hfresh'.trans hfresh)
  have hcard := granted_card a b s
  change authGranted a b s = _ at hgo
  rw [hgo, hbarred]
  refine ⟨fun hno => ?_, fun hyes => ?_⟩
  · rw [hno, if_neg (by decide)]
    exact hgranted.step (g := issuedBay r v) hissued.turns fun _ => rfl
  · rw [hyes, if_pos rfl]
    have hagain := presentAgain_becomes b (granted a b s)
    refine ⟨?_, hagain.card.trans hcard⟩
    rw [State.exch, hagain.field Bay.card fun _ => rfl, againBay_card]

theorem authReply_taken {f : Frame} {d : Byte} (hnext : s.link.rxBuffer.head? = some f) (hk : f.kind = 0x03#8)
    (hlen : f.body.length = 7) (href : field f.body 0 2 = ref.toNat) (hdenied : field f.body 2 1 = d.toNat)
    (hd : d.toNat ≤ 1) (ha : field f.body 3 4 = a.toNat) :
    exec .authReply s = done s (authReply ref (d.toNat == 1) a (dropHead s)) := by
  show execAuthReply s = _
  unfold execAuthReply
  rw [takeFrame_eq (isKind := Frame.is kAuthReply) _ hnext (frame_is hk), href, hdenied, ha,
    if_pos ⟨hlen, hd⟩, BitVec.ofNat_toNat, BitVec.ofNat_toNat, BitVec.setWidth_eq, BitVec.setWidth_eq]

theorem authReply_port (ref : BitVec 16) (denied : Bool) (a : BitVec 32) (s : State) :
    (authReply ref denied a s).link.replies = s.link.replies ∧ (authReply ref denied a s).link.rxBuffer = s.link.rxBuffer := by
  have hports : ∀ {u}, Work .free (fun _ => True) s u → u.link.replies = s.link.replies ∧ u.link.rxBuffer = s.link.rxBuffer :=
    fun h => ⟨h.replies, h.rxBuffer⟩
  unfold authReply
  split
  · split
    · exact hports (authFailed_work trivial _ s)
    · exact hports (authGranted_work trivial _ s)
  · have hlate : Work .free (fun _ => True) (s.modCard fun c => { c with lateReplies := satInc c.lateReplies }) _ :=
      notify_work (.lateAuth ref denied) _
    exact ⟨hlate.replies, hlate.rxBuffer⟩

/-- Settles O19. -/
theorem authReplyGrantsDeniesOrIsLate : Obligations.AuthReplyGrantsDeniesOrIsLate := by
  intro s f ref d a hnext hk hlen href hdenied hd ha
  have hexec := authReply_taken hnext hk hlen href hdenied hd ha
  obtain ⟨t, e, ht⟩ := done_resealed s (authReply ref (d.toNat == 1) a (dropHead s))
  obtain ⟨hreplies, hbuffer⟩ := authReply_port ref (d.toNat == 1) a (dropHead s)
  have hwaitOf : (dropHead s).waitOf ref = s.waitOf ref := rfl
  refine ⟨t, hexec.trans e, (congrArg Link.replies ht.link).trans hreplies, (congrArg Link.rxBuffer ht.link).trans hbuffer,
    fun hnone => ?_, fun b hsome => ?_⟩
  · have hlate : authReply ref (d.toNat == 1) a (dropHead s) =
        notify (.lateAuth ref (d.toNat == 1)) ((dropHead s).modCard fun c => { c with lateReplies := satInc c.lateReplies }) := by
      unfold authReply
      simp only [hwaitOf, hnone]
    rw [hlate] at ht
    exact ⟨by rw [ht]; rfl, ht.tariff, ht.journal, ht.card⟩
  · have hends : ∀ {u y}, Turns b (dropHead s) u y → Resealed u t → OtherContexts b s t := fun hturns ht c hc =>
      (ht.ctx c).trans (congrArg Bay.ctx (hturns.others c hc))
    cases hdeny : d.toNat == 1 with
    | true =>
      have hd1 : d.toNat = 1 := by simpa using hdeny
      have hfails : authReply ref (d.toNat == 1) a (dropHead s) = authFailed .authDenied b (dropHead s) := by
        unfold authReply
        simp only [hwaitOf, hsome, hdeny, if_true]
      rw [hfails] at ht
      have hrefused := (cancelWith_refused .authDenied b (endAuth b (dropHead s))).of_resealed (endAuth_turns b _) ht
      refine ⟨hrefused.otherContexts, hrefused.wait, fun _ => ⟨hrefused.refusal, hrefused.idle, ?_⟩, fun hno => ?_⟩
      · have hstate := hrefused.state
        simpa only [List.mem_cons, List.not_mem_nil, or_false] using hstate
      · rw [hno] at hd1
        cases hd1
    | false =>
      have hd0 : d ≠ 1 := fun hd1 => by rw [hd1] at hdeny; cases hdeny
      have hgrants : authReply ref (d.toNat == 1) a (dropHead s) = authGranted a b (dropHead s) := by
        unfold authReply
        simp only [hwaitOf, hsome, hdeny, Bool.false_eq_true, if_false]
      rw [hgrants] at ht
      have hgranted := granted_turns a b (dropHead s)
      obtain ⟨y, hturns, hnone, hkept⟩ := goWrite_turns b (granted a b (dropHead s)) (hgranted.field Bay.authWait fun _ => rfl)
      have hturned : Turns b (dropHead s) (authGranted a b (dropHead s)) y := hturns.behind hgranted
      refine ⟨hends hturned ht, ?_, (fun hno => absurd hno hd0), fun _ honline => ⟨?_, fun r v hrequest hfresh hsupply => ?_⟩⟩
      · rw [ht.bay, hturned.field Bay.authWait fun _ => rfl]
        exact hnone
      · rw [ht.ctx, State.ctx, hturned.field (fun y => y.ctx.authRef) fun _ => rfl,
          hkept ((granted_work a b _).online.trans honline)]
        exact hgranted.field (fun y => y.ctx.authRef) fun _ => rfl
      · obtain ⟨hissues, hreads⟩ := grant_writes (a := a) (b := b) (s := dropHead s) (r := r) (v := v) hrequest hfresh hsupply honline
        refine ⟨fun hno => ?_, fun hyes => ?_⟩
        · have hissued := hissues hno
          have hwriting : (t.exch b).phase = .writing := by
            rw [ht.exch]
            exact hissued.field (fun y => y.card.phase) fun _ => rfl
          refine ⟨hwriting, ?_, presentationLimit_unlimited (by rw [hwriting]; rfl), ?_⟩
          · rw [ht.exch]
            exact hissued.field (fun y => y.card.limitStart) fun _ => rfl
          · rw [ht.slot]
            exact hissued.field (fun y => y.term.cardSlot.map CardSlot.command) fun _ => rfl
        · obtain ⟨hphase, hcard⟩ := hreads hyes
          exact ⟨by rw [ht.exch]; exact hphase, ht.card.trans hcard⟩
end
end Sys2Proof.Proofs

/-! PROOFS. The supervision limit (R189). -/

namespace Sys2Proof.Proofs

open Sys2Proof Sys2Proof.Machine Sys2Proof.Laws

/-- A port with nothing upstream but replies: OFFLINE, no message and no record held, and no list that drains. -/
structure Hushed (l : Link) : Prop where
  offline  : l.online = false
  list     : l.listState ≠ .draining
  messages : l.messages = []
  record   : l.record = none

section
variable {b : BayNo} {s t : State} {l : Link}

theorem Hushed.kick (h : Hushed l) : Hushed l.kick := by
  unfold Link.kick
  split
  · exact ⟨h.offline, h.list, h.messages, h.record⟩
  · exact h

theorem Hushed.drain (h : Hushed l) : l.drain = l := by
  unfold Link.drain
  split
  next hlist => exact absurd hlist h.list
  next => rfl

theorem Hushed.dropAuth (h : Hushed l) (ref : BitVec 16) : Hushed (l.dropAuth ref) := by
  have hfiltered : Hushed { l with messages := l.messages.filter fun m => !m.isAuth ref } :=
    ⟨h.offline, h.list, by rw [h.messages]; rfl, h.record⟩
  unfold Link.dropAuth
  split
  next heq => rw [h.messages] at heq; cases heq
  next => rw [hfiltered.drain]; exact hfiltered.kick

theorem Hushed.notify (h : Hushed l) (n : Notice) : Hushed (l.notify n) := by
  unfold Link.notify
  split
  next => unfold Link.listNotice; split <;> exact ⟨h.offline, h.list, h.messages, h.record⟩
  next hon _ => rw [h.offline] at hon; cases hon
  next hon _ => rw [h.offline] at hon; cases hon
  next => exact h

/-- The port's part of becoming OFFLINE with no frame under way. -/
theorem offline_hushed (hidle : l.sending = none) : Hushed l.offline := by
  unfold Link.offline
  rw [hidle]
  cases hlist : l.listState with
  | draining => exact ⟨rfl, nofun, rfl, rfl⟩
  | isOpen => exact ⟨rfl, fun h => (nomatch hlist.symm.trans h), rfl, rfl⟩
  | closed => exact ⟨rfl, fun h => (nomatch hlist.symm.trans h), rfl, rfl⟩

theorem offline_rim (l : Link) : rim l.offline = { rim l with online := false, timer := none } := by
  unfold Link.offline
  cases l.listState <;> rfl

/-! ### A wait's end in OFFLINE -/

theorem hushed_engineTake (h : Hushed s.link) : Hushed (engineTake s).link := by
  have hnotify? : ∀ (n : Option Notice) (u : State), Hushed u.link → Hushed (notify? n u).link := fun n u hu => by
    cases n with
    | none => exact hu
    | some n => exact hu.notify n
  unfold engineTake
  dsimp only
  split
  · split
    · exact h
    · split
      · exact h
      · split
        · exact hnotify? _ _ h
        · exact h.notify _
  · exact h

theorem hushed_append (h : Hushed s.link) (r : Machine.Append) : Hushed (append r s).link :=
  hushed_engineTake (s := s.modJournal (·.request r)) h

theorem hushed_endAuth (h : Hushed s.link) (b : BayNo) : Hushed (endAuth b s).link := by
  unfold endAuth
  split
  · exact h.dropAuth _
  · exact h

theorem hushed_closeTxn (h : Hushed s.link) (b : BayNo) : Hushed (closeTxn b s).link := by
  have hemptied : Hushed (if (s.ctx b).coins = [] then s else requestReturn b s).link := by
    rw [(emptied_becomes b s).link]
    exact h
  unfold closeTxn
  dsimp only
  generalize (if (s.ctx b).coins = [] then s else requestReturn b s) = u at hemptied
  have hunpinned : Hushed (unpinBank b u).link := by
    unfold unpinBank
    split <;> exact hemptied
  generalize unpinBank b u = v at hunpinned
  rw [(chirpFrom_becomes _ b _).link]
  have hrested := rest_becomes ((v.modBay b fun y => { y with reserved := false }).restState b) b
    (v.modBay b fun y => { y with reserved := false })
  generalize rest _ b (v.modBay b fun y => { y with reserved := false }) = w at hrested
  have hw : Hushed w.link := hrested.link ▸ hunpinned
  unfold settleAbsent
  split
  · exact hw.notify _
  · exact hw

theorem hushed_refunding (h : Hushed s.link) (b : BayNo) : Hushed (refunding b s).link := by
  have hunpriced : (unpriced b s).link = s.link := by
    unfold unpriced
    split <;> rfl
  unfold refunding
  rw [(requestReturn_becomes b _).link, (enter_becomes .refund b _).link]
  refine hushed_endAuth (b := b) ?_
  exact hunpriced.symm ▸ h

theorem planPayout_link (b : BayNo) (s : State) : (planPayout b s).1.link = s.link := by
  unfold planPayout
  dsimp only
  split <;> rfl

theorem hushed_refunded (r : State × Bool) (h : Hushed r.1.link) (b : BayNo) : Hushed (refunded b r).link := by
  obtain ⟨u, ended⟩ := r
  cases ended with
  | false => exact h
  | true =>
    show Hushed (refundEnded (u.bay b).payout.paid b u).link
    unfold refundEnded adjustAndWait appendAdjust
    dsimp only
    split
    · rw [(await_becomes .adjust b _).link]
      exact hushed_append h _
    · exact hushed_closeTxn h b

theorem hushed_authFailed (h : Hushed s.link) (code : Code) (b : BayNo) : Hushed (authFailed code b s).link := by
  have hends := hushed_endAuth h b
  unfold authFailed
  generalize endAuth b s = u at hends
  have hrefunds := hushed_refunding hends b
  unfold cancelWith
  rw [(refuse_becomes code b _).link, enterRefund_eq]
  generalize refunding b u = v at hrefunds
  split
  · refine hushed_refunded _ ?_ b
    rw [startPayout, planPayout_link]
    show Hushed (await .payout b _).link
    rw [(await_becomes .payout b _).link]
    exact hrefunds
  · exact hushed_closeTxn hrefunds b

theorem hushed_endWaits (h : Hushed s.link) : Hushed (endWaits s).link :=
  forBays_invariant (fun u => Hushed u.link) _ (fun b u hu => by
    split
    · exact hushed_authFailed hu .authTimeout b
    · exact hu) h

/-! ### The transition -/

/-- Every wait has ended with a refusal, and a bay without one is left as it was. -/
theorem endWaits_bay (s : State) (c : BayNo) : ((endWaits s).bay c).authWait = none
    ∧ ((s.bay c).authWait = none → (endWaits s).bay c = s.bay c) := by
  have hturn : ∀ b u, OtherBays b u (if (u.bay b).authWait.isSome then authFailed .authTimeout b u else u)
      ∧ ((if (u.bay b).authWait.isSome then authFailed .authTimeout b u else u).bay b).authWait = none
      ∧ ((u.bay b).authWait = none → (if (u.bay b).authWait.isSome then authFailed .authTimeout b u else u).bay b = u.bay b) :=
    fun b u => by
      cases hwait : (u.bay b).authWait with
      | none => exact ⟨fun _ _ => rfl, hwait, fun _ => rfl⟩
      | some w =>
        have hrefused := cancelWith_refused .authTimeout b (endAuth b u)
        obtain ⟨y, hturns⟩ := hrefused.turns
        exact ⟨(hturns.behind (endAuth_turns b u)).others, hrefused.wait, nofun⟩
  exact forBays_each (R := fun _ y y' => y'.authWait = none ∧ (y.authWait = none → y' = y))
    (fun b u => (hturn b u).1) (fun b u => (hturn b u).2) s c

/-- Settles O33. -/
theorem supervisionExpiryTakesLinkOffline : Obligations.SupervisionExpiryTakesLinkOffline := by
  intro s start limit htimer hlate
  have hexec : exec .supervisionExpiry s = done s (linkOffline s) := by
    show execSupervisionExpiry s = _
    unfold execSupervisionExpiry
    simp only [htimer]
    rw [if_pos (passed_of hlate)]
  obtain ⟨t, e, ht⟩ := done_resealed s (linkOffline s)
  have hwork := endWaits_work (s.modLink (·.offline))
  have hbay := endWaits_bay (s.modLink (·.offline))
  have hhushed := fun h => hushed_endWaits (s := s.modLink (·.offline)) (offline_hushed (l := s.link) h)
  unfold linkOffline at ht
  dsimp only at ht
  have hrim := hwork.rim.trans (offline_rim s.link)
  have hsite : siteBudget (endWaits (s.modLink (·.offline))).site = siteBudget s.site := congrArg siteBudget hwork.site
  rw [hsite] at ht
  generalize endWaits (s.modLink (·.offline)) = u at ht hbay hhushed hrim
  have hbeside := append_beside ⟨.link false (u.modCard fun c => { c with budget := siteBudget s.site }).time.calendar 1, none, .port⟩
    (u.modCard fun c => { c with budget := siteBudget s.site })
  have hlogged := (appendLink_work (m := .free) (P := fun _ => True) false (u.modCard fun c => { c with budget := siteBudget s.site })).rim.trans hrim
  have hstill := fun h : Hushed u.link => hushed_append (s := u.modCard fun c => { c with budget := siteBudget s.site }) h
    ⟨.link false (u.modCard fun c => { c with budget := siteBudget s.site }).time.calendar 1, none, .port⟩
  change beside (appendLink false (u.modCard fun c => { c with budget := siteBudget s.site })) = _ at hbeside
  change Hushed u.link → Hushed (appendLink false (u.modCard fun c => { c with budget := siteBudget s.site })).link at hstill
  generalize appendLink false (u.modCard fun c => { c with budget := siteBudget s.site }) = v at ht hbeside hlogged hstill
  have hlink : ∀ {α : Type} (p : Rim → α), p (rim v.link) = p { rim s.link with online := false, timer := none } :=
    fun p => congrArg p hlogged
  have hbays : ∀ c, t.bay c = u.bay c := fun c => by
    rw [ht.bay, State.bay, State.bay, ← show v.bays = u.bays from congrArg Beside.bays hbeside]
    rfl
  refine ⟨t, hexec.trans e, (congrArg Link.online ht.link).trans (hlink Rim.online), (congrArg Link.timer ht.link).trans (hlink Rim.timer),
    (congrArg Link.lastPhase ht.link).trans (hlink Rim.lastPhase), ?_, fun c => ?_, fun hidle => ?_, ?_,
    (congrArg Link.replies ht.link).trans (hlink Rim.replies), fun c hnone => ?_⟩
  · rw [ht.card]
    exact congrArg (fun x : Beside => x.card.budget) hbeside
  · rw [hbays]
    exact (hbay c).1
  · have hsilent := hstill (hhushed hidle)
    exact ⟨(congrArg Link.messages ht.link).trans hsilent.messages, (congrArg Link.record ht.link).trans hsilent.record⟩
  · rw [ht.link]
    exact congrArg satInc (hlink Rim.transitions)
  · rw [State.ctx, hbays, (hbay c).2 hnone]
    rfl
end
end Sys2Proof.Proofs

/-! PROOFS. Polls of the bay bus (R142, R194, R195, R198, R199). -/

namespace Sys2Proof.Proofs

open Sys2Proof Sys2Proof.Machine Sys2Proof.Laws

section
variable {y : Bay}

/-! ### The chunk offered (R142, R199) -/

theorem offer_keeps (y : Bay) : ∃ n m k,
    y.offer.1 = { y with inFlight := n, chunkMark := m, term := { y.term with nextChunkMark := k } } := by
  unfold Bay.offer
  split
  · exact ⟨_, _, _, rfl⟩
  · split
    · exact ⟨_, _, _, rfl⟩
    · exact ⟨_, _, _, rfl⟩

theorem offer_again (h : 0 < y.inFlight) : y.offer = (y, some (y.chunkMark.getD 0, y.ring.take y.inFlight)) := by
  rw [Bay.offer, if_pos h]

theorem offer_none (hfree : y.inFlight = 0) (hnew : y.newChunk = 0) : y.offer = (y, none) := by
  rw [Bay.offer, if_neg (by omega), if_neg (by omega)]

theorem offer_new (hfree : y.inFlight = 0) (hnew : 0 < y.newChunk) : y.offer =
    ({ y with inFlight := y.newChunk, chunkMark := some y.term.nextChunkMark,
              term := { y.term with nextChunkMark := nextMark y.term.nextChunkMark } },
      some (y.term.nextChunkMark, y.ring.take y.newChunk)) := by
  rw [Bay.offer, if_neg (by omega), if_pos hnew]

theorem newChunk_stalled (h : y.seq.paperOut = true ∨ y.seq.headUp = true ∨ min y.printer.credit (min 64 y.ring.length) = 0) :
    y.newChunk = 0 := by
  unfold Bay.newChunk
  rcases h with h | h | h
  · rw [h, Bool.true_or, if_pos rfl]
  · rw [h, Bool.or_true, if_pos rfl]
  · split
    · rfl
    · exact h

theorem newChunk_ready (hpaper : y.seq.paperOut = false) (hhead : y.seq.headUp = false) :
    y.newChunk = min y.printer.credit (min 64 y.ring.length) := by
  unfold Bay.newChunk
  rw [hpaper, hhead, if_neg (by decide)]
  rfl

end

section
variable {b : BayNo} {s t : State}

/-! ### The poll built (R195) -/

/-- A record once its rotation poll is on the line. -/
def onLineBay (now : Ms) (y : Bay) : Bay := { y.offer.1 with term := y.offer.1.term.polled true now }

/-- The rotation poll of a record. -/
def pollOf (b : BayNo) (y : Bay) : Poll := ⟨b, y.term.display?, y.term.tone?, y.term.command?, y.offer.2⟩

theorem rotationPoll_eq (b : BayNo) (s : State) : rotationPoll b s =
    (s.modBay b (onLineBay s.time.ms)).modBus fun x =>
      { x with exchange := some ⟨pollOf b (s.bay b), false, s.time.ms⟩, next := b.val + 1 } := by
  obtain ⟨n, m, k, hkeeps⟩ := offer_keeps (s.bay b)
  have hdisplay : (s.bay b).offer.1.term.display? = (s.bay b).term.display? := by rw [hkeeps]; rfl
  have htone : (s.bay b).offer.1.term.tone? = (s.bay b).term.tone? := by rw [hkeeps]; rfl
  have hcommand : (s.bay b).offer.1.term.command? = (s.bay b).term.command? := by rw [hkeeps]; rfl
  have hbay : (s.modBay b fun _ => { (s.bay b).offer.1 with term := (s.bay b).offer.1.term.polled true s.now }) =
      s.modBay b (onLineBay s.time.ms) := rfl
  unfold rotationPoll
  dsimp only
  rw [hdisplay, htone, hcommand, hbay]
  rfl

theorem onLineBay_slot (now : Ms) (y : Bay) : (onLineBay now y).term.cardSlot = y.term.cardSlot.map fun c =>
    if c.taken then c else { c with firstSent := some (c.firstSent.getD now) } := by
  obtain ⟨n, m, k, hkeeps⟩ := offer_keeps y
  unfold onLineBay
  rw [hkeeps]
  rfl

theorem onLineBay_keeps (now : Ms) (y : Bay) : (onLineBay now y).ctx = y.ctx ∧ (onLineBay now y).ring = y.ring := by
  obtain ⟨n, m, k, hkeeps⟩ := offer_keeps y
  unfold onLineBay
  rw [hkeeps]
  exact ⟨rfl, rfl⟩

/-- A record once its recovery poll is on the line. -/
def recoveryBay (now : Ms) (y : Bay) : Bay := { y with term := { y.term.polled false now with recoveryStart := some now } }

theorem pollStart_polls (hready : s.busReady = true) (hdue : s.dueBay = none) (hnext : s.nextBay = some b) :
    exec .pollStart s = .next (rotationPoll b s) := by
  show execPollStart s = _
  unfold execPollStart
  simp only [hready, hdue, hnext]

theorem pollStart_waits (hdue : s.dueBay = some b) : exec .pollStart s = .next s := by
  show execPollStart s = _
  unfold execPollStart
  rw [hdue]
  cases s.busReady <;> rfl

theorem recoveryPollDue_polls (hready : s.busReady = true) (hdue : s.dueBay = some b) :
    exec .recoveryPollDue s = .next (recoveryPoll b s) := by
  show execRecoveryPollDue s = _
  unfold execRecoveryPollDue
  simp only [hready, hdue]

/-- Settles O34. -/
theorem pollsCarryWhatIsPending : Obligations.PollsCarryWhatIsPending := by
  intro s b hready
  refine ⟨fun hdue hnext => ?_, fun hdue => ⟨pollStart_waits hdue, ?_⟩⟩
  · have hexec := pollStart_polls hready hdue hnext
    rw [rotationPoll_eq] at hexec
    have hbay : ((s.modBay b (onLineBay s.time.ms)).modBus fun x =>
        { x with exchange := some ⟨pollOf b (s.bay b), false, s.time.ms⟩, next := b.val + 1 }).bay b =
        onLineBay s.time.ms (s.bay b) := State.bay_modBay_self s b (onLineBay s.time.ms)
    obtain ⟨hctx, hring⟩ := onLineBay_keeps s.time.ms (s.bay b)
    have hslot := onLineBay_slot s.time.ms (s.bay b)
    refine ⟨_, hexec, fun c hc => State.bay_modBay_ne s hc (onLineBay s.time.ms), rfl, rfl, by rw [State.ctx, hbay]; exact hctx,
      by rw [hbay]; exact hring, ⟨pollOf b (s.bay b), false, s.time.ms⟩, rfl, rfl, rfl, rfl, rfl, rfl, ?_⟩
    have hslot' := (congrArg (fun y : Bay => y.term.cardSlot) hbay).trans hslot
    change State.slot _ b = _ at hslot'
    rw [hslot', hbay, State.slot]
    generalize s.bay b = y
    refine ⟨fun hnone => ⟨?_, ?_⟩, fun c hc hsend => ⟨?_, ?_⟩, fun c hc htaken => ⟨?_, ?_⟩,
      fun mark hflight hmark => ?_, fun hfree => ⟨fun h => ?_, fun hpaper hhead hsome => ?_⟩⟩
    · show y.term.command? = none
      unfold Terminal.command?
      simp only [hnone]
    · rw [hnone]
      rfl
    · show y.term.command? = some (c.mark, c.command)
      unfold Terminal.command?
      simp only [hc, hsend, Bool.false_eq_true, if_false]
    · rw [hc, Option.map_some, hsend, if_neg (by decide)]
    · show y.term.command? = none
      unfold Terminal.command?
      simp only [hc, htaken, if_true]
    · rw [hc, Option.map_some, htaken, if_pos rfl]
    · have hoffer := offer_again hflight
      rw [hmark, Option.getD_some] at hoffer
      exact ⟨congrArg Prod.snd hoffer, congrArg (fun r => r.1.inFlight) hoffer, (congrArg (fun r => r.1.chunkMark) hoffer).trans hmark⟩
    · have hoffer := offer_none hfree (newChunk_stalled h)
      exact ⟨congrArg Prod.snd hoffer, (congrArg (fun r => r.1.inFlight) hoffer).trans hfree, congrArg (fun r => r.1.chunkMark) hoffer⟩
    · have hnew := newChunk_ready hpaper hhead
      have hoffer := offer_new hfree (hnew ▸ hsome)
      rw [hnew] at hoffer
      exact ⟨congrArg Prod.snd hoffer, congrArg (fun r => r.1.inFlight) hoffer, congrArg (fun r => r.1.chunkMark) hoffer,
        congrArg (fun r => r.1.term.nextChunkMark) hoffer⟩
  · have hexec := recoveryPollDue_polls hready hdue
    have hbay : (recoveryPoll b s).bay b = recoveryBay s.now (s.bay b) := State.bay_modBay_self s b (recoveryBay s.now)
    refine ⟨_, hexec, fun c hc => State.bay_modBay_ne s hc (recoveryBay s.now), rfl, ?_, ?_, rfl, _, rfl, rfl, rfl, rfl, rfl, rfl, rfl⟩
    · rw [hbay]
      rfl
    · rw [State.slot, hbay]
      rfl
end
end Sys2Proof.Proofs

/-! PROOFS. The loss of a terminal (R22, R146, R197). -/

namespace Sys2Proof.Proofs

open Sys2Proof Sys2Proof.Machine Sys2Proof.Laws

section
variable {b : BayNo} {s t u : State} {o : ReceiptOutcome} {j : Job}

/-! ### The jobs of a lost terminal (R146) -/

/-- What a loss has written in a bay's record. -/
def lossOf (y : Bay) : TermState × Option Ms × Bool := (y.term.state, y.term.recoveryStart, y.ctx.causes.terminalLost)

/-- A job that starts at a LOST terminal ends FAILED at once. -/
theorem startJob_lost (hterm : (s.bay b).term.state = .lost) :
    startJob b j s = (s.modBay b fun y => y.takeJob (j.stamp s.site) s.now, some .failed) := by
  unfold startJob
  dsimp only
  rw [if_pos]
  rw [State.bay_modBay_self]
  exact .inr hterm

/-- A job cut short at a LOST terminal, and the SALE job that waited for it, end FAILED or PARTIAL. -/
theorem cutJob_lost (hterm : (s.bay b).term.state = .lost) :
    (∀ o, (cutJob b s).2 = some o → o = .failed ∨ o = .partly)
    ∧ ((s.bay b).inFlight = 0 → ((cutJob b s).1.bay b).inFlight = 0) := by
  have hcut := cutOutcome_cut (s.bay b).seq
  unfold cutJob
  generalize (s.bay b).seq.cutOutcome = o at hcut
  have hcleared : ((s.modBay b Bay.clearJob).bay b).inFlight = 0 := by rw [State.bay_modBay_self]; rfl
  have hkeep : ∀ j o' (v : State), o' = .failed ∨ o' = .partly → keepReceipt b j o' v = v := fun j o' v ho' => by
    unfold keepReceipt
    rw [if_neg]
    rcases ho' with rfl | rfl <;> decide
  cases hjob : (s.bay b).seq.job with
  | none =>
    unfold finishJob
    simp only [hjob]
    exact ⟨nofun, id⟩
  | some j =>
    cases hkind : j.kind with
    | sale =>
      rw [finishJob_sale hjob hkind, hkeep _ _ _ hcut]
      exact ⟨fun o' ho' => Option.some.inj ho' ▸ hcut, fun _ => hcleared⟩
    | reprint =>
      cases hwaiting : (s.bay b).seq.waiting with
      | none =>
        rw [finishJob_reprint hjob hkind hwaiting]
        exact ⟨nofun, fun _ => by rw [State.bay_modBay_self]; rfl⟩
      | some w =>
        have hw : ((s.modBay b Bay.clearJob).bay b).seq.waiting = some w := by
          rw [State.bay_modBay_self]
          exact hwaiting
        unfold finishJob
        simp only [hjob, hkind, hw]
        rw [startJob_lost (by rw [State.bay_modBay_self, State.bay_modBay_self]; exact hterm)]
        dsimp only
        rw [hkeep _ _ _ (.inl rfl)]
        exact ⟨fun o' ho' => .inl (Option.some.inj ho').symm, fun _ => by rw [State.bay_modBay_self]; rfl⟩

/-- What is cut at a LOST terminal reaches a context in PRINT alone, and leaves what the loss has written. -/
theorem lostJob_leads (hterm : (s.bay b).term.state = .lost) (hflight : (s.bay b).inFlight = 0) :
    ∃ y, Turns b s (receiptTaken? b (cutJob b s)) y ∧ lossOf y = lossOf (s.bay b) ∧ y.printer = (s.bay b).printer
      ∧ y.inFlight = 0
      ∧ (¬ AwaitsReceipt s b → y.ctx = s.ctx b ∧ y.escrow = (s.bay b).escrow ∧ y.card = (s.bay b).card
          ∧ (receiptTaken? b (cutJob b s)).card = s.card) := by
  obtain ⟨houtcome, hfree⟩ := cutJob_lost hterm
  have hprints : Prints b s (cutJob b s).1 := finishJob_prints b _ s
  generalize cutJob b s = r at *
  obtain ⟨v, o⟩ := r
  have hbecomes := hprints.becomes
  have hloss : lossOf (v.bay b) = lossOf (s.bay b) := hprints.field lossOf fun _ => rfl
  have hprinter : (v.bay b).printer = (s.bay b).printer := hprints.field Bay.printer fun _ => rfl
  have hctx : v.ctx b = s.ctx b := hprints.field Bay.ctx fun _ => rfl
  have hstays : Turns b s v (v.bay b) ∧ lossOf (v.bay b) = lossOf (s.bay b) ∧ (v.bay b).printer = (s.bay b).printer
      ∧ (v.bay b).inFlight = 0 ∧ (¬ AwaitsReceipt s b → (v.bay b).ctx = s.ctx b ∧ (v.bay b).escrow = (s.bay b).escrow
        ∧ (v.bay b).card = (s.bay b).card ∧ v.card = s.card) :=
    ⟨hbecomes.turns, hloss, hprinter, hfree hflight, fun _ => ⟨hctx, hprints.field Bay.escrow fun _ => rfl,
      hprints.field Bay.card fun _ => rfl, hbecomes.card⟩⟩
  cases o with
  | none => exact ⟨_, hstays⟩
  | some o =>
    rw [receiptTaken?_some]
    by_cases hawaits : AwaitsReceipt v b
    · obtain ⟨hstate, hwait⟩ := hawaits
      obtain ⟨hturns, -⟩ := receiptTaken_adjusts hstate hwait (houtcome o rfl)
      refine ⟨_, hturns.behind hbecomes.turns, ?_, ?_, ?_, fun hno => absurd ?_ hno⟩
      · rw [← hloss]
        unfold adjustedBay
        cases v.isPrintedPass b <;> rfl
      · rw [← hprinter]
        unfold adjustedBay
        cases v.isPrintedPass b <;> rfl
      · refine Eq.trans ?_ (hfree hflight)
        unfold adjustedBay
        cases v.isPrintedPass b <;> rfl
      · rw [AwaitsReceipt, ← hctx]
        exact ⟨hstate, hwait⟩
    · rw [show receiptTaken o b v = v from if_neg hawaits]
      exact ⟨_, hstays⟩

/-! ### The command of a lost terminal (R197) -/

/-- A bay's record but for what the Card Unit does with its exchange. -/
def rack (y : Bay) : Bay :=
  { y with card := .reset, reapply := none, term := { y.term with cardSlot := none, nextCardMark := 0 } }

theorem presentedBay_rack (y : Bay) : rack (presentedBay y) = rack y := by
  unfold presentedBay
  split <;> rfl

theorem resumeAt_turns (serial : BitVec 32) (b : BayNo) (s : State) : ∃ y, Turns b s (resumeAt serial b s) y
    ∧ rack y = rack (s.bay b) ∧ ((s.exch b).phase ≠ .resolving → y.card = (s.bay b).card) := by
  unfold resumeAt
  split
  next h => exact ⟨_, (presentAgain_becomes b s).turns, (presentedBay_rack _).trans rfl, fun hno => absurd h.1 hno⟩
  next => exact ⟨_, .refl b s, rfl, fun _ => rfl⟩

/-- A record whose re-application is dropped. -/
def droppedBay (y : Bay) : Bay := { y with reapply := none }

theorem reapplyUnknown_turns (b : BayNo) (s : State) : ∃ y, Turns b s (reapplyUnknown b s) y
    ∧ rack y = rack (s.bay b) ∧ ((s.exch b).phase ≠ .resolving → y.card = (s.bay b).card) := by
  have hdropped := (Becomes.modBay b s droppedBay).turns
  have hresume : ∀ serial (w : State), Turns b s w (w.bay b) → w.bay b = droppedBay (s.bay b) →
      ∃ y, Turns b s (resumeAt serial b w) y ∧ rack y = rack (s.bay b)
        ∧ ((s.exch b).phase ≠ .resolving → y.card = (s.bay b).card) := fun serial w hw hbay => by
    obtain ⟨y, hturns, hrack, hcard⟩ := resumeAt_turns serial b w
    rw [hbay] at hrack hcard
    rw [State.exch, hbay] at hcard
    exact ⟨y, hturns.behind hw, hrack.trans rfl, hcard⟩
  have hbay : (s.modBay b droppedBay).bay b = droppedBay (s.bay b) := State.bay_modBay_self s b droppedBay
  unfold reapplyUnknown
  split
  next r _ =>
    dsimp only
    change ∃ y, Turns b s (match (s.modBay b droppedBay).tearOf r.serial with | some _ => _ | none => _) y ∧ _
    split
    · split
      · exact ⟨_, hdropped, rfl, fun _ => rfl⟩
      · exact hresume r.serial _ (hbay ▸ hdropped.shown (.of_bays rfl rfl rfl rfl)) hbay
    · exact hresume r.serial _ (hbay ▸ hdropped) hbay
  next => exact ⟨_, .refl b s, rfl, fun _ => rfl⟩

theorem presentedBay_card_rack (y : Bay) : rack (presentedBay y) = rack y ∧ (presentedBay y).card = y.card :=
  ⟨presentedBay_rack y, presentedBay_card y⟩

/-- The card command of a lost terminal: the card work alone follows it. -/
theorem lostCommand_turns (c : Option CardSlot) (b : BayNo) (s : State) : ∃ y, Turns b s (lostCommand c b s) y
    ∧ rack y = rack (s.bay b) ∧ ((s.exch b).phase ≠ .resolving → y.card = (s.bay b).card)
    ∧ ((∀ x, c = some x → x.owner = .exchange) → (lostCommand c b s).card = s.card) := by
  cases c with
  | none => exact ⟨_, .refl b s, rfl, fun _ => rfl, fun _ => rfl⟩
  | some x =>
    show ∃ y, Turns b s (presentRead b (if x.owner = .reapplication then reapplyUnknown b s else s)) y ∧ _ ∧ _ ∧ (_ →
      (presentRead b (if x.owner = .reapplication then reapplyUnknown b s else s)).card = s.card)
    by_cases howner : x.owner = .reapplication
    · rw [if_pos howner]
      obtain ⟨y, hturns, hrack, hcard⟩ := reapplyUnknown_turns b s
      refine ⟨_, hturns.step (presentRead_becomes b _).turns presentedBay_plain, (presentedBay_rack y).trans hrack,
        fun h => (presentedBay_card y).trans (hcard h), fun h => ?_⟩
      have hown := h x rfl
      rw [howner] at hown
      cases hown
    · rw [if_neg howner]
      have hread := presentRead_becomes b s
      exact ⟨_, hread.turns, presentedBay_rack _, fun _ => presentedBay_card _, fun _ => hread.card⟩

/-! ### The cause of a lost terminal (R22) -/

/-- What TERMINAL_LOST leads to as it joins: the context's reaction to it, once its causes hold it. -/
theorem terminalLost_joins (h : (s.ctx b).causes.terminalLost = false) : ∃ u,
    Becomes b s u (causedBay .terminalLost true (s.bay b))
    ∧ joinCause .terminalLost b s = recomputeMask b (causeReaction .terminalLost b u) := by
  rw [joinCause_eq (k := .terminalLost) h]
  exact ⟨_, (Becomes.modBay b s (causedBay .terminalLost true)).shown (recomputeMask_becomes b _), rfl⟩

/-- The context's reaction to a lost terminal, by its state. -/
theorem terminalLost_reaction (b : BayNo) (s : State) :
    ((s.ctx b).state = .idle → causeReaction .terminalLost b s = enter .outOfService b s)
    ∧ ((s.ctx b).wait ≠ .places →
      ((s.ctx b).state ∈ [CtxState.opening, .cardRead, .pricing, .priced, .tender] →
        causeReaction .terminalLost b s = enterRefund b s)
      ∧ ((s.ctx b).state = .cardWrite → causeReaction .terminalLost b s =
          if (s.exch b).phase = .writing then writeUnknown b s else cancelWith .cardTimeout b s)
      ∧ ((s.ctx b).state ∈ [CtxState.commit, .payout] →
          causeReaction .terminalLost b s = s.modBay b fun y => { y with ctx := { y.ctx with lostMark := true } }))
    ∧ ((s.ctx b).state ∈ [CtxState.outOfService, .tearWait, .print, .refund] ∨ (s.ctx b).wait = .places ∧ (s.ctx b).state ≠ .idle →
        causeReaction .terminalLost b s = s) := by
  have hlate : (s.ctx b).wait ≠ .places → (s.ctx b).takes = true := fun h => decide_eq_true h
  have hheld : (s.ctx b).wait = .places → (s.ctx b).takes = false := fun h => decide_eq_false (not_not.mpr h)
  unfold causeReaction lostReaction
  dsimp only
  refine ⟨fun h => by rw [h], fun hwait => ⟨fun h => ?_, fun h => by rw [h]; simp only [hlate hwait, if_true], fun h => ?_⟩, fun h => ?_⟩
  · simp only [List.mem_cons, List.not_mem_nil, or_false] at h
    rcases h with h | h | h | h | h <;> rw [h] <;> simp only [hlate hwait, if_true]
  · simp only [List.mem_cons, List.not_mem_nil, or_false] at h
    rcases h with h | h <;> rw [h] <;> simp only [hlate hwait, if_true] <;> rfl
  · rcases h with h | ⟨h, hopen⟩
    · simp only [List.mem_cons, List.not_mem_nil, or_false] at h
      rcases h with h | h | h | h <;> rw [h] <;> simp only [ite_self]
    · rw [hheld h]
      cases hstate : (s.ctx b).state with
      | idle => exact absurd hstate hopen
      | _ => rfl

end
end Sys2Proof.Proofs

/-! PROOFS. Misses and good replies of the bay bus (R196, R197). -/

namespace Sys2Proof.Proofs

open Sys2Proof Sys2Proof.Machine Sys2Proof.Laws

section
variable {b : BayNo} {s t u : State}

/-! ### What the loss has written stays (R197) -/

theorem returnedBay_loss (now : Ms) (y : Bay) : lossOf (returnedBay now y) = lossOf y := by
  unfold returnedBay
  split <;> rfl

theorem refundBay_loss (now : Ms) (y : Bay) : lossOf (refundBay now y) = lossOf y := returnedBay_loss now _

theorem closedBay_loss {site : List (List Byte)} (habsent : siteAbsent site b = false) (now : Ms) (y : Bay) :
    lossOf (closedBay site b now y) = lossOf y := by
  have hemptied : lossOf (emptiedBay now y) = lossOf y := by
    unfold emptiedBay
    split
    · rfl
    · exact returnedBay_loss now y
  unfold closedBay settledBay
  rw [habsent, if_neg fun h => nomatch h.1]
  exact hemptied

theorem enterRefund_loss (habsent : siteAbsent s.site b = false) : lossOf ((enterRefund b s).bay b) = lossOf (s.bay b) := by
  by_cases howed : 0 < (s.ctx b).overflowValue
  · obtain ⟨w, x, -, h⟩ := enterRefund_owes howed
    exact (h.field lossOf fun _ => rfl).trans (refundBay_loss s.now _)
  · obtain ⟨-, h⟩ := enterRefund_closes (show (s.ctx b).overflowValue = 0 by omega)
    rw [h.field lossOf fun _ => rfl, closedBay_loss habsent, refundBay_loss]

theorem presentedBay_loss (y : Bay) : lossOf (presentedBay y) = lossOf y := (congrArg lossOf (presentedBay_rack y) :)

theorem writeUnknown_loss (b : BayNo) (s : State) : lossOf ((writeUnknown b s).bay b) = lossOf (s.bay b) := by
  obtain ⟨x, h, -⟩ := writeUnknown_turns b s
  exact (h.field lossOf fun _ => rfl).trans (presentedBay_loss _)

theorem causeReaction_loss (habsent : siteAbsent s.site b = false) :
    lossOf ((causeReaction .terminalLost b s).bay b) = lossOf (s.bay b) := by
  obtain ⟨hidle, htakes, hstays⟩ := terminalLost_reaction b s
  have hrest : ∀ {u : State}, causeReaction .terminalLost b s = u → lossOf (u.bay b) = lossOf (s.bay b) →
      lossOf ((causeReaction .terminalLost b s).bay b) = lossOf (s.bay b) := fun heq h => heq ▸ h
  have hmarked : lossOf ((s.modBay b fun y => { y with ctx := { y.ctx with lostMark := true } }).bay b) = lossOf (s.bay b) := by
    rw [State.bay_modBay_self]
    rfl
  by_cases hat : (s.ctx b).state = .idle
  · exact hrest (hidle hat) ((enter_becomes .outOfService b s).field lossOf fun _ => rfl)
  · by_cases hwait : (s.ctx b).wait = .places
    · rw [hstays (.inr ⟨hwait, hat⟩)]
    · obtain ⟨hearly, hwrite, hpaid⟩ := htakes hwait
      cases hstate : (s.ctx b).state with
      | idle => exact absurd hstate hat
      | opening => exact hrest (hearly (by rw [hstate]; decide)) (enterRefund_loss habsent)
      | cardRead => exact hrest (hearly (by rw [hstate]; decide)) (enterRefund_loss habsent)
      | pricing => exact hrest (hearly (by rw [hstate]; decide)) (enterRefund_loss habsent)
      | priced => exact hrest (hearly (by rw [hstate]; decide)) (enterRefund_loss habsent)
      | tender => exact hrest (hearly (by rw [hstate]; decide)) (enterRefund_loss habsent)
      | cardWrite =>
        refine hrest (hwrite hstate) ?_
        split
        · exact writeUnknown_loss b s
        · exact ((refuse_becomes .cardTimeout b _).field lossOf fun _ => rfl).trans (enterRefund_loss habsent)
      | commit => exact hrest (hpaid (by rw [hstate]; decide)) hmarked
      | payout => exact hrest (hpaid (by rw [hstate]; decide)) hmarked
      | outOfService => rw [hstays (.inl (by rw [hstate]; decide))]
      | tearWait => rw [hstays (.inl (by rw [hstate]; decide))]
      | print => rw [hstays (.inl (by rw [hstate]; decide))]
      | refund => rw [hstays (.inl (by rw [hstate]; decide))]

theorem joinLoss_writes (habsent : siteAbsent s.site b = false) : lossOf ((joinCause .terminalLost b s).bay b) =
    ((s.bay b).term.state, (s.bay b).term.recoveryStart, true) := by
  cases h : (s.ctx b).causes.terminalLost with
  | true =>
    rw [show joinCause .terminalLost b s = s from if_pos h, lossOf, show (s.bay b).ctx.causes.terminalLost = true from h]
  | false =>
    obtain ⟨u, hu, heq⟩ := terminalLost_joins h
    rw [heq, (recomputeMask_becomes b _).field lossOf fun _ => rfl, causeReaction_loss (by rw [hu.site]; exact habsent),
      hu.field lossOf fun _ => rfl]
    rfl

/-! ### Behind the cause -/

/-- A record of a terminal just LOST. -/
def lostBay (now : Ms) (y : Bay) : Bay :=
  { y with term := { y.term with state := .lost, misses := 3, recoveryStart := some now, cardSlot := none } }

/-- A record whose printer has no credit and nothing in flight. -/
def creditless (y : Bay) : Bay :=
  { y with printer := { y.printer with credit := 0 }, inFlight := 0, chunkMark := none }

/-- What follows the cause of a lost terminal whose card slot held c. -/
def lostTail (c : Option CardSlot) (b : BayNo) (s : State) : State :=
  let u := (lostCommand c b s).modBay b creditless
  notify (.terminal b .lost) (receiptTaken? b (cutJob b u))

theorem terminalLost_eq (b : BayNo) (s : State) : terminalLost b s =
    lostTail (s.slot b) b (joinCause .terminalLost b (s.modBay b (lostBay s.now))) := rfl

/-- A context but for what is shown of it. -/
def quiet (c : Ctx) : Ctx := { c with holdCause := .none, overlay := .none }

/-- What the loss leaves of state s, once TERMINAL_LOST has joined. -/
structure LossHandled (c : Option CardSlot) (b : BayNo) (s t : State) : Prop where
  turns : Turns b s t (t.bay b)
  kept : ¬ AwaitsReceipt s b → quiet (t.ctx b) = quiet (s.ctx b) ∧ (t.bay b).escrow = (s.bay b).escrow
    ∧ ((s.exch b).phase ≠ .resolving → t.exch b = s.exch b)
  card : ¬ AwaitsReceipt s b → (∀ x, c = some x → x.owner = .exchange) → t.card = s.card
  loss : lossOf (t.bay b) = lossOf (s.bay b)
  credit : (t.bay b).printer.credit = 0
  flight : (t.bay b).inFlight = 0
  receipt : AwaitsReceipt s b → ∀ j, (s.bay b).seq.job = some j → j.kind = .sale →
    (t.ctx b).state = .print ∧ (t.ctx b).wait = .adjust ∧ (t.ctx b).receiptOutcome = (s.bay b).seq.cutOutcome

theorem lostTail_handles (c : Option CardSlot) (hterm : (s.bay b).term.state = .lost) : LossHandled c b s (lostTail c b s) := by
  obtain ⟨y, hcommand, hrack, hcard, hunit⟩ := lostCommand_turns c b s
  have hu := hcommand.mod creditless fun _ => rfl
  have hcardUnit : ((lostCommand c b s).modBay b creditless).card = (lostCommand c b s).card := rfl
  unfold lostTail
  dsimp only
  rw [← hcardUnit] at hunit
  generalize (lostCommand c b s).modBay b creditless = u at *
  have hfield : ∀ {α : Type} (p : Bay → α), (∀ z, p (core z) = p z) → (∀ z, p (rack z) = p z) → (∀ z, p (creditless z) = p z) →
      p (u.bay b) = p (s.bay b) := fun p hcore hr hcredit => by
    rw [hu.field p hcore, hcredit, ← hr y, hrack, hr]
  have hquiet : quiet (u.ctx b) = quiet (s.ctx b) := hfield (fun z => quiet z.ctx) (fun _ => rfl) (fun _ => rfl) fun _ => rfl
  have hawaits : AwaitsReceipt u b ↔ AwaitsReceipt s b := by
    have hstate : (u.ctx b).state = (s.ctx b).state := (congrArg Ctx.state hquiet :)
    have hwait : (u.ctx b).wait = (s.ctx b).wait := (congrArg Ctx.wait hquiet :)
    rw [AwaitsReceipt, AwaitsReceipt, hstate, hwait]
  have hloss : lossOf (u.bay b) = lossOf (s.bay b) := hfield lossOf (fun _ => rfl) (fun _ => rfl) fun _ => rfl
  have hseq : (u.bay b).seq = (s.bay b).seq := hfield Bay.seq (fun _ => rfl) (fun _ => rfl) fun _ => rfl
  have hlost : (u.bay b).term.state = .lost := (congrArg Prod.fst hloss).trans hterm
  have hflight : (u.bay b).inFlight = 0 := hu.field Bay.inFlight fun _ => rfl
  obtain ⟨z, hturns, hz, hprinter, hfree, hstays⟩ := lostJob_leads hlost hflight
  have hsale := fun j (hj : (u.bay b).seq.job = some j) hkind => (cutJob_leads hj hkind).1
  have hnoticed : ∀ v : State, Turns b u v z → Turns b s (notify (.terminal b .lost) v) z := fun v hv =>
    (hv.shown (notify_turns b v _)).behind hu
  have hnotice : ∀ v : State, (notify (.terminal b .lost) v).bays = v.bays ∧ (notify (.terminal b .lost) v).card = v.card :=
    fun v => ⟨rfl, rfl⟩
  generalize receiptTaken? b (cutJob b u) = v at *
  obtain ⟨hothers, htime, hbus, hsite, hbay⟩ := hnoticed v hturns
  refine ⟨⟨hothers, htime, hbus, hsite, rfl⟩, fun hno => ?_, fun hno howner => ?_, ?_, ?_, ?_, fun hyes j hj hkind => ?_⟩
  · obtain ⟨hctx, hescrow, hexch, -⟩ := hstays (hawaits.not.mpr hno)
    refine ⟨?_, ?_, fun hphase => ?_⟩
    · refine Eq.trans ?_ hquiet
      rw [← hctx]
      exact hturns.field (fun z => quiet z.ctx) fun _ => rfl
    · exact (hturns.field Bay.escrow fun _ => rfl).trans (hescrow.trans (hfield Bay.escrow (fun _ => rfl) (fun _ => rfl) fun _ => rfl))
    · exact (hturns.field Bay.card fun _ => rfl).trans (hexch.trans ((hu.field Bay.card fun _ => rfl).trans (hcard hphase)))
  · obtain ⟨-, -, -, hunit'⟩ := hstays (hawaits.not.mpr hno)
    exact hunit'.trans (hunit howner)
  · exact (hturns.field lossOf fun _ => rfl).trans (hz.trans hloss)
  · exact (hturns.field (fun z => z.printer.credit) fun _ => rfl).trans ((congrArg Printer.credit hprinter).trans
      (hu.field (fun z => z.printer.credit) fun _ => rfl))
  · exact (hturns.field Bay.inFlight fun _ => rfl).trans hfree
  · obtain ⟨hadjusted, -⟩ := hsale j (hseq ▸ hj) hkind (hawaits.mpr hyes)
    rw [hseq] at hadjusted
    obtain ⟨hstate, -⟩ := hawaits.mpr hyes
    exact ⟨(hadjusted.field (fun z => z.ctx.state) fun _ => rfl).trans hstate, hadjusted.field (fun z => z.ctx.wait) fun _ => rfl,
      hadjusted.field (fun z => z.ctx.receiptOutcome) fun _ => rfl⟩
end
end Sys2Proof.Proofs

/-! PROOFS. The exchanges of the bay bus: misses, the loss of a terminal, and good replies (R22, R196, R197). -/

namespace Sys2Proof.Proofs

open Sys2Proof Sys2Proof.Machine Sys2Proof.Laws

section
variable {b : BayNo} {s t u v : State} {c : Option CardSlot}

/-! ### A terminal's loss handed on (R197) -/

theorem quiet_field {α : Type} {c d : Ctx} (p : Ctx → α) (hp : ∀ c, p (quiet c) = p c) (h : quiet c = quiet d) : p c = p d := by
  rw [← hp c, h, hp]

theorem LossHandled.ctx (h : LossHandled c b s t) (hstate : (s.ctx b).state ≠ .print) : quiet (t.ctx b) = quiet (s.ctx b) :=
  (h.kept fun ha => hstate ha.1).1

theorem LossHandled.state (h : LossHandled c b s t) (hstate : (s.ctx b).state ≠ .print) : (t.ctx b).state = (s.ctx b).state :=
  quiet_field Ctx.state (fun _ => rfl) (h.ctx hstate)

/-- A transaction that TERMINAL_LOST cancelled stays cancelled. -/
theorem LossHandled.cancelled (h : LossHandled c b (recomputeMask b v) t) (hv : Cancelled s v b) : Cancelled s t b := by
  have hmasked := cancelled_turn hv (recomputeMask_becomes b v).turns rfl rfl rfl rfl rfl rfl
  generalize recomputeMask b v = w at *
  have hstate := cancelled_state hmasked
  have hopen : (w.ctx b).state ≠ .print := fun hp => by
    rw [hp] at hstate
    exact absurd hstate (by decide)
  have hquiet := h.ctx hopen
  obtain ⟨-, hescrow, hexch⟩ := h.kept fun ha => hopen ha.1
  have hidle : (w.exch b).phase ≠ .resolving := by
    rw [hmasked.1]
    exact nofun
  exact cancelled_turn hmasked h.turns (hexch hidle) hescrow (quiet_field Ctx.coins (fun _ => rfl) hquiet) (quiet_field Ctx.state (fun _ => rfl) hquiet)
    (quiet_field Ctx.causes (fun _ => rfl) hquiet) (quiet_field Ctx.bank (fun _ => rfl) hquiet)

/-- A record whose terminal is LOST and whose causes say so. -/
def caughtBay (now : Ms) (y : Bay) : Bay := causedBay .terminalLost true (lostBay now y)

/-- A loss whose cause stands already. -/
theorem terminalLost_known (habsent : siteAbsent s.site b = false) :
    lossOf ((terminalLost b s).bay b) = (.lost, some s.now, true)
    ∧ ((terminalLost b s).bay b).printer.credit = 0 ∧ ((terminalLost b s).bay b).inFlight = 0 := by
  have hlost : ((s.modBay b (lostBay s.now)).bay b) = lostBay s.now (s.bay b) := State.bay_modBay_self s b _
  have hjoined := joinLoss_writes (b := b) (s := s.modBay b (lostBay s.now)) habsent
  rw [hlost] at hjoined
  have hterm : ((joinCause .terminalLost b (s.modBay b (lostBay s.now))).bay b).term.state = .lost :=
    (congrArg Prod.fst hjoined).trans rfl
  have hhandled := lostTail_handles (s.slot b) hterm
  rw [terminalLost_eq]
  exact ⟨hhandled.loss.trans (hjoined.trans rfl), hhandled.credit, hhandled.flight⟩

/-- A loss whose cause joins: the context's reaction comes first. -/
theorem terminalLost_fresh (hfresh : (s.ctx b).causes.terminalLost = false) (habsent : siteAbsent s.site b = false) : ∃ u,
    Becomes b s u (caughtBay s.now (s.bay b))
    ∧ LossHandled (s.slot b) b (recomputeMask b (causeReaction .terminalLost b u)) (terminalLost b s) := by
  have hlost := Becomes.modBay b s (lostBay s.now)
  have hbay : ((s.modBay b (lostBay s.now)).bay b) = lostBay s.now (s.bay b) := State.bay_modBay_self s b _
  have hjoined := joinLoss_writes (b := b) (s := s.modBay b (lostBay s.now)) habsent
  rw [terminalLost_eq]
  obtain ⟨u, hu, heq⟩ := terminalLost_joins (b := b) (s := s.modBay b (lostBay s.now)) (by rw [State.ctx, hbay]; exact hfresh)
  rw [hbay] at hjoined
  rw [heq] at hjoined ⊢
  have hterm : ((recomputeMask b (causeReaction .terminalLost b u)).bay b).term.state = .lost :=
    (congrArg Prod.fst hjoined).trans rfl
  refine ⟨u, hlost.step (g := causedBay .terminalLost true) hu fun _ => rfl, lostTail_handles (s.slot b) hterm⟩

theorem writeUnknown_waits (b : BayNo) (s : State) : ((writeUnknown b s).ctx b).state = .tearWait
    ∧ (writeUnknown b s).exch b = ⟨.presenting, some .retrn, none, none, none, none, none⟩
    ∧ (writeUnknown b s).card = (formTear b s).card := by
  obtain ⟨x, hturns, -, -, hcard⟩ := writeUnknown_turns b s
  refine ⟨?_, ?_, hcard⟩
  · rw [State.ctx, hturns.field (fun y => y.ctx.state) fun _ => rfl, tornBay_ctx]
    rfl
  · rw [State.exch, hturns.field Bay.card fun _ => rfl, tornBay_card]

/-- TERMINAL_LOST acts on the transaction (R22). -/
theorem terminalLost_acts (hfresh : (s.ctx b).causes.terminalLost = false) (habsent : siteAbsent s.site b = false)
    (htakes : (s.ctx b).wait ≠ .places) (ht : Resealed (terminalLost b s) t) :
    ((s.ctx b).state = .idle → (t.ctx b).state = .outOfService)
    ∧ ((s.ctx b).state ∈ [CtxState.opening, .cardRead, .pricing, .priced, .tender] → Cancelled s t b)
    ∧ ((s.ctx b).state = .cardWrite → (s.exch b).phase ≠ .writing → Cancelled s t b ∧ (t.ctx b).lastRefusal = some .cardTimeout)
    ∧ ((s.ctx b).state = .cardWrite → (s.exch b).phase = .writing →
        (t.ctx b).state = .tearWait ∧ (t.exch b).phase = .presenting ∧ (t.exch b).purpose = some .retrn
        ∧ (∀ r v, (s.exch b).request = some r → (s.exch b).fresh = some v → s.retrying b = false →
            (s.bay b).reserved = true → s.tearOf v.serial = none → (∀ c, s.slot b = some c → c.owner = .exchange) →
            ⟨v.serial, b, r.op, r.amount, r.pass, v.pseq, v.balance, s.time.calendar, .openTxn, false⟩ ∈ t.card.tears))
    ∧ ((s.ctx b).state ∈ [CtxState.commit, .payout] → (t.ctx b).state = (s.ctx b).state ∧ (t.ctx b).lostMark = true)
    ∧ ((s.ctx b).state ∈ [CtxState.tearWait, .refund] → (t.ctx b).state = (s.ctx b).state) := by
  obtain ⟨u, hu, hhandled⟩ := terminalLost_fresh hfresh habsent
  generalize terminalLost b s = w at hhandled ht
  obtain ⟨hidle, hopen, hstays⟩ := terminalLost_reaction b u
  have hstate : (u.ctx b).state = (s.ctx b).state := hu.field (fun y => y.ctx.state) fun _ => rfl
  have hwait : (u.ctx b).wait = (s.ctx b).wait := hu.field (fun y => y.ctx.wait) fun _ => rfl
  have hexch : u.exch b = s.exch b := hu.field Bay.card fun _ => rfl
  obtain ⟨hearly, hwrite, hpaid⟩ := hopen (hwait ▸ htakes)
  rw [hstate] at hidle hearly hwrite hpaid hstays
  rw [hexch] at hwrite
  have hmasked : ∀ x : State, ((recomputeMask b x).ctx b).state = (x.ctx b).state := fun x =>
    (recomputeMask_becomes b x).field (fun y => y.ctx.state) fun _ => rfl
  have hleaves : ∀ {x : State}, causeReaction .terminalLost b u = x → (x.ctx b).state ≠ .print →
      quiet (t.ctx b) = quiet (x.ctx b) := fun {x} heq hprint => by
    rw [heq] at hhandled
    rw [ht.ctx, hhandled.ctx ((hmasked x).symm ▸ hprint)]
    exact (recomputeMask_becomes b x).field (fun y => quiet y.ctx) fun _ => rfl
  have hsince : ∀ {x : State}, causeReaction .terminalLost b u = x → Cancelled u x b → Cancelled s t b := fun heq hx => by
    rw [heq] at hhandled
    exact cancelled_resealed (hhandled.cancelled (cancelled_since hx (hu.field (fun y => y.ctx.overflowValue) fun _ => rfl)
      (hu.field (fun y => y.escrow.pulse) fun _ => rfl) hu.time)) ht
  refine ⟨fun h => ?_, fun h => hsince (hearly h) (cancelled_enterRefund b u), fun h hphase => ?_, fun h hphase => ?_, fun h => ?_, fun h => ?_⟩
  · have hentered : ((enter .outOfService b u).ctx b).state = .outOfService :=
      (enter_becomes .outOfService b u).field (fun y => y.ctx.state) fun _ => rfl
    have hquiet := hleaves (hidle h) (by rw [hentered]; decide)
    exact (quiet_field Ctx.state (fun _ => rfl) hquiet).trans hentered
  · have heq := (hwrite h).trans (if_neg hphase)
    have hcancelled := cancelled_cancelWith .cardTimeout b u
    have hquiet := hleaves heq fun hp => by
      have hend := cancelled_state hcancelled
      rw [hp] at hend
      exact absurd hend (by decide)
    exact ⟨hsince heq hcancelled, (quiet_field Ctx.lastRefusal (fun _ => rfl) hquiet).trans (cancelWith_refusal .cardTimeout b u)⟩
  · have heq := (hwrite h).trans (if_pos hphase)
    obtain ⟨htorn, hwaits, hcard⟩ := writeUnknown_waits b u
    have hquiet := hleaves heq (by rw [htorn]; decide)
    rw [heq] at hhandled
    have hmask := recomputeMask_becomes b (writeUnknown b u)
    have hexch' : (recomputeMask b (writeUnknown b u)).exch b = _ := (hmask.field Bay.card fun _ => rfl).trans hwaits
    have hquietMask : ((recomputeMask b (writeUnknown b u)).ctx b).state = .tearWait := (hmasked _).trans htorn
    have hcardMask : (recomputeMask b (writeUnknown b u)).card = (formTear b u).card := hmask.card.trans hcard
    generalize recomputeMask b (writeUnknown b u) = j at *
    have hno : ¬ AwaitsReceipt j b := fun ha => by
      have := ha.1
      rw [hquietMask] at this
      cases this
    obtain ⟨-, -, hcard'⟩ := hhandled.kept hno
    have hexchT : t.exch b = _ := (ht.exch b).trans ((hcard' (by rw [hexch']; exact nofun)).trans hexch')
    refine ⟨(quiet_field Ctx.state (fun _ => rfl) hquiet).trans htorn, by rw [hexchT], by rw [hexchT], fun r x hrequest hfresh hretry hreserved htear howner => ?_⟩
    obtain ⟨-, hformed⟩ := formTear_new (b := b) (s := u) (hexch ▸ hrequest) (hexch ▸ hfresh)
      (by unfold State.retrying; rw [hu.card]; exact hretry)
      ((hu.field Bay.reserved fun _ => rfl).trans hreserved) (by unfold State.tearOf; rw [hu.card]; exact htear)
    rw [ht.card, hhandled.card hno howner, hcardMask, hformed, hu.time]
    exact List.mem_append_right _ (List.mem_singleton.mpr rfl)
  · have hmarked : ((u.modBay b fun y => { y with ctx := { y.ctx with lostMark := true } }).ctx b) = { u.ctx b with lostMark := true } := by
      rw [State.ctx, State.bay_modBay_self]
      rfl
    have hquiet := hleaves (hpaid h) (by
      rw [hmarked]
      exact fun hp => by
        rw [← hstate, hp] at h
        exact absurd h (by decide))
    rw [hmarked] at hquiet
    exact ⟨(quiet_field Ctx.state (fun _ => rfl) hquiet).trans hstate, (quiet_field Ctx.lostMark (fun _ => rfl) hquiet)⟩
  · have hquiet := hleaves (hstays (.inl (by
      simp only [List.mem_cons, List.not_mem_nil, or_false] at h ⊢
      rcases h with h | h
      · exact .inr (.inl h)
      · exact .inr (.inr (.inr h))))) (fun hp => by
        rw [← hstate, hp] at h
        exact absurd h (by decide))
    exact (quiet_field Ctx.state (fun _ => rfl) hquiet).trans hstate

/-- A SALE job cut by the loss of its terminal leads to its ADJUST (R146, R17). -/
theorem terminalLost_cuts {j : Job} (habsent : siteAbsent s.site b = false) (hstate : (s.ctx b).state = .print)
    (hwait : (s.ctx b).wait = .receipt) (hjob : (s.bay b).seq.job = some j) (hkind : j.kind = .sale)
    (ht : Resealed (terminalLost b s) t) :
    (t.ctx b).state = .print ∧ (t.ctx b).wait = .adjust
    ∧ (t.ctx b).receiptOutcome = (if (s.bay b).seq.sent = 0 then .failed else .partly) := by
  have hjoins : ∃ u y, Becomes b s u y ∧ LossHandled (s.slot b) b u (terminalLost b s) ∧ y.ctx.state = (s.ctx b).state
      ∧ y.ctx.wait = (s.ctx b).wait ∧ y.seq = (s.bay b).seq := by
    cases hcause : (s.ctx b).causes.terminalLost with
    | false =>
      obtain ⟨u, hu, hhandled⟩ := terminalLost_fresh hcause habsent
      have hprint : (u.ctx b).state = .print := (hu.field (fun y => y.ctx.state) fun _ => rfl).trans hstate
      obtain ⟨-, -, hstays⟩ := terminalLost_reaction b u
      rw [hstays (.inl (by rw [hprint]; decide))] at hhandled
      exact ⟨_, _, hu.shown (recomputeMask_becomes b u), hhandled, rfl, rfl, rfl⟩
    | true =>
      have hlost := Becomes.modBay b s (lostBay s.now)
      have hbay : ((s.modBay b (lostBay s.now)).bay b) = lostBay s.now (s.bay b) := State.bay_modBay_self s b _
      have heq : joinCause .terminalLost b (s.modBay b (lostBay s.now)) = s.modBay b (lostBay s.now) :=
        if_pos (by rw [State.ctx, hbay]; exact hcause)
      rw [terminalLost_eq, heq]
      exact ⟨_, _, hlost, lostTail_handles _ (by rw [hbay]; rfl), rfl, rfl, rfl⟩
  obtain ⟨u, y, hu, hhandled, hys, hyw, hyq⟩ := hjoins
  have hseq : (u.bay b).seq = (s.bay b).seq := (hu.field Bay.seq fun _ => rfl).trans hyq
  have hcut := hhandled.receipt ⟨(hu.field (fun y => y.ctx.state) fun _ => rfl).trans (hys.trans hstate),
    (hu.field (fun y => y.ctx.wait) fun _ => rfl).trans (hyw.trans hwait)⟩ j (hseq ▸ hjob) hkind
  rw [hseq] at hcut
  rw [ht.ctx]
  exact hcut
end
end Sys2Proof.Proofs

/-! PROOFS. How an exchange on the bay bus ends (R195 to R197). -/

namespace Sys2Proof.Proofs

open Sys2Proof Sys2Proof.Machine Sys2Proof.Laws

section
variable {b : BayNo} {s t u : State} {x : BusExchange} {r : BusReply}

/-! ### Misses (R196, R197) -/

/-- The exchange on the line has ended without a good reply. -/
def missedOn (bad : Bool) (s : State) : State := if bad then countBadReply (endBusExchange s) else endBusExchange s

theorem missedOn_bus (bad : Bool) (s : State) : missedOn bad s = { s with bus := (missedOn bad s).bus }
    ∧ (missedOn bad s).bus.exchange = none ∧ (missedOn bad s).bus.inbox = s.bus.inbox
    ∧ (missedOn bad s).bus.badReplies = (if bad then min (s.bus.badReplies + 1) 65535 else s.bus.badReplies) := by
  cases bad <;> exact ⟨rfl, rfl, rfl, rfl⟩

/-- The three ways an exchange ends without a good reply. -/
theorem missed_exec {c : Instr} {bad : Bool} (hexchange : s.bus.exchange = some x)
    (h : (c = .replyWindowExpiry ∧ bad = false ∧ 5 ≤ (s.time.ms - x.builtAt).toNat) ∨ (c = .replyGapExpiry ∧ bad = true)
      ∨ (∃ bytes, c = .replyReceived bytes ∧ bad = true ∧ parseReply bytes = none)) :
    exec c s = done s (miss x.poll.bay (missedOn bad s)) := by
  rcases h with ⟨rfl, rfl, hlate⟩ | ⟨rfl, rfl⟩ | ⟨bytes, rfl, rfl, hparse⟩
  · show execReplyWindowExpiry s = _
    unfold execReplyWindowExpiry
    simp only [hexchange]
    rw [if_pos (passed_of (n := Config.replyWindow) hlate)]
    rfl
  · show execReplyGapExpiry s = _
    unfold execReplyGapExpiry
    simp only [hexchange]
    rfl
  · show execReplyReceived bytes s = _
    unfold execReplyReceived
    simp only [hexchange, hparse]
    rfl

theorem miss_first (h : (s.bay b).term.state = .present) :
    miss b s = s.modTerm b fun t => { t with state := .missing, misses := 1 } := by
  unfold miss
  simp only [h]

theorem miss_second (h : (s.bay b).term.state = .missing) (hfew : (s.bay b).term.misses < 2) :
    miss b s = s.modTerm b fun t => { t with misses := t.misses + 1 } := by
  unfold miss
  simp only [h]
  rw [if_pos hfew]

theorem miss_third (h : (s.bay b).term.state = .missing) (hmany : 2 ≤ (s.bay b).term.misses) : miss b s = terminalLost b s := by
  unfold miss
  simp only [h]
  rw [if_neg (by omega)]

/-- A change of bay b's terminal alone. -/
theorem modTerm_changes (f : Terminal → Terminal) (ht : Resealed (s.modTerm b f) t) : OtherBays b s t
    ∧ t.bay b = { s.bay b with term := f (s.bay b).term } :=
  ⟨fun c hc => (ht.bay c).trans (State.bay_modBay_ne s hc fun y => { y with term := f y.term }),
    (ht.bay b).trans (State.bay_modBay_self s b fun y => { y with term := f y.term })⟩

/-! ### Good replies (R196, R197) -/

theorem leaveCause_term (k : Cause) (b : BayNo) (s : State) : ((leaveCause k b s).bay b).term = (s.bay b).term := by
  unfold leaveCause recomputeMask State.modCtx
  rw [State.bay_modBay_self, State.bay_modBay_self]

/-- A record of a LOST terminal that is heard again. -/
def heardBay (y : Bay) : Bay :=
  { y with term := { y.term with state := .present, misses := 0, recoveryStart := none, displayPending := true,
                                 displayOnLine := false } }

/-- What a terminal that is heard again reads. -/
structure Heard (b : BayNo) (s t : State) : Prop where
  turns : OtherBays b s t ∧ t.bus = s.bus ∧ t.tariff = s.tariff ∧ t.journal = s.journal ∧ t.card = s.card
  back : (s.bay b).term.state = .missing ∨ (s.bay b).term.state = .lost → (t.bay b).term.state = .present
    ∧ (t.bay b).term.misses = 0 ∧ (t.ctx b).causes.terminalLost = false
  shown : (s.bay b).term.state = .lost → (t.bay b).term.displayPending = true

theorem Becomes.heard {y : Bay} (h : Becomes b s t y) : OtherBays b s t ∧ t.bus = s.bus ∧ t.tariff = s.tariff
    ∧ t.journal = s.journal ∧ t.card = s.card := ⟨h.others, h.bus, h.tariff, h.journal, h.card⟩

theorem terminalHeard_heard (b : BayNo) (s : State) : Heard b s (terminalHeard b s) := by
  have hleft : ∀ v : State, ((leaveCause .terminalLost b v).ctx b).causes.terminalLost = false := fun v =>
    (leaveCause_becomes .terminalLost b v).field (fun y => y.ctx.causes.terminalLost) fun _ => rfl
  have hterm := leaveCause_term .terminalLost b
  unfold terminalHeard
  cases hstate : (s.bay b).term.state with
  | missing =>
    have hback := Becomes.modBay b s fun y => { y with term := { y.term with state := .present, misses := 0 } }
    have hbay : (s.modTerm b fun t => { t with state := .present, misses := 0 }).bay b =
        { s.bay b with term := { (s.bay b).term with state := .present, misses := 0 } } := State.bay_modBay_self s b _
    dsimp only
    split
    next h =>
      refine ⟨(hback.step (g := causedBay .terminalLost false) (leaveCause_becomes .terminalLost b _) fun _ => rfl).heard,
        fun _ => ⟨?_, ?_, hleft _⟩, fun h => nomatch hstate.symm.trans h⟩ <;> rw [hterm, hbay]
    next h =>
      refine ⟨hback.heard, fun _ => ⟨by rw [hbay], by rw [hbay], ?_⟩, fun h => nomatch hstate.symm.trans h⟩
      exact Bool.eq_false_iff.mpr h
  | lost =>
    have hback := Becomes.modBay b s (heardBay)
    have hleave := leaveCause_becomes .terminalLost b (s.modBay b heardBay)
    have hlost := (hback.step (g := causedBay .terminalLost false) hleave fun _ => rfl).heard
    have hbay : ((leaveCause .terminalLost b (s.modBay b heardBay)).bay b).term = (heardBay (s.bay b)).term :=
      (hterm _).trans (congrArg Bay.term (State.bay_modBay_self s b heardBay))
    refine ⟨hlost, fun _ => ⟨?_, ?_, hleft _⟩, fun _ => ?_⟩
    · exact (congrArg Terminal.state hbay :)
    · exact (congrArg Terminal.misses hbay :)
    · exact (congrArg Terminal.displayPending hbay :)
  | present => exact ⟨(Becomes.refl b s).heard, fun h => (by rw [hstate] at h; rcases h with h | h <;> cases h),
      fun h => nomatch hstate.symm.trans h⟩
  | absent => exact ⟨(Becomes.refl b s).heard, fun h => (by rw [hstate] at h; rcases h with h | h <;> cases h),
      fun h => nomatch hstate.symm.trans h⟩

theorem goodReply_taken {bytes : List Byte} (hexchange : s.bus.exchange = some x) (hparse : parseReply bytes = some r)
    (haddress : r.address = x.poll.bay.val) : exec (.replyReceived bytes) s = done s (goodReply x r s) := by
  show execReplyReceived bytes s = _
  unfold execReplyReceived
  simp only [hexchange, hparse]
  rw [if_pos haddress]

/-- Settles O35. -/
theorem pollEndsGoodOrMissed : Obligations.PollEndsGoodOrMissed := by
  refine ⟨fun c bad s x hexchange h => ?_, fun s x bytes r hexchange hparse haddress hkey => ?_⟩
  · have hexec := missed_exec hexchange h
    obtain ⟨hrest, hnone, hinbox, hcount⟩ := missedOn_bus bad s
    obtain ⟨t, e, ht⟩ := done_resealed s (miss x.poll.bay (missedOn bad s))
    have hwork := miss_work (P := (· = x.poll.bay)) rfl (missedOn bad s)
    have hbus : t.bus = (missedOn bad s).bus := ht.bus.trans hwork.bus
    have hothers : OtherContexts x.poll.bay s t := fun c hc => by
      rw [ht.ctx, State.ctx, hwork.otherBays c hc, hrest]
      rfl
    dsimp only
    refine ⟨t, hexec.trans e, ?_, ?_, hothers, ?_, ?_⟩
    · rw [hbus, hnone]
    · rw [hbus, hinbox]
    · rw [hbus, hcount]
    rw [hrest] at ht
    generalize (missedOn bad s).bus = o at ht
    refine ⟨fun hstate => ?_, fun hstate hfew => ?_, fun hstate hmany habsent => ?_⟩
    · rw [miss_first (s := { s with bus := o }) hstate] at ht
      exact modTerm_changes _ ht
    · rw [miss_second (s := { s with bus := o }) hstate hfew] at ht
      exact modTerm_changes _ ht
    · rw [miss_third (s := { s with bus := o }) hstate hmany] at ht
      obtain ⟨hloss, hcredit, hflight⟩ := terminalLost_known (b := x.poll.bay) (s := { s with bus := o }) habsent
      rw [← ht.bay] at hloss hcredit hflight
      exact ⟨congrArg Prod.fst hloss, congrArg (fun p => p.2.1) hloss, congrArg (fun p => p.2.2) hloss, hcredit, hflight,
        fun hfresh htakes => terminalLost_acts (s := { s with bus := o }) hfresh habsent htakes ht,
        fun hprint hwait j hjob hkind => terminalLost_cuts (s := { s with bus := o }) habsent hprint hwait hjob hkind ht⟩
  · obtain ⟨t, e, ht⟩ := done_resealed s (goodReply x r s)
    have hreached := Becomes.modBay x.poll.bay s fun y => { y with term := y.term.reached x.poll }
    have hbay : (endBusExchange (s.modTerm x.poll.bay fun t => t.reached x.poll)).bay x.poll.bay =
        { s.bay x.poll.bay with term := (s.bay x.poll.bay).term.reached x.poll } :=
      State.bay_modBay_self s _ fun y => { y with term := y.term.reached x.poll }
    obtain ⟨⟨hothers, hbus, htariff, hjournal, hcard⟩, hback, hshown⟩ :=
      terminalHeard_heard x.poll.bay (endBusExchange (s.modTerm x.poll.bay fun t => t.reached x.poll))
    rw [hbay] at hback hshown
    unfold goodReply at ht
    dsimp only at ht
    rw [hkey] at ht
    generalize terminalHeard x.poll.bay (endBusExchange (s.modTerm x.poll.bay fun t => t.reached x.poll)) = v at *
    have hbayT : t.bay = v.bay := by rw [ht]; rfl
    dsimp only
    refine ⟨t, (goodReply_taken hexchange hparse haddress).trans e, ?_, ?_, fun c hc => ?_, ?_, ?_, ht.tariff.trans htariff,
      ht.journal.trans hjournal, ht.card.trans hcard, ?_, ?_⟩
    · rw [ht.bus]
      exact congrArg Bus.exchange hbus
    · rw [ht.bus]
      exact (congrArg Bus.badReplies hbus :)
    · rw [hbayT]
      exact (hothers c hc).trans (hreached.others c hc)
    · rw [ht.bus]
      rfl
    · rw [ht.bus]
      rfl
    · rw [State.ctx, hbayT]
      exact hback
    · rw [hbayT]
      exact hshown
end
end Sys2Proof.Proofs

/-! PROOFS. The link reset (R174, R176, R191). -/

namespace Sys2Proof.Proofs

open Sys2Proof Sys2Proof.Machine Sys2Proof.Laws

section
variable {b : BayNo} {s t u : State}

/-! ### What a request to the Journal Unit leaves (R155, R156) -/

/-- The acknowledged mark, the last sequence and the hold list. -/
def marks (j : Journal) : Nat × Nat × List Nat := (j.acked, j.last, j.holdList)

theorem modRow_marks (j : Journal) (i : Nat) (f : Row → Row) : marks (j.modRow i f) = marks j := by
  unfold Journal.modRow
  split <;> rfl

theorem modBlock_marks (j : Journal) (i : Nat) (f : Block → Block) : marks (j.modBlock i f) = marks j := by
  unfold Journal.modBlock
  split <;> rfl

theorem closeActive_marks (j : Journal) : marks j.closeActive = marks j := by
  unfold Journal.closeActive
  split
  · exact (modRow_marks _ _ _).trans (modBlock_marks j _ _)
  · rfl

theorem activate_marks {j k : Journal} (h : j.activate = some k) : marks k = marks j := by
  unfold Journal.activate at h
  split at h
  · cases h
    exact (modRow_marks (j.modBlock _ _) _ _).trans (modBlock_marks j _ _)
  · cases h

theorem settleErase_marks (j : Journal) (now : Ms) (low : Bool) : marks (j.settleErase now low) = marks j := by
  unfold Journal.settleErase
  split
  · split
    · split <;> rfl
    · split <;> rfl
  · rfl

theorem request_marks (j : Journal) (r : Machine.Append) : marks (j.request r) = marks j := by
  unfold Journal.request
  repeat' split
  all_goals rfl

theorem engineTake_marks (s : State) : marks (engineTake s).journal = marks s.journal := by
  rcases engineTake_journal s with ⟨hsame, -⟩ | ⟨r, rest, -, -, htaken⟩
  · rw [hsame]
  · rw [htaken]
    unfold taken
    split
    · rfl
    · split
      · rfl
      · cases h : s.journal.closeActive.activate with
        | some k => exact (activate_marks h).trans (closeActive_marks _)
        | none => rfl

/-- From s to t nothing has happened but that records were asked for: the journal takes them, a notice may be handed over,
and what is asked of a bay is marked in its box's closure slot. -/
structure Asks (s t : State) : Prop where
  time   : t.time = s.time
  tariff : t.tariff = s.tariff
  card   : t.card = s.card
  marks  : Proofs.marks t.journal = Proofs.marks s.journal
  rim    : Proofs.rim t.link = Proofs.rim s.link
  hushed : Hushed s.link → Hushed t.link
  bays   : ∀ c, ∃ x, t.bay c = { s.bay c with box := x }

theorem Asks.refl (s : State) : Asks s s := ⟨rfl, rfl, rfl, rfl, rfl, id, fun _ => ⟨_, rfl⟩⟩

theorem Asks.after (h' : Asks t u) (h : Asks s t) : Asks s u where
  time := h'.time.trans h.time
  tariff := h'.tariff.trans h.tariff
  card := h'.card.trans h.card
  marks := h'.marks.trans h.marks
  rim := h'.rim.trans h.rim
  hushed := fun hs => h'.hushed (h.hushed hs)
  bays := fun c => by
    obtain ⟨x, hx⟩ := h.bays c
    obtain ⟨x', hx'⟩ := h'.bays c
    exact ⟨x', by rw [hx', hx]⟩

theorem Asks.forBays {f : BayNo → State → State} (h : ∀ b s, Asks s (f b s)) (s : State) : Asks s (forBays f s) :=
  forBays_invariant (Asks s) f (fun b _ hu => (h b _).after hu) (.refl s)

theorem Asks.journal {f : Journal → Journal} (h : Proofs.marks (f s.journal) = Proofs.marks s.journal) : Asks s (s.modJournal f) :=
  ⟨rfl, rfl, rfl, h, rfl, id, fun _ => ⟨_, rfl⟩⟩

theorem journalKick_asks (s : State) : Asks s (journalKick s) := by
  have hbeside := engineTake_beside s
  have htake : Asks s (engineTake s) :=
    ⟨congrArg Beside.time hbeside, congrArg Beside.tariff hbeside, congrArg Beside.card hbeside, engineTake_marks s,
      (engineTake_work (m := .free) (P := fun _ => True) s).rim, hushed_engineTake,
      fun c => ⟨(s.bay c).box, by rw [State.bay, show (engineTake s).bays = s.bays from congrArg Beside.bays hbeside]; rfl⟩⟩
  have hsettle : Asks (engineTake s) (journalKick s) :=
    .journal (f := (·.settleErase (engineTake s).now (engineTake s).supplyLow)) (settleErase_marks _ _ _)
  exact hsettle.after htake

theorem append_asks (r : Machine.Append) (s : State) : Asks s (append r s) :=
  (journalKick_asks _).after (.journal (request_marks _ r))

theorem Asks.box (b : BayNo) (s : State) (f : Box → Box) : Asks s (s.modBay b fun y => { y with box := f y.box }) :=
  ⟨rfl, rfl, rfl, rfl, rfl, id, fun c => by
    by_cases hc : c = b
    · subst hc
      exact ⟨f (s.bay c).box, State.bay_modBay_self s c fun y => { y with box := f y.box }⟩
    · exact ⟨(s.bay c).box, State.bay_modBay_ne s hc fun y => { y with box := f y.box }⟩⟩

theorem clearRequested_asks (s : State) : Asks s (clearRequested s) := .forBays (fun b s => .box b s Box.restart) s

theorem asks_askBox (b : BayNo) (s : State) : Asks s (askBox b s) := by
  unfold askBox
  split
  · split
    · exact .refl s
    · split
      · exact .journal rfl
      · exact (append_asks _ _).after (.box b s fun x => { x with slot := _ })
  · exact .refl s

/-! ### The reset once no bay reset waits (R191) -/

/-- Where no context is open and no bay reset waits, the reset runs to its end with the REPLY sent. -/
theorem linkResetRun_finishes (h : ∀ b, (s.ctx b).state.isOpen = false ∧ (s.ctx b).resetHeld = false ∧ (s.ctx b).wait = .none) :
    linkResetRun s = linkResetFinish { s with link := { s.link with resetStage := .running }, bus := s.bus.halt } := by
  unfold linkResetRun
  dsimp only
  have hplaced : State.resetsPlaced { s with link := { s.link with resetStage := .running }, bus := s.bus.halt } = true := by
    refine List.all_eq_true.mpr fun y hy => ?_
    obtain ⟨i, hi, rfl⟩ := List.mem_iff_getElem.mp hy
    obtain ⟨-, hheld, hwait⟩ := h ⟨i, by simpa using hi⟩
    have hheld' : (s.bays[i]'(by simpa using hi)).ctx.resetHeld = false := hheld
    have hwait' : (s.bays[i]'(by simpa using hi)).ctx.wait = .none := hwait
    simp [hheld', hwait']
  have hstill : ∀ v : State, v = { s with link := { s.link with resetStage := .running }, bus := s.bus.halt } →
      ∀ b, (v.ctx b).state.isOpen = false := fun v hv b => by
    rw [hv]
    exact (h b).1
  have hrunning : ({ s with link := { s.link with resetStage := .running }, bus := s.bus.halt } : State).link.resetStage = .running := rfl
  generalize ({ s with link := { s.link with resetStage := .running }, bus := s.bus.halt } : State) = u at *
  have hidle : forBays (fun b s => if (s.ctx b).state.isOpen then bayReset b s else s) u = u :=
    forBays_invariant (· = u) _ (fun b v hv => by
      rw [hv, hstill u rfl b, if_neg (by decide)]) rfl
  rw [hidle]
  exact if_pos ⟨hrunning, hplaced⟩

/-- A bay rebuilt keeps its lines and tubes, and has lost the SERVER cause and its last refusal (R2). -/
theorem rebuildBays_bay (s : State) (c : BayNo) : ((rebuildBays s).bay c).lines = (s.bay c).lines
    ∧ ((rebuildBays s).bay c).tubes = (s.bay c).tubes ∧ ((rebuildBays s).ctx c).causes.server = false
    ∧ ((rebuildBays s).ctx c).lastRefusal = none :=
  forBays_each (R := fun _ y y' => y'.lines = y.lines ∧ y'.tubes = y.tubes ∧ y'.ctx.causes.server = false
      ∧ y'.ctx.lastRefusal = none)
    (fun b s _ hc => State.bay_modBay_ne s hc _) (fun b s => by rw [State.bay_modBay_self]; exact ⟨rfl, rfl, rfl, rfl⟩) s c

theorem rebuildBays_units (s : State) : (rebuildBays s).time = s.time ∧ (rebuildBays s).card = s.card
    ∧ (rebuildBays s).journal = s.journal ∧ (rebuildBays s).link = s.link ∧ (rebuildBays s).tariff = s.tariff :=
  ⟨forBays_keeps State.time _ (fun _ _ => rfl) s, forBays_keeps State.card _ (fun _ _ => rfl) s,
    forBays_keeps State.journal _ (fun _ _ => rfl) s, rebuildBays_link s, rebuildBays_tariff s⟩

theorem restart_hushed (l : Link) (rate : Nat) (now : Ms) : Hushed (l.restart rate now) := ⟨rfl, nofun, rfl, rfl⟩

/-- Steps 2 to 5 of a link reset, in their parts. -/
theorem linkResetFinish_leads (s : State) : (linkResetFinish s).time = s.time
    ∧ marks (linkResetFinish s).journal = marks s.journal
    ∧ (linkResetFinish s).tariff = s.tariff.restart ∧ (linkResetFinish s).card = s.card.restart s.site
    ∧ rim (linkResetFinish s).link = rim (s.link.restart (siteRate s.site) s.now) ∧ Hushed (linkResetFinish s).link
    ∧ ∀ c, ((linkResetFinish s).bay c).lines = (s.bay c).lines ∧ ((linkResetFinish s).bay c).tubes = (s.bay c).tubes
      ∧ ((linkResetFinish s).ctx c).causes.server = false ∧ ((linkResetFinish s).ctx c).lastRefusal = none := by
  have hcleared : Asks s (settleErase (s.modJournal (·.linkReset))) :=
    Asks.after (s := s) (t := s.modJournal (·.linkReset))
      (.journal (f := (·.settleErase (s.modJournal (·.linkReset)).now (s.modJournal (·.linkReset)).supplyLow))
        (settleErase_marks _ _ _)) (.journal rfl)
  have hlogged : Asks s (if s.online then appendLink false (settleErase (s.modJournal (·.linkReset)))
      else settleErase (s.modJournal (·.linkReset))) := by
    split
    · exact (append_asks _ _).after hcleared
    · exact hcleared
  unfold linkResetFinish
  dsimp only
  generalize (if s.online then appendLink false (settleErase (s.modJournal (·.linkReset)))
      else settleErase (s.modJournal (·.linkReset))) = u at hlogged
  have hsite : u.site = s.site := congrArg (fun x : Tariff => x.site.entries) hlogged.tariff
  obtain ⟨htime, hcard, hjournal, hlink, htariff⟩ := rebuildBays_units { u with tariff := u.tariff.restart, card := u.card.restart u.site }
  have hbays := rebuildBays_bay { u with tariff := u.tariff.restart, card := u.card.restart u.site }
  generalize rebuildBays { u with tariff := u.tariff.restart, card := u.card.restart u.site } = v at *
  have hsiteV : v.site = s.site := by
    rw [← hsite]
    exact (congrArg (fun x : Tariff => x.site.entries) htariff :)
  have hnow : v.now = s.now := (congrArg Time.ms htime).trans (congrArg Time.ms hlogged.time)
  rw [hsiteV, hnow]
  generalize hw : ({ v.modLink fun l => l.restart (siteRate s.site) s.now with
    bus := (v.modLink fun l => l.restart (siteRate s.site) s.now).bus.restart } : State) = w
  have hasks : Asks w (askBoxes (journalKick (clearRequested w))) :=
    (Asks.forBays asks_askBox _).after ((journalKick_asks _).after (clearRequested_asks w))
  generalize askBoxes (journalKick (clearRequested w)) = t at hasks
  subst hw
  refine ⟨hasks.time.trans (htime.trans hlogged.time), hasks.marks.trans ((congrArg marks hjournal).trans hlogged.marks),
    hasks.tariff.trans (htariff.trans (congrArg Tariff.restart hlogged.tariff)), ?_, hasks.rim.trans rfl,
    hasks.hushed (restart_hushed _ _ _), fun c => ?_⟩
  · rw [hasks.card]
    show v.card = _
    rw [hcard, hlogged.card, hsite]
  · obtain ⟨x, hx⟩ := hasks.bays c
    obtain ⟨y, hy⟩ := hlogged.bays c
    have hkept := hbays c
    change (v.bay c).lines = (u.bay c).lines ∧ (v.bay c).tubes = (u.bay c).tubes ∧ (v.bay c).ctx.causes.server = false
      ∧ (v.bay c).ctx.lastRefusal = none at hkept
    rw [hy] at hkept
    rw [State.ctx, hx]
    exact hkept

/-- A receiver in a link reset ignores the line (R191). -/
theorem characterReceived_ignored (h : t.link.resetStage ≠ .none) (c : Byte) : exec (.characterReceived c) t = .next t := by
  have hignored : t.link.receive t.now c = t.link := by
    unfold Link.receive
    rw [if_neg h]
  show Host.Outcome.next { t with link := t.link.receive t.now c } = .next t
  rw [hignored]

theorem restart_settled (x : Tear) : x.restart.closing = false ∧ x.restart.owner ≠ .openTxn := by
  refine ⟨rfl, ?_⟩
  unfold Tear.restart
  dsimp only
  split
  · exact nofun
  next h => exact h

/-- Settles O32. -/
theorem linkResetKeepsLastingState : Obligations.LinkResetKeepsLastingState := by
  refine ⟨fun s f hnext hk hbody => ?_, fun s r rest hsending hreplies hafter hcalm => ?_⟩
  · have hexec : exec .linkReset s = .next (answer f
        ⟨(dropHead s).modLink fun l => { l with rxBuffer := [], resetStage := .replyPlaced }, .accepted, [], .linkReset⟩) := by
      show execLinkReset s = _
      unfold execLinkReset
      rw [answerFrame_eq (isKind := Frame.is kLinkReset) _ hnext (frame_is hk), ofLength_good (by rw [hbody]; rfl)]
    refine ⟨_, hexec, rfl, answer_rxBuffer _ _, answer_replies _ _, fun c => ?_⟩
    have hstage : (answer f ⟨(dropHead s).modLink fun l => { l with rxBuffer := [], resetStage := .replyPlaced },
        .accepted, [], .linkReset⟩).link.resetStage = .replyPlaced := by
      have hkick := (kick_step { (dropHead s).link with
        rxBuffer := [], resetStage := .replyPlaced, replies := (dropHead s).link.replies ++ [⟨f.tag, .accepted, [], .linkReset⟩] }).rim
      exact congrArg Rim.resetStage hkick
    exact characterReceived_ignored (by rw [hstage]; decide) c
  · have hexec : exec .frameSent s = done s ((forwardNext (linkResetRun (s.modLink Link.sent))).modLink Link.kick) := by
      have hafterSent : s.link.afterSent = .linkReset := by
        unfold Link.afterSent
        rw [hsending, hreplies]
        exact hafter
      show execFrameSent s = _
      unfold execFrameSent
      simp only [hsending, hafterSent]
      rfl
    rw [linkResetRun_finishes (s := s.modLink Link.sent) hcalm] at hexec
    obtain ⟨htime, hmarks, htariff, hcard, hrim, hhushed, hbays⟩ := linkResetFinish_leads
      { s.modLink Link.sent with link := { (s.modLink Link.sent).link with resetStage := .running }, bus := (s.modLink Link.sent).bus.halt }
    generalize linkResetFinish { s.modLink Link.sent with
      link := { (s.modLink Link.sent).link with resetStage := .running }, bus := (s.modLink Link.sent).bus.halt } = u at *
    have hforward : forwardNext u = u := by
      unfold forwardNext
      rw [hhushed.offline]
    rw [hforward] at hexec
    obtain ⟨t, e, ht⟩ := done_resealed s (u.modLink Link.kick)
    have hkicked : rim t.link = rim u.link := (congrArg rim ht.link).trans (kick_step u.link).rim
    have hport : ∀ {α : Type} (p : Rim → α), p (rim t.link) = p (rim (s.link.restart (siteRate s.site) s.now)) := fun p =>
      congrArg p (hkicked.trans hrim)
    have htariffT : t.tariff = s.tariff.restart := ht.tariff.trans htariff
    have hcardT : t.card = s.card.restart s.site := ht.card.trans hcard
    have hsilent : Hushed t.link := ht.link ▸ hhushed.kick
    refine ⟨t, hexec.trans e, hport Rim.online, hport Rim.lastPhase, hport Rim.timer, hport Rim.noticeMask, hport Rim.rate,
      hport Rim.rx, hport Rim.rxBuffer, hport Rim.replies, hsilent.messages, hsilent.record, hport Rim.transitions,
      hport Rim.resetStage, ht.time.trans htime, ?_, ?_, ?_, ?_, ?_, ?_, ?_, ?_, ?_, ?_, ?_, ?_, fun c => ?_⟩
    · rw [ht.journal]; exact congrArg Prod.fst hmarks
    · rw [ht.journal]; exact congrArg (fun p => p.2.1) hmarks
    · rw [ht.journal]; exact congrArg (fun p => p.2.2) hmarks
    · rw [htariffT]; rfl
    · rw [htariffT]; rfl
    · rw [htariffT]; rfl
    · rw [htariffT]; rfl
    · rw [htariffT]; rfl
    · rw [htariffT]; rfl
    · rw [hcardT]; rfl
    · rw [hcardT]
      exact (List.map_map ..).trans rfl
    · rw [hcardT]
      intro x hx
      obtain ⟨y, -, rfl⟩ := List.mem_map.mp hx
      exact restart_settled y
    · have hkept := hbays c
      rw [ht.ctx, ht.bay]
      exact hkept
end
end Sys2Proof.Proofs

/-! PROOFS. A start-up that is cut (R205, R208). -/

namespace Sys2Proof.Proofs

open Sys2Proof Sys2Proof.Machine Sys2Proof.Laws

section
variable {s t u : State} {env : StartUp}

/-! ### The part in reset (R208) -/

theorem goDark_bay (s : State) (c : BayNo) : (goDark s).bay c = (s.bay c).dark :=
  forBays_each (R := fun _ y y' => y' = y.dark) (fun _ s _ hc => State.bay_modBay_ne s hc Bay.dark)
    (fun b s => State.bay_modBay_self s b Bay.dark) s c

theorem goDark_units (s : State) : (goDark s).card = { s.card with lateReplies := 0, nextRef := 0 }
    ∧ (goDark s).journal = s.journal ∧ (goDark s).time = s.time := by
  have hdark : ∀ {α : Type} (p : State → α), (∀ b u, p (u.modBay b Bay.dark) = p u) →
      p (forBays (fun b s => s.modBay b Bay.dark) s) = p s := fun p h => forBays_keeps p _ h s
  refine ⟨?_, hdark State.journal fun _ _ => rfl, hdark State.time fun _ _ => rfl⟩
  show { (forBays (fun b s => s.modBay b Bay.dark) s).card with lateReplies := 0, nextRef := 0 } = _
  rw [hdark State.card fun _ _ => rfl]

/-! ### A retained area lost (R205) -/

/-- A bay without coins in its tubes and its box. -/
def Bare (y : Bay) : Prop :=
  y.box.counts = Vector.replicate 9 0 ∧ y.box.slot = [] ∧ ∀ u : TubeNo, y.tubes[u].count = 0 ∧ y.tubes[u].state = .ok

/-- The items of the retained area are cleared. -/
structure Cleared (s : State) : Prop where
  tears   : s.card.tears = []
  offline : s.card.offlineTotal = 0
  clock   : s.time.isSet = false
  bays    : ∀ b, Bare (s.bay b)

/-- The retained items of the part itself cleared, those of the bays as they were. -/
def unitsLost (s : State) : State :=
  { s with
    card := { s.card with tears := [], offlineTotal := 0 }
    journal := { s.journal with acked := 0 }
    time := s.time.lose }

theorem loseArea_cleared (s : State) : Cleared (loseArea s) := by
  have hbays : ∀ c, Bare ((forBays (fun b s => s.modBay b Bay.lose) (unitsLost s)).bay c) :=
    forBays_each (R := fun _ _ y' => Bare y') (fun b s _ hc => State.bay_modBay_ne s hc Bay.lose)
      (fun b s => by
        rw [State.bay_modBay_self]
        refine ⟨rfl, rfl, fun u => ?_⟩
        simp [Bay.lose]) (unitsLost s)
  have hcard : (forBays (fun b s => s.modBay b Bay.lose) (unitsLost s)).card = (unitsLost s).card :=
    forBays_keeps State.card _ (fun _ _ => rfl) _
  have htime : (forBays (fun b s => s.modBay b Bay.lose) (unitsLost s)).time = (unitsLost s).time :=
    forBays_keeps State.time _ (fun _ _ => rfl) _
  show Cleared (notify .retainedLost (forBays (fun b s => s.modBay b Bay.lose) (unitsLost s)))
  generalize forBays (fun b s => s.modBay b Bay.lose) (unitsLost s) = v at *
  exact ⟨congrArg CardUnit.tears hcard, congrArg CardUnit.offlineTotal hcard, congrArg Time.isSet htime, hbays⟩

theorem Cleared.of_bays (h : Cleared s) (hcard : t.card = s.card) (htime : t.time = s.time)
    (hbays : ∀ b, Bare (s.bay b) → Bare (t.bay b)) : Cleared t :=
  ⟨hcard ▸ h.tears, hcard ▸ h.offline, htime ▸ h.clock, fun b => hbays b (h.bays b)⟩

theorem startRetained_clears (s : State) : Cleared (startRetained false s) := by
  have hlost := loseArea_cleared s
  show Cleared (if (loseArea s).time.isSet then loseArea s else notify .timeUnset (loseArea s))
  generalize loseArea s = v at hlost
  split
  · exact hlost
  · exact hlost.of_bays rfl rfl fun _ => id

/-- The block table and the marks as the scan finds them (R169 to R172). -/
def scanState (held : Bool) (s : State) : State :=
  { s with
    journal := s.journal.scan (if held then some s.journal.acked else none)
    link := { s.link with forward := (s.journal.scan (if held then some s.journal.acked else none)).acked } }

theorem startJournal_units (held : Bool) (s : State) : (startJournal held s).card = s.card ∧ (startJournal held s).time = s.time
    ∧ (startJournal held s).bays = s.bays ∧ (startJournal held s).tariff = s.tariff := by
  have hnotify? : ∀ (n : Option Notice) (v : State), (notify? n v).card = v.card ∧ (notify? n v).time = v.time
      ∧ (notify? n v).bays = v.bays ∧ (notify? n v).tariff = v.tariff := fun n v => by
    cases n <;> exact ⟨rfl, rfl, rfl, rfl⟩
  have hnotices : ∀ (p : Bool) (n : Option Notice) (m : Notice) (v u : State), (if p then notify m (notify? n v) else notify? n v) = u →
      u.card = v.card ∧ u.time = v.time ∧ u.bays = v.bays ∧ u.tariff = v.tariff := fun p n m v u hu => by
    rw [← hu]
    cases p <;> exact hnotify? n v
  exact hnotices (scanState held s).journal.full _ _ (scanState held s) _ rfl

theorem startStore_clears (env : StartUp) (h : Cleared s) : Cleared (startStore env false s) := by
  have hsite : ∀ (site : List (List Byte)) (v : State), Cleared v →
      Cleared (forBays (fun b s => s.modBay b fun y => (y.takeSite site b).sample env b) v) := fun site v hv =>
    hv.of_bays (forBays_keeps State.card _ (fun _ _ => rfl) v) (forBays_keeps State.time _ (fun _ _ => rfl) v)
      (forBays_each (R := fun _ y y' => Bare y → Bare y') (fun b s _ hc => State.bay_modBay_ne s hc _) (fun b s hb => by
        rw [State.bay_modBay_self]
        obtain ⟨hcounts, hslot, htubes⟩ := hb
        refine ⟨hcounts, hslot, fun u => ?_⟩
        have hu := htubes u
        simpa [Bay.takeSite, Bay.sample] using hu) v)
  have hline : ∀ v : State, Cleared v → Cleared (forBays (fun b s => s.modBay b Bay.boxFromLine) v) := fun v hv =>
    hv.of_bays (forBays_keeps State.card _ (fun _ _ => rfl) v) (forBays_keeps State.time _ (fun _ _ => rfl) v)
      (forBays_each (R := fun _ y y' => Bare y → Bare y') (fun b s _ hc => State.bay_modBay_ne s hc _) (fun b s hb => by
        rw [State.bay_modBay_self]
        exact hb) v)
  unfold startStore
  dsimp only
  rw [if_neg (by decide)]
  exact hline _ (hsite _ _ (h.of_bays rfl rfl fun _ => id))

theorem foldl_invariant {α : Type} (P : α → Prop) {fs : List (α → α)} (h : ∀ f ∈ fs, ∀ x, P x → P (f x)) {x : α} (hx : P x) :
    P (fs.foldl (fun x f => f x) x) := by
  induction fs generalizing x with
  | nil => exact hx
  | cons f fs ih => exact ih (fun g hg => h g (List.mem_cons_of_mem f hg)) (h f List.mem_cons_self x hx)

/-- Behind its first write a start-up that has lost the retained area has cleared its items. -/
theorem afterWrites_cleared {n : Nat} (hn : 0 < n) (env : StartUp) (s : State) :
    Cleared (afterWrites ((startWrites env false).take n) env s) := by
  obtain ⟨m, rfl⟩ := Nat.exists_eq_succ_of_ne_zero hn.ne'
  unfold afterWrites startWrites
  rw [List.cons_append, List.take_succ_cons, List.foldl_cons]
  refine foldl_invariant Cleared (fun f hf x hx => ?_) (startRetained_clears _)
  have hf := List.mem_of_mem_take hf
  simp only [List.mem_append, List.mem_cons, List.not_mem_nil, or_false, List.mem_map] at hf
  rcases hf with (rfl | rfl | rfl) | ⟨b, -, rfl⟩
  · exact hx.of_bays rfl rfl fun _ => id
  · obtain ⟨hcard, htime, hbays, -⟩ := startJournal_units false x
    exact hx.of_bays hcard htime fun b => by rw [State.bay, State.bay, hbays]; exact id
  · exact startStore_clears env hx
  · exact hx

/-- A door is not seen until start-up has ended. -/
theorem serviceDoor_unseen (hup : t.up = false) (b : BayNo) (isOpen : Bool) : exec (.serviceDoorChange b isOpen) t = .next t := by
  show done t (t.whenUp _) = _
  unfold State.whenUp
  rw [hup, if_neg (by decide), done, reseal_of_area rfl]

/-- What goes dark drives no output and takes nothing. -/
theorem goDark_drives (hbays : ∀ b, t.bay b = (s.bay b).dark) (b : BayNo) :
    (t.bay b).mask = [] ∧ (t.bay b).payout.drive = none ∧ (t.bay b).escrow.pulse = none := by
  rw [hbays]
  exact ⟨rfl, rfl, rfl⟩

/-- Settles O13. -/
theorem startUpCut : Obligations.StartUpCut := by
  intro env s n hcut
  have hactive : (powerOn env s).tariff.active = s.tariff.active := by
    exact congrArg Prod.snd (powerOn_queueAndBank env s)
  refine ⟨powerOn env s, rfl, ?_⟩
  rcases Nat.eq_zero_or_pos n with rfl | hn
  · rw [powerOn_cut_zero s hcut] at hactive ⊢
    have harea := goDark_area { losePower env s with check := env.areaCheck.getD s.check }
    have hbays := goDark_bay { losePower env s with check := env.areaCheck.getD s.check }
    obtain ⟨-, hjournal, -⟩ := goDark_units { losePower env s with check := env.areaCheck.getD s.check }
    refine ⟨rfl, rfl, rfl, rfl, rfl, hactive, goDark_drives hbays, fun _ => ⟨?_, ?_, ?_⟩, fun hn => absurd hn (Nat.lt_irrefl 0),
      fun hn => absurd hn (Nat.lt_irrefl 0), characterReceived_ignored nofun, serviceDoor_unseen rfl⟩
    · exact (congrArg Prod.snd harea).trans (losePower_retained env s)
    · exact congrArg Prod.fst harea
    · rw [hjournal]
      rfl
  · rw [powerOn_cut s hn hcut] at hactive ⊢
    have hcleared := afterWrites_cleared hn env s
    generalize hv : afterWrites ((startWrites env (areaHeld env s)).take n) env s = v at hactive ⊢
    have hbays := goDark_bay v
    obtain ⟨hcard, -, htime⟩ := goDark_units v
    refine ⟨rfl, rfl, rfl, rfl, rfl, hactive, goDark_drives (t := (goDark v).seal) hbays, fun h => absurd h (by omega),
      fun _ => rfl, fun _ hlost => ?_, characterReceived_ignored nofun, serviceDoor_unseen rfl⟩
    have hheld : areaHeld env s = false := decide_eq_false hlost
    rw [hheld] at hv
    rw [hv] at hcleared
    refine ⟨(congrArg CardUnit.tears hcard).trans hcleared.tears, (congrArg CardUnit.offlineTotal hcard).trans hcleared.offline,
      (congrArg Time.isSet htime).trans hcleared.clock, fun b => ?_⟩
    show Bare ((goDark v).bay b)
    rw [hbays]
    exact hcleared.bays b
end
end Sys2Proof.Proofs

/-! PROOFS. A start-up that runs to its end (R2, R205, R208). -/

namespace Sys2Proof.Proofs

open Sys2Proof Sys2Proof.Machine Sys2Proof.Laws

section
variable {s t u v : State} {env : StartUp} {held : Bool} {q : Nat} {l : Link}

/-! ### The port before start-up has ended -/

/-- A port as start-up finds it, but for its start-up notices, its counters and its rate, the forward mark at q. -/
def Dormant (q : Nat) (l : Link) : Prop :=
  { l with noticeList := [], counters := Link.reset.counters, rate := 0 } =
    { Link.reset with noticeList := [], rate := 0, forward := q }

theorem Dormant.field {α : Type} (h : Dormant q l) (p : Link → α)
    (hp : ∀ x : Link, p { x with noticeList := [], counters := Link.reset.counters, rate := 0 } = p x) :
    p l = p { Link.reset with forward := q } := by
  rw [← hp l, h, ← hp { Link.reset with forward := q }]

theorem Dormant.notify (h : Dormant q l) (n : Notice) : Dormant q (l.notify n) ∧ (l.notify n).rate = l.rate := by
  have honline : l.online = false := h.field Link.online fun _ => rfl
  have hlist : l.listState = .isOpen := h.field Link.listState fun _ => rfl
  unfold Link.notify
  rw [honline, hlist]
  unfold Link.listNotice
  dsimp only
  split
  · exact ⟨h, rfl⟩
  · exact ⟨h, rfl⟩

/-- From s to t a dormant port has taken notices alone. -/
structure Noticed (s t : State) : Prop where
  port : ∀ q, Dormant q s.link → Dormant q t.link ∧ t.link.rate = s.link.rate
  rest : t = { s with link := t.link }

theorem noticed_notify (n : Notice) (s : State) : Noticed s (notify n s) := ⟨fun _ h => h.notify n, rfl⟩

theorem noticed_notify? (n : Option Notice) (s : State) : Noticed s (notify? n s) := by
  cases n with
  | none => exact ⟨fun _ h => ⟨h, rfl⟩, rfl⟩
  | some n => exact noticed_notify n s

theorem Noticed.after (h' : Noticed t u) (h : Noticed s t) : Noticed s u := by
  refine ⟨fun q hq => ?_, by rw [h'.rest, h.rest]⟩
  obtain ⟨ht, hrate⟩ := h.port q hq
  obtain ⟨hu, hrate'⟩ := h'.port q ht
  exact ⟨hu, hrate'.trans hrate⟩

/-! ### The writes of start-up, one by one (R205, R169 to R172, R52, R104) -/

/-- The items of the retained area lost, with no notice of it. -/
def areaLost (s : State) : State := forBays (fun b s => s.modBay b Bay.lose) (unitsLost s)

theorem noticed_refl (s : State) : Noticed s s := ⟨fun _ h => ⟨h, rfl⟩, rfl⟩

theorem startRetained_leads (held : Bool) (s : State) : Noticed (if held then s else areaLost s) (startRetained held s) := by
  have htimed : ∀ u v : State, Noticed u v → Noticed u (if v.time.isSet then v else notify .timeUnset v) := fun u v h => by
    split
    · exact h
    · exact (noticed_notify _ v).after h
  cases held
  · exact htimed (areaLost s) (loseArea s) (noticed_notify .retainedLost (areaLost s))
  · exact htimed s s (noticed_refl s)

theorem startJournal_leads (held : Bool) (s : State) : Noticed (scanState held s) (startJournal held s) := by
  have hnotices : ∀ (p : Bool) (n : Option Notice) (m : Notice) (v u : State),
      (if p then notify m (notify? n v) else notify? n v) = u → Noticed v u := fun p n m v u hu => by
    rw [← hu]
    cases p
    · exact noticed_notify? n v
    · exact (noticed_notify m _).after (noticed_notify? n v)
  exact hnotices (scanState held s).journal.full _ _ (scanState held s) _ rfl

/-- A bay whose samplers and coin line have taken the levels start-up finds. -/
def Sampled (env : StartUp) (b : BayNo) (y : Bay) : Prop :=
  y.lines = ⟨.start env.serviceDoorOpen[b], .start env.boxDoorOpen[b], .start env.boxPresent[b]⟩
  ∧ y.coin.rawHigh = env.coinHigh[b]

/-- What step 3 leaves (R52, R88, R101, R177, R206). -/
theorem startStore_leads (env : StartUp) (held : Bool) (s : State) : (startStore env held s).card = s.card
    ∧ (startStore env held s).time = s.time ∧ (startStore env held s).journal = s.journal
    ∧ (startStore env held s).link = { s.link with rate := siteRate (startStore env held s).site }
    ∧ ∀ b, Sampled env b ((startStore env held s).bay b) := by
  have hsite : (startStore env held s).site = s.tariff.restart.verify.site.entries :=
    congrArg (fun x : Tariff => x.site.entries) (startStore_tariff env held s)
  rw [hsite]
  have hsampled : ∀ (site : List (List Byte)) (v : State),
      ∀ c, Sampled env c ((forBays (fun b s => s.modBay b fun y => (y.takeSite site b).sample env b) v).bay c) := fun site v =>
    forBays_each (R := fun b _ y' => Sampled env b y') (fun _ s _ hc => State.bay_modBay_ne s hc _)
      (fun b s => by rw [State.bay_modBay_self]; exact ⟨rfl, rfl⟩) v
  have hsame : ∀ {α : Type} (p : State → α) (f : BayNo → Bay → Bay), (∀ b u, p (u.modBay b (f b)) = p u) → ∀ v,
      p (forBays (fun b s => s.modBay b (f b)) v) = p v := fun p f h v => forBays_keeps p _ h v
  have hlater : ∀ (f : Bay → Bay) (v : State), (∀ y, (f y).lines = y.lines ∧ (f y).coin = y.coin) → (∀ c, Sampled env c (v.bay c)) →
      ∀ c, Sampled env c ((forBays (fun b s => s.modBay b f) v).bay c) := fun f v hf hv c => by
    have hkept := forBays_each (R := fun _ y y' => y'.lines = y.lines ∧ y'.coin = y.coin)
      (fun _ s _ hc => State.bay_modBay_ne s hc f) (fun b s => by rw [State.bay_modBay_self]; exact hf _) v c
    obtain ⟨hlines, hcoin⟩ := hkept
    rw [Sampled, hlines, hcoin]
    exact hv c
  unfold startStore
  dsimp only
  generalize hw : ((({ s with tariff := s.tariff.restart.verify } : State)).modLink fun l =>
    { l with rate := siteRate ({ s with tariff := s.tariff.restart.verify } : State).site }) = w
  have hfound := hsampled w.site w
  have hcard := hsame State.card (fun b y => (y.takeSite w.site b).sample env b) (fun _ _ => rfl) w
  have htime := hsame State.time (fun b y => (y.takeSite w.site b).sample env b) (fun _ _ => rfl) w
  have hjournal := hsame State.journal (fun b y => (y.takeSite w.site b).sample env b) (fun _ _ => rfl) w
  have hlink := hsame State.link (fun b y => (y.takeSite w.site b).sample env b) (fun _ _ => rfl) w
  generalize forBays (fun b s => s.modBay b fun y => (y.takeSite w.site b).sample env b) w = v at *
  subst hw
  have hends : ∀ (f : Bay → Bay) (_ : ∀ y, (f y).lines = y.lines ∧ (f y).coin = y.coin) (u : State),
      forBays (fun b s => s.modBay b f) v = u → u.card = s.card ∧ u.time = s.time ∧ u.journal = s.journal
        ∧ u.link = { s.link with rate := siteRate s.tariff.restart.verify.site.entries } ∧ ∀ b, Sampled env b (u.bay b) :=
    fun f hf u hu => by
      rw [← hu]
      exact ⟨(hsame State.card (fun _ => f) (fun _ _ => rfl) v).trans hcard, (hsame State.time (fun _ => f) (fun _ _ => rfl) v).trans htime,
        (hsame State.journal (fun _ => f) (fun _ _ => rfl) v).trans hjournal, (hsame State.link (fun _ => f) (fun _ _ => rfl) v).trans hlink,
        hlater f v hf hfound⟩
  split
  · exact hends (fun y => { y with box := y.box.restart }) (fun _ => ⟨rfl, rfl⟩) _ rfl
  · exact hends Bay.boxFromLine (fun _ => ⟨rfl, rfl⟩) _ rfl

/-- What the loss of supply and the writes of start-up leave of state s. -/
structure Begun (env : StartUp) (held : Bool) (s x : State) : Prop where
  tariff : x.tariff = s.tariff.restart.verify
  card : x.card = if held then s.card else { s.card with tears := [], offlineTotal := 0 }
  time : x.time = if held then s.time.start env else (s.time.start env).lose
  journal : x.journal = ((s.journal.losePower env.tornBytes).markTorn).scan (if held then some s.journal.acked else none)
  port : Dormant x.journal.acked x.link
  rate : x.link.rate = siteRate x.site
  sampled : ∀ b, Sampled env b (x.bay b)

/-- The reconciliation of a box keeps what start-up has found so far. -/
theorem Begun.boxed {x w x' : State} {b : BayNo} (h : Begun env held s x)
    (h' : Noticed w x') (hw : ∃ g : Bay → Box, w = x.modBay b fun y => { y with box := g y }) :
    Begun env held s x' := by
  obtain ⟨g, rfl⟩ := hw
  obtain ⟨hport, hrate⟩ := h'.port x.journal.acked h.port
  rw [h'.rest]
  refine ⟨h.tariff, h.card, h.time, h.journal, hport, hrate.trans h.rate, fun c => ?_⟩
  show Sampled env c ((x.modBay b fun y => { y with box := g y }).bay c)
  by_cases hc : c = b
  · subst hc
    rw [State.bay_modBay_self]
    exact h.sampled c
  · rw [State.bay_modBay_ne x hc]
    exact h.sampled c

theorem Begun.startBox {x : State} (h : Begun env held s x) (b : BayNo) : Begun env held s (startBox held b x) := by
  unfold Machine.startBox
  split
  · unfold reconcileBox
    dsimp only
    split
    · exact h.boxed (noticed_notify _ (closePeriod b x)) ⟨fun y => (boxlessBay x.site y).box, rfl⟩
    · exact h.boxed (noticed_notify _ _) ⟨_, rfl⟩
    · exact h
  · exact h

theorem afterWrites_begun (env : StartUp) (held : Bool) (s : State) :
    Begun env held s (afterWrites (startWrites env held) env s) := by
  have hboxes : ∀ f ∈ allBays.map (startBox held), ∀ x, Begun env held s x → Begun env held s (f x) := fun f hf x hx => by
    obtain ⟨b, -, rfl⟩ := List.mem_map.mp hf
    exact hx.startBox b
  unfold afterWrites startWrites
  rw [List.foldl_append]
  refine foldl_invariant (Begun env held s) hboxes ?_
  simp only [List.foldl_cons, List.foldl_nil]
  generalize hbase : (if held then losePower env s else areaLost (losePower env s)) = v
  have hlost := startRetained_leads held (losePower env s)
  rw [hbase] at hlost
  have hv : v.tariff = s.tariff ∧ v.card = (if held then s.card else { s.card with tears := [], offlineTotal := 0 })
      ∧ v.time = (if held then s.time.start env else (s.time.start env).lose)
      ∧ v.journal.markTorn.scan (if held then some v.journal.acked else none) =
        (s.journal.losePower env.tornBytes).markTorn.scan (if held then some s.journal.acked else none)
      ∧ v.link = { Link.reset with noticeList := [] } := by
    cases held
    · have hsame : ∀ {α : Type} (p : State → α), (∀ b u, p (u.modBay b Bay.lose) = p u) → p v = p (unitsLost (losePower env s)) :=
        fun p h => hbase ▸ forBays_keeps p _ h _
      refine ⟨hsame State.tariff fun _ _ => rfl, hsame State.card fun _ _ => rfl, hsame State.time fun _ _ => rfl, ?_,
        hsame State.link fun _ _ => rfl⟩
      rw [hsame State.journal fun _ _ => rfl]
      rfl
    · rw [← hbase]
      refine ⟨rfl, rfl, rfl, ?_, rfl⟩
      show _ = Journal.scan _ (some s.journal.acked)
      rw [← tear_acked s.journal env.tornBytes]
      rfl
  generalize startRetained held (losePower env s) = r at hlost
  have hscan := startJournal_leads held (startMarkers r)
  generalize startJournal held (startMarkers r) = j at hscan
  obtain ⟨hcard, htime, hjournal, hlink, hsampled⟩ := startStore_leads env held j
  have htariff := startStore_tariff env held j
  generalize startStore env held j = d at *
  obtain ⟨htv, hcv, hmv, hjv, hlv⟩ := hv
  have hj := hscan.rest
  have hr := hlost.rest
  have hrport := (hlost.port 0 (by rw [hlv]; rfl)).1
  have hsport := (hscan.port (r.journal.markTorn.scan (if held then some r.journal.acked else none)).acked (by
    show Dormant _ { r.link with forward := _ }
    have h := congrArg (fun l : Link => { l with forward := (r.journal.markTorn.scan (if held then some r.journal.acked else none)).acked }) hrport
    exact h)).1
  have hrj : r.journal = v.journal := by rw [hr]
  have hdj : d.journal = _ := (hjournal.trans (congrArg State.journal hj)).trans ((congrArg (fun k : Journal =>
    k.markTorn.scan (if held then some k.acked else none)) hrj).trans hjv)
  refine ⟨?_, ?_, ?_, hdj, ?_, ?_, hsampled⟩
  · rw [htariff, hj]
    show r.tariff.restart.verify = _
    rw [hr]
    exact congrArg (fun x : Tariff => x.restart.verify) htv
  · rw [hcard, hj]
    show r.card = _
    rw [hr]
    exact hcv
  · rw [htime, hj]
    show r.time = _
    rw [hr]
    exact hmv
  · rw [hlink, hdj, ← hjv, ← hrj]
    exact hsport
  · rw [hlink]
end
end Sys2Proof.Proofs

/-! PROOFS. What start-up rebuilds (R2, R52, R208). -/

namespace Sys2Proof.Proofs

open Sys2Proof Sys2Proof.Machine Sys2Proof.Laws

section
variable {s t u v : State} {env : StartUp} {held : Bool} {q : Nat}

/-- A dormant port stays so where the journal is asked for records. -/
theorem engineTake_port (h : Dormant q s.link) : Dormant q (engineTake s).link ∧ (engineTake s).link.rate = s.link.rate := by
  unfold engineTake
  dsimp only
  split
  · split
    · exact ⟨h, rfl⟩
    · split
      · exact ⟨h, rfl⟩
      · split
        · exact (noticed_notify? _ _).port q h
        · exact h.notify _
  · exact ⟨h, rfl⟩

theorem askBox_port (b : BayNo) (h : Dormant q s.link) : Dormant q (askBox b s).link ∧ (askBox b s).link.rate = s.link.rate := by
  unfold askBox
  split
  · split
    · exact ⟨h, rfl⟩
    · split
      · exact ⟨h, rfl⟩
      · exact engineTake_port (s := State.modJournal _ _) h
  · exact ⟨h, rfl⟩

theorem askBoxes_port (h : Dormant q s.link) : Dormant q (askBoxes s).link ∧ (askBoxes s).link.rate = s.link.rate := by
  unfold askBoxes
  refine forBays_invariant (fun u => Dormant q u.link ∧ u.link.rate = s.link.rate) askBox (fun b u hu => ?_) ⟨h, rfl⟩
  obtain ⟨hdormant, hrate⟩ := hu
  obtain ⟨hdormant', hrate'⟩ := askBox_port b hdormant
  exact ⟨hdormant', hrate'.trans hrate⟩

/-- Bay b rebuilt with the site table and the count that stand. -/
def rebuildAt (b : BayNo) (s : State) : State := s.modBay b fun y => y.rebuild s.site b s.now

theorem rebuildBays_eq (s : State) : rebuildBays s = forBays rebuildAt s := rfl

theorem rebuildBays_bay_eq (s : State) (c : BayNo) : (rebuildBays s).bay c = (s.bay c).rebuild s.site c s.now := by
  have hothers : ∀ b u, OtherBays b u (rebuildAt b u) := fun b u _ hc => State.bay_modBay_ne u hc _
  have hkept : ∀ b u, u.site = s.site ∧ u.now = s.now → (rebuildAt b u).site = s.site ∧ (rebuildAt b u).now = s.now :=
    fun _ _ h => h
  have hself : ∀ u, (rebuildAt c u).bay c = (u.bay c).rebuild u.site c u.now := fun u => State.bay_modBay_self u c _
  rw [rebuildBays_eq]
  obtain ⟨v, ⟨hsite, hnow⟩, hsame, hturn⟩ := forBays_at _ hothers hkept ⟨rfl, rfl⟩ c
  rw [hturn, hself, hsame, hsite, hnow]

/-- Steps 4 to 7 of start-up (R208). -/
theorem startBays_leads (h : Dormant q s.link) : (startBays s).time = s.time ∧ (startBays s).tariff = s.tariff
    ∧ (startBays s).card = s.card.restart s.site ∧ (startBays s).bus = .reset
    ∧ Dormant q (startBays s).link ∧ (startBays s).link.rate = s.link.rate
    ∧ ∀ c, ∃ x, (startBays s).bay c = { (s.bay c).rebuild s.site c s.now with box := x } := by
  obtain ⟨htime, hcard, -, hlink, htariff⟩ := rebuildBays_units s
  have hbays := rebuildBays_bay_eq s
  have hsite : (rebuildBays s).site = s.site := congrArg (fun x : Tariff => x.site.entries) htariff
  unfold startBays
  dsimp only
  rw [hsite, hcard]
  generalize rebuildBays s = v at *
  have hasks : Asks { v with card := s.card.restart s.site, bus := .reset } _ := .forBays asks_askBox _
  have hbus := (askBoxes_work (m := .free) { v with card := s.card.restart s.site, bus := .reset }).bus
  obtain ⟨hdormant, hrate⟩ := askBoxes_port (s := { v with card := s.card.restart s.site, bus := .reset }) (q := q) (hlink ▸ h)
  refine ⟨hasks.time.trans htime, hasks.tariff.trans htariff, hasks.card, hbus, hdormant, hrate.trans (congrArg Link.rate hlink),
    fun c => ?_⟩
  obtain ⟨x, hx⟩ := hasks.bays c
  have hx' : _ = { v.bay c with box := x } := hx
  rw [hbays] at hx'
  exact ⟨x, hx'⟩

/-! ### The table store check (R52) -/

theorem verify_keeps (t : Table) (front : List Byte) : (t.verify front).entries = t.entries ∧ (t.verify front).count = t.count
    ∧ (t.verify front).version = t.version := by
  unfold Table.verify
  split <;> exact ⟨rfl, rfl, rfl⟩

theorem bankTables_verify_keeps (k : BankTables) : ∀ f ∈
    [BankTables.product, BankTables.zone, BankTables.calendar, BankTables.rule, BankTables.layout, BankTables.text],
    (f k.verify).entries = (f k).entries ∧ (f k.verify).count = (f k).count ∧ (f k.verify).version = (f k).version := by
  intro f hf
  simp only [List.mem_cons, List.not_mem_nil, or_false] at hf
  rcases hf with rfl | rfl | rfl | rfl | rfl | rfl <;> exact verify_keeps _ _

/-- A restarted card unit has no closing mark and no owner OPEN. -/
theorem cardRestart_settled (c : CardUnit) (site : List (List Byte)) : ∀ e ∈ (c.restart site).tears, e.closing = false ∧ e.owner ≠ .openTxn := by
  intro e he
  obtain ⟨y, -, rfl⟩ := List.mem_map.mp he
  exact restart_settled y

/-- Settles O12. -/
theorem powerOnReset : Obligations.PowerOnReset := by
  intro env s hcut
  have hbegun := afterWrites_begun env (areaHeld env s) s
  refine ⟨powerOn env s, rfl, ?_⟩
  rw [powerOn_whole s hcut]
  generalize afterWrites (startWrites env (areaHeld env s)) env s = x at hbegun
  obtain ⟨htime, htariff, hcard, hbus, hport, hrate, hbays⟩ := startBays_leads hbegun.port
  obtain ⟨hxtariff, hxcard, hxtime, -, -, hxrate, hsampled⟩ := hbegun
  generalize startBays x = z at *
  have hms : x.now = 0 := by
    rw [State.now, hxtime]
    cases areaHeld env s <;> rfl
  have hfield : ∀ {α : Type} (p : Link → α),
      (∀ l : Link, p { l with noticeList := [], counters := Link.reset.counters, rate := 0 } = p l) →
      p z.link = p { Link.reset with forward := x.journal.acked } := fun p hp => hport.field p hp
  have hsite : z.site = x.site := congrArg (fun t : Tariff => t.site.entries) htariff
  have hz : z.tariff = s.tariff.restart.verify := htariff.trans hxtariff
  refine ⟨rfl, rfl, ?_, hbus, hfield Link.online fun _ => rfl, hfield Link.lastPhase fun _ => rfl, hfield Link.timer fun _ => rfl,
    hfield Link.noticeMask fun _ => rfl, hfield Link.rx fun _ => rfl, hfield Link.rxBuffer fun _ => rfl,
    hfield Link.replies fun _ => rfl, hfield Link.messages fun _ => rfl, hfield Link.record fun _ => rfl,
    hfield Link.turn fun _ => rfl, hfield Link.listState fun _ => rfl, hfield Link.transitions fun _ => rfl, ?_,
    congrArg Tariff.load hz, congrArg Tariff.pinsA hz, congrArg Tariff.pinsB hz, congrArg Tariff.scheduled hz,
    congrArg Tariff.queue hz, congrArg Tariff.evaluating hz, congrArg CardUnit.lateReplies hcard, congrArg CardUnit.nextRef hcard,
    ?_, fun hheld => ?_, fun hlost => ?_, (congrArg Tariff.active hz :), fun k f hf => ?_, fun b => ?_⟩
  · exact (congrArg Time.ms htime).trans hms
  · exact (hrate.trans hxrate).trans (congrArg siteRate hsite.symm)
  · show ∀ e ∈ z.card.tears, _
    rw [hcard]
    exact cardRestart_settled _ _
  · have hyes : areaHeld env s = true := decide_eq_true hheld
    rw [hyes, if_pos rfl] at hxcard hxtime
    rw [hxcard] at hcard
    refine ⟨?_, (congrArg CardUnit.offlineTotal hcard :), ?_⟩
    · show z.card.tears.map Tear.serial = _
      rw [hcard]
      exact (List.map_map ..).trans rfl
    · exact (congrArg Time.isSet (htime.trans hxtime) :)
  · have hno : areaHeld env s = false := decide_eq_false hlost
    rw [hno, if_neg (by decide)] at hxcard hxtime
    rw [hxcard] at hcard
    exact ⟨congrArg CardUnit.tears hcard, congrArg CardUnit.offlineTotal hcard, congrArg Time.isSet (htime.trans hxtime),
      congrArg Time.calendar (htime.trans hxtime)⟩
  · have hbank : z.tariff.bank k = (s.tariff.bank k).verify := by
      rw [hz]
      cases k <;> rfl
    show (f (z.tariff.bank k)).entries = _ ∧ (f (z.tariff.bank k)).count = _ ∧ (f (z.tariff.bank k)).version = _
    rw [hbank]
    exact bankTables_verify_keeps _ f hf
  · obtain ⟨box, hbay⟩ := hbays b
    obtain ⟨hlines, hhigh⟩ := hsampled b
    have hnow : z.time.ms = x.now := congrArg Time.ms htime
    show (z.bay b).card = .reset ∧ (z.bay b).authWait = none ∧ (z.bay b).reserved = false ∧ (z.bay b).payout.running = false
      ∧ (z.bay b).seq.state = .idle ∧ (z.bay b).ring = [] ∧ (z.bay b).escrow = ⟨some z.time.ms, false⟩
      ∧ (z.bay b).ctx.coins = [] ∧ (z.bay b).ctx.lastRefusal = none ∧ (z.bay b).ctx.causes.server = false
      ∧ (z.bay b).ctx.causes.terminalLost = false ∧ (z.bay b).ctx.causes.paper = false
      ∧ (z.bay b).ctx.causes.serviceDoor = env.serviceDoorOpen[b] ∧ (z.bay b).ctx.causes.boxAbsent = !env.boxPresent[b]
      ∧ (z.bay b).ctx.causes.coinLineFault = !env.coinHigh[b] ∧ (z.bay b).ctx.causes.jamAll = (z.bay b).allJammed
      ∧ (z.bay b).ctx.state = (if (z.bay b).ctx.causes.isEmpty && !siteAbsent z.site b then .idle else .outOfService)
    rw [hbay, hsite, hnow]
    have hdoor : (x.bay b).lines.serviceDoor.accepted = env.serviceDoorOpen[b] := by rw [hlines]; rfl
    have hbox : (x.bay b).lines.boxPresent.accepted = env.boxPresent[b] := by rw [hlines]; rfl
    rw [← hdoor, ← hbox, ← hhigh]
    exact ⟨rfl, rfl, rfl, rfl, rfl, rfl, rfl, rfl, rfl, rfl, rfl, rfl, rfl, rfl, rfl, rfl, rfl⟩
end
end Sys2Proof.Proofs

/-! PROOFS. What the scan makes of one block (R169, R170). -/

namespace Sys2Proof.Proofs

open Sys2Proof Sys2Proof.Machine Sys2Proof.Laws

section
variable {c b : Block} {r : Row} {q : Nat}

/-- The records that a block's units spell, and whether a torn one ends them (R170). -/
def readOut (c : Block) : List (Nat × List Byte) × Bool := blockRecords 512 c.units

theorem scan_erased (h : c.classify = .erased) : c.scan = (.erased, false) := by
  unfold Block.scan
  simp only [h]

theorem scan_active (h : c.classify = .active) : c.scan =
    (⟨if (readOut c).2 then .full else .active, c.blockSeq, c.baseSeq, (readOut c).1.head?.map (·.1), (readOut c).1.getLast?.map (·.1),
      if (readOut c).2 then none else some (c.units.length + 1), 0⟩, (readOut c).2) := by
  unfold Block.scan
  simp only [h]
  rfl

theorem scan_full (h : c.classify = .full) : c.scan =
    (⟨.full, c.blockSeq, c.baseSeq, (readOut c).1.head?.map (·.1), (readOut c).1.getLast?.map (·.1), none, 0⟩, (readOut c).2) := by
  unfold Block.scan
  simp only [h]
  rfl

theorem scan_unread (h : c.classify = .erasing ∨ c.classify = .bad) : c.scan =
    (⟨c.classify, c.blockSeq, c.baseSeq, none, none, none, 0⟩, false) := by
  unfold Block.scan
  rcases h with h | h <;> simp only [h]

/-- A block whose units the scan reads. -/
def Readable (c : Block) : Prop := c.classify = .active ∨ c.classify = .full

theorem scan_readable (h : Readable c) : c.scan.1.blockSeq = c.blockSeq ∧ c.scan.1.baseSeq = c.baseSeq
    ∧ c.scan.1.firstValid = (readOut c).1.head?.map (·.1) ∧ c.scan.1.lastValid = (readOut c).1.getLast?.map (·.1)
    ∧ c.scan.2 = (readOut c).2 := by
  rcases h with h | h
  · rw [scan_active h]
    exact ⟨rfl, rfl, rfl, rfl, rfl⟩
  · rw [scan_full h]
    exact ⟨rfl, rfl, rfl, rfl, rfl⟩

theorem scan_unreadable (h : ¬ Readable c) : c.scan.1.firstValid = none ∧ c.scan.1.lastValid = none ∧ c.scan.2 = false := by
  cases hc : c.classify with
  | erased =>
    rw [scan_erased hc]
    exact ⟨rfl, rfl, rfl⟩
  | active => exact absurd (.inl hc) h
  | full => exact absurd (.inr hc) h
  | erasing =>
    rw [scan_unread (.inl hc)]
    exact ⟨rfl, rfl, rfl⟩
  | bad =>
    rw [scan_unread (.inr hc)]
    exact ⟨rfl, rfl, rfl⟩

/-- A block that holds a torn record. -/
theorem scan_torn (c : Block) : c.scan.2 = ((c.classify = .active || c.classify = .full) && (readOut c).2) := by
  by_cases h : Readable c
  · obtain ⟨-, -, -, -, htorn⟩ := scan_readable h
    have hyes : (decide (c.classify = .active) || decide (c.classify = .full)) = true := by
      rw [← Bool.decide_or]
      exact decide_eq_true h
    rw [htorn, hyes, Bool.true_and]
  · obtain ⟨-, -, htorn⟩ := scan_unreadable h
    have hno : (decide (c.classify = .active) || decide (c.classify = .full)) = false := by
      rw [← Bool.decide_or]
      exact decide_eq_false h
    rw [htorn, hno, Bool.false_and]

theorem scan_blockSeq (h : c.scan.1.blockSeq = some q) : c.blockSeq = some q := by
  cases hc : c.classify with
  | erased =>
    rw [scan_erased hc] at h
    cases h
  | active =>
    rw [scan_active hc] at h
    exact h
  | full =>
    rw [scan_full hc] at h
    exact h
  | erasing =>
    rw [scan_unread (.inl hc)] at h
    exact h
  | bad =>
    rw [scan_unread (.inr hc)] at h
    exact h

/-! ### The FULL markers (R170) -/

theorem markTorn_units (c : Block) : c.markTorn.units = c.units := by
  unfold Block.markTorn
  split <;> rfl

theorem markTorn_seqs (c : Block) : c.markTorn.seqs = c.seqs := by
  unfold Block.markTorn
  split <;> rfl

theorem markTorn_blockSeq (c : Block) : c.markTorn.blockSeq = c.blockSeq := by
  unfold Block.blockSeq
  rw [markTorn_seqs]

theorem markTorn_baseSeq (c : Block) : c.markTorn.baseSeq = c.baseSeq := by
  unfold Block.baseSeq
  rw [markTorn_seqs]

theorem markTorn_torn (h : c.classify = .active) (htorn : (readOut c).2 = true) :
    c.markTorn = { c with marker := some .full } ∧ c.markTorn.classify = .full := by
  have hmarked : c.markTorn = { c with marker := some .full } := by
    unfold Block.markTorn
    rw [if_pos ⟨h, by rw [scan_active h]; exact htorn⟩]
  have hgood : ∃ x y, c.seqs = .good x y := by
    unfold Block.classify at h
    cases hseqs : c.seqs with
    | good x y => exact ⟨x, y, rfl⟩
    | erased =>
      rw [hseqs] at h
      cases hmark : c.marker with
      | none =>
        rw [hmark] at h
        revert h
        dsimp only
        split <;> nofun
      | some m => rw [hmark] at h; cases m <;> cases h
    | broken =>
      rw [hseqs] at h
      cases hmark : c.marker with
      | none => rw [hmark] at h; cases h
      | some m => rw [hmark] at h; cases m <;> cases h
  obtain ⟨x, y, hseqs⟩ := hgood
  refine ⟨hmarked, ?_⟩
  rw [hmarked]
  unfold Block.classify
  simp only [hseqs]

theorem markTorn_whole (h : c.classify = .active → (readOut c).2 = false) : c.markTorn = c := by
  unfold Block.markTorn
  rw [if_neg]
  rintro ⟨hactive, htorn⟩
  rw [scan_active hactive, h hactive] at htorn
  cases htorn

/-- The scan finds of a marked block what it has found of it unmarked. -/
theorem markTorn_scan (c : Block) : c.markTorn.scan = c.scan := by
  by_cases h : c.classify = .active ∧ (readOut c).2 = true
  · obtain ⟨hactive, htorn⟩ := h
    obtain ⟨hmarked, hfull⟩ := markTorn_torn hactive htorn
    have hread : readOut c.markTorn = readOut c := by
      unfold readOut
      rw [markTorn_units]
    rw [scan_full hfull, scan_active hactive, hread, htorn, markTorn_blockSeq, markTorn_baseSeq]
    rfl
  · rw [markTorn_whole fun hactive => Bool.eq_false_iff.mpr fun htorn => h ⟨hactive, htorn⟩]

theorem erased_units (h : c.classify = .erased) : c.units = [] := by
  unfold Block.classify at h
  cases hmark : c.marker with
  | some m => cases m <;> cases hseqs : c.seqs <;> rw [hmark, hseqs] at h <;> cases h
  | none =>
    cases hseqs : c.seqs with
    | good x y => rw [hmark, hseqs] at h; cases h
    | broken => rw [hmark, hseqs] at h; cases h
    | erased =>
      rw [hmark, hseqs] at h
      by_contra hne
      have herasing : (if c.units = [] then BlockState.erased else .erasing) = .erased := h
      rw [if_neg hne] at herasing
      cases herasing

/-! ### A block rebuilt -/

/-- Row r and block b are what start-up makes of block c as it was found. -/
structure BlockRebuilt (c : Block) (r : Row) (b : Block) : Prop where
  units  : b.units = c.units
  kept   : c.classify ∈ [.full, .erasing, .bad] → r.state = c.classify
  torn   : c.classify = .active → (readOut c).2 = true → b.marker = some .full ∧ r.state = .full
  whole  : c.classify = .active → (readOut c).2 = false → r.state ∈ [.active, .full]
  read   : Readable c → r.firstValid = (readOut c).1.head?.map (·.1) ∧ r.lastValid = (readOut c).1.getLast?.map (·.1)
    ∧ r.baseSeq = c.baseSeq
  erased : r.state = .erased → c.classify = .erased

theorem scan_rebuilt (c : Block) : BlockRebuilt c c.scan.1 c.markTorn where
  units := markTorn_units c
  kept := fun h => by
    simp only [List.mem_cons, List.not_mem_nil, or_false] at h
    rcases h with h | h | h
    · rw [scan_full h, h]
    · rw [scan_unread (.inl h)]
    · rw [scan_unread (.inr h)]
  torn := fun h htorn => by
    obtain ⟨hmarked, -⟩ := markTorn_torn h htorn
    rw [hmarked, scan_active h, htorn]
    exact ⟨rfl, rfl⟩
  whole := fun h hwhole => by
    rw [scan_active h, hwhole]
    exact List.mem_cons_self
  read := fun h => by
    obtain ⟨-, hbase, hfirst, hlast, -⟩ := scan_readable h
    exact ⟨hfirst, hlast, hbase⟩
  erased := fun h => by
    cases hc : c.classify with
    | erased => rfl
    | active =>
      rw [scan_active hc] at h
      revert h
      dsimp only
      split <;> nofun
    | full => rw [scan_full hc] at h; cases h
    | erasing => rw [scan_unread (.inl hc), hc] at h; cases h
    | bad => rw [scan_unread (.inr hc), hc] at h; cases h

/-- A block whose row is ACTIVE was found ACTIVE without a torn record, or ERASED. -/
theorem BlockRebuilt.of_active (h : BlockRebuilt c r b) (hr : r.state = .active) :
    c.classify = .active ∧ (readOut c).2 = false ∨ c.classify = .erased := by
  cases hc : c.classify with
  | erased => exact .inr rfl
  | active =>
    cases htorn : (readOut c).2 with
    | false => exact .inl ⟨rfl, rfl⟩
    | true =>
      obtain ⟨-, hfull⟩ := h.torn hc htorn
      rw [hr] at hfull
      cases hfull
  | full => have hkept := h.kept (by simp [hc]); rw [hr, hc] at hkept; cases hkept
  | erasing => have hkept := h.kept (by simp [hc]); rw [hr, hc] at hkept; cases hkept
  | bad => have hkept := h.kept (by simp [hc]); rw [hr, hc] at hkept; cases hkept

/-- Closing an ACTIVE block leaves it rebuilt. -/
theorem BlockRebuilt.close (h : BlockRebuilt c r b) (hr : r.state = .active) :
    BlockRebuilt c { r with state := .full, nextFree := none } { b with marker := some .full } where
  units := h.units
  kept := fun hc => by
    have hkept := h.kept hc
    rw [hr] at hkept
    rw [← hkept] at hc
    simp at hc
  torn := fun _ _ => ⟨rfl, rfl⟩
  whole := fun _ _ => by simp
  read := h.read
  erased := nofun

/-- A block found ERASED may hold any row and header while it has no units. -/
theorem BlockRebuilt.fresh (hc : c.classify = .erased) (hb : b.units = []) (hr : r.state ≠ .erased) : BlockRebuilt c r b where
  units := hb.trans (erased_units hc).symm
  kept := fun h => by rw [hc] at h; simp at h
  torn := fun h => by rw [hc] at h; cases h
  whole := fun h => by rw [hc] at h; cases h
  read := fun h => by
    rcases h with h | h
    · rw [hc] at h; cases h
    · rw [hc] at h; cases h
  erased := fun h => absurd h hr

/-- The records of a block the scan has read. -/
def recordsFound (c : Block) : List (Nat × List Byte) :=
  if c.classify = .active ∨ c.classify = .full then (readOut c).1 else []

/-- The records a block holds under its row. -/
def recordsUnder (r : Row) (b : Block) : List (Nat × List Byte) :=
  if r.state = .active ∨ r.state = .full then (readOut b).1 else []

theorem BlockRebuilt.records (h : BlockRebuilt c r b) : recordsUnder r b = recordsFound c := by
  have hread : readOut b = readOut c := by
    unfold readOut
    rw [h.units]
  unfold recordsUnder recordsFound
  rw [hread]
  cases hc : c.classify with
  | erased =>
    have hnone : (readOut c).1 = [] := by
      unfold readOut
      rw [erased_units hc]
      rfl
    rw [hnone]
    split <;> split <;> rfl
  | active =>
    have hstate : r.state = .active ∨ r.state = .full := by
      cases htorn : (readOut c).2 with
      | true =>
        obtain ⟨-, hfull⟩ := h.torn hc htorn
        exact .inr hfull
      | false =>
        have hmem := h.whole hc htorn
        simpa using hmem
    rw [if_pos hstate, if_pos (.inl rfl)]
  | full =>
    have hstate := h.kept (by simp [hc])
    rw [if_pos (.inr (hstate.trans hc)), if_pos (.inr rfl)]
  | erasing =>
    have hstate := h.kept (by simp [hc])
    rw [hstate, hc, if_neg (by decide)]
  | bad =>
    have hstate := h.kept (by simp [hc])
    rw [hstate, hc, if_neg (by decide)]
end
end Sys2Proof.Proofs

/-! PROOFS. The journal start-up rebuilds, and that the engine keeps it so (R156 to R158, R169 to R172). -/

namespace Sys2Proof.Proofs

open Sys2Proof Sys2Proof.Machine Sys2Proof.Laws

section
variable {c : Nat → Block} {hold : List Nat} {j k : Journal} {s : State} {i : Nat}

/-! ### The block table as a list -/

theorem store_eq_range (j : Journal) : j.store.toList = (List.range 32).map j.block := by
  refine List.ext_getElem (by simp) fun n hn hn' => ?_
  have hlt : n < 32 := by simpa using hn
  simp [Journal.block, hlt]

theorem rows_eq_range (j : Journal) : j.rows.toList = (List.range 32).map j.row := by
  refine List.ext_getElem (by simp) fun n hn hn' => ?_
  have hlt : n < 32 := by simpa using hn
  simp [Journal.row, hlt]

theorem records_eq_range (j : Journal) : j.records = (List.range 32).flatMap fun i => recordsUnder (j.row i) (j.block i) := by
  unfold Journal.records
  rw [rows_eq_range, store_eq_range, List.zip_map', List.flatMap_map]
  refine congrArg (fun f => List.flatMap f (List.range 32)) (funext fun n => ?_)
  unfold recordsUnder
  dsimp only
  cases (j.row n).state <;> rfl

/-- How many of the blocks found hold a torn record. -/
def tornFound (c : Nat → Block) : Nat :=
  ((List.range 32).filter fun i => ((c i).classify = .active || (c i).classify = .full) && (readOut (c i)).2).length

/-- The records of all blocks found. -/
def allFound (c : Nat → Block) : List (Nat × List Byte) := (List.range 32).flatMap fun i => recordsFound (c i)

/-! ### A journal rebuilt -/

/-- The block table of j is what start-up makes of the blocks c, and it may have activated further blocks since. -/
structure Tabled (c : Nat → Block) (j : Journal) : Prop where
  blocks : ∀ i < 32, BlockRebuilt (c i) (j.row i) (j.block i)
  seqs   : ∀ i < 32, ∀ q, (j.row i).blockSeq = some q → q < j.nextBlockSeq

theorem Tabled.records (h : Tabled c j) : j.records = allFound c := by
  rw [records_eq_range]
  exact List.flatMap_congr fun i hi => (h.blocks i (List.mem_range.mp hi)).records

theorem Tabled.closeActive (h : Tabled c j) : Tabled c j.closeActive := by
  have hnext : j.closeActive.nextBlockSeq = j.nextBlockSeq := closeActive_field Journal.nextBlockSeq (fun _ _ _ => rfl) j
  cases hlow : j.lowest .active with
  | none =>
    have hsame : j.closeActive = j := by
      unfold Journal.closeActive
      simp only [hlow]
    rw [hsame]
    exact h
  | some n =>
    obtain ⟨-, hstate, -⟩ := lowest_iff.mp hlow
    refine ⟨fun i hi => ?_, fun i hi q hq => ?_⟩
    · by_cases hin : i = n
      · subst hin
        rw [closeActive_row_self hlow, closeActive_block_self hlow]
        exact (h.blocks i hi).close hstate
      · rw [closeActive_row_ne hlow hin, closeActive_block_ne hlow hin]
        exact h.blocks i hi
    · rw [hnext]
      by_cases hin : i = n
      · subst hin
        rw [closeActive_row_self hlow] at hq
        exact h.seqs i hi q hq
      · rw [closeActive_row_ne hlow hin] at hq
        exact h.seqs i hi q hq

/-- An activated journal is tabled, has an ACTIVE block, and no other block has become ERASED. -/
theorem Tabled.activate (h : Tabled c j) (hk : j.activate = some k) : Tabled c k ∧ (∃ i < 32, (k.row i).state = .active)
    ∧ (∀ i, (j.row i).state ≠ .erased → (k.row i).state ≠ .erased)
    ∧ ∀ {α : Type} (p : Journal → α), (∀ j b r n, p { j with store := b, rows := r, nextBlockSeq := n } = p j) → p k = p j := by
  cases hlow : j.lowest .erased with
  | none =>
    rw [activate_none hlow] at hk
    cases hk
  | some n =>
    obtain ⟨hn, hstate, -⟩ := lowest_iff.mp hlow
    obtain ⟨j', hj', hrow, hblock, hothers, hnext, hfields⟩ := activate_of_lowest hlow
    obtain rfl := Option.some.inj (hj'.symm.trans hk)
    refine ⟨⟨fun i hi => ?_, fun i hi q hq => ?_⟩, ⟨n, hn, by rw [hrow]⟩, fun i hi => ?_, hfields⟩
    · by_cases hin : i = n
      · subst hin
        rw [hrow, hblock]
        exact .fresh ((h.blocks i hi).erased hstate) rfl nofun
      · obtain ⟨hr, hb⟩ := hothers i hin
        rw [hr, hb]
        exact h.blocks i hi
    · rw [hnext]
      by_cases hin : i = n
      · subst hin
        rw [hrow] at hq
        obtain rfl := Option.some.inj hq
        exact Nat.lt_succ_self _
      · obtain ⟨hr, -⟩ := hothers i hin
        rw [hr] at hq
        exact Nat.lt_succ_of_lt (h.seqs i hi q hq)
    · by_cases hin : i = n
      · subst hin
        rw [hrow]
        nofun
      · obtain ⟨hr, -⟩ := hothers i hin
        rw [hr]
        exact hi

/-- The journal that start-up leaves where it found the blocks c and the hold list. -/
structure Rebuilt (c : Nat → Block) (hold : List Nat) (j : Journal) : Prop where
  table    : Tabled c j
  erase    : j.erase = none
  ackClamp : j.ackClamp = 0
  failures : j.eraseFail = 0
  torn     : j.torn = tornFound c
  holdList : ∀ i ∈ j.holdList, i ∈ hold ∧ (j.row i).state ≠ .erased
  active   : j.full = false → ∃ i < 32, (j.row i).state = .active
  noErased : j.full = true → ∀ i < 32, (j.row i).state ≠ .erased

theorem Rebuilt.next (h : Rebuilt c hold j) (hnew : j.closeActive.activate = some k) (hfull : j.full = false) : Rebuilt c hold k := by
  obtain ⟨htable, hactive, hkept, hfields⟩ := h.table.closeActive.activate hnew
  have hfield : ∀ {α : Type} (p : Journal → α), (∀ j b r n, p { j with store := b, rows := r, nextBlockSeq := n } = p j) → p k = p j :=
    fun p hp => (hfields p hp).trans (closeActive_field p (fun j b r => hp j b r j.nextBlockSeq) j)
  refine ⟨htable, (hfield Journal.erase fun _ _ _ _ => rfl).trans h.erase, (hfield Journal.ackClamp fun _ _ _ _ => rfl).trans h.ackClamp,
    (hfield Journal.eraseFail fun _ _ _ _ => rfl).trans h.failures, (hfield Journal.torn fun _ _ _ _ => rfl).trans h.torn, ?_,
    fun _ => hactive, fun hf => ?_⟩
  · rw [hfield Journal.holdList fun _ _ _ _ => rfl]
    intro i hi
    obtain ⟨hold, hstate⟩ := h.holdList i hi
    exact ⟨hold, hkept i fun he => hstate ((closeActive_erased j i).mp he)⟩
  · rw [hfield Journal.full fun _ _ _ _ => rfl, hfull] at hf
    cases hf

theorem Rebuilt.beginWrite (h : Rebuilt c hold j) (r : Machine.Append) (time : Calendar) (isSet : Bool) :
    Rebuilt c hold (j.beginWrite r time isSet) :=
  { h with table := ⟨h.table.blocks, h.table.seqs⟩ }

theorem Rebuilt.foundFull (h : Rebuilt c hold j) (hnone : j.closeActive.activate = none) : Rebuilt c hold { j with full := true } := by
  have herased : j.lowest .erased = none := by
    cases hlow : j.lowest .erased with
    | none => rfl
    | some n =>
      obtain ⟨k, hk, -⟩ := activate_of_lowest ((closeActive_lowest_erased j).trans hlow)
      rw [hnone] at hk
      cases hk
  exact { h with table := ⟨h.table.blocks, h.table.seqs⟩, active := nofun, noErased := fun _ => lowest_none_iff.mp herased }

theorem Rebuilt.taken (h : Rebuilt c hold j) (r : Machine.Append) (time : Calendar) (isSet : Bool) :
    Rebuilt c hold (taken j r time isSet) := by
  unfold Proofs.taken
  split
  · exact h
  next hfull =>
    split
    · exact h.beginWrite r time isSet
    · cases hnew : j.closeActive.activate with
      | some k => exact (h.next hnew (Bool.eq_false_iff.mpr hfull)).beginWrite r time isSet
      | none => exact h.foundFull hnew

theorem Rebuilt.request (h : Rebuilt c hold j) (r : Machine.Append) : Rebuilt c hold (j.request r) := by
  unfold Journal.request
  repeat' split
  all_goals exact { h with table := ⟨h.table.blocks, h.table.seqs⟩ }

theorem Rebuilt.settleErase (h : Rebuilt c hold j) (now : Ms) (low : Bool) : Rebuilt c hold (j.settleErase now low) := by
  have hsame : j.settleErase now low = j := by
    unfold Journal.settleErase
    rw [h.erase]
  rw [hsame]
  exact h

theorem Rebuilt.engineTake (h : Rebuilt c hold s.journal) : Rebuilt c hold (engineTake s).journal := by
  rcases engineTake_journal s with ⟨hsame, -⟩ | ⟨r, rest, -, -, htaken⟩
  · rw [hsame]
    exact h
  · rw [htaken]
    exact h.taken r _ _

theorem Rebuilt.append (h : Rebuilt c hold s.journal) (r : Machine.Append) : Rebuilt c hold (append r s).journal :=
  (Rebuilt.engineTake (s := s.modJournal (·.request r)) (h.request r)).settleErase _ _

theorem Rebuilt.askBox (h : Rebuilt c hold s.journal) (b : BayNo) : Rebuilt c hold (askBox b s).journal := by
  unfold Machine.askBox
  split
  · split
    · exact h
    · split
      · exact { h with table := ⟨h.table.blocks, h.table.seqs⟩ }
      · exact Rebuilt.append (s := s.modBay b _) h _
  · exact h

theorem Rebuilt.askBoxes (h : Rebuilt c hold s.journal) : Rebuilt c hold (askBoxes s).journal :=
  forBays_invariant (fun u => Rebuilt c hold u.journal) Machine.askBox (fun b _ hu => hu.askBox b) h
end
end Sys2Proof.Proofs

/-! PROOFS. What the scan takes for the last sequence and the acknowledged mark (R171, R172). -/

namespace Sys2Proof.Proofs

open Sys2Proof Sys2Proof.Machine Sys2Proof.Laws

section
variable {c : Nat → Block} {l : List (Option Nat)} {rows : List Row} {bs : List Block} {b : Block} {q a : Nat}

/-! ### The highest of a list (R171) -/

theorem le_foldl_highest (l : List (Option Nat)) (a : Nat) : a ≤ l.foldl (fun a o => max a (o.getD 0)) a := by
  induction l generalizing a with
  | nil => exact Nat.le_refl a
  | cons o l ih => exact (Nat.le_max_left a _).trans (ih _)

theorem mem_le_highest (h : some q ∈ l) : q ≤ highest l := by
  suffices hfrom : ∀ a, q ≤ l.foldl (fun a o => max a (o.getD 0)) a from hfrom 0
  induction l with
  | nil => cases h
  | cons o l ih =>
    intro a
    rcases List.mem_cons.mp h with rfl | h
    · exact (Nat.le_max_right a q).trans (le_foldl_highest l _)
    · exact ih h _

theorem foldl_highest_mem (l : List (Option Nat)) (a : Nat) : l.foldl (fun a o => max a (o.getD 0)) a = a
    ∨ some (l.foldl (fun a o => max a (o.getD 0)) a) ∈ l := by
  induction l generalizing a with
  | nil => exact .inl rfl
  | cons o l ih =>
    rw [List.foldl_cons]
    rcases ih (max a (o.getD 0)) with h | h
    · rw [h]
      cases o with
      | none => exact .inl (Nat.max_zero a)
      | some x =>
        rcases Nat.le_total x a with hle | hle
        · exact .inl (Nat.max_eq_left hle)
        · rw [show max a ((some x).getD 0) = x from Nat.max_eq_right hle]
          exact .inr List.mem_cons_self
    · exact .inr (List.mem_cons_of_mem o h)

theorem highest_mem (l : List (Option Nat)) : highest l = 0 ∨ some (highest l) ∈ l := foldl_highest_mem l 0

/-! ### The lowest valid sequence (R172) -/

/-- The lower of a sequence found so far and a row's first valid one. -/
def lower (a : Option Nat) (r : Row) : Option Nat :=
  match a, r.firstValid with
  | some x, some y => some (min x y)
  | none, y => y
  | x, none => x

theorem lowestValid_eq (rows : List Row) : lowestValid rows = rows.foldl lower none := rfl

theorem lower_none (a : Option Nat) (r : Row) (h : r.firstValid = none) : lower a r = a := by
  unfold lower
  rw [h]
  cases a <;> rfl

theorem lower_some (a : Option Nat) (r : Row) {y : Nat} (h : r.firstValid = some y) : lower a r = some ((a.map (min · y)).getD y) := by
  unfold lower
  rw [h]
  cases a <;> rfl

/-- The fold from a gives the least of a and the first valid sequences, where there is one. -/
theorem foldl_lower (rows : List Row) (a : Option Nat) :
    (rows.foldl lower a = none → a = none ∧ ∀ r ∈ rows, r.firstValid = none)
    ∧ ∀ m, rows.foldl lower a = some m → (a = some m ∨ ∃ r ∈ rows, r.firstValid = some m)
      ∧ (∀ x, a = some x → m ≤ x) ∧ ∀ r ∈ rows, ∀ y, r.firstValid = some y → m ≤ y := by
  induction rows generalizing a with
  | nil =>
    refine ⟨fun h => ⟨h, nofun⟩, fun m h => ⟨.inl h, fun x hx => ?_, nofun⟩⟩
    obtain rfl := Option.some.inj (h.symm.trans hx)
    exact Nat.le_refl _
  | cons r rows ih =>
    rw [List.foldl_cons]
    obtain ⟨hnone, hsome⟩ := ih (lower a r)
    cases hr : r.firstValid with
    | none =>
      rw [lower_none a r hr] at hnone hsome ⊢
      refine ⟨fun h => ?_, fun m h => ?_⟩
      · obtain ⟨ha, hrows⟩ := hnone h
        exact ⟨ha, List.forall_mem_cons.mpr ⟨hr, hrows⟩⟩
      · obtain ⟨hfrom, hleft, hrows⟩ := hsome m h
        refine ⟨hfrom.imp id fun ⟨r', hmem, hr'⟩ => ⟨r', List.mem_cons_of_mem r hmem, hr'⟩, hleft, List.forall_mem_cons.mpr ⟨fun y hy => ?_, hrows⟩⟩
        rw [hr] at hy
        cases hy
    | some y =>
      rw [lower_some a r hr] at hnone hsome ⊢
      refine ⟨fun h => absurd (hnone h).1 nofun, fun m h => ?_⟩
      obtain ⟨hfrom, hleft, hrows⟩ := hsome m h
      have hle := hleft _ rfl
      refine ⟨?_, fun x hx => ?_, List.forall_mem_cons.mpr ⟨fun z hz => ?_, hrows⟩⟩
      · rcases hfrom with hm | ⟨r', hmem, hr'⟩
        · cases a with
          | none => exact .inr ⟨r, List.mem_cons_self, hr.trans hm⟩
          | some x =>
            have hm' : min x y = m := Option.some.inj hm
            rcases Nat.le_total x y with hxy | hxy
            · exact .inl (congrArg some ((Nat.min_eq_left hxy).symm.trans hm'))
            · exact .inr ⟨r, List.mem_cons_self, hr.trans (congrArg some ((Nat.min_eq_right hxy).symm.trans hm'))⟩
        · exact .inr ⟨r', List.mem_cons_of_mem r hmem, hr'⟩
      · subst hx
        exact hle.trans (Nat.min_le_left x y)
      · obtain rfl := Option.some.inj (hr.symm.trans hz)
        cases a with
        | none => exact hle
        | some x => exact hle.trans (Nat.min_le_right x y)

/-! ### The marks of the blocks found -/

theorem recordsFound_readable (h : Readable b) : recordsFound b = (readOut b).1 := if_pos h

theorem recordsFound_unreadable (h : ¬ Readable b) : recordsFound b = [] := if_neg h

theorem scan_firstValid (b : Block) : b.scan.1.firstValid = (recordsFound b).head?.map (·.1) := by
  by_cases h : Readable b
  · obtain ⟨-, -, hfirst, -, -⟩ := scan_readable h
    rw [recordsFound_readable h, hfirst]
  · obtain ⟨hfirst, -, -⟩ := scan_unreadable h
    rw [recordsFound_unreadable h, hfirst]
    rfl

theorem scan_lastValid (b : Block) : b.scan.1.lastValid = (recordsFound b).getLast?.map (·.1) := by
  by_cases h : Readable b
  · obtain ⟨-, -, -, hlast, -⟩ := scan_readable h
    rw [recordsFound_readable h, hlast]
  · obtain ⟨-, hlast, -⟩ := scan_unreadable h
    rw [recordsFound_unreadable h, hlast]
    rfl

/-- The sequences within each block rise (R156). -/
def Rising (c : Nat → Block) : Prop := ∀ i < 32, ((readOut (c i)).1.map (·.1)).Pairwise (· < ·)

theorem Rising.found (h : Rising c) {i : Nat} (hi : i < 32) : (recordsFound (c i)).Pairwise fun x y => x.1 < y.1 := by
  unfold recordsFound
  split
  · exact List.pairwise_map.mp (h i hi)
  · exact .nil

theorem mem_allFound {p : Nat × List Byte} : p ∈ allFound c ↔ ∃ i < 32, p ∈ recordsFound (c i) := by
  unfold allFound
  rw [List.mem_flatMap]
  exact exists_congr fun i => and_congr_left fun _ => List.mem_range

theorem pairwise_head_le {xs : List (Nat × List Byte)} (h : xs.Pairwise fun x y => x.1 < y.1) {p : Nat × List Byte} (hp : p ∈ xs) :
    ∃ x, xs.head?.map (·.1) = some x ∧ x ≤ p.1 := by
  cases xs with
  | nil => cases hp
  | cons y ys =>
    refine ⟨y.1, rfl, ?_⟩
    rcases List.mem_cons.mp hp with rfl | hp
    · exact Nat.le_refl _
    · exact Nat.le_of_lt (List.rel_of_pairwise_cons h hp)

theorem pairwise_le_getLast {xs : List (Nat × List Byte)} (h : xs.Pairwise fun x y => x.1 < y.1) {p : Nat × List Byte} (hp : p ∈ xs) :
    ∃ x, xs.getLast?.map (·.1) = some x ∧ p.1 ≤ x := by
  obtain ⟨ys, y, rfl⟩ := List.eq_nil_or_concat xs |>.resolve_left (List.ne_nil_of_mem hp)
  refine ⟨y.1, by simp, ?_⟩
  rcases List.mem_append.mp (List.concat_eq_append ▸ hp) with hp | hp
  · exact Nat.le_of_lt ((List.pairwise_append.mp (List.concat_eq_append ▸ h)).2.2 p hp y (by simp))
  · rw [List.mem_singleton.mp hp]

/-- The highest last valid sequence of the blocks found. -/
def topFound (c : Nat → Block) : Nat := highest ((List.range 32).map fun i => (c i).scan.1.lastValid)

theorem allFound_le_top (h : Rising c) {p : Nat × List Byte} (hp : p ∈ allFound c) : p.1 ≤ topFound c := by
  obtain ⟨i, hi, hp⟩ := mem_allFound.mp hp
  obtain ⟨x, hx, hle⟩ := pairwise_le_getLast (h.found hi) hp
  exact hle.trans (mem_le_highest (List.mem_map.mpr ⟨i, List.mem_range.mpr hi, (scan_lastValid _).trans hx⟩))

theorem topFound_mem (c : Nat → Block) : topFound c = 0 ∨ ∃ p ∈ allFound c, p.1 = topFound c := by
  rcases highest_mem ((List.range 32).map fun i => (c i).scan.1.lastValid) with h | h
  · exact .inl h
  · obtain ⟨i, hi, hlast⟩ := List.mem_map.mp h
    rw [scan_lastValid] at hlast
    obtain ⟨p, hp, hpx⟩ := Option.map_eq_some_iff.mp hlast
    exact .inr ⟨p, mem_allFound.mpr ⟨i, List.mem_range.mp hi, List.mem_of_getLast? hp⟩, hpx⟩

/-- The blocks as the scan reads them, the FULL markers programmed. -/
def marked (c : Nat → Block) : List Block := (List.range 32).map fun i => (c i).markTorn

theorem foldl_laterBlock_mem (rest : List Block) (b : Block) : rest.foldl laterBlock b = b ∨ rest.foldl laterBlock b ∈ rest := by
  induction rest generalizing b with
  | nil => exact .inl rfl
  | cons x rest ih =>
    rw [List.foldl_cons]
    rcases ih (laterBlock b x) with h | h
    · rw [h]
      unfold laterBlock
      split
      · exact .inr List.mem_cons_self
      · exact .inl rfl
    · exact .inr (List.mem_cons_of_mem x h)

theorem lastBlock_mem (h : lastBlock bs = some b) : b ∈ bs := by
  unfold lastBlock at h
  cases hfind : bs.find? fun b => b.classify = .active with
  | some x =>
    rw [hfind] at h
    obtain rfl := Option.some.inj h
    exact List.mem_of_find?_eq_some hfind
  | none =>
    rw [hfind] at h
    dsimp only at h
    cases hgood : bs.filter fun b => b.blockSeq.isSome with
    | nil =>
      rw [hgood] at h
      cases h
    | cons x rest =>
      rw [hgood] at h
      obtain rfl := Option.some.inj h
      refine List.mem_of_mem_filter (p := fun b => b.blockSeq.isSome) (hgood ▸ ?_)
      rcases foldl_laterBlock_mem rest x with hx | hx
      · rw [hx]
        exact List.mem_cons_self
      · exact List.mem_cons_of_mem x hx

/-- last, from the highest sequence found and the block whose base it may take (R171). -/
def lastFrom (top : Nat) (o : Option Block) : Nat :=
  o.elim top fun b => if b.scan.1.lastValid.isNone then max top (b.baseSeq.getD 1 - 1) else top

theorem scanLast_eq (bs : List Block) : scanLast bs = lastFrom (highest (bs.map fun b => b.scan.1.lastValid)) (lastBlock bs) := by
  unfold scanLast
  generalize highest (bs.map fun b => b.scan.1.lastValid) = top
  cases lastBlock bs with
  | none => exact Eq.refl top
  | some b => exact Eq.refl (if b.scan.1.lastValid.isNone then max top (b.baseSeq.getD 1 - 1) else top)

theorem lastFrom_empty (top : Nat) (h : b.scan.1.lastValid = none) : lastFrom top (some b) = max top (b.baseSeq.getD 1 - 1) :=
  if_pos (by rw [h]; rfl)

theorem lastFrom_cases (top : Nat) (o : Option Block) : lastFrom top o = top
    ∨ ∃ b, o = some b ∧ top ≤ lastFrom top o ∧ b.baseSeq = some (lastFrom top o + 1) := by
  cases o with
  | none => exact .inl rfl
  | some b =>
    cases hlast : b.scan.1.lastValid with
    | some x => exact .inl (if_neg (by rw [hlast]; nofun))
    | none =>
      rw [lastFrom_empty top hlast]
      cases hbase : b.baseSeq with
      | none => exact .inl (Nat.max_eq_left (Nat.zero_le top))
      | some x =>
        show max top (x - 1) = top ∨ _
        rcases Nat.lt_or_ge top (x - 1) with hlt | hle
        · refine .inr ⟨b, rfl, Nat.le_max_left top _, hbase.trans (congrArg some ?_)⟩
          show x = max top (x - 1) + 1
          omega
        · exact .inl (Nat.max_eq_left hle)

theorem scanLast_marked (c : Nat → Block) : scanLast (marked c) = lastFrom (topFound c) (lastBlock (marked c)) := by
  have htop : highest ((marked c).map fun b => b.scan.1.lastValid) = topFound c := by
    unfold marked topFound
    rw [List.map_map]
    exact congrArg (fun f => highest (List.map f (List.range 32))) (funext fun i => by simp [markTorn_scan])
  rw [scanLast_eq, htop]

/-- last is the highest sequence found, or above it one below the base of a block (R171). -/
theorem scanLast_found (c : Nat → Block) : scanLast (marked c) = topFound c
    ∨ topFound c ≤ scanLast (marked c) ∧ ∃ i < 32, (c i).baseSeq = some (scanLast (marked c) + 1) := by
  rw [scanLast_marked]
  rcases lastFrom_cases (topFound c) (lastBlock (marked c)) with h | ⟨b, hblock, hle, hbase⟩
  · exact .inl h
  · obtain ⟨i, hi, rfl⟩ := List.mem_map.mp (lastBlock_mem hblock)
    exact .inr ⟨hle, i, List.mem_range.mp hi, (markTorn_baseSeq _).symm.trans hbase⟩

/-- The first block found ACTIVE, where it is still empty, gives last its base (R171). -/
theorem scanLast_empty {i : Nat} (hi : i < 32) (hactive : (c i).classify = .active) (hfirst : ∀ k < i, (c k).classify ≠ .active)
    (hempty : readOut (c i) = ([], false)) : (c i).baseSeq.getD 1 ≤ scanLast (marked c) + 1 := by
  have hwhole : (c i).markTorn = c i := markTorn_whole fun _ => by rw [hempty]
  have hbefore : ∀ k < i, ((c k).markTorn).classify ≠ .active := fun k hk => by
    rw [markTorn_whole fun h => absurd h (hfirst k hk)]
    exact hfirst k hk
  have hfind : (marked c).find? (fun b => b.classify = .active) = some (c i) := by
    rw [List.find?_eq_some_iff_getElem]
    refine ⟨decide_eq_true hactive, i, by simpa [marked] using hi, by simp [marked, hwhole], fun k hk => ?_⟩
    simpa [marked] using hbefore k hk
  have hblock : lastBlock (marked c) = some (c i) := by
    unfold lastBlock
    rw [hfind]
  obtain ⟨-, -, -, hlast, -⟩ := scan_readable (.inl hactive)
  rw [hempty] at hlast
  rw [scanLast_marked, hblock, lastFrom_empty _ hlast]
  omega

/-- The lowest valid sequence of the rows is that of the lowest record found (R172). -/
theorem lowestValid_found (h : Rising c) : (allFound c = [] → lowestValid ((List.range 32).map fun i => (c i).scan.1) = none)
    ∧ (allFound c ≠ [] → ∃ p ∈ allFound c, lowestValid ((List.range 32).map fun i => (c i).scan.1) = some p.1
      ∧ ∀ q ∈ allFound c, p.1 ≤ q.1) := by
  obtain ⟨hnone, hsome⟩ := foldl_lower ((List.range 32).map fun i => (c i).scan.1) none
  rw [lowestValid_eq]
  cases hlow : ((List.range 32).map fun i => (c i).scan.1).foldl lower none with
  | none =>
    obtain ⟨-, hrows⟩ := hnone hlow
    refine ⟨fun _ => rfl, fun hne => absurd ?_ hne⟩
    refine List.eq_nil_iff_forall_not_mem.mpr fun p hp => ?_
    obtain ⟨i, hi, hp⟩ := mem_allFound.mp hp
    obtain ⟨x, hx, -⟩ := pairwise_head_le (h.found hi) hp
    have hrow := hrows _ (List.mem_map.mpr ⟨i, List.mem_range.mpr hi, rfl⟩)
    rw [scan_firstValid, hx] at hrow
    cases hrow
  | some m =>
    obtain ⟨hfrom, -, hrows⟩ := hsome m hlow
    rcases hfrom with hfrom | ⟨r, hr, hfirst⟩
    · cases hfrom
    obtain ⟨i, hi, rfl⟩ := List.mem_map.mp hr
    rw [scan_firstValid] at hfirst
    obtain ⟨p, hp, rfl⟩ := Option.map_eq_some_iff.mp hfirst
    have hmem : p ∈ allFound c := mem_allFound.mpr ⟨i, List.mem_range.mp hi, List.mem_of_head? hp⟩
    refine ⟨fun hnil => ?_, fun _ => ⟨p, hmem, rfl, fun q hq => ?_⟩⟩
    · rw [hnil] at hmem
      cases hmem
    · obtain ⟨k, hk, hq⟩ := mem_allFound.mp hq
      obtain ⟨x, hx, hle⟩ := pairwise_head_le (h.found hk) hq
      exact (hrows _ (List.mem_map.mpr ⟨k, List.mem_range.mpr hk, rfl⟩) x ((scan_firstValid _).trans hx)).trans hle
end
end Sys2Proof.Proofs

/-! PROOFS. What start-up makes of the journal store (R169 to R172, R175). -/

namespace Sys2Proof.Proofs

open Sys2Proof Sys2Proof.Machine Sys2Proof.Laws

section
variable {old j k : Journal} {r : Option Nat} {hold : List Nat} {n q : Nat} {s : State} {env : StartUp}

theorem getD_map {α β : Type} {f : α → β} {d : α} {e : β} (h : f d = e) (xs : Vector α 32) (i : Nat) :
    (xs.map f).toList.getD i e = f (xs.toList.getD i d) := by
  rw [Vector.toList_map, ← h, List.getD_map]

theorem markTorn_block (j : Journal) (i : Nat) : j.markTorn.block i = (j.block i).markTorn := getD_map (f := Block.markTorn) (d := .erased) (e := .erased) rfl j.store i

theorem scanned_row (j : Journal) (r : Option Nat) (i : Nat) : (scanned j r).row i = (j.block i).scan.1 :=
  getD_map (f := fun b : Block => b.scan.1) (d := .erased) (e := .erased) rfl j.store i

theorem scanned_row_found (old : Journal) (r : Option Nat) (i : Nat) : (scanned old.markTorn r).row i = (old.block i).scan.1 := by
  rw [scanned_row, markTorn_block, markTorn_scan]

theorem marked_eq (old : Journal) : old.markTorn.store.toList = marked old.block := by
  rw [store_eq_range]
  exact congrArg (fun f => List.map f (List.range 32)) (funext (markTorn_block old))

/-- The rows the scan finds, the FULL markers programmed. -/
theorem scanned_tabled (old : Journal) (r : Option Nat) : Tabled old.block (scanned old.markTorn r) where
  blocks := fun i _ => by
    rw [scanned_row_found, show (scanned old.markTorn r).block i = _ from markTorn_block old i]
    exact scan_rebuilt _
  seqs := fun i hi q hq => by
    rw [scanned_row_found] at hq
    refine Nat.lt_succ_of_le (mem_le_highest (List.mem_map.mpr ⟨(old.block i).markTorn, ?_, ?_⟩))
    · rw [marked_eq]
      exact List.mem_map.mpr ⟨i, List.mem_range.mpr hi, rfl⟩
    · rw [markTorn_blockSeq, scan_blockSeq hq]

theorem scanned_torn (old : Journal) (r : Option Nat) : (scanned old.markTorn r).torn = tornFound old.block := by
  show (old.markTorn.store.toList.filter fun b => b.scan.2).length = _
  rw [marked_eq]
  unfold marked tornFound
  rw [List.filter_map, List.length_map]
  refine congrArg (fun f => (List.filter f (List.range 32)).length) (funext fun i => ?_)
  exact (congrArg Prod.snd (markTorn_scan _)).trans (scan_torn _)

theorem withActive_rebuilt (htable : Tabled old.block j) (hfields : j.erase = none ∧ j.ackClamp = 0 ∧ j.eraseFail = 0
    ∧ j.torn = tornFound old.block ∧ j.full = false) : Rebuilt old.block j.holdList (withoutErased (withActive j)) := by
  obtain ⟨herase, hclamp, hfail, htorn, hfull⟩ := hfields
  have hholds : ∀ k : Journal, k.holdList = j.holdList → ∀ i ∈ (withoutErased k).holdList, i ∈ j.holdList ∧ (k.row i).state ≠ .erased :=
    fun k hk i hi => by
      obtain ⟨hmem, hstate⟩ := List.mem_filter.mp hi
      exact ⟨hk ▸ hmem, of_decide_eq_true hstate⟩
  cases hlow : j.lowest .active with
  | some i =>
    obtain ⟨hi, hstate, -⟩ := lowest_iff.mp hlow
    have hsame : withActive j = j := by
      unfold withActive
      simp only [hlow]
    rw [hsame]
    exact ⟨⟨htable.blocks, htable.seqs⟩, herase, hclamp, hfail, htorn, hholds j rfl, fun _ => ⟨i, hi, hstate⟩,
      fun h => absurd (hfull.symm.trans h) nofun⟩
  | none =>
    cases hnew : j.activate with
    | some k =>
      have hsame : withActive j = k := by
        unfold withActive
        simp only [hlow, hnew]
      obtain ⟨hk, hactive, -, hfield⟩ := htable.activate hnew
      have hf : k.full = false := (hfield Journal.full fun _ _ _ _ => rfl).trans hfull
      rw [hsame]
      exact ⟨⟨hk.blocks, hk.seqs⟩, (hfield Journal.erase fun _ _ _ _ => rfl).trans herase,
        (hfield Journal.ackClamp fun _ _ _ _ => rfl).trans hclamp, (hfield Journal.eraseFail fun _ _ _ _ => rfl).trans hfail,
        (hfield Journal.torn fun _ _ _ _ => rfl).trans htorn, hholds k (hfield Journal.holdList fun _ _ _ _ => rfl),
        fun _ => hactive, fun h => absurd (hf.symm.trans h) nofun⟩
    | none =>
      have hsame : withActive j = { j with full := true } := by
        unfold withActive
        simp only [hlow, hnew]
      have hno : j.lowest .erased = none := by
        cases herased : j.lowest .erased with
        | none => rfl
        | some i =>
          obtain ⟨k, hk, -⟩ := activate_of_lowest herased
          rw [hnew] at hk
          cases hk
      rw [hsame]
      exact ⟨⟨htable.blocks, htable.seqs⟩, herase, hclamp, hfail, htorn, hholds { j with full := true } rfl, nofun,
        fun _ => lowest_none_iff.mp hno⟩

theorem scanJournal_rebuilt (old : Journal) (r : Option Nat) : Rebuilt old.block old.holdList (old.markTorn.scan r) := by
  rw [scan_eq]
  exact withActive_rebuilt (scanned_tabled old r) ⟨rfl, rfl, rfl, scanned_torn old r, rfl⟩

/-- The marks after the scan are those found, whichever block it activates. -/
theorem scan_marks (j : Journal) (r : Option Nat) : (j.scan r).last = (scanned j r).last ∧ (j.scan r).acked = (scanned j r).acked := by
  have hactive : marks (withActive (scanned j r)) = marks (scanned j r) := by
    unfold withActive
    split
    · rfl
    · split
      next k hk => exact activate_marks hk
      next => rfl
  rw [scan_eq]
  exact ⟨congrArg (fun m : Nat × Nat × List Nat => m.2.1) hactive, congrArg (fun m : Nat × Nat × List Nat => m.1) hactive⟩

theorem scan_last (old : Journal) (r : Option Nat) : (old.markTorn.scan r).last = scanLast (marked old.block) :=
  (scan_marks _ r).1.trans (congrArg scanLast (marked_eq old))

theorem scan_acked_held (old : Journal) (a : Nat) : (old.markTorn.scan (some a)).acked = min a (scanLast (marked old.block)) :=
  (scan_marks _ _).2.trans (congrArg (fun l => min a (scanLast l)) (marked_eq old))

theorem scanned_acked (j : Journal) : (scanned j none).acked =
    ((lowestValid (scanned j none).rows.toList).map (· - 1)).getD (scanLast j.store.toList) := by
  unfold scanned
  dsimp only
  cases lowestValid (j.store.map fun b => b.scan.1).toList <;> rfl

/-- The acknowledged mark after a retained loss (R172). -/
theorem scan_acked_lost (h : Rising old.block) :
    (allFound old.block = [] → (old.markTorn.scan none).acked = scanLast (marked old.block))
    ∧ (allFound old.block ≠ [] → ∃ p ∈ allFound old.block, (old.markTorn.scan none).acked = p.1 - 1 ∧ ∀ q ∈ allFound old.block, p.1 ≤ q.1) := by
  have hrows : (scanned old.markTorn none).rows.toList = (List.range 32).map fun i => (old.block i).scan.1 := by
    rw [rows_eq_range]
    exact congrArg (fun f => List.map f (List.range 32)) (funext (scanned_row_found old none))
  have hacked := (scan_marks old.markTorn none).2.trans (scanned_acked old.markTorn)
  rw [hrows, marked_eq] at hacked
  obtain ⟨hnone, hsome⟩ := lowestValid_found h
  refine ⟨fun hnil => ?_, fun hne => ?_⟩
  · rw [hacked, hnone hnil]
    rfl
  · obtain ⟨p, hp, hlow, hle⟩ := hsome hne
    refine ⟨p, hp, ?_, hle⟩
    rw [hacked, hlow]
    rfl

/-- A write under way that supply lost has torn leaves the marks. -/
theorem tear_marks (j : Journal) (n : Nat) : marks (j.tear n) = marks j := by
  unfold Journal.tear
  split
  · exact modBlock_marks _ _ _
  · rfl

/-- The journal that supply lost has left, its requests dropped. -/
theorem losePower_block (j : Journal) (n : Nat) : (j.losePower n).block = (j.tear n).block := rfl

/-- Steps 4 to 7 leave the journal rebuilt, with the marks of the scan and the forward mark at the acknowledged one. -/
theorem startBays_journal {c : Nat → Block} {x : State} (h : Rebuilt c hold x.journal) (hport : Dormant x.journal.acked x.link) :
    Rebuilt c hold (startBays x).journal ∧ marks (startBays x).journal = marks x.journal
      ∧ (startBays x).link.forward = (startBays x).journal.acked := by
  generalize hq : x.journal.acked = q at hport
  have hdormant := (startBays_leads hport).2.2.2.2.1
  have hforward : (startBays x).link.forward = q := hdormant.field Link.forward fun _ => rfl
  have hjournal : (rebuildBays x).journal = x.journal := (rebuildBays_units x).2.2.1
  have hset : ∀ v : State, v.journal = x.journal → Rebuilt c hold (askBoxes v).journal ∧ marks (askBoxes v).journal = marks x.journal :=
    fun v hv => by
      rw [← hv] at h ⊢
      exact ⟨h.askBoxes, (Asks.forBays asks_askBox v).marks⟩
  have hends : Rebuilt c hold (startBays x).journal ∧ marks (startBays x).journal = marks x.journal := by
    unfold startBays
    dsimp only
    exact hset _ hjournal
  generalize startBays x = z at *
  obtain ⟨hrebuilt, hmarks⟩ := hends
  have hacked : z.journal.acked = x.journal.acked := congrArg (fun m : Nat × Nat × List Nat => m.1) hmarks
  exact ⟨hrebuilt, hmarks, hforward.trans (hq.symm.trans hacked.symm)⟩

/-- The records lie at last or below it, and last is one of theirs, or one below the base of a block (R171). -/
theorem Rebuilt.last_found {z : Journal} (h : Rebuilt old.block hold z) (hrise : Rising old.block)
    (hlast : z.last = scanLast (marked old.block)) : (∀ p ∈ z.records, p.1 ≤ z.last)
    ∧ (z.last = 0 ∨ (∃ p ∈ z.records, p.1 = z.last) ∨ ∃ i < 32, (old.block i).baseSeq = some (z.last + 1)) := by
  have htop := topFound_mem old.block
  have hle : ∀ p ∈ allFound old.block, p.1 ≤ topFound old.block := fun p => allFound_le_top hrise
  have hscan := scanLast_found old.block
  rw [h.table.records, hlast]
  generalize topFound old.block = top at *
  generalize scanLast (marked old.block) = last at *
  rcases hscan with rfl | ⟨htoo, hbase⟩
  · exact ⟨hle, htop.imp id .inl⟩
  · exact ⟨fun p hp => (hle p hp).trans htoo, .inr (.inr hbase)⟩

/-- The journal behind start-up: rebuilt from the store found, with the scan's marks. -/
theorem powerOn_journal (hcut : env.cutAfter = none) :
    Rebuilt (s.journal.tear env.tornBytes).block s.journal.holdList (powerOn env s).journal
    ∧ (powerOn env s).journal.last = scanLast (marked (s.journal.tear env.tornBytes).block)
    ∧ (powerOn env s).journal.acked =
      ((s.journal.losePower env.tornBytes).markTorn.scan (if areaHeld env s then some s.journal.acked else none)).acked
    ∧ (powerOn env s).link.forward = (powerOn env s).journal.acked := by
  have hbegun := afterWrites_begun env (areaHeld env s) s
  rw [powerOn_whole s hcut]
  generalize afterWrites (startWrites env (areaHeld env s)) env s = x at hbegun
  generalize hheld : (if areaHeld env s then some s.journal.acked else none) = r at *
  have hjournal : x.journal = (s.journal.losePower env.tornBytes).markTorn.scan r := hheld ▸ hbegun.journal
  have hport := hbegun.port
  have hhold : (s.journal.losePower env.tornBytes).holdList = s.journal.holdList :=
    congrArg (fun m : Nat × Nat × List Nat => m.2.2) (tear_marks s.journal env.tornBytes)
  have hscanned := scanJournal_rebuilt (s.journal.losePower env.tornBytes) r
  have hlast := scan_last (s.journal.losePower env.tornBytes) r
  rw [hhold, losePower_block] at hscanned
  rw [losePower_block] at hlast
  rw [← hjournal] at hscanned hlast ⊢
  obtain ⟨hrebuilt, hmarks, hforward⟩ := startBays_journal hscanned hport
  generalize startBays x = z at *
  exact ⟨hrebuilt, (congrArg (fun m : Nat × Nat × List Nat => m.2.1) hmarks).trans hlast,
    congrArg (fun m : Nat × Nat × List Nat => m.1) hmarks, hforward⟩

/-- Settles O14: what the scan finds stands in the journal, and the boxes' requests behind it may move on to further blocks. -/
theorem startUpScansJournal : Obligations.StartUpScansJournal := by
  intro env s hcut held old found hrising
  obtain ⟨hrebuilt, hlast, hacked, hforward⟩ := powerOn_journal (s := s) hcut
  refine ⟨powerOn env s, rfl, ?_⟩
  generalize powerOn env s = t at *
  have hrise : Rising (s.journal.tear env.tornBytes).block := hrising
  have hlasts := hrebuilt.last_found hrise (hlast)
  have hrecords := hrebuilt.table.records
  have hempty : ∀ i < 32, ((s.journal.tear env.tornBytes).block i).classify = .active →
      (∀ k < i, ((s.journal.tear env.tornBytes).block k).classify ≠ .active) → found i = ([], false) →
      ((s.journal.tear env.tornBytes).block i).baseSeq.getD 1 ≤ t.journal.last + 1 := fun i hi hclass hfirst hnone => by
    rw [hlast]
    exact scanLast_empty hi hclass hfirst hnone
  have hkept : held → t.journal.acked = min s.journal.acked t.journal.last := fun h => by
    have hyes : areaHeld env s = true := decide_eq_true h
    rw [hacked, hlast, hyes, if_pos rfl]
    exact scan_acked_held (s.journal.losePower env.tornBytes) s.journal.acked
  have hlost : ¬ held → (t.journal.records = [] → t.journal.acked = t.journal.last)
      ∧ (t.journal.records ≠ [] → ∃ p ∈ t.journal.records, t.journal.acked = p.1 - 1 ∧ ∀ q ∈ t.journal.records, p.1 ≤ q.1) := fun h => by
    have hno : areaHeld env s = false := decide_eq_false h
    rw [hacked, hlast, hno, if_neg Bool.false_ne_true, hrecords]
    exact scan_acked_lost (old := s.journal.losePower env.tornBytes) hrise
  obtain ⟨hrecordsLe, hlastIs⟩ := hlasts
  obtain ⟨⟨hblocks, hseqs⟩, herase, hclamp, hfail, htorn, hholds, hactive, hnoErased⟩ := hrebuilt
  refine ⟨fun i hi => ?_, hrecordsLe, hlastIs, hempty, hkept, hlost, hforward, herase, hclamp, hfail, htorn, hholds, hactive, hnoErased⟩
  obtain ⟨hunits, hkept, htornBlock, hwhole, hread, -⟩ := hblocks i hi
  refine ⟨hunits, hkept, htornBlock, hwhole, fun h => ?_, hseqs i hi⟩
  have hreadable : (old.block i).classify = .active ∨ (old.block i).classify = .full := by simpa using h
  exact hread hreadable
end
end Sys2Proof.Proofs
